-- ==== Sys2Proof/Word.lean ====
section
/-! DEFINITION. The widths and the number ranges of the Pelmar 4810: words and bytes of its ports and links, audio
samples, and the numbers that name its records (scope section 4, Table 1 of the spec). -/

namespace Sys2Proof

/-- A byte of a link stream or of a gain code. -/
abbrev Byte := BitVec 8

/-- A management port word (spec 00_scope section 6: "A management port word is 16 bits"). -/
abbrev Word := BitVec 16

/-- An audio sample, 16-bit two's complement (spec 00_scope section 6). -/
abbrev Sample := BitVec 16

/-- A position, that is a turret with its link, 0–47. -/
abbrev Pos := Fin 48

/-- A line of the Line Table, 0–191 (R1). -/
abbrev LineNo := Fin 192

/-- A channel of the Channel Table, 0–31 (R52). -/
abbrev ChanNo := Fin 32

/-- A bridge of the pool, 0–95 (R94). -/
abbrev BridgeNo := Fin 96

/-- A leg of the Leg Table, 0–783 (R91). -/
abbrev LegNo := Fin 784

/-- A trunk slot, 0–255 (R129). -/
abbrev SlotNo := Fin 256

/-- A cadence generator, 0–7 (R150). -/
abbrev GenNo := Fin 8

/-- A speaker unit of a position, 0–7 (R57). -/
abbrev UnitNo := Fin 8

/-- An appearance key of a position, 0–63 (R11). -/
abbrev Key := Fin 64

/-- The left or the right handset of a position. -/
inductive Handset where
  | left
  | right
deriving DecidableEq, Repr

/-- The deadline timers of TMU, one for each purpose of each record (R156, Table 2 of chapter 8). -/
inductive TimerId where
  | ringTimeout (l : LineNo)
  | holdRecall (l : LineNo)
  | burst (l : LineNo)
  | silence (c : ChanNo) (p : Pos)
  | grace (p : Pos)
  | qualify (sl : SlotNo)
  | faultConfirm (sl : SlotNo)
  | restore (sl : SlotNo)
deriving DecidableEq, Repr

end Sys2Proof
end

