-- ==== Sys2Proof/Syntax.lean ====
section
/-! DEFINITION. The commands of the block: one constructor of `Instr` for each row of spec/opcode_table.json.

Operands. A turret request carries its position and the field bytes of its message (R168, chapter 11 Table 7). A system
controller command carries the words the controller writes into the command buffer before its GO (R188, chapter 11
Table 5). An expiry carries the record whose timer it comes from (R158). A frame carries its bytes. -/

namespace Sys2Proof

/-- The eight words of the command buffer but for the command code: bits 8–15 of word 0 and words 1–7 (chapter 11,
section 11.2). -/
structure CmdWords where
  hi : Byte
  w1 : Word
  w2 : Word
  w3 : Word
  w4 : Word
  w5 : Word
  w6 : Word
  w7 : Word
deriving DecidableEq, Repr

/-- The commands and events of the block, one for each row of the table. -/
inductive Instr where
  -- requests of the turrets, taken by RE (R171)
  | seize (p : Pos) (fields : List Byte)
  | retrieve (p : Pos) (fields : List Byte)
  | release (p : Pos) (fields : List Byte)
  | hold (p : Pos) (fields : List Byte)
  | privacy (p : Pos) (fields : List Byte)
  | signal (p : Pos) (fields : List Byte)
  | acknowledge (p : Pos) (fields : List Byte)
  | queryLine (p : Pos) (fields : List Byte)
  | queryChannel (p : Pos) (fields : List Byte)
  | speakerLine (p : Pos) (fields : List Byte)
  | speakerChannel (p : Pos) (fields : List Byte)
  | speakerClear (p : Pos) (fields : List Byte)
  | talkOn (p : Pos) (fields : List Byte)
  | talkOff (p : Pos) (fields : List Byte)
  | unknownRequest (p : Pos) (code : Byte) (fields : List Byte)
  -- commands of the system controller, started by GO (R188)
  | createLine (w : CmdWords)
  | setLine (w : CmdWords)
  | retireLine (w : CmdWords)
  | addAppearance (w : CmdWords)
  | dropAppearance (w : CmdWords)
  | forceRelease (w : CmdWords)
  | createChannel (w : CmdWords)
  | setChannel (w : CmdWords)
  | retireChannel (w : CmdWords)
  | addMember (w : CmdWords)
  | dropMember (w : CmdWords)
  | permit (w : CmdWords)
  | unpermit (w : CmdWords)
  | forceUntalk (w : CmdWords)
  | setLeg (w : CmdWords)
  | setSlot (w : CmdWords)
  | setCadence (w : CmdWords)
  | setPosition (w : CmdWords)
  | setTiming (w : CmdWords)
  | clearMarks (w : CmdWords)
  | floorReset (w : CmdWords)
  | unknownCommand (code : Byte) (w : CmdWords)
  | cmdOverrun
  -- the later acts of FLOOR-RESET (R193) and the visits of the retire sweeps (R21, R71)
  | floorResetLines
  | floorResetChannels
  | floorResetRoutes
  | floorResetGroups
  | floorResetCompletion
  | lineSweepVisit
  | channelSweepVisit
  -- deadlines (R158, R159)
  | deadlineExpiry (t : TimerId)
  | ringTimeoutExpiry (l : LineNo)
  | holdRecallExpiry (l : LineNo)
  | burstExpiry (l : LineNo)
  | silenceExpiry (c : ChanNo) (p : Pos)
  | graceExpiry (p : Pos)
  | qualifyExpiry (sl : SlotNo)
  | faultConfirmExpiry (sl : SlotNo)
  | restoreExpiry (sl : SlotNo)
  | cadencePhaseEnd (g : GenNo)
  -- audio and frames
  | mixBlockEnd
  | activityReport (c : ChanNo)
  | sampleFrame (trunk : List (SlotNo × Sample))
  | huntFrame (p : Pos) (bytes : List Byte)
  | goodFrame (p : Pos) (bytes : List Byte)
  | badFrame (p : Pos) (bytes : List Byte)
  | downstreamFrame (p : Pos)
  -- signals and pins
  | ringDetectChange (sl : SlotNo) (high : Bool)
  | aliveChange (sl : SlotNo) (present : Bool)
  | resetInput
  -- transactions of the management port
  | recordRead (w0 w1 w2 : Word) (words : Nat) (waited : Bool)
  | linearCrossing (words : Nat)
  | eventFlagsClear (d : Word)
  | eventEnablesWrite (d : Word)
  | commandBufferWrite (i : Fin 8) (d : Word)
  | ignoredWrite (w0 w1 w2 d : Word)
deriving DecidableEq, Repr

end Sys2Proof
end

