-- ==== Sys2Proof/Decode.lean ====
section
/-! DEFINITION. The words that spell commands. This block fetches no instruction and spec/opcode_table.json gives none of
its 71 rows any bits, so no word spells a command. (The codes that the block itself reads, of requests and of the command
buffer, are chapter 11's: Machine/Operands.lean decodes them.) -/

namespace Sys2Proof

/-- The command a word spells by the table's bits: none, since no row of the table has bits. -/
def decodeTableWord (_nbits _w : Nat) : Option Instr := none

end Sys2Proof
end

