-- ==== Sys2Proof/Config.lean ====
section
/-! DEFINITION. What is fixed for the device: limits of its collections (scope section 4, Table 1), audio thresholds of
chapter 6, codes of chapter 11, and the values this model names where the spec states none at reset. -/

namespace Sys2Proof.Config

/-- Occupants per line (R8). -/
def maxOccupants : Nat := 4
/-- Monitors per line (R8). -/
def maxMonitors : Nat := 8
/-- Talk request queue of a channel (R73). -/
def maxQueue : Nat := 8
/-- Members of a GROUP channel (R68). -/
def maxMembers : Nat := 16
/-- Talker and queue entries of one position over all channels (R73). -/
def maxEntries : Nat := 4
/-- Requests in the buffer of a link (R169). -/
def maxRequests : Nat := 4
/-- Answers in the queue of a link (R173). -/
def maxAnswers : Nat := 8
/-- Longest field length the assembly of an upstream message takes (R168). -/
def maxFields : Nat := 5
/-- Bad frames in a row that lose the lock (R166). -/
def badLimit : Nat := 4
/-- Bytes of an upstream frame (chapter 11, Table 6). -/
def upstreamBytes : Nat := 10
/-- Sample frames of a mix block (R120). -/
def blockFrames : Nat := 128
/-- Sample frames of a millisecond (R158). -/
def framesPerMs : Nat := 16
/-- Sample frames of a cadence unit of 10 ms (R150). -/
def framesPerUnit : Nat := 160
/-- Level of |Fs| at which a frame has growth (R119). -/
def growthLevel : Nat := 24576
/-- Block peak below which a block is quiet (R122). -/
def quietLevel : Nat := 8192
/-- Quiet blocks that release one step of headroom (R122). -/
def releaseBlocks : Nat := 16
/-- The GO code of control word 16 (chapter 11 section 11.2). -/
def goCode : Word := 0x8000#16
/-- The identity word (R185). -/
def identity : Word := 0x4810#16
/-- Bound on the reversions of one serving chain: R144 allows at most one for each of the 192 lines. -/
def chainFuel : Nat := 200
/-- DESIGN CHOICE (log entry 1): the ring-detect input at power-on is LOW. The spec gives the input no value. -/
def ringAtReset : Bool := false
/-- DESIGN CHOICE (log entry 1): the alive input at power-on is PRESENT. The spec gives the input no value. -/
def aliveAtReset : Bool := true

end Sys2Proof.Config
end

