-- ==== Sys2Proof/Machine/Bits.lean ====
section
/-! DEFINITION. Fields of words and bytes, tables of a fixed size, and the byte order and check of link frames. -/

namespace Sys2Proof.Machine

/-- The unsigned number in `n` bits of a word, from bit `lo` upward (chapter 11: "bits a–b holds an unsigned number"). -/
def bits (w : Word) (lo n : Nat) : Nat := w.toNat / 2 ^ lo % 2 ^ n

/-- One bit of a word. -/
def bit (w : Word) (i : Nat) : Bool := w.getLsbD i

/-- A number as an index of a table of `n` records, absent when it is out of the table's range. -/
def toFin? (n x : Nat) : Option (Fin n) := if h : x < n then some ⟨x, h⟩ else none

/-- A word from fields given with the number of their lowest bit (chapter 11, section 11.1). -/
def pack (fields : List (Nat × Nat)) : Word :=
  BitVec.ofNat 16 ((fields.map fun f => f.1 * 2 ^ f.2).sum)

/-- A byte from fields given with the number of their lowest bit (chapter 11, R197). -/
def packByte (fields : List (Nat × Nat)) : Byte :=
  BitVec.ofNat 8 ((fields.map fun f => f.1 * 2 ^ f.2).sum)

/-- A number as the word a record shows. -/
def word (x : Nat) : Word := BitVec.ofNat 16 x

/-- A mark or a one-bit field as a number: the first-named value is 0 and the second 1 (R196). -/
def flag (b : Bool) : Nat := if b then 1 else 0

/-- The record number of an optional field in a word of its own: FFFFh when absent (R196). -/
def optWord {n : Nat} (o : Option (Fin n)) : Word :=
  match o with
  | none => 0xFFFF#16
  | some i => word i.val

/-- The value of an optional field packed into `width` bits: all ones when absent (R196). -/
def optBits {n : Nat} (width : Nat) (o : Option (Fin n)) : Nat :=
  match o with
  | none => 2 ^ width - 1
  | some i => i.val

/-- A list of words brought to `n` entries, the unused ones read as absent (R196). DEDUCED (log entry 15, unsafe). -/
def padWords (n : Nat) (ws : List Word) : List Word := (ws ++ List.replicate n 0xFFFF#16).take n

/-- A list of bytes brought to `n` entries, the unused ones FFh (R197). -/
def padBytes (n : Nat) (bs : List Byte) : List Byte := (bs ++ List.replicate n 0xFF#8).take n

/-- A value brought into a range: the nearer end when it lies outside. -/
def clamp (lo hi x : Nat) : Nat := if x < lo then lo else if hi < x then hi else x

/-- Every record of a table changed by one function. -/
def tabMap {α β : Type} {n : Nat} (f : α → β) (v : Vector α n) : Vector β n :=
  ⟨⟨v.toList.map f⟩, by simp⟩

/-- Every record of a table changed by a function of its number and its content. -/
def tabMapIdx {α β : Type} {n : Nat} (f : Fin n → α → β) (v : Vector α n) : Vector β n :=
  ⟨⟨(List.finRange n).zipWith f v.toList⟩, by simp⟩

/-- A number added to a set that is kept as an ascending list: the smaller ones, the number itself, the greater ones. -/
def insertAsc {n : Nat} (new : Fin n) (set : List (Fin n)) : List (Fin n) :=
  set.filter (fun old => old < new) ++ new :: set.filter (fun old => new < old)

/-- A sample's two bytes, high byte first (R196). -/
def sampleBytes (x : Sample) : List Byte := [BitVec.ofNat 8 (x.toNat / 256), BitVec.ofNat 8 (x.toNat % 256)]

/-- The sample of two bytes, high byte first (R196). -/
def sampleOf (hi lo : Byte) : Sample := BitVec.ofNat 16 (256 * hi.toNat + lo.toNat)

/-- The sum of a frame's bytes modulo 256. -/
def byteSum (bytes : List Byte) : Nat := (bytes.map BitVec.toNat).sum % 256

/-- The check byte that closes a frame: the ones' complement of the 8-bit sum of the other bytes (chapter 9 section 9.2). -/
def checkByte (others : List Byte) : Byte := ~~~(BitVec.ofNat 8 (byteSum others))

/-- A good upstream frame: ten bytes that open with the upstream sync pair C3h 5Ah and have a correct check, that is sum to
FFh modulo 256 (R165). -/
def isGoodFrame (bytes : List Byte) : Bool :=
  bytes.length == Config.upstreamBytes && bytes.take 2 == [0xC3#8, 0x5A#8] && byteSum bytes == 255

/-- The request codes of chapter 11, Table 7. -/
def isRequestCode (code : Byte) : Bool := 1 ≤ code.toNat && code.toNat ≤ 0x0E

/-- The command codes of chapter 11, Table 5. -/
def isCommandCode (code : Byte) : Bool := 1 ≤ code.toNat && code.toNat ≤ 0x15

/-- Bit 0 of command-address word 0: a WRITE transaction (chapter 11 section 11.2). -/
def isWrite (w0 : Word) : Bool := bit w0 0

/-- Bit 1 of command-address word 0: CONTROL space (chapter 11 section 11.2). -/
def isControl (w0 : Word) : Bool := bit w0 1

/-- Whether a write of data word `d` to control word `offset` changes something: the event flags and enables, the command
buffer, and the GO code at offset 16 (R184, R185). -/
def controlWriteActs (offset : Nat) (d : Word) : Bool :=
  (6 ≤ offset && offset ≤ 15) || (offset == 16 && d == Config.goCode)

end Sys2Proof.Machine
end

