-- ==== Sys2Proof/Machine/State.lean ====
section
/-! DEFINITION. The state of the device, as plain data: every record of its tables, every buffer, queue, timer, counter, flag
and setting the spec gives its nine blocks, the levels of its pins, and the queue of commands that wait. A register's home
is the block that holds it in section 3.1 of the scope file. -/

namespace Sys2Proof.Machine

/-! ### Names -/

/-- The kind of a line (R2). -/
inductive LineKind where
  | auto
  | manual
  | nailed
deriving DecidableEq, Repr

/-- The states of a line (chapter 1, Table 2). -/
inductive LineState where
  | vacant
  | idle
  | alerting
  | connected
  | held
  | lockout
  | retiring
deriving DecidableEq, Repr

/-- SHARED, or PRIVATE (R40). -/
inductive Privacy where
  | shared
  | secluded
deriving DecidableEq, Repr

/-- Who may retrieve a held line (R37). -/
inductive HoldMode where
  | exclusive
  | common
deriving DecidableEq, Repr

/-- The active route of a line (R4). -/
inductive Route where
  | none
  | primary
  | alternate
deriving DecidableEq, Repr

/-- FIXED or AUTO headroom (R117, R122). -/
inductive HeadroomKind where
  | fixed
  | auto
deriving DecidableEq, Repr

/-- The headroom mode of a record with its hf; the layouts hold hf beside the mode in both modes. -/
structure Headroom where
  kind : HeadroomKind
  hf : Fin 3
deriving DecidableEq, Repr

/-- The owner of a bridge, the claimant or the primary namer of a slot: a line or a channel. -/
inductive Owner where
  | line (l : LineNo)
  | channel (c : ChanNo)
deriving DecidableEq, Repr

/-! ### Lines (LC) -/

/-- The marks of a line (R6). -/
structure Marks where
  missed : Bool
  farSignal : Bool
  noRoute : Bool
  recalled : Bool
  ringOut : Bool
deriving DecidableEq, Repr

/-- All marks clear. -/
def Marks.clear : Marks := ⟨false, false, false, false, false⟩

/-- An entry of an occupant list (R8). -/
structure Occupant where
  pos : Pos
  handset : Handset
deriving DecidableEq, Repr

/-- An entry of a monitor list (R8). -/
structure Monitor where
  pos : Pos
  unit : UnitNo
deriving DecidableEq, Repr

/-- An entry of an appearance list (R10). -/
structure Appearance where
  pos : Pos
  key : Key
  ring : Bool
deriving DecidableEq, Repr

/-- A line record (chapter 1, Table 1) with its appearance list, ascending by position. -/
structure Line where
  kind : LineKind
  state : LineState
  defaultPrivacy : Privacy
  currentPrivacy : Privacy
  holdMode : HoldMode
  cadence : GenNo
  refGen : Option GenNo
  primary : Option SlotNo
  alternate : Option SlotNo
  route : Route
  occupants : List Occupant
  monitors : List Monitor
  holdOwner : Option Pos
  marks : Marks
  bridge : Option BridgeNo
  headroom : Headroom
  ringTimeout : Nat
  holdRecall : Nat
  burst : Nat
  appearances : List Appearance
deriving DecidableEq, Repr

/-- The vacant values of a line record (R1). -/
def Line.vacant : Line where
  kind := .auto
  state := .vacant
  defaultPrivacy := .shared
  currentPrivacy := .shared
  holdMode := .exclusive
  cadence := 0
  refGen := none
  primary := none
  alternate := none
  route := .none
  occupants := []
  monitors := []
  holdOwner := none
  marks := Marks.clear
  bridge := none
  headroom := ⟨.fixed, 0⟩
  ringTimeout := 30
  holdRecall := 60
  burst := 2000
  appearances := []

/-! ### Channels (CC) -/

/-- The kind of a channel (R53). -/
inductive ChannelKind where
  | hoot
  | group
deriving DecidableEq, Repr

/-- The states of a channel (chapter 3, Table 2). -/
inductive ChannelState where
  | vacant
  | closed
  | opened
  | retiring
deriving DecidableEq, Repr

/-- An entry of a talker list or of a talk request queue (R73). -/
structure FloorEntry where
  pos : Pos
  latched : Bool
deriving DecidableEq, Repr

/-- An entry of a member list: a position with its designated unit (R53). -/
structure Member where
  pos : Pos
  unit : UnitNo
deriving DecidableEq, Repr

/-- A channel record (chapter 3, Table 1); the listen and talk sets are kept ascending. -/
structure Channel where
  kind : ChannelKind
  state : ChannelState
  listen : List Pos
  talk : List Pos
  members : List Member
  maxTalkers : Nat
  talkers : List FloorEntry
  queue : List FloorEntry
  trunk : Option SlotNo
  silence : Nat
  threshold : Nat
  headroom : Headroom
  bridge : Option BridgeNo
  noTrunk : Bool
deriving DecidableEq, Repr

/-- The vacant values of a channel record (R52). -/
def Channel.vacant : Channel where
  kind := .hoot
  state := .vacant
  listen := []
  talk := []
  members := []
  maxTalkers := 2
  talkers := []
  queue := []
  trunk := none
  silence := 20
  threshold := 512
  headroom := ⟨.auto, 0⟩
  bridge := none
  noTrunk := false

/-- The selection of a speaker unit (R57). -/
inductive Selection where
  | none
  | channel (c : ChanNo)
  | line (l : LineNo)
deriving DecidableEq, Repr

/-- An activity report on its way from ME to CC (R125): the channel and the active positions in contributor order. -/
structure ActivityReport where
  channel : ChanNo
  active : List Pos
deriving DecidableEq, Repr

/-! ### Bridges and legs (BP, ME) -/

/-- FREE or IN-USE (R94). -/
inductive BridgeState where
  | free
  | inUse
deriving DecidableEq, Repr

/-- A bridge record (chapter 5, Table 3). The last four fields are ME's and no part of the record: the block accumulators
(R119), the microphone peaks (R124), and whether ME has computed the bridge in the present block (log entry 9). -/
structure Bridge where
  state : BridgeState
  owner : Option Owner
  contributors : List LegNo
  receivers : Nat
  headroom : Headroom
  shift : Nat
  release : Nat
  growth : Bool
  limit : Bool
  blockPeak : Nat
  blockGrowth : Bool
  micPeaks : List (LegNo × Nat)
  computed : Bool
deriving DecidableEq, Repr

/-- The FREE values of a bridge record (R94). -/
def Bridge.free : Bridge where
  state := .free
  owner := none
  contributors := []
  receivers := 0
  headroom := ⟨.fixed, 0⟩
  shift := 0
  release := 0
  growth := false
  limit := false
  blockPeak := 0
  blockGrowth := false
  micPeaks := []
  computed := false

/-- A leg record (chapter 5, Table 2), and the sample ME computed for the leg in the last sample frame, which LU or TU
sends in the present one (R114). -/
structure Leg where
  gain : Option Byte
  volume : Option Byte
  attach : Option BridgeNo
  out : Sample
deriving DecidableEq, Repr

/-! ### Trunk slots (TU) -/

/-- The sense of the ring-detect input (R130). -/
inductive Polarity where
  | activeHigh
  | activeLow
deriving DecidableEq, Repr

/-- The states of a slot (chapter 7, Table 2). -/
inductive SlotState where
  | unassigned
  | standby
  | active
  | fault
deriving DecidableEq, Repr

/-- A trunk slot record (chapter 7, Table 1). `ringHigh`, `alive` and `ringOut` are the levels of its pins: ring-detect HIGH,
far-end-alive PRESENT, ring-out DRIVEN. `altLines` is the set of lines counted in the alternate namers, ascending. -/
structure Slot where
  polarity : Polarity
  qualify : Nat
  ringHigh : Bool
  alive : Bool
  ringOut : Bool
  state : SlotState
  claimant : Option Owner
  primaryNamer : Option Owner
  altLines : List LineNo
deriving DecidableEq, Repr

/-- A slot after the reset input (R129), with its two inputs at their power-on levels (log entry 1). -/
def Slot.initial : Slot where
  polarity := .activeHigh
  qualify := 50
  ringHigh := Config.ringAtReset
  alive := Config.aliveAtReset
  ringOut := false
  state := .unassigned
  claimant := none
  primaryNamer := none
  altLines := []

/-! ### Generators and timers (TMU) -/

/-- The phases of a cadence generator (R150). -/
inductive GenState where
  | idle
  | on
  | off
deriving DecidableEq, Repr

/-- A cadence generator (chapter 8, Table 1). `phaseFrames` counts the sample frames left in the phase; the remaining time in
10 ms units is read from it (R150, R154). -/
structure Generator where
  onSetting : Nat
  offSetting : Nat
  onForce : Nat
  offForce : Nat
  state : GenState
  phaseFrames : Nat
  refs : Nat
deriving DecidableEq, Repr

/-- A generator after the reset input (R150). -/
def Generator.initial : Generator := ⟨100, 300, 100, 300, .idle, 0, 0⟩

/-- A deadline timer (R156): running or stopped, the duration of its run in ms, the sample frames still to count, and its
run identity. DESIGN CHOICE: identities without a bound (log entry 10, unsafe). -/
structure Timer where
  running : Bool
  duration : Nat
  framesLeft : Nat
  run : Nat
deriving DecidableEq, Repr

/-- A stopped timer that holds no run (R156). -/
def Timer.stopped : Timer := ⟨false, 0, 0, 0⟩

/-- The deadline timers of TMU (chapter 8, Table 2). -/
structure Timers where
  ringTimeout : Vector Timer 192
  holdRecall : Vector Timer 192
  burst : Vector Timer 192
  silence : Vector (Vector Timer 48) 32
  grace : Vector Timer 48
  qualify : Vector Timer 256
  faultConfirm : Vector Timer 256
  restore : Vector Timer 256
deriving DecidableEq, Repr

/-- Every timer stopped. -/
def Timers.stopped : Timers where
  ringTimeout := Vector.replicate 192 Timer.stopped
  holdRecall := Vector.replicate 192 Timer.stopped
  burst := Vector.replicate 192 Timer.stopped
  silence := Vector.replicate 32 (Vector.replicate 48 Timer.stopped)
  grace := Vector.replicate 48 Timer.stopped
  qualify := Vector.replicate 256 Timer.stopped
  faultConfirm := Vector.replicate 256 Timer.stopped
  restore := Vector.replicate 256 Timer.stopped

/-- An expiry event that TMU has delivered and the owner has not yet taken (R158): the timer, which names record, purpose and
position, and the identity of the run that ended. -/
structure Expiry where
  timer : TimerId
  run : Nat
deriving DecidableEq, Repr

/-! ### Links (LU, RE) -/

/-- The states of a link (R164). -/
inductive LinkState where
  | disabled
  | hunt
  | locked
deriving DecidableEq, Repr

/-- What a SEIZE or RETRIEVE does with the handset's current line (R30). -/
inductive SwitchAction where
  | release
  | hold
deriving DecidableEq, Repr

/-- The assembly of an upstream message (R168). -/
inductive Assembly where
  | between
  | awaitLength (code : Byte)
  | awaitFields (code : Byte) (length : Nat) (got : List Byte)
deriving DecidableEq, Repr

/-- A complete upstream message (R168). -/
structure Request where
  code : Byte
  fields : List Byte
deriving DecidableEq, Repr

/-- The reasons of a refusal (R173, chapter 9 Table 3). -/
inductive Reason where
  | vacant
  | notAppearing
  | outOfService
  | noBridge
  | secluded
  | full
  | notSole
  | notHolder
  | notOccupant
  | notOwner
  | noPermission
  | unitFixed
  | floorFull
  | micBusy
  | badRequest
  | resetting
deriving DecidableEq, Repr

/-- The result of a request (R173). -/
inductive AnswerResult where
  | accepted
  | queued
  | refused (r : Reason)
deriving DecidableEq, Repr

/-- An answer: the code of the request and its result (R173). -/
structure Answer where
  code : Byte
  result : AnswerResult
deriving DecidableEq, Repr

/-- The subject of an indication (R175). -/
inductive Subject where
  | key (k : Key)
  | channel (c : ChanNo)
deriving DecidableEq, Repr

/-- The kinds of indication (R175). -/
inductive IndKind where
  | lineState
  | holdRecall
  | channelState
  | talkGranted
  | floorLost
deriving DecidableEq, Repr

/-- The visible fields of a line (R7). -/
structure LineView where
  state : LineState
  kind : LineKind
  privacy : Privacy
  route : Route
  occupants : List Occupant
  holdOwner : Option Pos
  marks : Marks
deriving DecidableEq, Repr

/-- The channel fields of a CHANNEL-STATE (R61). -/
structure ChannelView where
  kind : ChannelKind
  state : ChannelState
  maxTalkers : Nat
  noTrunk : Bool
  talkers : List FloorEntry
  queue : List FloorEntry
deriving DecidableEq, Repr

/-- The floor status of a position on a channel (R80). -/
inductive FloorStatus where
  | none
  | talking (latched : Bool)
  | queued (latched : Bool) (place : Nat)
deriving DecidableEq, Repr

/-- The position fields of a CHANNEL-STATE (R61): which units select the channel, the permissions, the membership with its
designated unit, and the floor status. -/
structure PositionView where
  units : List Bool
  listen : Bool
  talk : Bool
  member : Option UnitNo
  floor : FloorStatus
deriving DecidableEq, Repr

/-- The content of an indication; `vacant` is the state VACANT and no other content (R7, R61). -/
inductive Content where
  | vacant
  | line (v : LineView)
  | channel (c : ChannelView) (p : PositionView)
deriving DecidableEq, Repr

/-- An entry of an indication queue (R175). -/
structure Indication where
  subject : Subject
  kind : IndKind
  content : Content
deriving DecidableEq, Repr

/-- The link record of a position (chapter 9, Table 1) but for the grace timer, which stands in `Timers`. `transmit` holds
the bytes still to send of the message in transmission, none between messages. The last five fields are what the record
does not show: the bytes of the upstream stream that the search of a HUNT link has not settled (R165), the three raw samples
delivered in the present sample frame (R108), and the downstream frame last sent (R167). -/
structure Link where
  state : LinkState
  goodCount : Nat
  badCount : Nat
  assembly : Assembly
  badFrame : Bool
  messageLost : Bool
  overrun : Bool
  requests : List Request
  answers : List Answer
  indications : List Indication
  transmit : List Byte
  switchAction : SwitchAction
  huntBytes : List Byte
  rawLeft : Sample
  rawRight : Sample
  rawMic : Sample
  sent : List Byte
deriving DecidableEq, Repr

/-- A link after the reset input (R163, R30). -/
def Link.initial : Link where
  state := .disabled
  goodCount := 0
  badCount := 0
  assembly := .between
  badFrame := false
  messageLost := false
  overrun := false
  requests := []
  answers := []
  indications := []
  transmit := []
  switchAction := .release
  huntBytes := []
  rawLeft := 0
  rawRight := 0
  rawMic := 0
  sent := []

/-! ### Management port (MP) -/

/-- The state of the command slot (R188). -/
inductive CommandState where
  | idle
  | busy
  | done
deriving DecidableEq, Repr

/-- The results of a command (R189, Table 6). -/
inductive Result where
  | none
  | done
  | doneClamped
  | badCommand
  | badField
  | vacant
  | exists
  | inUse
  | slotClaimed
  | keyTaken
  | listFull
  | noBridge
  | notFound
deriving DecidableEq, Repr

/-- The acts of FLOOR-RESET after its start (R193). -/
inductive ResetAct where
  | lines
  | channels
  | routes
  | groups
  | completion
deriving DecidableEq, Repr

/-- The command that runs over several acts: a retire with the position its sweep visits next (R21, R71), or FLOOR-RESET with
its next act (R193). -/
inductive Job where
  | retireLine (l : LineNo) (next : Pos)
  | retireChannel (c : ChanNo) (next : Pos)
  | floorReset (next : ResetAct)
deriving DecidableEq, Repr

/-- The port's pins and the read in progress (R181–R183): WAIT at word 2, the port clocks from word 2 to the first data word
(0 where the transaction reads nothing), the data words the device has driven in the transaction, and, in a LINEAR burst
that has reached the end of a record, the table and the record it crosses into. -/
structure Port where
  wait : Bool
  latency : Nat
  data : List Word
  crossing : Option (Nat × Nat)
deriving DecidableEq, Repr

/-- The port between transactions. -/
def Port.quiet : Port := ⟨false, 0, [], none⟩

/-- The state of MP (R185–R188, R191). The flags and enables hold bit 0 LINK to bit 6 CMD-OVERRUN. -/
structure Management where
  buffer : Vector Word 8
  slot : CommandState
  result : Result
  flags : BitVec 7
  enables : BitVec 7
  faultConfirm : Nat
  restore : Nat
  grace : Nat
  job : Option Job
  port : Port
deriving DecidableEq, Repr

/-- MP after the reset input (R194). -/
def Management.initial : Management where
  buffer := Vector.replicate 8 0
  slot := .idle
  result := .none
  flags := 0
  enables := 0
  faultConfirm := 200
  restore := 5000
  grace := 2000
  job := none
  port := Port.quiet

/-! ### The whole device -/

/-- The state of the device, with the queue of commands that wait, first in first out. -/
structure State where
  lines : Vector Line 192
  directories : Vector (Vector (Option LineNo) 64) 48
  channels : Vector Channel 32
  selections : Vector (Vector Selection 8) 48
  bridges : Vector Bridge 96
  legs : Vector Leg 784
  slots : Vector Slot 256
  generators : Vector Generator 8
  timers : Timers
  inFlight : List Expiry
  reports : List ActivityReport
  links : Vector Link 48
  pointer : Pos
  frameCount : Nat
  mp : Management
  pending : List Instr
deriving DecidableEq, Repr

/-- A leg after the reset input, by its number: talk gain for all but speaker units, listen volume for all but microphones,
each 128 (R92). -/
def Leg.initial (n : Nat) : Leg where
  gain := if n < 528 ∧ 3 ≤ n % 11 then none else some 128
  volume := if n < 528 ∧ n % 11 = 2 then none else some 128
  attach := none
  out := 0

/-- The eleven legs of a position after the reset input. -/
def Leg.position : List Leg := (List.range 11).map Leg.initial

/-- The Leg Table after the reset input: 48 positions of 11 legs, and 256 trunk legs (R91). -/
def Leg.table : List Leg := (List.replicate 48 Leg.position).flatten ++ List.replicate 256 (Leg.initial 528)

/-- The device right after the reset input (R194). -/
def State.reset : State where
  lines := Vector.replicate 192 Line.vacant
  directories := Vector.replicate 48 (Vector.replicate 64 none)
  channels := Vector.replicate 32 Channel.vacant
  selections := Vector.replicate 48 (Vector.replicate 8 Selection.none)
  bridges := Vector.replicate 96 Bridge.free
  legs := ⟨⟨Leg.table⟩, by decide +kernel⟩
  slots := Vector.replicate 256 Slot.initial
  generators := Vector.replicate 8 Generator.initial
  timers := Timers.stopped
  inFlight := []
  reports := []
  links := Vector.replicate 48 Link.initial
  pointer := 0
  frameCount := 0
  mp := Management.initial
  pending := []

/-- Why the device would stop with a fault. No rule of the spec stops it: an error is reported by an answer, a result, a mark
or an event flag, each of which is a next state. No command raises a fault, so the type has no constructor (safe). -/
inductive Fault where
deriving DecidableEq, Repr

/-- Why a command has no meaning. -/
inductive Refusal where
  /-- Raised by `exec` alone, for a row of the table that has no meaning yet. Safe: the machine stops. -/
  | notModelled (mnemonic : String)
deriving DecidableEq, Repr

end Sys2Proof.Machine
end

