-- ==== Sys2Proof/Machine/Flags.lean ====
section
/-! DEFINITION. The event flags, their enables and the interrupt output (R186, R187), and the headroom floor and the other
computed flags that no record holds. -/

namespace Sys2Proof.Machine

/-- The event flags (chapter 10, Table 4). -/
inductive Event where
  | link
  | route
  | limit
  | pool
  | overrun
  | done
  | cmdOverrun
deriving DecidableEq, Repr

/-- The bit of an event flag in control words 6 and 7 (chapter 11 section 11.2). -/
def Event.mask (e : Event) : BitVec 7 :=
  match e with
  | .link => 1#7
  | .route => 2#7
  | .limit => 4#7
  | .pool => 8#7
  | .overrun => 16#7
  | .done => 32#7
  | .cmdOverrun => 64#7

/-- The posting of an event: its flag is set, and stays set where it was (R186). -/
def State.post (s : State) (e : Event) : State :=
  { s with mp := { s.mp with flags := s.mp.flags ||| e.mask } }

/-- Whether an event flag is set. -/
def State.flagged (s : State) (e : Event) : Bool := s.mp.flags &&& e.mask != 0#7

/-- The interrupt output: active while an event flag is set whose enable is set (R187). -/
def State.interrupt (s : State) : Bool := s.mp.flags &&& s.mp.enables != 0#7

/-- A write to offset 6 clears each flag whose bit is 1 (R186). -/
def State.clearFlags (s : State) (d : Word) : State :=
  { s with mp := { s.mp with flags := s.mp.flags &&& ~~~(d.setWidth 7) } }

/-- A write to offset 7 replaces all seven enables (R187). -/
def State.writeEnables (s : State) (d : Word) : State :=
  { s with mp := { s.mp with enables := d.setWidth 7 } }

/-- FLOOR-RESET is in progress from its start to its completion act (R193). -/
def State.resetting (s : State) : Bool :=
  match s.mp.job with
  | some (.floorReset _) => true
  | _ => false

/-- The route step of FLOOR-RESET has been taken and its completion has not (R148, R159). -/
def State.routesTaken (s : State) : Bool :=
  match s.mp.job with
  | some (.floorReset .groups) | some (.floorReset .completion) => true
  | _ => false

/-- The headroom floor of a contributor count (R115, Table 5). -/
def headroomFloor (c : Nat) : Nat := if c ≤ 2 then 0 else if c ≤ 4 then 1 else 2

/-- The ring-detect level of a slot is at the active level of its polarity (R130). -/
def Slot.ringActive (x : Slot) : Bool :=
  match x.polarity with
  | .activeHigh => x.ringHigh
  | .activeLow => !x.ringHigh

/-- Some record names the slot (R131). -/
def Slot.named (x : Slot) : Bool := x.primaryNamer.isSome || !x.altLines.isEmpty

/-- The slot that a line holds as its active route (R4). -/
def Line.activeSlot (x : Line) : Option SlotNo :=
  match x.route with
  | .none => none
  | .primary => x.primary
  | .alternate => x.alternate

/-- A line names a slot as primary or as alternate (R131). -/
def Line.names (x : Line) (sl : SlotNo) : Bool := x.primary == some sl || x.alternate == some sl

/-- A waiting line: LOCKOUT, or CONNECTED or HELD with the NO-ROUTE mark (R132). -/
def Line.waiting (x : Line) : Bool :=
  match x.state with
  | .lockout => true
  | .connected | .held => x.marks.noRoute
  | _ => false

/-- A position is in the occupant list (R8). -/
def Line.occupiedBy (x : Line) (p : Pos) : Bool := x.occupants.any fun o => o.pos == p

/-- The owner of a line: the first entry of its occupant list (R34). -/
def Line.owner (x : Line) : Option Pos := x.occupants.head?.map Occupant.pos

/-- The appearance of a line at a position (R10). -/
def Line.appearanceAt (x : Line) (p : Pos) : Option Appearance := x.appearances.find? fun a => a.pos == p

/-- The unit that is fixed to a channel by a membership of the position (R53). -/
def Channel.memberUnit (x : Channel) (p : Pos) : Option UnitNo :=
  (x.members.find? fun m => m.pos == p).map Member.unit

/-- The right to listen: the listen set of a HOOT channel, the member list of a GROUP channel (R53). -/
def Channel.mayListen (x : Channel) (p : Pos) : Bool :=
  match x.kind with
  | .hoot => x.listen.contains p
  | .group => (x.memberUnit p).isSome

/-- The right to talk: the talk set of a HOOT channel, the member list of a GROUP channel (R53). -/
def Channel.mayTalk (x : Channel) (p : Pos) : Bool :=
  match x.kind with
  | .hoot => x.talk.contains p
  | .group => (x.memberUnit p).isSome

/-- The position has a talker entry (R73). -/
def Channel.talking (x : Channel) (p : Pos) : Bool := x.talkers.any fun e => e.pos == p

/-- The position has a queue entry (R73). -/
def Channel.queued (x : Channel) (p : Pos) : Bool := x.queue.any fun e => e.pos == p

/-- A channel in use or ready for use: CLOSED or OPEN. -/
def Channel.live (x : Channel) : Bool :=
  match x.state with
  | .closed | .opened => true
  | .vacant | .retiring => false

end Sys2Proof.Machine
end

