-- ==== Sys2Proof/Machine/Ops.lean ====
section
/-! DEFINITION. The named operations over the records: reads and writes of one record, the deadline timers (R156–R159), the
cadence references (R151), the requests to the Bridge Pool with the headroom that follows them (R95–R101, R115–R118), and the
indications of LC and CC (R7, R61, R80, R175). -/

namespace Sys2Proof.Machine

/-! ### One record -/

/-- The record of a line. -/
def State.line (s : State) (l : LineNo) : Line := s.lines[l]

/-- A line record written. -/
def State.setLine (s : State) (l : LineNo) (x : Line) : State := { s with lines := s.lines.set l.val x l.isLt }

/-- A line record changed. -/
def State.modLine (s : State) (l : LineNo) (f : Line → Line) : State := s.setLine l (f (s.line l))

/-- The record of a channel. -/
def State.channel (s : State) (c : ChanNo) : Channel := s.channels[c]

/-- A channel record written. -/
def State.setChannel (s : State) (c : ChanNo) (x : Channel) : State :=
  { s with channels := s.channels.set c.val x c.isLt }

/-- A channel record changed. -/
def State.modChannel (s : State) (c : ChanNo) (f : Channel → Channel) : State := s.setChannel c (f (s.channel c))

/-- The record of a bridge. -/
def State.bridge (s : State) (b : BridgeNo) : Bridge := s.bridges[b]

/-- A bridge record written. -/
def State.setBridge (s : State) (b : BridgeNo) (x : Bridge) : State :=
  { s with bridges := s.bridges.set b.val x b.isLt }

/-- A bridge record changed. -/
def State.modBridge (s : State) (b : BridgeNo) (f : Bridge → Bridge) : State := s.setBridge b (f (s.bridge b))

/-- The record of a leg. -/
def State.leg (s : State) (g : LegNo) : Leg := s.legs[g]

/-- A leg record written. -/
def State.setLeg (s : State) (g : LegNo) (x : Leg) : State := { s with legs := s.legs.set g.val x g.isLt }

/-- A leg record changed. -/
def State.modLeg (s : State) (g : LegNo) (f : Leg → Leg) : State := s.setLeg g (f (s.leg g))

/-- The record of a trunk slot. -/
def State.slot (s : State) (sl : SlotNo) : Slot := s.slots[sl]

/-- A slot record written. -/
def State.setSlot (s : State) (sl : SlotNo) (x : Slot) : State := { s with slots := s.slots.set sl.val x sl.isLt }

/-- A slot record changed. -/
def State.modSlot (s : State) (sl : SlotNo) (f : Slot → Slot) : State := s.setSlot sl (f (s.slot sl))

/-- A cadence generator. -/
def State.generator (s : State) (g : GenNo) : Generator := s.generators[g]

/-- A cadence generator written. -/
def State.setGenerator (s : State) (g : GenNo) (x : Generator) : State :=
  { s with generators := s.generators.set g.val x g.isLt }

/-- The link of a position. -/
def State.link (s : State) (p : Pos) : Link := s.links[p]

/-- A link written. -/
def State.setLink (s : State) (p : Pos) (x : Link) : State := { s with links := s.links.set p.val x p.isLt }

/-- A link changed. -/
def State.modLink (s : State) (p : Pos) (f : Link → Link) : State := s.setLink p (f (s.link p))

/-- The line that a key of a position's directory names (R11). -/
def State.keyLine (s : State) (p : Pos) (k : Key) : Option LineNo := s.directories[p][k]

/-- A key of a directory written. -/
def State.setKey (s : State) (p : Pos) (k : Key) (o : Option LineNo) : State :=
  { s with directories := s.directories.set p.val ((s.directories[p]).set k.val o k.isLt) p.isLt }

/-- The selection of a speaker unit (R57). -/
def State.selection (s : State) (p : Pos) (u : UnitNo) : Selection := s.selections[p][u]

/-- A selection written. -/
def State.setSelection (s : State) (p : Pos) (u : UnitNo) (x : Selection) : State :=
  { s with selections := s.selections.set p.val ((s.selections[p]).set u.val x u.isLt) p.isLt }

/-- MP changed. -/
def State.modMp (s : State) (f : Management → Management) : State := { s with mp := f s.mp }

/-! ### Deadline timers (TMU) -/

/-- A deadline timer. -/
def State.timer (s : State) (t : TimerId) : Timer :=
  match t with
  | .ringTimeout l => s.timers.ringTimeout[l]
  | .holdRecall l => s.timers.holdRecall[l]
  | .burst l => s.timers.burst[l]
  | .silence c p => s.timers.silence[c][p]
  | .grace p => s.timers.grace[p]
  | .qualify sl => s.timers.qualify[sl]
  | .faultConfirm sl => s.timers.faultConfirm[sl]
  | .restore sl => s.timers.restore[sl]

/-- A deadline timer written. -/
def Timers.set (ts : Timers) (t : TimerId) (x : Timer) : Timers :=
  match t with
  | .ringTimeout l => { ts with ringTimeout := ts.ringTimeout.set l.val x l.isLt }
  | .holdRecall l => { ts with holdRecall := ts.holdRecall.set l.val x l.isLt }
  | .burst l => { ts with burst := ts.burst.set l.val x l.isLt }
  | .silence c p => { ts with silence := ts.silence.set c.val ((ts.silence[c]).set p.val x p.isLt) c.isLt }
  | .grace p => { ts with grace := ts.grace.set p.val x p.isLt }
  | .qualify sl => { ts with qualify := ts.qualify.set sl.val x sl.isLt }
  | .faultConfirm sl => { ts with faultConfirm := ts.faultConfirm.set sl.val x sl.isLt }
  | .restore sl => { ts with restore := ts.restore.set sl.val x sl.isLt }

/-- A deadline timer of the device written. -/
def State.setTimer (s : State) (t : TimerId) (x : Timer) : State := { s with timers := s.timers.set t x }

/-- Start or retrigger: a new run of `ms` milliseconds under a fresh identity (R157). -/
def Timer.start (t : Timer) (ms : Nat) : Timer := ⟨true, ms, Config.framesPerMs * ms, t.run + 1⟩

/-- Cancel: the run ends under a fresh identity, so that no earlier run is current. A timer that is stopped with no expiry in
flight is left as it is (R157, R159 Table 3). A stopped timer keeps the duration of its last run, and its count is 0. DESIGN CHOICE (log entry 10,
unsafe). -/
def Timer.cancel (t : Timer) (inFlight : Bool) : Timer :=
  if t.running || inFlight then ⟨false, t.duration, 0, t.run + 1⟩ else t

/-- An owner starts or retriggers one of its timers (R157). -/
def State.startTimer (s : State) (t : TimerId) (ms : Nat) : State := s.setTimer t ((s.timer t).start ms)

/-- An expiry of the timer is on its way to its owner. -/
def State.expiryInFlight (s : State) (t : TimerId) : Bool := s.inFlight.any fun e => e.timer == t

/-- An owner cancels one of its timers (R157). -/
def State.cancelTimer (s : State) (t : TimerId) : State :=
  s.setTimer t ((s.timer t).cancel (s.expiryInFlight t))

/-- Cancels of several timers. -/
def State.cancelTimers (s : State) (ts : List TimerId) : State := ts.foldl State.cancelTimer s

/-- The end of a timer's count: the timer stops and keeps its run identity, and its expiry is delivered (R158). A timer whose
count has not reached its end makes none. DEDUCED (log entry 5, unsafe for claims about time). The stopped timer keeps the duration of
its run. DESIGN CHOICE (log entry 10, unsafe). -/
def State.expire (s : State) (t : TimerId) : State :=
  if (s.timer t).running && (s.timer t).framesLeft == 0 then
    { s.setTimer t ⟨false, (s.timer t).duration, 0, (s.timer t).run⟩ with
      inFlight := s.inFlight ++ [⟨t, (s.timer t).run⟩] }
  else s

/-- The owner takes the oldest expiry of a timer that is in flight. It acts only when the run is the current one and `stands`
holds of the record (R159); otherwise the expiry is discarded. With no such expiry in flight there is nothing to take.
DEDUCED (log entry 5, unsafe for claims about time). -/
def State.takeExpiry (s : State) (t : TimerId) (stands : Bool) (act : State → State) : State :=
  match s.inFlight.find? fun e => e.timer == t with
  | none => s
  | some e =>
    if e.run == (s.timer t).run && stands then act { s with inFlight := s.inFlight.erase e }
    else { s with inFlight := s.inFlight.erase e }

/-- The remaining time a record shows: milliseconds still to count, rounded up, 0 when stopped and at most 65535 (R160). -/
def Timer.remaining (t : Timer) : Nat :=
  if t.running then min 65535 (max 1 ((t.framesLeft + 15) / 16)) else 0

/-- One sample frame of a timer's count (R158). -/
def Timer.tick (t : Timer) : Timer := if t.running then { t with framesLeft := t.framesLeft - 1 } else t

/-! ### Cadence generators (TMU) -/

/-- The start of an ON phase: the settings come into force (R152). -/
def Generator.startOn (g : Generator) : Generator :=
  { g with
    onForce := g.onSetting, offForce := g.offSetting, state := .on
    phaseFrames := Config.framesPerUnit * g.onSetting }

/-- A reference added (R151). -/
def Generator.addRef (g : Generator) : Generator :=
  if g.refs = 0 then { g.startOn with refs := 1 } else { g with refs := g.refs + 1 }

/-- A reference dropped; the last drop makes the generator IDLE at once. The values in force take the settings whenever the
generator is IDLE (R150, R151). -/
def Generator.dropRef (g : Generator) : Generator :=
  if g.refs = 0 then g
  else if g.refs = 1 then
    { g with refs := 0, state := .idle, phaseFrames := 0, onForce := g.onSetting, offForce := g.offSetting }
  else { g with refs := g.refs - 1 }

/-- The remaining time of the phase in 10 ms units: the units not yet completed, at least 1 in ON and OFF, 0 in IDLE (R154). -/
def Generator.remaining (g : Generator) : Nat :=
  match g.state with
  | .idle => 0
  | .on | .off => max 1 ((g.phaseFrames + 159) / 160)

/-- One sample frame of a generator's phase (R150). A phase whose time has run out stands at 0 until its CADENCE_PHASE_END is taken.
DEDUCED (log entry 5, unsafe for claims about time). -/
def Generator.tick (g : Generator) : Generator :=
  match g.state with
  | .idle => g
  | .on | .off => { g with phaseFrames := g.phaseFrames - 1 }

/-- LC adds a reference to a generator. -/
def State.addRef (s : State) (g : GenNo) : State := s.setGenerator g (s.generator g).addRef

/-- LC drops a reference to a generator. -/
def State.dropRef (s : State) (g : GenNo) : State := s.setGenerator g (s.generator g).dropRef

/-! ### Legs (chapter 5, Table 1) -/

/-- The leg of a handset. -/
def handsetLeg (p : Pos) (h : Handset) : LegNo :=
  match h with
  | .left => ⟨11 * p.val, by omega⟩
  | .right => ⟨11 * p.val + 1, by omega⟩

/-- The leg of a microphone. -/
def micLeg (p : Pos) : LegNo := ⟨11 * p.val + 2, by omega⟩

/-- The leg of a speaker unit. -/
def unitLeg (p : Pos) (u : UnitNo) : LegNo := ⟨11 * p.val + 3 + u.val, by omega⟩

/-- The leg of a trunk slot. -/
def trunkLeg (sl : SlotNo) : LegNo := ⟨528 + sl.val, by omega⟩

/-- What a leg is (chapter 5, Table 4). -/
inductive LegKind where
  | handset (p : Pos) (h : Handset)
  | mic (p : Pos)
  | unit (p : Pos) (u : UnitNo)
  | trunk (sl : SlotNo)
deriving DecidableEq, Repr

/-- The kind of a leg, from its number (R91). -/
def legKind (g : LegNo) : LegKind :=
  if h : g.val < 528 then
    let p : Pos := ⟨g.val / 11, by omega⟩
    if g.val % 11 = 0 then .handset p .left
    else if g.val % 11 = 1 then .handset p .right
    else if g.val % 11 = 2 then .mic p
    else .unit p ⟨g.val % 11 - 3, by omega⟩
  else .trunk ⟨g.val - 528, by omega⟩

/-- The origin of a leg: its position, or its slot (R91). -/
inductive Origin where
  | position (p : Pos)
  | slot (sl : SlotNo)
deriving DecidableEq, Repr

/-- The origin of a leg, fixed by its number (R91). -/
def legOrigin (g : LegNo) : Origin :=
  if h : g.val < 528 then .position ⟨g.val / 11, by omega⟩ else .slot ⟨g.val - 528, by omega⟩

/-! ### Headroom (ME) -/

/-- The contributor count c. -/
def Bridge.count (b : Bridge) : Nat := b.contributors.length

/-- The shift that the floor and the mode ask for at the end of an act: FIXED follows max(hf, floor), AUTO is raised to the
floor with its release counter restarted, and is never lowered here (R116, R117). -/
def Bridge.settle (b : Bridge) : Bridge :=
  match b.state with
  | .free => b
  | .inUse =>
    match b.headroom.kind with
    | .fixed => { b with shift := max b.headroom.hf.val (headroomFloor b.count) }
    | .auto =>
      if b.shift < headroomFloor b.count then { b with shift := headroomFloor b.count, release := 0 } else b

/-- ME applies the floor to every bridge at the end of an act (R97, R116, R117). DEDUCED (log entry 18, safe). -/
def State.settleBridges (s : State) : State := { s with bridges := tabMap Bridge.settle s.bridges }

/-- A headroom mode passed to ME for the bridge of a line or channel (R118); a FREE bridge has no owner to pass one. -/
def Bridge.writeMode (b : Bridge) (m : Headroom) : Bridge :=
  if b.headroom = m ∨ b.state = .free then b
  else
    match m.kind with
    | .fixed => { b with headroom := m, shift := max m.hf.val (headroomFloor b.count), release := 0 }
    | .auto => { b with headroom := m, release := 0 }

/-! ### The Bridge Pool -/

/-- The lowest-numbered FREE bridge (R99). -/
def State.lowestFree (s : State) : Option BridgeNo :=
  (List.finRange 96).find? fun b => (s.bridge b).state == .free

/-- A bridge as an allocation writes it (R99). -/
def Bridge.allocated (o : Owner) (m : Headroom) : Bridge :=
  { Bridge.free with
    state := .inUse, owner := some o, headroom := m
    shift := match m.kind with | .fixed => m.hf.val | .auto => 0 }

/-- BP allocates a bridge. -/
def State.allocate (s : State) (b : BridgeNo) (o : Owner) (m : Headroom) : State :=
  s.setBridge b (Bridge.allocated o m)

/-- A leg appended to a contributor list it does not stand in. -/
def Bridge.addContributor (b : Bridge) (g : LegNo) : Bridge :=
  if b.contributors.contains g then b else { b with contributors := b.contributors ++ [g] }

/-- A leg taken out of a contributor list, with its microphone peak (R95, R124). -/
def Bridge.dropContributor (b : Bridge) (g : LegNo) : Bridge :=
  { b with contributors := b.contributors.erase g, micPeaks := b.micPeaks.filter fun m => m.1 != g }

/-- Listen: a leg becomes a receiver of a bridge (R95). -/
def State.listen (s : State) (b : BridgeNo) (g : LegNo) : State :=
  if (s.leg g).attach = some b then s
  else
    (s.modLeg g fun x => { x with attach := some b }).modBridge b fun x => { x with receivers := x.receivers + 1 }

/-- Join: a leg becomes contributor and receiver of a bridge (R95). -/
def State.join (s : State) (b : BridgeNo) (g : LegNo) : State :=
  (s.modBridge b fun x => x.addContributor g).listen b g

/-- Speak: a microphone becomes a contributor of a bridge, with its peak at 0 (R95, R124). -/
def State.speak (s : State) (b : BridgeNo) (g : LegNo) : State :=
  s.modBridge b fun x =>
    if x.contributors.contains g then x
    else { x with contributors := x.contributors ++ [g], micPeaks := x.micPeaks ++ [(g, 0)] }

/-- Leave: a leg is taken off a bridge, as contributor and as receiver (R95). -/
def State.leave (s : State) (b : BridgeNo) (g : LegNo) : State :=
  let s1 := s.modBridge b fun x => x.dropContributor g
  if (s.leg g).attach = some b then
    (s1.modLeg g fun x => { x with attach := none }).modBridge b fun x => { x with receivers := x.receivers - 1 }
  else s1

/-- A leg off whichever bridge an owner holds. -/
def State.leaveOwn (s : State) (b : Option BridgeNo) (g : LegNo) : State :=
  match b with
  | none => s
  | some n => s.leave n g

/-- A handset or trunk leg onto the bridge an owner holds. -/
def State.joinOwn (s : State) (b : Option BridgeNo) (g : LegNo) : State :=
  match b with
  | none => s
  | some n => s.join n g

/-- The trunk leg of an optional slot onto a bridge. -/
def State.joinTrunk (s : State) (b : Option BridgeNo) (sl : Option SlotNo) : State :=
  match sl with
  | none => s
  | some n => s.joinOwn b (trunkLeg n)

/-- The trunk leg of an optional slot off a bridge. -/
def State.leaveTrunk (s : State) (b : Option BridgeNo) (sl : Option SlotNo) : State :=
  match sl with
  | none => s
  | some n => s.leaveOwn b (trunkLeg n)

/-- Freeing: every member is taken off and the FREE values are written (R101). -/
def State.freeBridge (s : State) (b : BridgeNo) : State :=
  { s.setBridge b Bridge.free with
    legs := tabMap (fun x => if x.attach = some b then { x with attach := none } else x) s.legs }

/-- The sample that a leg is sent in the present frame: the output ME computed from the inputs of the last one, and 0 with no receive
attachment (R105, R114). A leg that an act has moved to another bridge is sent the output of the frame that was computed
(log entry 8). -/
def State.sentSample (s : State) (g : LegNo) : Sample :=
  match (s.leg g).attach with
  | none => 0
  | some _ => (s.leg g).out

/-- The sample in the transmit audio of a trunk slot (R114). -/
def State.trunkSample (s : State) (sl : SlotNo) : Sample := s.sentSample (trunkLeg sl)

/-- The freeing of whichever bridge an owner holds. -/
def State.freeOwn (s : State) (b : Option BridgeNo) : State :=
  match b with
  | none => s
  | some n => s.freeBridge n

/-! ### Indications -/

/-- The visible fields of a line (R7). -/
def Line.view (x : Line) : LineView :=
  ⟨x.state, x.kind, x.currentPrivacy, x.route, x.occupants, x.holdOwner, x.marks⟩

/-- The content of a LINE-STATE: the visible fields, or VACANT alone for a line that is VACANT or RETIRING (R7). -/
def Line.content (x : Line) : Content :=
  match x.state with
  | .vacant | .retiring => .vacant
  | _ => .line x.view

/-- An indication enqueued: the entry of its subject is replaced in place, or a new entry joins the tail (R175). -/
def enqueue (q : List Indication) (i : Indication) : List Indication :=
  if q.any fun j => j.subject == i.subject then q.map fun j => if j.subject = i.subject then i else j else q ++ [i]

/-- A link's part in an enqueue: a DISABLED link keeps nothing (R175). -/
def Link.indicate (x : Link) (i : Indication) : Link :=
  match x.state with
  | .disabled => x
  | .hunt | .locked => { x with indications := enqueue x.indications i }

/-- An indication enqueued at a position (R175). -/
def State.enqueueAt (s : State) (p : Pos) (i : Indication) : State := s.modLink p fun x => x.indicate i

/-- LINE-STATE at every position of a line's appearance list, under its key there (R7). -/
def State.notifyLine (s : State) (l : LineNo) : State :=
  (s.line l).appearances.foldl (fun t a => t.enqueueAt a.pos ⟨.key a.key, .lineState, (s.line l).content⟩) s

/-- The lines whose visible fields an act has changed, ascending (R7). -/
def changedLines (before after : State) : List LineNo :=
  (List.finRange 192).filter fun l => (before.line l).view != (after.line l).view

/-- One LINE-STATE per appearing position for each line whose visible fields an act has changed (R7). -/
def notifyLines (before after : State) : State := (changedLines before after).foldl State.notifyLine after

/-- The channel fields of a CHANNEL-STATE (R61). -/
def Channel.view (x : Channel) : ChannelView :=
  ⟨x.kind, x.state, x.maxTalkers, x.noTrunk, x.talkers, x.queue⟩

/-- The place of a position in a queue, counted from 1 at the head, with its latched value. -/
def placeIn (q : List FloorEntry) (p : Pos) : Option (Bool × Nat) :=
  match q.findIdx? (fun e => e.pos == p), q.find? (fun e => e.pos == p) with
  | some i, some e => some (e.latched, i + 1)
  | _, _ => none

/-- The floor status of a position on a channel (R80). -/
def Channel.floorStatus (x : Channel) (p : Pos) : FloorStatus :=
  match x.talkers.find? fun e => e.pos == p with
  | some e => .talking e.latched
  | none =>
    match placeIn x.queue p with
    | some (latched, place) => .queued latched place
    | none => .none

/-- A unit of a position selects a channel. -/
def State.selects (s : State) (p : Pos) (u : UnitNo) (c : ChanNo) : Bool := s.selection p u == .channel c

/-- Some unit of a position selects a channel. -/
def State.anySelects (s : State) (p : Pos) (c : ChanNo) : Bool := (List.finRange 8).any fun u => s.selects p u c

/-- The position fields of a CHANNEL-STATE (R61). -/
def State.positionView (s : State) (c : ChanNo) (p : Pos) : PositionView where
  units := (List.finRange 8).map fun u => s.selects p u c
  listen := (s.channel c).mayListen p
  talk := (s.channel c).mayTalk p
  member := (s.channel c).memberUnit p
  floor := (s.channel c).floorStatus p

/-- The content of a CHANNEL-STATE for a position: VACANT alone for a channel that is VACANT or RETIRING (R61). -/
def State.channelContent (s : State) (c : ChanNo) (p : Pos) : Content :=
  if (s.channel c).live then .channel (s.channel c).view (s.positionView c p) else .vacant

/-- A position qualifies for a channel when one of its units selects it, or it has the right to talk, or is a member (R61). -/
def State.qualifies (s : State) (c : ChanNo) (p : Pos) : Bool :=
  s.anySelects p c || (s.channel c).mayTalk p || ((s.channel c).memberUnit p).isSome

/-- The kind of a channel indication: TALK-GRANTED for a position that the act took from the queue to the floor, FLOOR-LOST for
one whose entry it removed or moved to the queue other than by the position's own TALK-OFF (`own`), CHANNEL-STATE otherwise
(R80). -/
def floorKind (own : Option Pos) (p : Pos) (before after : FloorStatus) : IndKind :=
  match before, after with
  | .queued _ _, .talking _ => .talkGranted
  | .talking _, .queued _ _ | .talking _, .none | .queued _ _, .none =>
    if own = some p then .channelState else .floorLost
  | _, _ => .channelState

/-- An act tells a position of a channel that is CLOSED or OPEN before and after it when it has changed a channel field and the
position qualifies before or after, or has changed a position field of that position (R61). An act on the members (`all`) tells every
position that qualifies before or after, whatever it has changed (R68, R69). -/
def tellsChannel (all : Bool) (before after : State) (c : ChanNo) (p : Pos) : Bool :=
  (before.channel c).live && (after.channel c).live &&
    (((all || (before.channel c).view != (after.channel c).view) && (before.qualifies c p || after.qualifies c p)) ||
      before.positionView c p != after.positionView c p)

/-- The indications of one act for one channel, one per position at most (R61, R80). -/
def notifyChannel (own : Option Pos) (all : Bool) (before after : State) (s : State) (c : ChanNo) : State :=
  ((List.finRange 48).filter (tellsChannel all before after c)).foldl
    (fun t p =>
      t.enqueueAt p
        ⟨.channel c,
          floorKind own p ((before.channel c).floorStatus p) ((after.channel c).floorStatus p),
          after.channelContent c p⟩)
    s

/-- The end of an act: ME applies the headroom floor, LC tells of each line whose visible fields have changed, and CC tells of
the channels `cs` that the act may have touched.
The order, lines ascending and then the channels as `cs` lists them, is a DESIGN CHOICE (log entry 14, unsafe). -/
def finishAct (own : Option Pos) (cs : List ChanNo) (before after : State) : State :=
  cs.foldl (notifyChannel own false before after.settleBridges) (notifyLines before after.settleBridges)

/-- The end of an act that changes the members of a GROUP channel `c` and may touch the channels `cs` beside it (R68, R69). -/
def finishMembers (c : ChanNo) (cs : List ChanNo) (before after : State) : State :=
  notifyChannel none true before after.settleBridges (finishAct none cs before after) c

end Sys2Proof.Machine
end

