-- ==== Sys2Proof/Machine/Slots.lean ====
section
/-! DEFINITION. The Trunk Unit's namings, claims, serving, reversion and failover (chapter 7), with the parts LC and CC take in
them (R64, R138, R139, R143). The acts that start them stand with the commands. -/

namespace Sys2Proof.Machine

/-! ### Namings (R131) -/

/-- A naming is added by `f`; an UNASSIGNED slot becomes STANDBY and, with its alive level ABSENT, starts its fault-confirm
timer (R131, R136). -/
def State.nameSlot (s : State) (sl : SlotNo) (f : Slot → Slot) : State :=
  match (s.slot sl).state with
  | .unassigned =>
    let s1 := s.setSlot sl { f (s.slot sl) with state := .standby }
    if (s.slot sl).alive then s1 else s1.startTimer (.faultConfirm sl) s.mp.faultConfirm
  | _ => s.modSlot sl f

/-- A naming is removed by `f`; a slot that no record names any more becomes UNASSIGNED, loses its claimant, and has its
fault-confirm and restore timers cancelled (R131). -/
def State.unnameSlot (s : State) (sl : SlotNo) (f : Slot → Slot) : State :=
  let x := f (s.slot sl)
  if x.named then s.setSlot sl x
  else
    (s.setSlot sl { x with state := .unassigned, claimant := none }).cancelTimers [.faultConfirm sl, .restore sl]

/-- A record comes to name an optional slot as primary or trunk. -/
def State.namePrimary (s : State) (sl : Option SlotNo) (o : Owner) : State :=
  match sl with
  | none => s
  | some n => s.nameSlot n fun x => { x with primaryNamer := some o }

/-- A line comes to name an optional slot as alternate. -/
def State.nameAlternate (s : State) (sl : Option SlotNo) (l : LineNo) : State :=
  match sl with
  | none => s
  | some n => s.nameSlot n fun x => { x with altLines := insertAsc l x.altLines }

/-- A record ceases to name an optional slot as primary or trunk. -/
def State.unnamePrimary (s : State) (sl : Option SlotNo) : State :=
  match sl with
  | none => s
  | some n => s.unnameSlot n fun x => { x with primaryNamer := none }

/-- A line ceases to name an optional slot as alternate. -/
def State.unnameAlternate (s : State) (sl : Option SlotNo) (l : LineNo) : State :=
  match sl with
  | none => s
  | some n => s.unnameSlot n fun x => { x with altLines := x.altLines.filter fun m => m != l }

/-! ### Claims (R132) -/

/-- An optional slot is STANDBY. -/
def State.isStandby (s : State) (sl : Option SlotNo) : Bool :=
  match sl with
  | none => false
  | some n => (s.slot n).state == .standby

/-- The slot becomes ACTIVE for a record (R132). -/
def State.takeSlot (s : State) (sl : SlotNo) (o : Owner) : State :=
  s.modSlot sl fun x => { x with state := .active, claimant := some o }

/-- A claimant gives its slot up: the slot becomes STANDBY without a claimant (R132). -/
def State.dropSlot (s : State) (sl : Option SlotNo) : State :=
  match sl with
  | none => s
  | some n => s.modSlot n fun x => { x with state := .standby, claimant := none }

/-- The route that a slot is to a line that names it. -/
def Line.routeOf (x : Line) (sl : SlotNo) : Route := if x.primary = some sl then .primary else .alternate

/-- A line claims a slot, and LC writes its active route (R132). -/
def State.claimLine (s : State) (l : LineNo) (sl : SlotNo) : State :=
  (s.takeSlot sl (.line l)).modLine l fun x => { x with route := x.routeOf sl }

/-- A channel claims its slot: NO-TRUNK is cleared, and on an OPEN channel the trunk leg joins the bridge (R63, R64). -/
def State.claimChannel (s : State) (c : ChanNo) (sl : SlotNo) : State :=
  ((s.takeSlot sl (.channel c)).modChannel c fun x => { x with noTrunk := false }).joinOwn (s.channel c).bridge
    (trunkLeg sl)

/-- A channel claims the slot it names if that slot is STANDBY (R63). -/
def State.claimTrunk (s : State) (c : ChanNo) (sl : Option SlotNo) : State :=
  match sl with
  | none => s
  | some n => if (s.slot n).state = .standby then s.claimChannel c n else s

/-! ### Lines that gain and lose a route -/

/-- The line enters IDLE: current privacy takes the default (R5). -/
def Line.enterIdle (x : Line) : Line := { x with state := .idle, currentPrivacy := x.defaultPrivacy }

/-- The line enters LOCKOUT without a route: current privacy takes the default (R4, R5). -/
def Line.enterLockout (x : Line) : Line :=
  { x with state := .lockout, currentPrivacy := x.defaultPrivacy, route := .none }

/-- A waiting line claims a slot (R143): LOCKOUT becomes IDLE; CONNECTED and HELD clear NO-ROUTE and have the new trunk leg
join their bridge. -/
def State.regainLine (s : State) (l : LineNo) (sl : SlotNo) : State :=
  let s1 := s.claimLine l sl
  match (s.line l).state with
  | .lockout => s1.modLine l Line.enterIdle
  | _ =>
    (s1.modLine l fun x => { x with marks := { x.marks with noRoute := false } }).joinOwn (s.line l).bridge (trunkLeg sl)

/-- An alert ends: the ring-timeout timer is cancelled and the cadence reference dropped (R9). -/
def State.endAlert (s : State) (l : LineNo) : State :=
  let s1 := s.cancelTimer (.ringTimeout l)
  match (s.line l).refGen with
  | none => s1
  | some g => (s1.dropRef g).modLine l fun x => { x with refGen := none }

/-- The slot a line can fail over to: the alternate from its primary, the primary from its alternate (chapter 7 section 7.5). -/
def Line.otherSlot (x : Line) : Option SlotNo :=
  match x.route with
  | .primary => x.alternate
  | .alternate => x.primary
  | .none => none

/-- A line loses its route and can take no other slot: a CONNECTED or HELD line takes NO-ROUTE and its trunk leg leaves the
bridge (R139), an IDLE or ALERTING line enters LOCKOUT, its alert ended without MISSED (R138). -/
def State.loseRoute (s : State) (l : LineNo) (sl : SlotNo) : State :=
  match (s.line l).state with
  | .connected | .held =>
    (s.modLine l fun x => { x with route := .none, marks := { x.marks with noRoute := true } }).leaveOwn
      (s.line l).bridge (trunkLeg sl)
  | _ => (s.endAlert l).modLine l Line.enterLockout

/-- Failover: a line claims its other slot, and a line that owns a bridge has its trunk member replaced, the new leg last in
the contributor list (R104, R138, R139). -/
def State.failover (s : State) (l : LineNo) (sl n : SlotNo) : State :=
  ((s.claimLine l n).leaveOwn (s.line l).bridge (trunkLeg sl)).joinOwn (s.line l).bridge (trunkLeg n)

/-- The fault of a line's active route `sl` (R138, R139): the line takes its other slot if that is STANDBY, or loses its
route. -/
def State.lineFault (s : State) (l : LineNo) (sl : SlotNo) : State :=
  match (s.line l).otherSlot with
  | some n => if (s.slot n).state = .standby then s.failover l sl n else s.loseRoute l sl
  | none => s.loseRoute l sl

/-! ### Serving a free slot, and reversion (R141, R142, R144) -/

/-- A line that is IDLE on its alternate with its primary STANDBY (R142). -/
def State.revertible (s : State) (l : LineNo) : Bool :=
  (s.line l).state == .idle && (s.line l).route == .alternate && s.isStandby (s.line l).primary

/-- Reversion: the line gives up its alternate and claims its primary (R142). -/
def State.revert (s : State) (l : LineNo) : State :=
  let s1 := s.dropSlot (s.line l).alternate
  match (s.line l).primary with
  | none => s1
  | some n => s1.claimLine l n

/-- A channel that names a trunk slot and is not its claimant (R132). -/
def State.channelWaits (s : State) (c : ChanNo) (sl : SlotNo) : Bool :=
  (s.channel c).trunk == some sl && (s.slot sl).claimant != some (.channel c)

/-- The lowest-numbered waiting line that names a slot (R141). -/
def State.waitingLine (s : State) (sl : SlotNo) : Option LineNo :=
  (List.finRange 192).find? fun l => (s.line l).waiting && (s.line l).names sl

/-- TU serves one free slot (R141, R143): the waiting channel that names it claims it, else the lowest-numbered waiting line.
The second component is the line to check for reversion afterwards: the line that regained a route, or the primary namer of a
slot that found no candidate (R142). -/
def State.serveOne (s : State) (sl : SlotNo) : State × Option LineNo :=
  if (s.slot sl).state = .standby then
    match (s.slot sl).primaryNamer with
    | some (.channel c) => (if s.channelWaits c sl then s.claimChannel c sl else s, none)
    | some (.line namer) =>
      match s.waitingLine sl with
      | some l => (s.regainLine l sl, some l)
      | none => (s, some namer)
    | none =>
      match s.waitingLine sl with
      | some l => (s.regainLine l sl, some l)
      | none => (s, none)
  else (s, none)

/-- TU serves a free slot, and every slot that the serving frees by a reversion (R141–R144). `fuel` bounds the chain, which
R144 ends after at most one reversion per line. -/
def State.serve (fuel : Nat) (s : State) (sl : SlotNo) : State :=
  match fuel with
  | 0 => s
  | n + 1 =>
    match s.serveOne sl with
    | (s1, none) => s1
    | (s1, some l) =>
      if s1.revertible l then
        match (s1.line l).alternate with
        | none => s1.revert l
        | some a => State.serve n (s1.revert l) a
      else s1

/-- TU serves an optional slot that an act has freed. -/
def State.serveFreed (s : State) (sl : Option SlotNo) : State :=
  match sl with
  | none => s
  | some n => s.serve Config.chainFuel n

/-- TU's check of a line at rest: it reverts where R142 asks, with ROUTE posted (R147), and the alternate it gives up joins the
freed slots, which are kept ascending. -/
def State.revertAtRest (r : State × List SlotNo) (l : LineNo) : State × List SlotNo :=
  if r.1.revertible l then
    ((r.1.revert l).post .route, match (r.1.line l).alternate with | none => r.2 | some a => insertAsc a r.2)
  else r

/-- LC tells TU of the lines that an act has brought to rest: TU reverts them in their order, and then serves the slots that this has
freed in ascending slot number, each with what its serving frees (R141, R142, R147).
A line whose primary another reversion of the act has freed reverts to it before it is served. DEDUCED (log entry 19, unsafe). -/
def State.atRestAll (s : State) (ls : List LineNo) : State :=
  let r := ls.foldl State.revertAtRest (s, [])
  r.2.foldl (State.serve Config.chainFuel) r.1

/-- LC tells TU that a line is at rest (R3, R35, R43). -/
def State.atRest (s : State) (l : LineNo) : State := s.atRestAll [l]

/-! ### The drive (R146) -/

/-- A slot is driven in the frame after the act: ACTIVE for a line whose RING-OUT mark is set (R146). -/
def State.drives (s : State) (x : Slot) : Bool :=
  match x.state, x.claimant with
  | .active, some (.line l) => (s.line l).marks.ringOut
  | _, _ => false

end Sys2Proof.Machine
end

