-- ==== Sys2Proof/Machine/Lines.lean ====
section
/-! DEFINITION. The Line Controller: the acts that change a line (chapters 1 and 2), and its decision of each turret request.
A decision answers the result of the request and the state before the indications of the act, which `finishAct` adds. -/

namespace Sys2Proof.Machine

/-! ### Parts of the acts -/

/-- One monitor ends: the entry is removed, the speaker unit leaves the bridge and its selection is cleared (R48). -/
def State.dropMonitor (s : State) (l : LineNo) (m : Monitor) : State :=
  ((s.modLine l fun x => { x with monitors := x.monitors.erase m }).leaveOwn (s.line l).bridge
    (unitLeg m.pos m.unit)).setSelection m.pos m.unit .none

/-- Several monitors of a line end. -/
def State.dropMonitors (s : State) (l : LineNo) (ms : List Monitor) : State := ms.foldl (fun t m => t.dropMonitor l m) s

/-- The handset legs of several occupants leave a line's bridge. -/
def State.leaveHandsets (s : State) (b : Option BridgeNo) (os : List Occupant) : State :=
  os.foldl (fun t o => t.leaveOwn b (handsetLeg o.pos o.handset)) s

/-- The bulleted parts of a return to rest (R3), which a forced retire shares (R20). -/
def State.takeDown (s : State) (l : LineNo) : State :=
  let x := s.line l
  let s1 := (s.leaveHandsets x.bridge x.occupants).dropMonitors l x.monitors
  let s2 := (s1.cancelTimers [.holdRecall l, .burst l]).freeOwn x.bridge
  s2.modLine l fun y =>
    { y with
      occupants := [], monitors := [], holdOwner := none, bridge := none, currentPrivacy := y.defaultPrivacy
      marks := { y.marks with recalled := false, farSignal := false, ringOut := false } }

/-- The record's part of a return to rest (R3): to LOCKOUT where NO-ROUTE was set, else to IDLE. -/
def State.rest (s : State) (l : LineNo) : State :=
  if (s.line l).marks.noRoute then
    (s.takeDown l).modLine l fun x => { x.enterLockout with marks := { x.marks with noRoute := false } }
  else (s.takeDown l).modLine l fun x => { x with state := .idle }

/-- Return to rest (R3), with TU's part (R142); a line that it leaves in LOCKOUT does not revert. -/
def State.returnToRest (s : State) (l : LineNo) : State := (s.rest l).atRest l

/-- An occupant leaves (R33): the entry goes and the handset leaves the bridge; the last entry takes the line to rest, without TU's
part in it. -/
def State.vacate (s : State) (l : LineNo) (o : Occupant) : State :=
  let s1 :=
    (s.modLine l fun x => { x with occupants := x.occupants.erase o }).leaveOwn (s.line l).bridge
      (handsetLeg o.pos o.handset)
  if (s1.line l).occupants = [] then s1.rest l else s1

/-- RELEASE of an occupant (R33), with TU's part where it was the last one (R142). -/
def State.releaseOccupant (s : State) (l : LineNo) (o : Occupant) : State :=
  let s1 := s.vacate l o
  if (s1.line l).occupants = [] then s1.atRest l else s1

/-- HOLD (R36): the handset and the monitors leave, and the line is HELD with the position as hold owner. -/
def State.holdLine (s : State) (l : LineNo) (p : Pos) : State :=
  let x := s.line l
  let s1 := (s.leaveHandsets x.bridge x.occupants).dropMonitors l x.monitors
  let s2 := s1.modLine l fun y => { y with occupants := [], holdOwner := some p, state := .held }
  if x.holdRecall = 0 then s2 else s2.startTimer (.holdRecall l) (1000 * x.holdRecall)

/-- A ring-out burst starts or restarts with the setting in the record (R26, R45). -/
def State.startBurst (s : State) (l : LineNo) : State :=
  (s.modLine l fun x => { x with marks := { x.marks with ringOut := true } }).startTimer (.burst l) (s.line l).burst

/-- The current line of a handset: the one whose occupant list holds it (R25). -/
def State.currentLine (s : State) (o : Occupant) : Option LineNo :=
  (List.finRange 192).find? fun l => (s.line l).occupants.contains o

/-- The handset switch (R30): a current line other than the one named is held under switch action HOLD where the handset is its
sole occupant, and is otherwise released. -/
def State.dealWith (s : State) (o : Occupant) (l : LineNo) : State :=
  match s.currentLine o with
  | none => s
  | some x =>
    if x = l then s
    else if (s.link o.pos).switchAction = .hold ∧ (s.line x).occupants = [o] then s.holdLine x o.pos
    else s.releaseOccupant x o

/-- The bridge of the current line is counted: the handset is its sole occupant and the switch action is RELEASE (R31). -/
def State.countsBridge (s : State) (o : Occupant) : Bool :=
  match s.currentLine o with
  | none => false
  | some x => (s.line x).occupants == [o] && (s.link o.pos).switchAction == .release

/-- A key looked up for a line request (R24, steps 1 and 2). -/
def State.lookup (s : State) (p : Pos) (k : Key) : Except Reason LineNo :=
  match s.keyLine p k with
  | none => .error .notAppearing
  | some l =>
    match (s.line l).state with
    | .vacant | .retiring => .error .vacant
    | .lockout => .error .outOfService
    | _ => .ok l

/-! ### SEIZE and RETRIEVE -/

/-- The line is connected on a fresh bridge (R26 steps 2 to 6): the trunk leg joins, then the handset, which is sole occupant. -/
def State.connect (s : State) (l : LineNo) (b : BridgeNo) (o : Occupant) : State :=
  let s1 := (s.allocate b (.line l) (s.line l).headroom).joinTrunk (some b) (s.line l).activeSlot
  (s1.join b (handsetLeg o.pos o.handset)).modLine l fun x =>
    { x with bridge := some b, occupants := [o], state := .connected, marks := { x.marks with missed := false } }

/-- SEIZE of an IDLE or ALERTING line (R26–R28, R31, R32). -/
def State.seizeAtRest (s : State) (l : LineNo) (o : Occupant) : AnswerResult × State :=
  if s.lowestFree.isSome || s.countsBridge o then
    let s1 := s.dealWith o l
    match s1.lowestFree with
    | none => (.refused .noBridge, s.post .pool)
    | some b =>
      let s2 := s1.connect l b o
      match (s.line l).state with
      | .alerting => (.accepted, s2.endAlert l)
      | _ => (.accepted, if (s.line l).kind = .auto then s2.startBurst l else s2)
  else (.refused .noBridge, s.post .pool)

/-- The handset's occupancy moves between the two handsets of a position, keeping its place (R29 step 2). -/
def State.moveHandset (s : State) (l : LineNo) (old o : Occupant) : State :=
  let b := (s.line l).bridge
  ((s.leaveOwn b (handsetLeg old.pos old.handset)).joinOwn b (handsetLeg o.pos o.handset)).modLine l fun x =>
    { x with occupants := x.occupants.map fun y => if y = old then o else y }

/-- SEIZE of a CONNECTED line (R29). -/
def State.seizeConnected (s : State) (l : LineNo) (o : Occupant) : AnswerResult × State :=
  if (s.line l).occupants.contains o then (.accepted, s)
  else
    match (s.line l).occupants.find? fun y => y.pos == o.pos with
    | some old => (.accepted, (s.dealWith o l).moveHandset l old o)
    | none =>
      if (s.line l).currentPrivacy = .secluded then (.refused .secluded, s)
      else if Config.maxOccupants ≤ (s.line l).occupants.length then (.refused .full, s)
      else
        (.accepted,
          ((s.dealWith o l).joinOwn (s.line l).bridge (handsetLeg o.pos o.handset)).modLine l fun x =>
            { x with occupants := x.occupants ++ [o] })

/-- A held line may be retrieved by its holder, under COMMON hold mode, or once RECALLED (R37). -/
def Line.retrievableBy (x : Line) (p : Pos) : Bool :=
  x.holdOwner == some p || x.holdMode == .common || x.marks.recalled

/-- RETRIEVE or SEIZE of a HELD line (R37). -/
def State.seizeHeld (s : State) (l : LineNo) (o : Occupant) : AnswerResult × State :=
  if (s.line l).retrievableBy o.pos then
    (.accepted,
      (((s.dealWith o l).cancelTimer (.holdRecall l)).joinOwn (s.line l).bridge (handsetLeg o.pos o.handset)).modLine l
        fun x =>
          { x with
            holdOwner := none, occupants := [o], state := .connected, marks := { x.marks with recalled := false } })
  else (.refused .notHolder, s)

/-- SEIZE, and RETRIEVE, which is decided by the same rules (R37). -/
def State.seizeKey (s : State) (p : Pos) (k : Key) (h : Handset) : AnswerResult × State :=
  match s.lookup p k with
  | .error r => (.refused r, s)
  | .ok l =>
    match (s.line l).state with
    | .connected => s.seizeConnected l ⟨p, h⟩
    | .held => s.seizeHeld l ⟨p, h⟩
    | _ => s.seizeAtRest l ⟨p, h⟩

/-! ### The other line requests -/

/-- RELEASE (R33). -/
def State.releaseHandset (s : State) (p : Pos) (h : Handset) : AnswerResult × State :=
  match s.currentLine ⟨p, h⟩ with
  | none => (.accepted, s)
  | some l => (.accepted, s.releaseOccupant l ⟨p, h⟩)

/-- HOLD (R36). -/
def State.holdHandset (s : State) (p : Pos) (h : Handset) : AnswerResult × State :=
  match s.currentLine ⟨p, h⟩ with
  | none => (.refused .notOccupant, s)
  | some l => if (s.line l).occupants = [⟨p, h⟩] then (.accepted, s.holdLine l p) else (.refused .notSole, s)

/-- Current privacy becomes PRIVATE and every monitor is removed (R40). -/
def State.makePrivate (s : State) (l : LineNo) : State :=
  (s.dropMonitors l (s.line l).monitors).modLine l fun x => { x with currentPrivacy := .secluded }

/-- PRIVACY (R40, R41). -/
def State.privacyKey (s : State) (p : Pos) (k : Key) (on : Bool) : AnswerResult × State :=
  match s.lookup p k with
  | .error r => (.refused r, s)
  | .ok l =>
    if !(s.line l).occupiedBy p then (.refused .notOccupant, s)
    else if (s.line l).owner ≠ some p then (.refused .notOwner, s)
    else if on then
      if 1 < (s.line l).occupants.length then (.refused .notSole, s)
      else if (s.line l).currentPrivacy = .secluded then (.accepted, s)
      else (.accepted, s.makePrivate l)
    else (.accepted, s.modLine l fun x => { x with currentPrivacy := .shared })

/-- SIGNAL (R45). The kind is checked before the occupancy, as R45 orders the checks, so a HELD NAILED line refuses BAD-REQUEST, where
the table of R39 says NOT-OCCUPANT of every HELD line. DESIGN CHOICE (log entry 20, unsafe). -/
def State.signalKey (s : State) (p : Pos) (k : Key) : AnswerResult × State :=
  match s.lookup p k with
  | .error r => (.refused r, s)
  | .ok l =>
    if (s.line l).kind = .nailed then (.refused .badRequest, s)
    else if !(s.line l).occupiedBy p then (.refused .notOccupant, s)
    else (.accepted, s.startBurst l)

/-- ACKNOWLEDGE (R44). -/
def State.acknowledgeKey (s : State) (p : Pos) (k : Key) : AnswerResult × State :=
  match s.lookup p k with
  | .error r => (.refused r, s)
  | .ok l => (.accepted, s.modLine l fun x => { x with marks := { x.marks with missed := false } })

/-- QUERY, line form (R49): one LINE-STATE at the requesting position. -/
def State.queryKey (s : State) (p : Pos) (k : Key) : AnswerResult × State :=
  match s.lookup p k with
  | .error r => (.refused r, s)
  | .ok l => (.accepted, s.enqueueAt p ⟨.key k, .lineState, (s.line l).content⟩)

/-! ### Events on lines -/

/-- A qualified ring start delivered to a line (R42). -/
def State.ringStart (s : State) (l : LineNo) : State :=
  let x := s.line l
  if x.kind = .nailed then s
  else
    match x.state with
    | .idle =>
      ((s.addRef x.cadence).modLine l fun y => { y with state := .alerting, refGen := some x.cadence }).startTimer
        (.ringTimeout l) (1000 * x.ringTimeout)
    | .alerting =>
      let s1 := s.startTimer (.ringTimeout l) (1000 * x.ringTimeout)
      match x.refGen with
      | none => s1
      | some g =>
        if g = x.cadence then s1
        else ((s1.dropRef g).addRef x.cadence).modLine l fun y => { y with refGen := some x.cadence }
    | .connected => s.modLine l fun y => { y with marks := { y.marks with farSignal := true } }
    | _ => s

/-- The end of an alert that leaves the line IDLE, with MISSED set by a ring timeout (R43) and untouched by FORCE-RELEASE
(R35); LC tells TU that the line is at rest. -/
def State.alertToRest (s : State) (l : LineNo) (missed : Bool) : State :=
  ((s.endAlert l).modLine l fun x =>
    { x.enterIdle with marks := { x.marks with missed := x.marks.missed || missed } }).atRest l

/-- Every occupancy of a position on a line is released (R18, R33). -/
def State.releasePosition (s : State) (l : LineNo) (p : Pos) : State :=
  match (s.line l).occupants.find? fun o => o.pos == p with
  | none => s
  | some o => s.releaseOccupant l o

/-- Every monitor of a position on a line is removed (R18, R48). -/
def State.dropMonitorsOf (s : State) (l : LineNo) (p : Pos) : State :=
  s.dropMonitors l ((s.line l).monitors.filter fun m => m.pos == p)

end Sys2Proof.Machine
end

