-- ==== Sys2Proof/Machine/Channels.lean ====
section
/-! DEFINITION. The Channel Controller: selections, opening and closing (chapter 3), the talk floor (chapter 4), and its decision
of each turret request. A decision answers the result of the request and the state before the indications of the act. -/

namespace Sys2Proof.Machine

/-! ### Opening and closing -/

/-- Some speaker unit selects the channel: it has a receiver (R54, R57). -/
def State.hasReceiver (s : State) (c : ChanNo) : Bool := (List.finRange 48).any fun p => s.anySelects p c

/-- The units that select a channel. -/
def State.selectors (s : State) (c : ChanNo) : List (Pos × UnitNo) :=
  (List.finRange 48).flatMap fun p => ((List.finRange 8).filter fun u => s.selects p u c).map fun u => (p, u)

/-- The channel's trunk slot when it is ACTIVE with the channel as claimant (R54). -/
def State.liveTrunk (s : State) (c : ChanNo) : Option SlotNo :=
  match (s.channel c).trunk with
  | none => none
  | some sl => if (s.slot sl).state = .active ∧ (s.slot sl).claimant = some (.channel c) then some sl else none

/-- A CLOSED channel opens on bridge `b`: allocation, and the trunk leg when the slot is ACTIVE for the channel (R54). -/
def State.openChannel (s : State) (c : ChanNo) (b : BridgeNo) : State :=
  ((s.allocate b (.channel c) (s.channel c).headroom).joinTrunk (some b) (s.liveTrunk c)).modChannel c fun x =>
    { x with state := .opened, bridge := some b }

/-- An OPEN channel closes: its bridge is freed, with the trunk leg detached, and the slot stays ACTIVE (R56). -/
def State.closeChannel (s : State) (c : ChanNo) : State :=
  (s.freeOwn (s.channel c).bridge).modChannel c fun x => { x with state := .closed, bridge := none }

/-- An OPEN channel left with no receiver and no talker closes (R56). -/
def State.closeIfUnused (s : State) (c : ChanNo) : State :=
  if (s.channel c).state = .opened ∧ (s.channel c).talkers = [] ∧ s.hasReceiver c = false then s.closeChannel c else s

/-! ### Selections -/

/-- The unit is the designated unit of a GROUP membership of the position; a RETIRING channel binds no unit any more (R58, R70). -/
def State.designated (s : State) (p : Pos) (u : UnitNo) : Option ChanNo :=
  (List.finRange 32).find? fun c =>
    (s.channel c).live && (s.channel c).kind == .group && (s.channel c).members.contains ⟨p, u⟩

/-- The previous selection of a unit is released and becomes NONE: a line monitor by R48, a channel selection by R60. -/
def State.releaseSelection (s : State) (p : Pos) (u : UnitNo) : State :=
  match s.selection p u with
  | .none => s
  | .line l => s.dropMonitor l ⟨p, u⟩
  | .channel c =>
    ((s.leaveOwn (s.channel c).bridge (unitLeg p u)).setSelection p u .none).closeIfUnused c

/-- The bridge counted as available when a unit's selection is to change: the unit is the sole receiver of another OPEN channel
that has no talker (R55). -/
def State.countsChannel (s : State) (p : Pos) (u : UnitNo) (c : ChanNo) : Bool :=
  match s.selection p u with
  | .channel y => y != c && (s.channel y).state == .opened && (s.channel y).talkers.isEmpty && s.selectors y == [(p, u)]
  | _ => false

/-- A bridge can be had for the opening of a channel by a unit (R54, R55, R98). -/
def State.canOpen (s : State) (p : Pos) (u : UnitNo) (c : ChanNo) : Bool := s.lowestFree.isSome || s.countsChannel p u c

/-- The unit comes to select the channel: a CLOSED channel opens, and the unit listens to the bridge (R54, R58). -/
def State.selectChannel (s : State) (p : Pos) (u : UnitNo) (c : ChanNo) : State :=
  let s1 := (s.releaseSelection p u).setSelection p u (.channel c)
  match (s1.channel c).state, s1.lowestFree with
  | .closed, some b => (s1.openChannel c b).listen b (unitLeg p u)
  | _, _ =>
    match (s1.channel c).bridge with
    | some b => s1.listen b (unitLeg p u)
    | none => s1

/-- SPEAKER, channel form (R58). -/
def State.speakerChannel (s : State) (p : Pos) (u : UnitNo) (c : ChanNo) : AnswerResult × State :=
  if (s.designated p u).isSome then (.refused .unitFixed, s)
  else if !(s.channel c).live then (.refused .vacant, s)
  else if s.selection p u = .channel c then (.accepted, s)
  else if !(s.channel c).mayListen p then (.refused .noPermission, s)
  else if (s.channel c).state = .closed ∧ s.canOpen p u c = false then (.refused .noBridge, s.post .pool)
  else (.accepted, s.selectChannel p u c)

/-- SPEAKER, clear form (R59). -/
def State.speakerClear (s : State) (p : Pos) (u : UnitNo) : AnswerResult × State :=
  if (s.designated p u).isSome then (.refused .unitFixed, s) else (.accepted, s.releaseSelection p u)

/-- The unit comes to monitor the line (R47). -/
def State.monitorLine (s : State) (p : Pos) (u : UnitNo) (l : LineNo) : State :=
  let s1 := (s.releaseSelection p u).modLine l fun x => { x with monitors := x.monitors ++ [⟨p, u⟩] }
  match (s.line l).bridge with
  | some b => (s1.listen b (unitLeg p u)).setSelection p u (.line l)
  | none => s1.setSelection p u (.line l)

/-- SPEAKER, line form (R47). -/
def State.speakerLine (s : State) (p : Pos) (u : UnitNo) (k : Key) : AnswerResult × State :=
  if (s.designated p u).isSome then (.refused .unitFixed, s)
  else
    match s.lookup p k with
    | .error r => (.refused r, s)
    | .ok l =>
      if (s.line l).monitors.contains ⟨p, u⟩ then (.accepted, s)
      else if (s.line l).state ≠ .connected then (.refused .notOccupant, s)
      else if (s.line l).currentPrivacy = .secluded then (.refused .secluded, s)
      else if Config.maxMonitors ≤ (s.line l).monitors.length then (.refused .full, s)
      else (.accepted, s.monitorLine p u l)

/-- QUERY, channel form (R62). -/
def State.queryChannel (s : State) (p : Pos) (c : ChanNo) : AnswerResult × State :=
  let x := s.channel c
  if !x.live then (.refused .vacant, s)
  else if !(x.listen.contains p || x.talk.contains p || (x.memberUnit p).isSome) then (.refused .noPermission, s)
  else (.accepted, s.enqueueAt p ⟨.channel c, .channelState, s.channelContent c p⟩)

/-! ### The talk floor -/

/-- A latched talker's silence timer starts with the channel's silence timeout, if that is not 0 (R81). -/
def State.startSilence (s : State) (c : ChanNo) (e : FloorEntry) : State :=
  if e.latched ∧ (s.channel c).silence ≠ 0 then s.startTimer (.silence c e.pos) (1000 * (s.channel c).silence) else s

/-- A microphone speaks on the channel's bridge. -/
def State.speakOn (s : State) (c : ChanNo) (p : Pos) : State :=
  match (s.channel c).bridge with
  | none => s
  | some b => s.speak b (micLeg p)

/-- An entry joins the end of the talker list: the microphone is attached and the silence timer starts (R76, R79). -/
def State.addTalker (s : State) (c : ChanNo) (e : FloorEntry) : State :=
  ((s.modChannel c fun x => { x with talkers := x.talkers ++ [e] }).speakOn c e.pos).startSilence c e

/-- The grant of the queue head, where a talker place is free (R79, R88). -/
def State.grantHead (s : State) (c : ChanNo) : State :=
  match (s.channel c).queue with
  | [] => s
  | e :: rest =>
    if (s.channel c).talkers.length < (s.channel c).maxTalkers then
      (s.modChannel c fun x => { x with queue := rest }).addTalker c e
    else s

/-- Grants while a place is free and the queue is not empty (R88); the maximum is at most 3. -/
def State.grantAll (n : Nat) (s : State) (c : ChanNo) : State :=
  match n with
  | 0 => s
  | m + 1 => State.grantAll m (s.grantHead c) c

/-- A talker loses the floor: the silence timer is cancelled and the microphone leaves the bridge. -/
def State.silenceMic (s : State) (c : ChanNo) (p : Pos) : State :=
  (s.cancelTimer (.silence c p)).leaveOwn (s.channel c).bridge (micLeg p)

/-- A talker entry is removed, and the queue head is granted (R78, R79, R84). -/
def State.removeTalker (s : State) (c : ChanNo) (p : Pos) : State :=
  ((s.modChannel c fun x => { x with talkers := x.talkers.filter fun e => e.pos != p }).silenceMic c p).grantHead c

/-- A position's entry is removed, talker or queued; a channel left unused closes (R78, R84). -/
def State.removeEntry (s : State) (c : ChanNo) (p : Pos) : State :=
  if (s.channel c).talking p then (s.removeTalker c p).closeIfUnused c
  else s.modChannel c fun x => { x with queue := x.queue.filter fun e => e.pos != p }

/-- The talker and queue entries of a position over all channels (R75 step 5). -/
def State.entryCount (s : State) (p : Pos) : Nat :=
  ((List.finRange 32).filter fun c => (s.channel c).talking p || (s.channel c).queued p).length

/-- TALK-ON (R75–R77). -/
def State.talkOn (s : State) (p : Pos) (c : ChanNo) (latched : Bool) : AnswerResult × State :=
  let x := s.channel c
  if !x.live then (.refused .vacant, s)
  else if !x.mayTalk p then (.refused .noPermission, s)
  else if x.talking p then (.accepted, s)
  else if x.queued p then (.queued, s)
  else if Config.maxEntries ≤ s.entryCount p then (.refused .micBusy, s)
  else if x.talkers.length < x.maxTalkers then
    match x.state, s.lowestFree with
    | .closed, none => (.refused .noBridge, s.post .pool)
    | .closed, some b => (.accepted, (s.openChannel c b).addTalker c ⟨p, latched⟩)
    | _, _ => (.accepted, s.addTalker c ⟨p, latched⟩)
  else if x.queue.length < Config.maxQueue then
    (.queued, s.modChannel c fun y => { y with queue := y.queue ++ [⟨p, latched⟩] })
  else (.refused .floorFull, s)

/-- TALK-OFF (R78). -/
def State.talkOff (s : State) (p : Pos) (c : ChanNo) : AnswerResult × State :=
  if !(s.channel c).live then (.refused .vacant, s) else (.accepted, s.removeEntry c p)

/-- One named position of an activity report (R82). -/
def State.takeActivity (s : State) (c : ChanNo) (p : Pos) : State :=
  if (s.channel c).talkers.contains ⟨p, true⟩ then
    if (s.channel c).silence = 0 then s.cancelTimer (.silence c p)
    else s.startTimer (.silence c p) (1000 * (s.channel c).silence)
  else s

/-- A lowered maximum moves the newest talkers to the head of the queue, whose tail is then cut to 8 (R87). -/
def State.lowerMaximum (s : State) (c : ChanNo) (n : Nat) : State :=
  let moved := (s.channel c).talkers.drop n
  (moved.foldl (fun t e => t.silenceMic c e.pos) s).modChannel c fun x =>
    { x with
      maxTalkers := n, talkers := x.talkers.take n, queue := (moved ++ x.queue).take Config.maxQueue }

/-- A new maximum of talkers (R87, R88). -/
def State.writeMaximum (s : State) (c : ChanNo) (n : Nat) : State :=
  if n < (s.channel c).talkers.length then s.lowerMaximum c n
  else (s.modChannel c fun x => { x with maxTalkers := n }).grantAll n c

/-! ### Trunk events on channels (R64) -/

/-- The fault of a channel's ACTIVE slot: NO-TRUNK is set, and the trunk leg of an OPEN channel leaves the bridge (R64). -/
def State.channelFault (s : State) (c : ChanNo) (sl : SlotNo) : State :=
  (s.modChannel c fun x => { x with noTrunk := true }).leaveOwn (s.channel c).bridge (trunkLeg sl)

/-! ### Members and permissions -/

/-- Every unit of a position that selects a channel is released (R67, R69). -/
def State.releaseUnits (s : State) (p : Pos) (c : ChanNo) : State :=
  ((List.finRange 8).filter fun u => s.selects p u c).foldl (fun t u => t.releaseSelection p u) s

/-! ### Position teardown (R178) -/

/-- A handset of a position leaves its current line, if it has one, without TU's part in a return to rest. -/
def State.vacateHandset (s : State) (o : Occupant) : State :=
  match s.currentLine o with
  | none => s
  | some l => s.vacate l o

/-- Both handsets of a position are released from their lines (R178 step 1). TU has its part once both have left, in the lines that this
has brought to rest, so that the slots which the act frees are served in ascending slot number (R141). -/
def State.releaseHandsets (s : State) (p : Pos) : State :=
  let handsets : List Occupant := [⟨p, .left⟩, ⟨p, .right⟩]
  let s1 := handsets.foldl State.vacateHandset s
  s1.atRestAll ((handsets.filterMap s.currentLine).filter fun l => (s1.line l).occupants.isEmpty)

/-- The monitors of a position are removed (R178 step 2). -/
def State.dropAllMonitors (s : State) (p : Pos) : State :=
  (List.finRange 8).foldl
    (fun t u =>
      match t.selection p u with
      | .line l => t.dropMonitor l ⟨p, u⟩
      | _ => t)
    s

/-- The talker and queue entries of a position are removed (R178 step 3). -/
def State.dropEntries (s : State) (p : Pos) : State :=
  ((List.finRange 32).filter fun c => (s.channel c).talking p || (s.channel c).queued p).foldl
    (fun t c => t.removeEntry c p) s

/-- The buffers and queues of a torn-down link (R178 step 4). -/
def Link.emptied (x : Link) : Link :=
  { x with requests := [], answers := [], indications := [], assembly := .between, transmit := [] }

/-- Position teardown (R178); its own indications fall with the queue that step 4 empties. -/
def State.teardown (s : State) (p : Pos) : State :=
  (finishAct none (List.finRange 32) s (((s.releaseHandsets p).dropAllMonitors p).dropEntries p)).modLink p Link.emptied

end Sys2Proof.Machine
end

