-- ==== Sys2Proof/Machine/Expiries.lean ====
section
/-! DEFINITION. The expiries of the deadline timers and what their owners do with them (R38, R43, R46, R50, R83, R134–R137, R158,
R159, R177), the phase changes of the cadence generators (R152), and the changes of the slots' two inputs (R134, R136, R137). -/

namespace Sys2Proof.Machine

/-! ### The owners' acts -/

/-- The act of a ring-timeout expiry (R43). -/
def State.ringTimedOut (s : State) (l : LineNo) : State := finishAct none [] s (s.alertToRest l true)

/-- HOLD-RECALL at the hold owner and LINE-STATE at every other appearing position (R38). -/
def State.notifyRecall (s : State) (l : LineNo) : State :=
  (s.line l).appearances.foldl
    (fun t a =>
      t.enqueueAt a.pos
        ⟨.key a.key, if (s.line l).holdOwner = some a.pos then .holdRecall else .lineState, (s.line l).content⟩)
    s

/-- The act of a hold-recall expiry: RECALLED is set, and the line stays HELD (R38). A mark already set changes nothing (R6).
DEDUCED (log entry 17, safe). -/
def State.recall (s : State) (l : LineNo) : State :=
  if (s.line l).marks.recalled then s
  else (s.modLine l fun x => { x with marks := { x.marks with recalled := true } }).notifyRecall l

/-- The act of a burst expiry: RING-OUT is cleared (R46). -/
def State.burstOver (s : State) (l : LineNo) : State :=
  finishAct none [] s (s.modLine l fun x => { x with marks := { x.marks with ringOut := false } })

/-- The act of a silence expiry: the latched talker is removed and the queue head granted (R83). -/
def State.silenced (s : State) (c : ChanNo) (p : Pos) : State := finishAct none [c] s (s.removeEntry c p)

/-- The act of a grace expiry: position teardown, with the LINK event (R170, R177). -/
def State.graceOver (s : State) (p : Pos) : State := (s.teardown p).post .link

/-- A ring start, delivered to the line that claims the slot and discarded otherwise (R135). -/
def State.deliverRing (s : State) (sl : SlotNo) : State :=
  match (s.slot sl).state, (s.slot sl).claimant with
  | .active, some (.line l) => finishAct none [] s (s.ringStart l)
  | _, _ => s

/-- A confirmed fault: the slot is in FAULT without a claimant, and the claimant's owner acts (R64, R136, R138–R140). -/
def State.confirmFault (s : State) (sl : SlotNo) : State :=
  let s1 := s.modSlot sl fun x => { x with state := .fault, claimant := none }
  match (s.slot sl).claimant with
  | none => s1.post .route
  | some (.line l) => (finishAct none [] s (s1.lineFault l sl)).post .route
  | some (.channel c) => (finishAct none [c] s (s1.channelFault c sl)).post .route

/-- The channel that names a slot as its trunk. -/
def Slot.namingChannel (x : Slot) : List ChanNo :=
  match x.primaryNamer with
  | some (.channel c) => [c]
  | _ => []

/-- A completed restore: the slot is STANDBY and is served (R137, R141, R142). -/
def State.completeRestore (s : State) (sl : SlotNo) : State :=
  (finishAct none (s.slot sl).namingChannel s
    ((s.modSlot sl fun x => { x with state := .standby }).serveFreed (some sl))).post .route

/-! ### One meaning per row -/

/-- DEADLINE-EXPIRY (R158). -/
def execDeadlineExpiry (t : TimerId) (s : State) : Host.Outcome State Fault Refusal := .next (s.expire t)

/-- LC takes a ring-timeout expiry (R43, R50). -/
def execRingTimeoutExpiry (l : LineNo) (s : State) : Host.Outcome State Fault Refusal :=
  .next (s.takeExpiry (.ringTimeout l) (!s.resetting && (s.line l).state == .alerting) fun t => t.ringTimedOut l)

/-- LC takes a hold-recall expiry (R38, R50). -/
def execHoldRecallExpiry (l : LineNo) (s : State) : Host.Outcome State Fault Refusal :=
  .next (s.takeExpiry (.holdRecall l) (!s.resetting && (s.line l).state == .held) fun t => t.recall l)

/-- LC takes a burst expiry (R46, R50). -/
def execBurstExpiry (l : LineNo) (s : State) : Host.Outcome State Fault Refusal :=
  .next (s.takeExpiry (.burst l) (!s.resetting && (s.line l).marks.ringOut) fun t => t.burstOver l)

/-- CC takes a silence expiry (R83). -/
def execSilenceExpiry (c : ChanNo) (p : Pos) (s : State) : Host.Outcome State Fault Refusal :=
  .next
    (s.takeExpiry (.silence c p)
      (!s.resetting && (s.channel c).live && (s.channel c).talkers.contains ⟨p, true⟩) fun t => t.silenced c p)

/-- LU takes a grace expiry (R177). -/
def execGraceExpiry (p : Pos) (s : State) : Host.Outcome State Fault Refusal :=
  .next (s.takeExpiry (.grace p) (!s.resetting && (s.link p).state == .hunt) fun t => t.graceOver p)

/-- TU takes a qualify expiry (R134, R135). -/
def execQualifyExpiry (sl : SlotNo) (s : State) : Host.Outcome State Fault Refusal :=
  .next (s.takeExpiry (.qualify sl) (!s.resetting && (s.slot sl).ringActive) fun t => t.deliverRing sl)

/-- TU takes a fault-confirm expiry (R136); it acts during FLOOR-RESET too once the route step is taken (R148). -/
def execFaultConfirmExpiry (sl : SlotNo) (s : State) : Host.Outcome State Fault Refusal :=
  .next
    (s.takeExpiry (.faultConfirm sl)
      ((!s.resetting || s.routesTaken) && !(s.slot sl).alive &&
        ((s.slot sl).state == .standby || (s.slot sl).state == .active))
      fun t => t.confirmFault sl)

/-- TU takes a restore expiry (R137); it acts during FLOOR-RESET too once the route step is taken (R148). -/
def execRestoreExpiry (sl : SlotNo) (s : State) : Host.Outcome State Fault Refusal :=
  .next
    (s.takeExpiry (.restore sl)
      ((!s.resetting || s.routesTaken) && (s.slot sl).alive && (s.slot sl).state == .fault)
      fun t => t.completeRestore sl)

/-- A phase of a cadence generator ends: ON is followed by OFF, or by a new ON phase where the OFF in force is 0; OFF is followed
by a new ON phase (R152). A phase with time left does not end. -/
def Generator.phaseEnd (g : Generator) : Generator :=
  if g.phaseFrames = 0 then
    match g.state with
    | .idle => g
    | .on =>
      if g.offForce = 0 then g.startOn
      else { g with state := .off, phaseFrames := Config.framesPerUnit * g.offForce }
    | .off => g.startOn
  else g

/-- CADENCE-PHASE-END (R152). -/
def execCadencePhaseEnd (g : GenNo) (s : State) : Host.Outcome State Fault Refusal :=
  .next (s.setGenerator g (s.generator g).phaseEnd)

/-- The ring-detect level of a slot: a passage into the active level starts the qualify timer, a passage out of it cancels it
(R134). -/
def State.setRing (s : State) (sl : SlotNo) (high : Bool) : State :=
  if (s.slot sl).ringHigh = high then s
  else
    let s1 := s.modSlot sl fun x => { x with ringHigh := high }
    if (s1.slot sl).ringActive then s1.startTimer (.qualify sl) (s1.slot sl).qualify
    else s1.cancelTimer (.qualify sl)

/-- RING-DETECT-CHANGE (R130, R134). -/
def execRingDetectChange (sl : SlotNo) (high : Bool) (s : State) : Host.Outcome State Fault Refusal :=
  .next (s.setRing sl high)

/-- The alive level of a slot: PRESENT to ABSENT starts the fault-confirm timer of a STANDBY or ACTIVE slot and cancels the restore
timer; ABSENT to PRESENT cancels the fault-confirm timer and starts the restore timer of a FAULT slot (R136, R137). -/
def State.setAlive (s : State) (sl : SlotNo) (present : Bool) : State :=
  if (s.slot sl).alive = present then s
  else
    let s1 := s.modSlot sl fun x => { x with alive := present }
    if present then
      let s2 := s1.cancelTimer (.faultConfirm sl)
      if (s.slot sl).state = .fault then s2.startTimer (.restore sl) s.mp.restore else s2
    else
      let s2 := s1.cancelTimer (.restore sl)
      if (s.slot sl).state = .standby ∨ (s.slot sl).state = .active then
        s2.startTimer (.faultConfirm sl) s.mp.faultConfirm
      else s2

/-- ALIVE-CHANGE (R130, R136, R137). -/
def execAliveChange (sl : SlotNo) (present : Bool) (s : State) : Host.Outcome State Fault Refusal :=
  .next (s.setAlive sl present)

end Sys2Proof.Machine
end

