-- ==== Sys2Proof/Machine/Operands.lean ====
section
/-! DEFINITION. The operand forms: the field bytes of a turret request (chapter 11, Table 7) and the words of a command
(chapter 11, Table 5), decoded with every check of range and code that R172, R189 and R196 make before a command's own. -/

namespace Sys2Proof

/-- A mask or flag bit of buffer word 0, by its number 8–15 there (chapter 11, Table 5). -/
def CmdWords.maskBit (w : CmdWords) (i : Nat) : Bool := w.hi.getLsbD (i - 8)

/-- No mask bit of word 0 from bit `n` up to bit 15 is set: such a bit names no maskable field (R189).
DEDUCED (log entry 12, unsafe). -/
def CmdWords.maskBelow (w : CmdWords) (n : Nat) : Bool := w.hi.toNat < 2 ^ (n - 8)

/-- The eight buffer words of a command. -/
def CmdWords.toBuffer (code : Byte) (w : CmdWords) : Vector Word 8 :=
  #v[w.hi ++ code, w.w1, w.w2, w.w3, w.w4, w.w5, w.w6, w.w7]

end Sys2Proof

namespace Sys2Proof.Machine

/-! ### Requests -/

/-- A turret request with its fields in range (chapter 9, Table 2). -/
inductive TurretRequest where
  | seize (k : Key) (h : Handset)
  | retrieve (k : Key) (h : Handset)
  | release (h : Handset)
  | hold (h : Handset)
  | privacy (k : Key) (on : Bool)
  | signal (k : Key)
  | acknowledge (k : Key)
  | queryLine (k : Key)
  | queryChannel (c : ChanNo)
  | speakerLine (u : UnitNo) (k : Key)
  | speakerChannel (u : UnitNo) (c : ChanNo)
  | speakerClear (u : UnitNo)
  | talkOn (c : ChanNo) (latched : Bool)
  | talkOff (c : ChanNo)
deriving DecidableEq, Repr

/-- A two-valued field: 0 or 1, any other value names no code (R172). -/
def boolField (b : Byte) : Option Bool := if b = 0#8 then some false else if b = 1#8 then some true else none

/-- A handset field: L 0, R 1 (chapter 11, Table 7). -/
def handsetField (b : Byte) : Option Handset :=
  (boolField b).map fun r => if r then .right else .left

/-- A line key field (R172). -/
def keyField (b : Byte) : Option Key := toFin? 64 b.toNat

/-- A channel field (R172). -/
def channelField (b : Byte) : Option ChanNo := toFin? 32 b.toNat

/-- A speaker unit field (R172). -/
def unitField (b : Byte) : Option UnitNo := toFin? 8 b.toNat

/-- A request decoded by its code, its field count and the ranges of its fields (R172, R197); none is BAD-REQUEST. -/
def decodeRequest (r : Request) : Option TurretRequest :=
  match r.code.toNat, r.fields with
  | 0x01, [k, h] => (keyField k).bind fun first => (handsetField h).map (TurretRequest.seize first)
  | 0x02, [k, h] => (keyField k).bind fun first => (handsetField h).map (TurretRequest.retrieve first)
  | 0x03, [h] => (handsetField h).map .release
  | 0x04, [h] => (handsetField h).map .hold
  | 0x05, [k, v] => (keyField k).bind fun first => (boolField v).map (TurretRequest.privacy first)
  | 0x06, [k] => (keyField k).map .signal
  | 0x07, [k] => (keyField k).map .acknowledge
  | 0x08, [k] => (keyField k).map .queryLine
  | 0x09, [c] => (channelField c).map .queryChannel
  | 0x0A, [u, k] => (unitField u).bind fun first => (keyField k).map (TurretRequest.speakerLine first)
  | 0x0B, [u, c] => (unitField u).bind fun first => (channelField c).map (TurretRequest.speakerChannel first)
  | 0x0C, [u] => (unitField u).map .speakerClear
  | 0x0D, [c, v] => (channelField c).bind fun first => (boolField v).map (TurretRequest.talkOn first)
  | 0x0E, [c] => (channelField c).map .talkOff
  | _, _ => none

/-- The code byte of a request (chapter 11, Table 7). -/
def TurretRequest.code (t : TurretRequest) : Byte :=
  match t with
  | .seize _ _ => 0x01#8
  | .retrieve _ _ => 0x02#8
  | .release _ => 0x03#8
  | .hold _ => 0x04#8
  | .privacy _ _ => 0x05#8
  | .signal _ => 0x06#8
  | .acknowledge _ => 0x07#8
  | .queryLine _ => 0x08#8
  | .queryChannel _ => 0x09#8
  | .speakerLine _ _ => 0x0A#8
  | .speakerChannel _ _ => 0x0B#8
  | .speakerClear _ => 0x0C#8
  | .talkOn _ _ => 0x0D#8
  | .talkOff _ => 0x0E#8

/-- A number as a field byte. -/
def fieldByte (n : Nat) : Byte := BitVec.ofNat 8 n

/-- A two-valued field byte. -/
def boolByte (b : Bool) : Byte := if b then 1#8 else 0#8

/-- A handset field byte: L 0, R 1. -/
def handsetByte (h : Handset) : Byte :=
  match h with
  | .left => 0#8
  | .right => 1#8

/-- The field bytes that a turret sends for a request, in their order (chapter 11, Table 7). -/
def TurretRequest.fields (t : TurretRequest) : List Byte :=
  match t with
  | .seize k h | .retrieve k h => [fieldByte k.val, handsetByte h]
  | .release h | .hold h => [handsetByte h]
  | .privacy k on => [fieldByte k.val, boolByte on]
  | .signal k | .acknowledge k | .queryLine k => [fieldByte k.val]
  | .queryChannel c | .talkOff c => [fieldByte c.val]
  | .speakerLine u k => [fieldByte u.val, fieldByte k.val]
  | .speakerChannel u c => [fieldByte u.val, fieldByte c.val]
  | .speakerClear u => [fieldByte u.val]
  | .talkOn c latched => [fieldByte c.val, boolByte latched]

/-- The message that a turret sends for a request (chapter 11, Table 7). -/
def TurretRequest.message (t : TurretRequest) : Request := ⟨t.code, t.fields⟩

/-- The row of the table that a request is, at its position. -/
def TurretRequest.command (t : TurretRequest) (p : Pos) : Instr :=
  match t with
  | .seize _ _ => .seize p t.fields
  | .retrieve _ _ => .retrieve p t.fields
  | .release _ => .release p t.fields
  | .hold _ => .hold p t.fields
  | .privacy _ _ => .privacy p t.fields
  | .signal _ => .signal p t.fields
  | .acknowledge _ => .acknowledge p t.fields
  | .queryLine _ => .queryLine p t.fields
  | .queryChannel _ => .queryChannel p t.fields
  | .speakerLine _ _ => .speakerLine p t.fields
  | .speakerChannel _ _ => .speakerChannel p t.fields
  | .speakerClear _ => .speakerClear p t.fields
  | .talkOn _ _ => .talkOn p t.fields
  | .talkOff _ => .talkOff p t.fields

/-! ### Commands -/

/-- The command code of a copied buffer: bits 0–7 of word 0. -/
def bufferCode (b : Vector Word 8) : Byte := b[0].setWidth 8

/-- The words of a copied buffer. -/
def bufferWords (b : Vector Word 8) : CmdWords :=
  ⟨(b[0] >>> 8).setWidth 8, b[1], b[2], b[3], b[4], b[5], b[6], b[7]⟩

/-- A slot argument: FFFFh is absent, another value above 255 is out of range (R196). -/
def slotArg (w : Word) : Option (Option SlotNo) :=
  if w = 0xFFFF#16 then some none else (toFin? 256 w.toNat).map some

/-- A headroom mode from bits 8–9 (hf) and bit 10 (mode) of its word; an hf of 3 exceeds 2. -/
def headroomArg (w : Word) : Option Headroom :=
  (toFin? 3 (bits w 8 2)).map fun hf => ⟨if bit w 10 then .auto else .fixed, hf⟩

/-- A line kind code. -/
def lineKindArg (n : Nat) : Option LineKind :=
  match n with
  | 0 => some .auto
  | 1 => some .manual
  | 2 => some .nailed
  | _ => none

/-- A privacy bit. -/
def privacyArg (b : Bool) : Privacy := if b then .secluded else .shared

/-- A hold mode bit. -/
def holdModeArg (b : Bool) : HoldMode := if b then .common else .exclusive

/-- A channel kind bit. -/
def channelKindArg (b : Bool) : ChannelKind := if b then .group else .hoot

/-- The maximum talkers of bits 4–5, 1–3. -/
def maximumArg (w : Word) : Option Nat := if bits w 4 2 = 0 then none else some (bits w 4 2)

/-- A three-bit number as a cadence generator. -/
def cadenceArg (w : Word) : GenNo := ⟨bits w 4 3, by unfold bits; exact Nat.mod_lt _ (by norm_num)⟩

/-- A value brought into its range, with whether that changed it. -/
def clampArg (lo hi : Nat) (w : Word) : Nat × Bool := (clamp lo hi w.toNat, clamp lo hi w.toNat != w.toNat)

/-- The result of a command that has brought values into range or not (R189). -/
def clampedResult (clamped : Bool) : Result := if clamped then .doneClamped else .done

/-- The fields that CREATE-LINE and SET-LINE carry in words 2 to 4, each absent where it lies outside its code set. -/
structure LineArgs where
  kind : Option LineKind
  privacy : Privacy
  holdMode : HoldMode
  cadence : GenNo
  headroom : Option Headroom
  primary : Option (Option SlotNo)
  alternate : Option (Option SlotNo)

/-- The fields of words 2 to 4 of CREATE-LINE and SET-LINE (chapter 11, Table 5). -/
def lineArgs (w : CmdWords) : LineArgs where
  kind := lineKindArg (bits w.w2 0 2)
  privacy := privacyArg (bit w.w2 2)
  holdMode := holdModeArg (bit w.w2 3)
  cadence := cadenceArg w.w2
  headroom := headroomArg w.w2
  primary := slotArg w.w3
  alternate := slotArg w.w4

end Sys2Proof.Machine
end

