-- ==== Sys2Proof/Machine/Commands.lean ====
section
/-! DEFINITION. The commands of the system controller (chapter 10, Table 5): each owner's decision, the command slot (R188), and
one meaning per row. A decision answers the result, absent while the command goes on over later acts, and the state. -/

namespace Sys2Proof.Machine

/-- A decision of a command: its result if it completes in the act, and the state. -/
abbrev Decision := Option Result × State

/-- A command that completes in the act without a change of any record. -/
def refuse (r : Result) (s : State) : Decision := (some r, s)

/-- A masked value lies inside its code set; a value whose mask bit is clear is not read (R189). -/
def maskedOk {α : Type} (mask : Bool) (v : Option α) : Bool := !mask || v.isSome

/-- The value after the command: the masked one, or the one in the record. -/
def masked {α : Type} (mask : Bool) (v : Option α) (old : α) : α := if mask then v.getD old else old

/-! ### Lines (LC) -/

/-- A slot that another line names as primary, or a channel as trunk, may not become a line's primary (R12, R14, R131). -/
def State.primaryClaimed (s : State) (l : LineNo) (sl : Option SlotNo) : Bool :=
  match sl with
  | none => false
  | some n => (s.slot n).primaryNamer.isSome && (s.slot n).primaryNamer != some (.line l)

/-- A slot that a channel names as trunk may not become an alternate (R12, R14, R131). -/
def State.alternateClaimed (s : State) (sl : Option SlotNo) : Bool :=
  match sl with
  | none => false
  | some n =>
    match (s.slot n).primaryNamer with
    | some (.channel _) => true
    | _ => false

/-- The line takes its route from its primary alone: IDLE with route PRIMARY if the slot is STANDBY, LOCKOUT otherwise (R13,
R15). -/
def State.routeFromPrimary (s : State) (l : LineNo) (sl : Option SlotNo) : State :=
  match sl with
  | none => s.modLine l Line.enterLockout
  | some n =>
    if (s.slot n).state = .standby then (s.claimLine l n).modLine l Line.enterIdle else s.modLine l Line.enterLockout

/-- CREATE-LINE (R12, R13). -/
def State.createLine (s : State) (w : CmdWords) : Decision :=
  let a := lineArgs w
  match toFin? 192 w.w1.toNat, a.kind, a.headroom, a.primary, a.alternate with
  | some l, some kind, some headroom, some primary, some alternate =>
    if primary.isSome ∧ primary = alternate then refuse .badField s
    else if (s.line l).state ≠ .vacant then refuse .exists s
    else if s.primaryClaimed l primary then refuse .slotClaimed s
    else if s.alternateClaimed alternate then refuse .slotClaimed s
    else
      let t := clampArg 1 255 w.w5
      let r := clampArg 0 900 w.w6
      let b := clampArg 100 10000 w.w7
      let x : Line :=
        { Line.vacant with
          kind := kind, state := .lockout, defaultPrivacy := a.privacy, currentPrivacy := a.privacy
          holdMode := a.holdMode, cadence := a.cadence, primary := primary, alternate := alternate
          headroom := headroom, ringTimeout := t.1, holdRecall := r.1, burst := b.1 }
      let s1 := ((s.setLine l x).namePrimary primary (.line l)).nameAlternate alternate l
      (some (clampedResult (t.2 || r.2 || b.2)), finishAct none [] s (s1.routeFromPrimary l primary))
  | _, _, _, _, _ => refuse .badField s

/-- The settings of SET-LINE other than the slots, written into a record (R15): a new default privacy becomes the current one on
a line that is IDLE, ALERTING or LOCKOUT (R5). -/
def Line.writeSettings (x : Line) (w : CmdWords) : Line :=
  let a := lineArgs w
  let privacy := if w.maskBit 9 then a.privacy else x.defaultPrivacy
  let current :=
    match x.state with
    | .idle | .alerting | .lockout => if w.maskBit 9 then a.privacy else x.currentPrivacy
    | _ => x.currentPrivacy
  { x with
    kind := masked (w.maskBit 8) a.kind x.kind
    defaultPrivacy := privacy
    currentPrivacy := current
    holdMode := if w.maskBit 10 then a.holdMode else x.holdMode
    cadence := if w.maskBit 11 then a.cadence else x.cadence
    headroom := masked (w.maskBit 12) a.headroom x.headroom
    ringTimeout := if bit w.w1 8 then (clampArg 1 255 w.w5).1 else x.ringTimeout
    holdRecall := if bit w.w1 9 then (clampArg 0 900 w.w6).1 else x.holdRecall
    burst := if bit w.w1 10 then (clampArg 100 10000 w.w7).1 else x.burst }

/-- A masked timing setting of SET-LINE was brought into range (R14). -/
def setLineClamped (w : CmdWords) : Bool :=
  (bit w.w1 8 && (clampArg 1 255 w.w5).2) || (bit w.w1 9 && (clampArg 0 900 w.w6).2) ||
    (bit w.w1 10 && (clampArg 100 10000 w.w7).2)

/-- A new headroom mode is passed to ME for the bridge an owner holds (R15, R66, R118). -/
def State.passMode (s : State) (b : Option BridgeNo) (m : Headroom) : State :=
  match b with
  | none => s
  | some n => s.modBridge n fun x => x.writeMode m

/-- The alternate slot of a line changes; its route is not touched (R15, R145). -/
def State.changeAlternate (s : State) (l : LineNo) (new : Option SlotNo) : State :=
  let old := (s.line l).alternate
  if old = new then s
  else
    ((s.nameAlternate new l).unnameAlternate old l).modLine l fun x => { x with alternate := new }

/-- The primary slot of an IDLE line changes, as one act (R15, R145): the active route is given up, the old primary loses the line
as namer and the new one gains it, the line takes its route from the new primary alone, and only then is the slot it gave up
served. The alternate changes in the same act where it is masked too; each new naming is made before an old one is removed, so a
slot that stays named keeps its state. DEDUCED (log entry 11, unsafe). -/
def State.changeSlots (s : State) (l : LineNo) (primary alternate : Option SlotNo) : State :=
  let x := s.line l
  if x.primary = primary then s.changeAlternate l alternate
  else
    let s1 := (s.dropSlot x.activeSlot).namePrimary primary (.line l)
    let s2 := (s1.changeAlternate l alternate).unnamePrimary x.primary
    let s3 := (s2.modLine l fun y => { y with primary := primary, route := .none }).routeFromPrimary l primary
    s3.serveFreed x.activeSlot

/-- SET-LINE (R14, R15). An unknown mask bit is refused with the other BAD-FIELD checks, before VACANT. DESIGN CHOICE (log entry 12,
unsafe). -/
def State.setLineCmd (s : State) (w : CmdWords) : Decision :=
  let a := lineArgs w
  match toFin? 192 (bits w.w1 0 8) with
  | none => refuse .badField s
  | some l =>
    let x := s.line l
    let primary := masked (w.maskBit 13) a.primary x.primary
    let alternate := masked (w.maskBit 14) a.alternate x.alternate
    if !w.maskBelow 15 || !maskedOk (w.maskBit 8) a.kind || !maskedOk (w.maskBit 12) a.headroom ||
        !maskedOk (w.maskBit 13) a.primary || !maskedOk (w.maskBit 14) a.alternate ||
        (primary.isSome && primary == alternate) then
      refuse .badField s
    else if x.state = .vacant then refuse .vacant s
    else if (w.maskBit 8 || w.maskBit 13) ∧ x.state ≠ .idle then refuse .inUse s
    else if w.maskBit 14 ∧ x.route = .alternate then refuse .inUse s
    else if (w.maskBit 13 && s.primaryClaimed l primary) || (w.maskBit 14 && s.alternateClaimed alternate) then
      refuse .slotClaimed s
    else
      let s1 := (s.modLine l fun y => y.writeSettings w).passMode x.bridge (masked (w.maskBit 12) a.headroom x.headroom)
      (some (clampedResult (setLineClamped w)), finishAct none [] s (s1.changeSlots l primary alternate))

/-- The live state of a line is taken down by a retire, according to its state (R20). -/
def State.retireLive (s : State) (l : LineNo) : State :=
  match (s.line l).state with
  | .alerting => s.endAlert l
  | .connected | .held => (s.takeDown l).modLine l fun x => { x with marks := { x.marks with noRoute := false } }
  | _ => s

/-- RETIRE-LINE (R20). -/
def State.retireLine (s : State) (w : CmdWords) : Decision :=
  match toFin? 192 w.w1.toNat with
  | none => refuse .badField s
  | some l =>
    let x := s.line l
    if x.state = .vacant then refuse .vacant s
    else if x.state ≠ .idle ∧ x.state ≠ .lockout ∧ w.maskBit 8 = false then refuse .inUse s
    else
      let s1 :=
        (s.retireLive l).modLine l fun y =>
          { y with state := .retiring, route := .none, primary := none, alternate := none }
      let s2 := ((s1.dropSlot x.activeSlot).unnamePrimary x.primary).unnameAlternate x.alternate l
      (none,
        (finishAct none [] s (s2.serveFreed x.activeSlot)).modMp fun m => { m with job := some (.retireLine l 0) })

/-- An appearance put into an appearance list, ascending by position. -/
def insertAppearance (a : Appearance) (as : List Appearance) : List Appearance :=
  as.filter (fun b => b.pos ≤ a.pos) ++ a :: as.filter (fun b => a.pos < b.pos)

/-- ADD-APPEARANCE (R16). -/
def State.addAppearance (s : State) (w : CmdWords) : Decision :=
  match toFin? 192 w.w1.toNat, toFin? 48 w.w2.toNat, toFin? 64 w.w3.toNat with
  | some l, some p, some k =>
    let ring := bit w.w4 0
    if (s.line l).state = .vacant then refuse .vacant s
    else
      match (s.line l).appearanceAt p with
      | some a =>
        if a.key = k then
          (some .done,
            s.modLine l fun x =>
              { x with appearances := x.appearances.map fun y => if y.pos = p then { y with ring := ring } else y })
        else refuse .exists s
      | none =>
        if (s.keyLine p k).isSome then refuse .keyTaken s
        else
          let s1 :=
            (s.modLine l fun x => { x with appearances := insertAppearance ⟨p, k, ring⟩ x.appearances }).setKey p k
              (some l)
          (some .done, s1.enqueueAt p ⟨.key k, .lineState, (s.line l).content⟩)
  | _, _, _ => refuse .badField s

/-- An appearance entry and its directory key go in one act (R11). -/
def State.removeAppearance (s : State) (l : LineNo) (a : Appearance) : State :=
  (s.modLine l fun x => { x with appearances := x.appearances.filter fun y => y.pos != a.pos }).setKey a.pos a.key none

/-- DROP-APPEARANCE (R17–R19). At the dropped position the VACANT indication of the emptied key comes after those of every line that the
act has changed, whatever their numbers. DESIGN CHOICE (log entry 14, unsafe). -/
def State.dropAppearance (s : State) (w : CmdWords) : Decision :=
  match toFin? 192 w.w1.toNat, toFin? 48 w.w2.toNat with
  | some l, some p =>
    if (s.line l).state = .vacant then refuse .vacant s
    else
      match (s.line l).appearanceAt p with
      | none => refuse .notFound s
      | some a =>
        let s1 := if (s.line l).holdOwner = some p then s.returnToRest l else s
        let s2 := ((s1.dropMonitorsOf l p).releasePosition l p).removeAppearance l a
        (some .done, (finishAct none [] s s2).enqueueAt p ⟨.key a.key, .lineState, .vacant⟩)
  | _, _ => refuse .badField s

/-- FORCE-RELEASE (R35). -/
def State.forceRelease (s : State) (w : CmdWords) : Decision :=
  match toFin? 192 w.w1.toNat with
  | none => refuse .badField s
  | some l =>
    match (s.line l).state with
    | .vacant => refuse .vacant s
    | .connected | .held => (some .done, finishAct none [] s (s.returnToRest l))
    | .alerting => (some .done, finishAct none [] s (s.alertToRest l false))
    | _ => (some .done, s)

/-! ### Channels (CC) -/

/-- A slot that a line or another channel names may not become a channel's trunk (R63). -/
def State.trunkClaimed (s : State) (c : ChanNo) (sl : Option SlotNo) : Bool :=
  match sl with
  | none => false
  | some n => (s.slot n).named && (s.slot n).primaryNamer != some (.channel c)

/-- CREATE-CHANNEL (R65). -/
def State.createChannel (s : State) (w : CmdWords) : Decision :=
  match toFin? 32 w.w1.toNat, maximumArg w.w2, headroomArg w.w2, slotArg w.w3 with
  | some c, some maximum, some headroom, some trunk =>
    let kind := channelKindArg (bit w.w2 0)
    if kind = .group ∧ trunk.isSome then refuse .badField s
    else if (s.channel c).state ≠ .vacant then refuse .exists s
    else if s.trunkClaimed c trunk then refuse .slotClaimed s
    else
      let t := clampArg 0 255 w.w4
      let a := clampArg 0 32767 w.w5
      let x : Channel :=
        { Channel.vacant with
          kind := kind, state := .closed, maxTalkers := maximum, trunk := trunk, silence := t.1, threshold := a.1
          headroom := headroom, noTrunk := trunk.isSome }
      (some (clampedResult (t.2 || a.2)),
        ((s.setChannel c x).namePrimary trunk (.channel c)).claimTrunk c trunk)
  | _, _, _, _ => refuse .badField s

/-- The trunk slot of a channel changes: the old one is released, the new one named and claimed (R63, R66). -/
def State.changeTrunk (s : State) (c : ChanNo) (new : Option SlotNo) : State :=
  let x := s.channel c
  if x.trunk = new then s
  else
    let s1 := ((s.leaveTrunk x.bridge x.trunk).unnamePrimary x.trunk).modChannel c fun y =>
      { y with trunk := new, noTrunk := new.isSome }
    (s1.namePrimary new (.channel c)).claimTrunk c new

/-- The settings of SET-CHANNEL other than maximum and trunk; a change of kind to GROUP empties the listen and talk sets (R66). -/
def Channel.writeSettings (x : Channel) (w : CmdWords) : Channel :=
  let kind := if w.maskBit 8 then channelKindArg (bit w.w2 0) else x.kind
  { x with
    kind := kind
    listen := if x.kind = kind then x.listen else []
    talk := if x.kind = kind then x.talk else []
    silence := if w.maskBit 11 then (clampArg 0 255 w.w4).1 else x.silence
    threshold := if w.maskBit 12 then (clampArg 0 32767 w.w5).1 else x.threshold
    headroom := masked (w.maskBit 13) (headroomArg w.w2) x.headroom }

/-- SET-CHANNEL (R66, R87, R88). An unknown mask bit is refused with the other BAD-FIELD checks, before VACANT. DESIGN CHOICE (log entry
12, unsafe). A raised maximum makes its grants before the trunk changes, so that the granted microphones stand before the new trunk leg in
the contributor list. DESIGN CHOICE (log entry 11, unsafe). -/
def State.setChannelCmd (s : State) (w : CmdWords) : Decision :=
  match toFin? 32 w.w1.toNat with
  | none => refuse .badField s
  | some c =>
    let x := s.channel c
    let kind := if w.maskBit 8 then channelKindArg (bit w.w2 0) else x.kind
    let trunk := masked (w.maskBit 10) (slotArg w.w3) x.trunk
    if !w.maskBelow 14 || !maskedOk (w.maskBit 9) (maximumArg w.w2) || !maskedOk (w.maskBit 10) (slotArg w.w3) ||
        !maskedOk (w.maskBit 13) (headroomArg w.w2) || (kind == .group && trunk.isSome) then
      refuse .badField s
    else if x.state = .vacant then refuse .vacant s
    else if w.maskBit 8 ∧ x.state ≠ .closed then refuse .inUse s
    else if w.maskBit 10 && s.trunkClaimed c trunk then refuse .slotClaimed s
    else
      let s1 := (s.modChannel c fun y => y.writeSettings w).passMode x.bridge
        (masked (w.maskBit 13) (headroomArg w.w2) x.headroom)
      let s2 := (s1.writeMaximum c (masked (w.maskBit 9) (maximumArg w.w2) x.maxTalkers)).changeTrunk c trunk
      let clamped :=
        (w.maskBit 11 && (clampArg 0 255 w.w4).2) || (w.maskBit 12 && (clampArg 0 32767 w.w5).2)
      (some (clampedResult clamped), finishAct none [c] s s2)

/-- The live state of a channel is taken down by a retire (R70). -/
def State.takeDownChannel (s : State) (c : ChanNo) : State :=
  let x := s.channel c
  let s1 := s.cancelTimers (x.talkers.map fun e => .silence c e.pos)
  let s2 := (s1.freeOwn x.bridge).unnamePrimary x.trunk
  s2.modChannel c fun y =>
    { y with
      talkers := [], queue := [], bridge := none, trunk := none, noTrunk := false, state := .retiring }

/-- RETIRE-CHANNEL (R70): a CHANNEL-STATE with state VACANT goes to every position that qualified before the act. -/
def State.retireChannel (s : State) (w : CmdWords) : Decision :=
  match toFin? 32 w.w1.toNat with
  | none => refuse .badField s
  | some c =>
    if (s.channel c).state = .vacant then refuse .vacant s
    else if (s.channel c).state = .opened ∧ w.maskBit 8 = false then refuse .inUse s
    else
      let told := (List.finRange 48).filter fun p => s.qualifies c p
      let s1 := told.foldl (fun t p => t.enqueueAt p ⟨.channel c, .channelState, .vacant⟩) (s.takeDownChannel c)
      (none, s1.modMp fun m => { m with job := some (.retireChannel c 0) })

/-- ADD-MEMBER (R68). A channel that the unit is released from is told of before the group. DESIGN CHOICE (log entry 14, unsafe). -/
def State.addMember (s : State) (w : CmdWords) : Decision :=
  match toFin? 32 w.w1.toNat, toFin? 48 w.w2.toNat, toFin? 8 w.w3.toNat with
  | some c, some p, some u =>
    let x := s.channel c
    if x.state = .vacant then refuse .vacant s
    else if x.kind = .hoot then refuse .badField s
    else
      match x.memberUnit p with
      | some v => if v = u then refuse .done s else refuse .exists s
      | none =>
        if (s.designated p u).isSome then refuse .inUse s
        else if Config.maxMembers ≤ x.members.length then refuse .listFull s
        else if x.state = .closed ∧ s.canOpen p u c = false then (some .noBridge, s.post .pool)
        else
          let beside :=
            match s.selection p u with
            | .channel y => if y = c then [] else [y]
            | _ => []
          let s1 := (s.selectChannel p u c).modChannel c fun y => { y with members := y.members ++ [⟨p, u⟩] }
          (some .done, finishMembers c beside s s1)
  | _, _, _ => refuse .badField s

/-- DROP-MEMBER (R69). -/
def State.dropMember (s : State) (w : CmdWords) : Decision :=
  match toFin? 32 w.w1.toNat, toFin? 48 w.w2.toNat with
  | some c, some p =>
    let x := s.channel c
    if x.state = .vacant then refuse .vacant s
    else if x.kind = .hoot ∨ (x.memberUnit p).isNone then refuse .notFound s
    else
      let s1 := ((s.removeEntry c p).releaseUnits p c).modChannel c fun y =>
        { y with members := y.members.filter fun m => m.pos != p }
      (some .done, finishMembers c [] s s1)
  | _, _ => refuse .badField s

/-- PERMIT (R67). -/
def State.permit (s : State) (w : CmdWords) : Decision :=
  match toFin? 32 w.w1.toNat, toFin? 48 w.w2.toNat with
  | some c, some p =>
    if (s.channel c).state = .vacant then refuse .vacant s
    else if (s.channel c).kind = .group then refuse .badField s
    else
      let s1 :=
        if w.maskBit 8 then s.modChannel c fun y => { y with talk := insertAsc p y.talk }
        else s.modChannel c fun y => { y with listen := insertAsc p y.listen }
      (some .done, finishAct none [c] s s1)
  | _, _ => refuse .badField s

/-- UNPERMIT (R67, R85). -/
def State.unpermit (s : State) (w : CmdWords) : Decision :=
  match toFin? 32 w.w1.toNat, toFin? 48 w.w2.toNat with
  | some c, some p =>
    if (s.channel c).state = .vacant then refuse .vacant s
    else if (s.channel c).kind = .group then refuse .badField s
    else if w.maskBit 8 then
      if (s.channel c).talk.contains p then
        let s1 := (s.removeEntry c p).modChannel c fun y => { y with talk := y.talk.filter fun q => q != p }
        (some .done, finishAct none [c] s s1)
      else refuse .done s
    else if (s.channel c).listen.contains p then
      let s1 := (s.releaseUnits p c).modChannel c fun y => { y with listen := y.listen.filter fun q => q != p }
      (some .done, finishAct none [c] s s1)
    else refuse .done s
  | _, _ => refuse .badField s

/-- FORCE-UNTALK (R86). -/
def State.forceUntalk (s : State) (w : CmdWords) : Decision :=
  match toFin? 32 w.w1.toNat, toFin? 48 w.w2.toNat with
  | some c, some p =>
    if (s.channel c).state = .vacant then refuse .vacant s
    else if !((s.channel c).talking p || (s.channel c).queued p) then refuse .notFound s
    else (some .done, finishAct none [c] s (s.removeEntry c p))
  | _, _ => refuse .badField s

/-! ### Settings of BP, TU, TMU, LU and MP -/

/-- A gain or volume of 16 bits brought to a code 0–255 (R93). -/
def codeArg (w : Word) : Byte := BitVec.ofNat 8 (clamp 0 255 w.toNat)

/-- SET-LEG (R93). -/
def State.setLegCmd (s : State) (w : CmdWords) : Decision :=
  match toFin? 784 w.w1.toNat with
  | none => refuse .badField s
  | some g =>
    let x := s.leg g
    if !w.maskBelow 10 || (w.maskBit 8 && x.gain.isNone) || (w.maskBit 9 && x.volume.isNone) then refuse .badField s
    else
      (some (clampedResult ((w.maskBit 8 && 255 < w.w2.toNat) || (w.maskBit 9 && 255 < w.w3.toNat))),
        s.setLeg g
          { x with
            gain := if w.maskBit 8 then some (codeArg w.w2) else x.gain
            volume := if w.maskBit 9 then some (codeArg w.w3) else x.volume })

/-- A polarity code (R133). -/
def polarityArg (w : Word) : Option Polarity :=
  if w = 0#16 then some .activeHigh else if w = 1#16 then some .activeLow else none

/-- A change of polarity: a running qualify timer is cancelled, and a present level that is now active starts it (R133). -/
def State.writePolarity (s : State) (sl : SlotNo) (v : Polarity) : State :=
  if (s.slot sl).polarity = v then s
  else
    let s1 := s.modSlot sl fun x => { x with polarity := v }
    let s2 := if (s.timer (.qualify sl)).running then s1.cancelTimer (.qualify sl) else s1
    if (s1.slot sl).ringActive then s2.startTimer (.qualify sl) (s1.slot sl).qualify else s2

/-- SET-SLOT (R133). -/
def State.setSlotCmd (s : State) (w : CmdWords) : Decision :=
  match toFin? 256 w.w1.toNat with
  | none => refuse .badField s
  | some sl =>
    if !w.maskBelow 10 || !maskedOk (w.maskBit 8) (polarityArg w.w2) then refuse .badField s
    else
      let q := clampArg 10 200 w.w3
      let s1 := if w.maskBit 9 then s.modSlot sl fun x => { x with qualify := q.1 } else s
      (some (clampedResult (w.maskBit 9 && q.2)),
        s1.writePolarity sl (masked (w.maskBit 8) (polarityArg w.w2) (s.slot sl).polarity))

/-- The settings of a generator written; an IDLE one takes them into force at once (R153). -/
def Generator.write (g : Generator) (on off : Nat) : Generator :=
  match g.state with
  | .idle => { g with onSetting := on, offSetting := off, onForce := on, offForce := off }
  | .on | .off => { g with onSetting := on, offSetting := off }

/-- SET-CADENCE (R153). -/
def State.setCadence (s : State) (w : CmdWords) : Decision :=
  match toFin? 8 w.w1.toNat with
  | none => refuse .badField s
  | some g =>
    let a := clampArg 1 1000 w.w2
    let b := clampArg 0 1000 w.w3
    (some (clampedResult (a.2 || b.2)), s.setGenerator g ((s.generator g).write a.1 b.1))

/-- The link of a position is enabled (R164). -/
def State.enableLink (s : State) (p : Pos) : State :=
  s.modLink p fun x =>
    match x.state with
    | .disabled => { x with state := .hunt, goodCount := 0, huntBytes := [] }
    | .hunt | .locked => x

/-- The link of a position is disabled: teardown, then DISABLED, with the grace timer cancelled (R164). -/
def State.disableLink (s : State) (p : Pos) : State :=
  match (s.link p).state with
  | .disabled => s
  | .hunt | .locked =>
    ((s.teardown p).cancelTimer (.grace p)).modLink p fun x =>
      { x with state := .disabled, huntBytes := [], rawLeft := 0, rawRight := 0, rawMic := 0 }

/-- A value word of two codes, 0 and 1 (R190). -/
def boolArg (w : Word) : Option Bool := if w = 0#16 then some false else if w = 1#16 then some true else none

/-- SET-POSITION (R190). -/
def State.setPosition (s : State) (w : CmdWords) : Decision :=
  match toFin? 48 w.w1.toNat with
  | none => refuse .badField s
  | some p =>
    if !w.maskBelow 10 || !maskedOk (w.maskBit 8) (boolArg w.w2) || !maskedOk (w.maskBit 9) (boolArg w.w3) then
      refuse .badField s
    else
      let s1 :=
        if w.maskBit 9 then
          s.modLink p fun x => { x with switchAction := if w.w3 = 1#16 then .hold else .release }
        else s
      (some .done,
        if w.maskBit 8 then (if w.w2 = 1#16 then s1.enableLink p else s1.disableLink p) else s1)

/-- SET-TIMING (R191). -/
def State.setTiming (s : State) (w : CmdWords) : Decision :=
  if !w.maskBelow 11 then refuse .badField s
  else
    let f := clampArg 10 2000 w.w1
    let r := clampArg 100 60000 w.w2
    let g := clampArg 0 10000 w.w3
    (some (clampedResult ((w.maskBit 8 && f.2) || (w.maskBit 9 && r.2) || (w.maskBit 10 && g.2))),
      s.modMp fun m =>
        { m with
          faultConfirm := if w.maskBit 8 then f.1 else m.faultConfirm
          restore := if w.maskBit 9 then r.1 else m.restore
          grace := if w.maskBit 10 then g.1 else m.grace })

/-- CLEAR-MARKS (R192). -/
def State.clearMarks (s : State) (w : CmdWords) : Decision :=
  match w.w1.toNat with
  | 0 =>
    match toFin? 96 w.w2.toNat with
    | none => refuse .badField s
    | some b => (some .done, s.modBridge b fun x => { x with limit := false })
  | 1 =>
    match toFin? 48 w.w2.toNat with
    | none => refuse .badField s
    | some p =>
      (some .done, s.modLink p fun x => { x with badFrame := false, messageLost := false, overrun := false })
  | 2 =>
    match toFin? 192 w.w2.toNat with
    | none => refuse .badField s
    | some l =>
      if (s.line l).state = .vacant then refuse .vacant s
      else
        (some .done,
          finishAct none [] s (s.modLine l fun x => { x with marks := { x.marks with missed := false } }))
  | _ => refuse .badField s

/-- The start act of FLOOR-RESET (R179, R193): buffers and queues emptied, messages in transmission abandoned, grace timers
cancelled. -/
def State.startFloorReset (s : State) : Decision :=
  let s1 :=
    { s with
      links := tabMap
        (fun (x : Link) => { x with requests := [], answers := [], indications := [], transmit := [] }) s.links }
  (none,
    (s1.cancelTimers ((List.finRange 48).map TimerId.grace)).modMp fun m => { m with job := some (.floorReset .lines) })

/-! ### The command slot (R188, R189) -/

/-- The owner's decision of a command, by its code (chapter 11, Table 5). -/
def State.decideCommand (s : State) (code : Byte) (w : CmdWords) : Decision :=
  match code.toNat with
  | 0x01 => s.createLine w
  | 0x02 => s.setLineCmd w
  | 0x03 => s.retireLine w
  | 0x04 => s.addAppearance w
  | 0x05 => s.dropAppearance w
  | 0x06 => s.forceRelease w
  | 0x07 => s.createChannel w
  | 0x08 => s.setChannelCmd w
  | 0x09 => s.retireChannel w
  | 0x0A => s.addMember w
  | 0x0B => s.dropMember w
  | 0x0C => s.permit w
  | 0x0D => s.unpermit w
  | 0x0E => s.forceUntalk w
  | 0x0F => s.setLegCmd w
  | 0x10 => s.setSlotCmd w
  | 0x11 => s.setCadence w
  | 0x12 => s.setPosition w
  | 0x13 => s.setTiming w
  | 0x14 => s.clearMarks w
  | 0x15 => s.startFloorReset
  | _ => refuse .badCommand s

/-- Completion of a command: the result is written, the slot becomes DONE and the DONE event is posted (R188). -/
def State.complete (s : State) (r : Result) : State :=
  (s.modMp fun m => { m with result := r, slot := .done, job := none }).post .done

/-- The slot becomes BUSY and the result word NONE (R188). -/
def State.startSlot (s : State) : State := s.modMp fun m => { m with slot := .busy, result := .none }

/-- GO written to offset 16: ignored with CMD-OVERRUN while the slot is BUSY; otherwise the command of the buffer starts, and a
command that completes in the act reaches DONE in it (R188).
DEDUCED for a row of Table 5 and for CMD_OVERRUN (log entry 3, safe). -/
def State.go (s : State) : State :=
  match s.mp.slot with
  | .busy => s.post .cmdOverrun
  | .idle | .done =>
    match s.startSlot.decideCommand (bufferCode s.mp.buffer) (bufferWords s.mp.buffer) with
    | (some r, s1) => s1.complete r
    | (none, s1) => s1

/-- The command words written into the buffer, each by a CONTROL write (R184, R185). DEDUCED (log entry 3, safe). -/
def State.loadCommand (s : State) (code : Byte) (w : CmdWords) : State :=
  s.modMp fun m => { m with buffer := w.toBuffer code, port := Port.quiet }

/-- The system controller writes a command into the buffer and writes GO (R188, section 10.7). -/
def State.command (s : State) (code : Byte) (w : CmdWords) : State := (s.loadCommand code w).go

/-! ### One meaning per row -/

/-- CREATE-LINE (R12, R13). -/
def execCreateLine (w : CmdWords) (s : State) : Host.Outcome State Fault Refusal := .next (s.command 0x01#8 w)

/-- SET-LINE (R14, R15). -/
def execSetLine (w : CmdWords) (s : State) : Host.Outcome State Fault Refusal := .next (s.command 0x02#8 w)

/-- RETIRE-LINE (R20). -/
def execRetireLine (w : CmdWords) (s : State) : Host.Outcome State Fault Refusal := .next (s.command 0x03#8 w)

/-- ADD-APPEARANCE (R16). -/
def execAddAppearance (w : CmdWords) (s : State) : Host.Outcome State Fault Refusal := .next (s.command 0x04#8 w)

/-- DROP-APPEARANCE (R17–R19). -/
def execDropAppearance (w : CmdWords) (s : State) : Host.Outcome State Fault Refusal := .next (s.command 0x05#8 w)

/-- FORCE-RELEASE (R35). -/
def execForceRelease (w : CmdWords) (s : State) : Host.Outcome State Fault Refusal := .next (s.command 0x06#8 w)

/-- CREATE-CHANNEL (R65). -/
def execCreateChannel (w : CmdWords) (s : State) : Host.Outcome State Fault Refusal := .next (s.command 0x07#8 w)

/-- SET-CHANNEL (R66, R87, R88). -/
def execSetChannel (w : CmdWords) (s : State) : Host.Outcome State Fault Refusal := .next (s.command 0x08#8 w)

/-- RETIRE-CHANNEL (R70). -/
def execRetireChannel (w : CmdWords) (s : State) : Host.Outcome State Fault Refusal := .next (s.command 0x09#8 w)

/-- ADD-MEMBER (R68). -/
def execAddMember (w : CmdWords) (s : State) : Host.Outcome State Fault Refusal := .next (s.command 0x0A#8 w)

/-- DROP-MEMBER (R69). -/
def execDropMember (w : CmdWords) (s : State) : Host.Outcome State Fault Refusal := .next (s.command 0x0B#8 w)

/-- PERMIT (R67). -/
def execPermit (w : CmdWords) (s : State) : Host.Outcome State Fault Refusal := .next (s.command 0x0C#8 w)

/-- UNPERMIT (R67, R85). -/
def execUnpermit (w : CmdWords) (s : State) : Host.Outcome State Fault Refusal := .next (s.command 0x0D#8 w)

/-- FORCE-UNTALK (R86). -/
def execForceUntalk (w : CmdWords) (s : State) : Host.Outcome State Fault Refusal := .next (s.command 0x0E#8 w)

/-- SET-LEG (R93). -/
def execSetLeg (w : CmdWords) (s : State) : Host.Outcome State Fault Refusal := .next (s.command 0x0F#8 w)

/-- SET-SLOT (R133). -/
def execSetSlot (w : CmdWords) (s : State) : Host.Outcome State Fault Refusal := .next (s.command 0x10#8 w)

/-- SET-CADENCE (R153). -/
def execSetCadence (w : CmdWords) (s : State) : Host.Outcome State Fault Refusal := .next (s.command 0x11#8 w)

/-- SET-POSITION (R190). -/
def execSetPosition (w : CmdWords) (s : State) : Host.Outcome State Fault Refusal := .next (s.command 0x12#8 w)

/-- SET-TIMING (R191). -/
def execSetTiming (w : CmdWords) (s : State) : Host.Outcome State Fault Refusal := .next (s.command 0x13#8 w)

/-- CLEAR-MARKS (R192). -/
def execClearMarks (w : CmdWords) (s : State) : Host.Outcome State Fault Refusal := .next (s.command 0x14#8 w)

/-- FLOOR-RESET: its start act (R193). -/
def execFloorReset (w : CmdWords) (s : State) : Host.Outcome State Fault Refusal := .next (s.command 0x15#8 w)

/-- A command with a code byte of its own: an unknown one has the result BAD-COMMAND (R189). -/
def execUnknownCommand (code : Byte) (w : CmdWords) (s : State) : Host.Outcome State Fault Refusal :=
  .next (s.command code w)

/-- A GO written to offset 16 with the buffer as it stands: CMD-OVERRUN while the slot is BUSY (R188). -/
def execCmdOverrun (s : State) : Host.Outcome State Fault Refusal :=
  .next (s.modMp fun m => { m with port := Port.quiet }).go

end Sys2Proof.Machine
end

