-- ==== Sys2Proof/Machine/Formats.lean ====
section
/-! DEFINITION. The codes of chapter 11, and the bytes of the downstream messages that R197 builds from them. -/

namespace Sys2Proof.Machine

/-! ### Codes (chapter 11, Tables 1 to 4) -/

/-- The state of a line. -/
def LineState.code (x : LineState) : Nat :=
  match x with
  | .vacant => 0
  | .idle => 1
  | .alerting => 2
  | .connected => 3
  | .held => 4
  | .lockout => 5
  | .retiring => 6

/-- The kind of a line. -/
def LineKind.code (x : LineKind) : Nat :=
  match x with
  | .auto => 0
  | .manual => 1
  | .nailed => 2

/-- A privacy. -/
def Privacy.code (x : Privacy) : Nat :=
  match x with
  | .shared => 0
  | .secluded => 1

/-- A hold mode. -/
def HoldMode.code (x : HoldMode) : Nat :=
  match x with
  | .exclusive => 0
  | .common => 1

/-- An active route. -/
def Route.code (x : Route) : Nat :=
  match x with
  | .none => 0
  | .primary => 1
  | .alternate => 2

/-- A headroom mode. -/
def HeadroomKind.code (x : HeadroomKind) : Nat :=
  match x with
  | .fixed => 0
  | .auto => 1

/-- A handset. -/
def handsetCode (h : Handset) : Nat :=
  match h with
  | .left => 0
  | .right => 1

/-- The state of a channel. -/
def ChannelState.code (x : ChannelState) : Nat :=
  match x with
  | .vacant => 0
  | .closed => 1
  | .opened => 2
  | .retiring => 3

/-- The kind of a channel. -/
def ChannelKind.code (x : ChannelKind) : Nat :=
  match x with
  | .hoot => 0
  | .group => 1

/-- The state of a bridge. -/
def BridgeState.code (x : BridgeState) : Nat :=
  match x with
  | .free => 0
  | .inUse => 1

/-- The state of a slot. -/
def SlotState.code (x : SlotState) : Nat :=
  match x with
  | .unassigned => 0
  | .standby => 1
  | .active => 2
  | .fault => 3

/-- A polarity. -/
def Polarity.code (x : Polarity) : Nat :=
  match x with
  | .activeHigh => 0
  | .activeLow => 1

/-- The state of a generator. -/
def GenState.code (x : GenState) : Nat :=
  match x with
  | .idle => 0
  | .on => 1
  | .off => 2

/-- The state of a link. -/
def LinkState.code (x : LinkState) : Nat :=
  match x with
  | .disabled => 0
  | .hunt => 1
  | .locked => 2

/-- A switch action. -/
def SwitchAction.code (x : SwitchAction) : Nat :=
  match x with
  | .release => 0
  | .hold => 1

/-- The state of the command slot (chapter 11 section 11.2). -/
def CommandState.code (x : CommandState) : Nat :=
  match x with
  | .idle => 0
  | .busy => 1
  | .done => 2

/-- The result of a command (chapter 11 section 11.2). -/
def Result.code (x : Result) : Nat :=
  match x with
  | .none => 0x00
  | .done => 0x01
  | .doneClamped => 0x02
  | .badCommand => 0x10
  | .badField => 0x11
  | .vacant => 0x12
  | .exists => 0x13
  | .inUse => 0x14
  | .slotClaimed => 0x15
  | .keyTaken => 0x16
  | .listFull => 0x17
  | .noBridge => 0x18
  | .notFound => 0x19

/-- The reason of a refusal (R197). -/
def Reason.code (x : Reason) : Nat :=
  match x with
  | .vacant => 0x01
  | .notAppearing => 0x02
  | .outOfService => 0x03
  | .noBridge => 0x04
  | .secluded => 0x05
  | .full => 0x06
  | .notSole => 0x07
  | .notHolder => 0x08
  | .notOccupant => 0x09
  | .notOwner => 0x0A
  | .noPermission => 0x0B
  | .unitFixed => 0x0C
  | .floorFull => 0x0D
  | .micBusy => 0x0E
  | .badRequest => 0x0F
  | .resetting => 0x10

/-- An owner's number, absent as the all-ones word. -/
def ownerWord (o : Option Owner) : Word :=
  match o with
  | none => 0xFFFF#16
  | some (.line l) => word l.val
  | some (.channel c) => word c.val

/-- An owner's kind bit: line 0, channel 1, and 1 when the owner is absent (chapter 11, Table 3). -/
def ownerKind (o : Option Owner) : Nat :=
  match o with
  | some (.line _) => 0
  | _ => 1

/-- The marks of a line, MISSED in bit 0 to RING-OUT in bit 4 (chapter 11, Table 1). -/
def Marks.code (m : Marks) : Nat :=
  flag m.missed + 2 * flag m.farSignal + 4 * flag m.noRoute + 8 * flag m.recalled + 16 * flag m.ringOut

/-! ### Message bytes (R197) -/

/-- An occupant: position in bits 0–5, handset in bit 6 (chapter 11, Table 1). -/
def Occupant.byte (o : Occupant) : Byte := packByte [(o.pos.val, 0), (handsetCode o.handset, 6)]

/-- A floor entry: position in bits 0–5, latched in bit 6 (R197). -/
def FloorEntry.byte (e : FloorEntry) : Byte := packByte [(e.pos.val, 0), (flag e.latched, 6)]

/-- An optional position in a byte of its own: FFh when absent. -/
def positionByte (o : Option Pos) : Byte :=
  match o with
  | none => 0xFF#8
  | some p => BitVec.ofNat 8 p.val

/-- The bytes of an answer (R197). -/
def Answer.bytes (a : Answer) : List Byte :=
  match a.result with
  | .accepted => [0x80#8, 3#8, a.code, 0x00#8, 0x00#8]
  | .queued => [0x80#8, 3#8, a.code, 0x01#8, 0x00#8]
  | .refused r => [0x80#8, 3#8, a.code, 0x02#8, BitVec.ofNat 8 r.code]

/-- The code byte of an indication (R197). -/
def IndKind.code (k : IndKind) : Byte :=
  match k with
  | .lineState => 0x81#8
  | .holdRecall => 0x82#8
  | .channelState => 0x83#8
  | .talkGranted => 0x84#8
  | .floorLost => 0x85#8

/-- The number of a subject. -/
def Subject.number (x : Subject) : Nat :=
  match x with
  | .key k => k.val
  | .channel c => c.val

/-- The fields of a LINE-STATE after its key (R197). -/
def LineView.bytes (v : LineView) : List Byte :=
  [packByte [(v.state.code, 0), (v.kind.code, 3), (v.privacy.code, 5), (v.route.code, 6)],
    packByte [(v.marks.code, 0)], positionByte v.holdOwner] ++ padBytes 4 (v.occupants.map Occupant.byte)

/-- The floor status byte of a CHANNEL-STATE (R197). -/
def FloorStatus.byte (f : FloorStatus) : Byte :=
  match f with
  | .none => 0#8
  | .talking latched => packByte [(1, 0), (flag latched, 2)]
  | .queued latched place => packByte [(2, 0), (flag latched, 2), (place, 4)]

/-- The selecting units as a mask, unit u in bit u (R197). -/
def unitMask (units : List Bool) : Byte := packByte (units.zipIdx.map fun e => (flag e.1, e.2))

/-- The position fields of a CHANNEL-STATE (R197). -/
def PositionView.bytes (p : PositionView) : List Byte :=
  [unitMask p.units,
    packByte [(flag p.listen, 0), (flag p.talk, 1), (flag p.member.isSome, 2), (optBits 4 p.member, 3)],
    p.floor.byte]

/-- The fields of a CHANNEL-STATE after its channel number (R197). -/
def channelBytes (c : ChannelView) (p : PositionView) : List Byte :=
  [packByte [(c.state.code, 0), (c.kind.code, 2), (flag c.noTrunk, 3), (c.maxTalkers, 4)]] ++ p.bytes ++
    padBytes 3 (c.talkers.map FloorEntry.byte) ++ padBytes 8 (c.queue.map FloorEntry.byte)

/-- The fields of an indication after its subject number; the VACANT form has a state byte alone (R197). -/
def Content.bytes (x : Content) : List Byte :=
  match x with
  | .vacant => [0#8]
  | .line v => v.bytes
  | .channel c p => channelBytes c p

/-- The bytes of an indication: code, field length and fields (R197). -/
def Indication.bytes (i : Indication) : List Byte :=
  [i.kind.code, BitVec.ofNat 8 (i.content.bytes.length + 1), BitVec.ofNat 8 i.subject.number] ++ i.content.bytes

end Sys2Proof.Machine
end

