-- ==== Sys2Proof/Machine/Links.lean ====
section
/-! DEFINITION. The Link Unit (chapter 9): the search of a HUNT link, the frames of a LOCKED one, the assembly of requests, the full
refresh, and the downstream frame with its messages and status byte. -/

namespace Sys2Proof.Machine

/-! ### The full refresh (R176) -/

/-- The LINE-STATE of a key in a full refresh: the visible fields of its line, VACANT for an empty key or a RETIRING line. -/
def State.refreshKey (s : State) (p : Pos) (k : Key) : Indication :=
  match s.keyLine p k with
  | none => ⟨.key k, .lineState, .vacant⟩
  | some l => ⟨.key k, .lineState, (s.line l).content⟩

/-- The position holds a permission, a membership or a unit selection of the channel. -/
def State.concerns (s : State) (p : Pos) (c : ChanNo) : Bool :=
  (s.channel c).mayListen p || (s.channel c).mayTalk p || ((s.channel c).memberUnit p).isSome || s.anySelects p c

/-- The CHANNEL-STATE of a channel in a full refresh: VACANT where the channel is not open to the position. -/
def State.refreshChannel (s : State) (p : Pos) (c : ChanNo) : Indication :=
  ⟨.channel c, .channelState, if s.concerns p c then s.channelContent c p else .vacant⟩

/-- The 96 indications of a full refresh, in their order. -/
def State.refreshList (s : State) (p : Pos) : List Indication :=
  (List.finRange 64).map (s.refreshKey p) ++ (List.finRange 32).map (s.refreshChannel p)

/-- A full refresh of a position (R176). -/
def State.fullRefresh (s : State) (p : Pos) : State :=
  s.modLink p fun x => (s.refreshList p).foldl Link.indicate x

/-! ### HUNT (R165) -/

/-- The search of the upstream stream at every byte position: whether it locks, the good count, and the bytes it has not yet
settled. A first good frame moves the search past that frame; a second one that follows it at once locks; any other byte
position returns the good count to 0. `fuel` is the number of byte positions at most. DEDUCED (log entry 13, unsafe). -/
def huntSearch (fuel : Nat) (good : Nat) (bytes : List Byte) : Bool × Nat × List Byte :=
  match fuel with
  | 0 => (false, good, bytes)
  | n + 1 =>
    if bytes.length < Config.upstreamBytes then (false, good, bytes)
    else if isGoodFrame (bytes.take Config.upstreamBytes) then
      if good = 1 then (true, good, bytes.drop Config.upstreamBytes)
      else huntSearch n 1 (bytes.drop Config.upstreamBytes)
    else huntSearch n 0 (bytes.drop 1)

/-- The act of becoming LOCKED (R165): the bad count is 0, the assembly starts at BETWEEN, the grace timer is cancelled, a full
refresh is enqueued (not while FLOOR-RESET is in progress), and LINK is posted. -/
def State.lockLink (s : State) (p : Pos) : State :=
  let s1 :=
    (s.modLink p fun x =>
      { x with state := .locked, badCount := 0, assembly := .between, huntBytes := [] }).cancelTimer (.grace p)
  (if s.resetting then s1 else s1.fullRefresh p).post .link

/-- The bytes that reach the receiver of a HUNT link in one sample frame (R165). -/
def State.takeHunt (s : State) (p : Pos) (bytes : List Byte) : State :=
  let stream := (s.link p).huntBytes ++ bytes
  match huntSearch stream.length (s.link p).goodCount stream with
  | (locks, good, rest) =>
    let s1 := s.modLink p fun x => { x with goodCount := good, huntBytes := rest }
    if locks then s1.lockLink p else s1

/-! ### Messages and requests (R168–R170) -/

/-- A complete message: the assembly returns to BETWEEN and the request goes to the buffer, or is discarded at a full one with
OVERRUN (R168, R169). -/
def State.completeRequest (s : State) (p : Pos) (r : Request) : State :=
  if (s.link p).requests.length < Config.maxRequests then
    s.modLink p fun x => { x with assembly := .between, requests := x.requests ++ [r] }
  else (s.modLink p fun x => { x with assembly := .between, overrun := true }).post .overrun

/-- A message discarded for its field length: MESSAGE-LOST is set, and LINK is posted if it was clear (R168, R170). -/
def State.loseMessage (s : State) (p : Pos) : State :=
  let s1 := s.modLink p fun x => { x with assembly := .between, messageLost := true }
  if (s.link p).messageLost then s1 else s1.post .link

/-- The assembly takes one message byte (R168). -/
def State.assemble (s : State) (p : Pos) (b : Byte) : State :=
  match (s.link p).assembly with
  | .between => if b = 0#8 then s else s.modLink p fun x => { x with assembly := .awaitLength b }
  | .awaitLength code =>
    if b = 0#8 then s.completeRequest p ⟨code, []⟩
    else if b.toNat ≤ Config.maxFields then s.modLink p fun x => { x with assembly := .awaitFields code b.toNat [] }
    else s.loseMessage p
  | .awaitFields code n got =>
    if n ≤ got.length + 1 then s.completeRequest p ⟨code, got ++ [b]⟩
    else s.modLink p fun x => { x with assembly := .awaitFields code n (got ++ [b]) }

/-! ### LOCKED (R166) -/

/-- The sample in bytes `i` and `i + 1` of a frame. -/
def frameSample (bytes : List Byte) (i : Nat) : Sample := sampleOf (bytes.getD i 0) (bytes.getD (i + 1) 0)

/-- A good frame of a LOCKED link (R166). -/
def State.takeGood (s : State) (p : Pos) (bytes : List Byte) : State :=
  (s.modLink p fun x =>
    { x with
      badCount := 0, rawLeft := frameSample bytes 2, rawRight := frameSample bytes 4
      rawMic := frameSample bytes 6 }).assemble p (bytes.getD 8 0)

/-- The link falls from LOCKED to HUNT (R166, R177). -/
def State.loseLock (s : State) (p : Pos) : State :=
  ((s.modLink p fun x => { x with state := .hunt, goodCount := 0, badCount := 0, huntBytes := [] }).startTimer
    (.grace p) s.mp.grace).post .link

/-- A message is in progress in the assembly. -/
def Assembly.inProgress (a : Assembly) : Bool :=
  match a with
  | .between => false
  | .awaitLength _ | .awaitFields _ _ _ => true

/-- The link after the samples, the flags and the count of a bad frame (R166). -/
def Link.bad (x : Link) : Link :=
  { x with
    rawLeft := 0, rawRight := 0, rawMic := 0, badFrame := true
    messageLost := x.messageLost || x.assembly.inProgress, assembly := .between, badCount := x.badCount + 1 }

/-- A bad frame sets a flag that was clear (R170). -/
def Link.flagsAnew (x : Link) : Bool := !x.badFrame || (x.assembly.inProgress && !x.messageLost)

/-- A bad frame of a LOCKED link (R166, R170). -/
def State.takeBad (s : State) (p : Pos) : State :=
  let s1 := s.modLink p Link.bad
  let s2 := if (s.link p).flagsAnew then s1.post .link else s1
  if Config.badLimit ≤ (s.link p).badCount + 1 then s2.loseLock p else s2

/-- What the stream of a link brings in one sample frame, taken as the link's state says: a DISABLED link takes nothing (R164), a
HUNT link searches (R165), a LOCKED one takes a good or a bad frame (R166). -/
def State.upstream (s : State) (p : Pos) (bytes : List Byte) : State :=
  match (s.link p).state with
  | .disabled => s
  | .hunt => s.takeHunt p bytes
  | .locked => if isGoodFrame bytes then s.takeGood p bytes else s.takeBad p

/-! ### Downstream (R155, R167, R174) -/

/-- The ringer mark of a position (R155). -/
def State.ringerMark (s : State) (p : Pos) : Bool :=
  (List.finRange 64).any fun k =>
    match s.keyLine p k with
    | none => false
    | some l =>
      (s.line l).state == .alerting &&
        (match (s.line l).appearanceAt p with | some a => a.ring | none => false) &&
        (match (s.line l).refGen with | some g => (s.generator g).state == .on | none => false)

/-- The transmitter chooses the next message: the oldest answer, else the first indication, else none (R174). -/
def Link.choose (x : Link) : Link :=
  match x.answers, x.indications with
  | a :: rest, _ => { x with answers := rest, transmit := a.bytes }
  | [], i :: rest => { x with indications := rest, transmit := i.bytes }
  | [], [] => x

/-- One byte of the downstream message stream: the next of the message in transmission, the first of a message chosen now, or
fill 00h (R174). -/
def Link.sendByte (x : Link) : Byte × Link :=
  let y := match x.transmit with | [] => x.choose | _ :: _ => x
  match y.transmit with
  | [] => (0#8, y)
  | b :: rest => (b, { y with transmit := rest })

/-- The status byte of a downstream frame (chapter 11, Table 6). -/
def statusByte (ringer : Bool) (x : Link) : Byte :=
  packByte [(flag ringer, 0), (flag x.badFrame, 1), (flag x.messageLost, 2), (flag x.overrun, 3)]

/-- The sample that the frame of a position carries for a leg: what the leg is sent while the link is LOCKED, 0 in HUNT (R105, R114,
R167). -/
def State.legSample (s : State) (p : Pos) (g : LegNo) : Sample :=
  match (s.link p).state with
  | .locked => s.sentSample g
  | .disabled | .hunt => 0

/-- The ten samples of a downstream frame: handset L, handset R, speaker units 0–7 (chapter 11, Table 6). -/
def State.downstreamSamples (s : State) (p : Pos) : List Sample :=
  [s.legSample p (handsetLeg p .left), s.legSample p (handsetLeg p .right)] ++
    (List.finRange 8).map fun u => s.legSample p (unitLeg p u)

/-- A downstream frame from its samples, its two message bytes and its status byte (R167). -/
def frameBytes (samples : List Sample) (m1 m2 status : Byte) : List Byte :=
  let others := [0x3C#8, 0xA5#8] ++ samples.flatMap sampleBytes ++ [m1, m2, status]
  others ++ [checkByte others]

/-- The transmitter of a HUNT or LOCKED link sends one frame; a DISABLED link sends none (R167). -/
def State.sendFrame (s : State) (p : Pos) : State :=
  match (s.link p).state with
  | .disabled => s.modLink p fun x => { x with sent := [] }
  | .hunt | .locked =>
    let a := (s.link p).sendByte
    let b := a.2.sendByte
    s.setLink p
      { b.2 with sent := frameBytes (s.downstreamSamples p) a.1 b.1 (statusByte (s.ringerMark p) (s.link p)) }

/-! ### One meaning per row -/

/-- HUNT-FRAME (R165): the bytes the stream brings in one sample frame. -/
def execHuntFrame (p : Pos) (bytes : List Byte) (s : State) : Host.Outcome State Fault Refusal :=
  .next (s.upstream p bytes)

/-- GOOD-FRAME (R166, R168). -/
def execGoodFrame (p : Pos) (bytes : List Byte) (s : State) : Host.Outcome State Fault Refusal :=
  .next (s.upstream p bytes)

/-- BAD-FRAME (R166); no bytes stand for a frame place in which the stream carries nothing. -/
def execBadFrame (p : Pos) (bytes : List Byte) (s : State) : Host.Outcome State Fault Refusal :=
  .next (s.upstream p bytes)

/-- DOWNSTREAM-FRAME (R167). -/
def execDownstreamFrame (p : Pos) (s : State) : Host.Outcome State Fault Refusal := .next (s.sendFrame p)

end Sys2Proof.Machine
end

