-- ==== Sys2Proof/Machine/FloorReset.lean ====
section
/-! DEFINITION. What goes on after the act of a command: the acts 2 to 6 of FLOOR-RESET (R193) and the visits of the retire sweeps
(R21, R22, R71); and the reset input (R194). An act that is not the next one of the command in progress is turned away: nothing
happens (log entry 4). -/

namespace Sys2Proof.Machine

/-- The next act of the command that runs over several acts. -/
def State.setJob (s : State) (j : Job) : State := s.modMp fun m => { m with job := some j }

/-! ### Act 2: lines (R23) -/

/-- A leg attached to one of the bridges that `gone` picks is detached. -/
def State.detached (s : State) (gone : Bridge → Bool) (x : Leg) : Leg :=
  match x.attach with
  | none => x
  | some b => if gone (s.bridge b) then { x with attach := none } else x

/-- Every bridge that `gone` picks is freed (R101). -/
def State.freeBridges (s : State) (gone : Bridge → Bool) : State :=
  { s with
    bridges := tabMap (fun b => if gone b then Bridge.free else b) s.bridges
    legs := tabMap (s.detached gone) s.legs }

/-- A bridge that a line owns. -/
def Bridge.lineOwned (b : Bridge) : Bool :=
  match b.owner with
  | some (.line _) => true
  | _ => false

/-- A bridge that a channel owns. -/
def Bridge.channelOwned (b : Bridge) : Bool :=
  match b.owner with
  | some (.channel _) => true
  | _ => false

/-- A line record that gives up its live state (R23); its state is IDLE or LOCKOUT by its active route as it stands. -/
def Line.resetLive (x : Line) : Line :=
  match x.state with
  | .vacant => x
  | .alerting | .connected | .held =>
    { x with
      state := if x.route = .none then .lockout else .idle
      currentPrivacy := x.defaultPrivacy, occupants := [], monitors := [], holdOwner := none, refGen := none
      bridge := none, marks := Marks.clear }
  | .idle | .lockout | .retiring =>
    { x with
      currentPrivacy := x.defaultPrivacy, occupants := [], monitors := [], holdOwner := none, refGen := none
      bridge := none, marks := Marks.clear }

/-- The monitor selection of a unit is cleared (R48). -/
def Selection.dropLine (x : Selection) : Selection :=
  match x with
  | .line _ => .none
  | y => y

/-- Every generator is IDLE with the settings in force (R154). -/
def Generator.reset (g : Generator) : Generator :=
  { g with onForce := g.onSetting, offForce := g.offSetting, state := .idle, phaseFrames := 0, refs := 0 }

/-- Every line timer is cancelled. -/
def State.cancelLineTimers (s : State) : State :=
  { s with
    timers :=
      { s.timers with
        ringTimeout := tabMapIdx (fun l t => t.cancel (s.expiryInFlight (.ringTimeout l))) s.timers.ringTimeout
        holdRecall := tabMapIdx (fun l t => t.cancel (s.expiryInFlight (.holdRecall l))) s.timers.holdRecall
        burst := tabMapIdx (fun l t => t.cancel (s.expiryInFlight (.burst l))) s.timers.burst } }

/-- Act 2 of FLOOR-RESET (R23, R106, R128, R154). -/
def State.resetLines (s : State) : State :=
  let s1 := (s.freeBridges Bridge.lineOwned).cancelLineTimers
  { s1 with
    lines := tabMap Line.resetLive s1.lines
    selections := tabMap (tabMap Selection.dropLine) s1.selections
    generators := tabMap Generator.reset s1.generators }

/-! ### Act 3: channels (R72, R89) -/

/-- The designated units of the GROUP channels. -/
def State.designations (s : State) : List (Pos × UnitNo) :=
  ((List.finRange 32).filter fun c => (s.channel c).live && (s.channel c).kind == .group).flatMap fun c =>
    (s.channel c).members.map fun m => (m.pos, m.unit)

/-- A channel record that gives up its live state (R72). -/
def Channel.resetLive (x : Channel) : Channel :=
  match x.state with
  | .opened => { x with talkers := [], queue := [], bridge := none, state := .closed }
  | .vacant | .closed | .retiring => { x with talkers := [], queue := [], bridge := none }

/-- Every silence timer is cancelled (R81). -/
def State.cancelSilenceTimers (s : State) : State :=
  { s with
    timers :=
      { s.timers with
        silence :=
          tabMapIdx (fun c row => tabMapIdx (fun p t => t.cancel (s.expiryInFlight (.silence c p))) row)
            s.timers.silence } }

/-- Act 3 of FLOOR-RESET (R72, R89, R106). -/
def State.resetChannels (s : State) : State :=
  let kept := s.designations
  let s1 := (s.freeBridges Bridge.channelOwned).cancelSilenceTimers
  { s1 with
    channels := tabMap Channel.resetLive s1.channels
    selections := tabMapIdx
      (fun p row => tabMapIdx (fun u x => if kept.contains (p, u) then x else Selection.none) row) s1.selections }

/-! ### Act 4: routes (R148) -/

/-- Every claim ends without any serving (R148 step 1). -/
def Slot.endClaim (x : Slot) : Slot :=
  match x.state with
  | .active => { x with state := .standby, claimant := none, ringOut := false }
  | .unassigned | .standby | .fault => { x with ringOut := false }

/-- The slot timers of R148 step 2: every one is cancelled, then the fault-confirm timer of a STANDBY slot with its level ABSENT
and the restore timer of a FAULT slot with its level PRESENT are started. -/
def State.restartSlotTimers (s : State) : State :=
  { s with
    timers :=
      { s.timers with
        qualify := tabMapIdx (fun sl t => t.cancel (s.expiryInFlight (.qualify sl))) s.timers.qualify
        faultConfirm := tabMapIdx
          (fun sl t =>
            let u := t.cancel (s.expiryInFlight (.faultConfirm sl))
            if (s.slot sl).state = .standby ∧ (s.slot sl).alive = false then u.start s.mp.faultConfirm else u)
          s.timers.faultConfirm
        restore := tabMapIdx
          (fun sl t =>
            let u := t.cancel (s.expiryInFlight (.restore sl))
            if (s.slot sl).state = .fault ∧ (s.slot sl).alive = true then u.start s.mp.restore else u)
          s.timers.restore } }

/-- A channel claims its trunk anew, or has NO-TRUNK set (R148 step 3). -/
def State.reclaimTrunk (s : State) (c : ChanNo) : State :=
  (s.modChannel c fun x => { x with noTrunk := true }).claimTrunk c (s.channel c).trunk

/-- A line without a route claims a slot it names if that is STANDBY (R148 steps 4 and 5). -/
def State.reclaimRoute (s : State) (l : LineNo) (sl : Option SlotNo) : State :=
  match sl with
  | none => s
  | some n => if (s.line l).route = .none ∧ (s.slot n).state = .standby then s.claimLine l n else s

/-- The active route of a line that is not VACANT is given up. -/
def Line.endRoute (x : Line) : Line :=
  match x.state with
  | .vacant => x
  | _ => { x with route := .none }

/-- A line with a route is IDLE, and one without is LOCKOUT (R148). -/
def Line.settleRoute (x : Line) : Line :=
  match x.state with
  | .vacant => x
  | _ => if x.route = .none then x.enterLockout else x.enterIdle

/-- The lines that are not VACANT and name a primary, ascending. -/
def State.linesWithPrimary (s : State) : List LineNo :=
  (List.finRange 192).filter fun l => (s.line l).state != .vacant && (s.line l).primary.isSome

/-- The lines that are not VACANT and name an alternate, ascending. -/
def State.linesWithAlternate (s : State) : List LineNo :=
  (List.finRange 192).filter fun l => (s.line l).state != .vacant && (s.line l).alternate.isSome

/-- The channels that name a trunk slot, ascending. -/
def State.channelsWithTrunk (s : State) : List ChanNo :=
  (List.finRange 32).filter fun c => (s.channel c).live && (s.channel c).trunk.isSome

/-- Act 4 of FLOOR-RESET (R148). -/
def State.resetRoutes (s : State) : State :=
  let s1 := { s with slots := tabMap Slot.endClaim s.slots, lines := tabMap Line.endRoute s.lines }
  let s2 := s1.restartSlotTimers
  let s3 := s2.channelsWithTrunk.foldl State.reclaimTrunk s2
  let s4 := s3.linesWithPrimary.foldl (fun t l => t.reclaimRoute l (t.line l).primary) s3
  let s5 := s4.linesWithAlternate.foldl (fun t l => t.reclaimRoute l (t.line l).alternate) s4
  { s5 with lines := tabMap Line.settleRoute s5.lines }

/-! ### Act 5: groups (R72) -/

/-- A GROUP channel reopens on the lowest-numbered FREE bridge with its designated units listening (R72). -/
def State.reopenGroup (s : State) (c : ChanNo) : State :=
  match s.lowestFree with
  | none => s
  | some b =>
    (s.channel c).members.foldl (fun t m => t.listen b (unitLeg m.pos m.unit)) (s.openChannel c b)

/-- The CLOSED GROUP channels with members, ascending. -/
def State.groupsToOpen (s : State) : List ChanNo :=
  (List.finRange 32).filter fun c =>
    (s.channel c).state == .closed && (s.channel c).kind == .group && !(s.channel c).members.isEmpty

/-- Act 5 of FLOOR-RESET (R72, R106). -/
def State.resetGroups (s : State) : State := s.groupsToOpen.foldl State.reopenGroup s

/-! ### Act 6: completion (R179, R193) -/

/-- Every indication queue is emptied, and every LOCKED link has a full refresh, ascending (R179). -/
def State.refreshAll (s : State) : State :=
  ((List.finRange 48).filter fun p => (s.link p).state == .locked).foldl State.fullRefresh
    { s with links := tabMap (fun (x : Link) => { x with indications := [] }) s.links }

/-! ### One act of the command in progress -/

/-- An act of FLOOR-RESET, taken when it is the next one; ME applies the headroom floor at its end (R116). -/
def State.resetAct (s : State) (a : ResetAct) (act : State → State) : State :=
  if s.mp.job = some (.floorReset a) then (act s).settleBridges else s

/-- One visit of the retire sweep of a line (R21); the last one writes the vacant values and completes the command (R22).
DESIGN CHOICE: no pace (log entry 7, unsafe). -/
def State.lineVisit (s : State) : State :=
  match s.mp.job with
  | some (.retireLine l p) =>
    let s1 :=
      match (s.line l).appearanceAt p with
      | none => s
      | some a => (s.modLine l fun x => { x with appearances := x.appearances.filter fun y => y.pos != p }).setKey p a.key none
    if h : p.val + 1 < 48 then s1.setJob (.retireLine l ⟨p.val + 1, h⟩)
    else (s1.setLine l Line.vacant).complete .done
  | _ => s

/-- One visit of the retire sweep of a channel; the last one writes the vacant values and completes the command (R71).
A visit enqueues no indication, though it changes position fields of the visited position (R61). DESIGN CHOICE (log entry 21, unsafe).
DESIGN CHOICE: no pace (log entry 7, unsafe). -/
def State.channelVisit (s : State) : State :=
  match s.mp.job with
  | some (.retireChannel c p) =>
    let s1 :=
      ((List.finRange 8).filter fun u => s.selects p u c).foldl (fun t u => t.setSelection p u .none) s
    let s2 := s1.modChannel c fun x =>
      { x with
        listen := x.listen.filter fun q => q != p, talk := x.talk.filter fun q => q != p
        members := x.members.filter fun m => m.pos != p }
    if h : p.val + 1 < 48 then s2.setJob (.retireChannel c ⟨p.val + 1, h⟩)
    else (s2.setChannel c Channel.vacant).complete .done
  | _ => s

/-- The reset input held and released (R194). The levels at the slots' inputs are what the line cards drive, and stand; the queue of
waiting commands is the sender's. -/
def State.resetAll (s : State) : State :=
  { State.reset with
    slots := tabMap (fun x => { Slot.initial with ringHigh := x.ringHigh, alive := x.alive }) s.slots
    pending := s.pending }

/-! ### One meaning per row -/

/-- FLOOR-RESET act 2 (R23). -/
def execFloorResetLines (s : State) : Host.Outcome State Fault Refusal :=
  .next (s.resetAct .lines fun t => t.resetLines.setJob (.floorReset .channels))

/-- FLOOR-RESET act 3 (R72). -/
def execFloorResetChannels (s : State) : Host.Outcome State Fault Refusal :=
  .next (s.resetAct .channels fun t => t.resetChannels.setJob (.floorReset .routes))

/-- FLOOR-RESET act 4 (R148). -/
def execFloorResetRoutes (s : State) : Host.Outcome State Fault Refusal :=
  .next (s.resetAct .routes fun t => t.resetRoutes.setJob (.floorReset .groups))

/-- FLOOR-RESET act 5 (R72). -/
def execFloorResetGroups (s : State) : Host.Outcome State Fault Refusal :=
  .next (s.resetAct .groups fun t => t.resetGroups.setJob (.floorReset .completion))

/-- FLOOR-RESET act 6 (R179). -/
def execFloorResetCompletion (s : State) : Host.Outcome State Fault Refusal :=
  .next (s.resetAct .completion fun t => t.refreshAll.complete .done)

/-- LINE-SWEEP-VISIT (R21, R22). -/
def execLineSweepVisit (s : State) : Host.Outcome State Fault Refusal := .next s.lineVisit

/-- CHANNEL-SWEEP-VISIT (R71). -/
def execChannelSweepVisit (s : State) : Host.Outcome State Fault Refusal := .next s.channelVisit

/-- RESET-INPUT (R194). -/
def execResetInput (s : State) : Host.Outcome State Fault Refusal := .next s.resetAll

end Sys2Proof.Machine
end

