-- ==== Sys2Proof/Machine/Mixing.lean ====
section
/-! DEFINITION. The Mix Engine (chapter 6): the sample of every receiver, the block accumulators, the block end with AUTO headroom,
and the activity reports; and what else passes with a sample frame (timers, cadence units, ring-out drive). -/

namespace Sys2Proof.Machine

/-! ### The arithmetic of one receiver -/

/-- The shift step: floor((R + 2^(6+h)) / 2^(7+h)) (R111). `Int` division by a positive divisor rounds down. -/
def shiftDown (r : Int) (h : Nat) : Int := (r + 2 ^ (6 + h)) / 2 ^ (7 + h)

/-- The volume step: floor((y·v + 64) / 128) (R112). -/
def scale (y : Int) (v : Nat) : Int := (y * v + 64) / 128

/-- The output held within the sample range (R113). -/
def saturate (x : Int) : Int := if 32767 < x then 32767 else if x < -32768 then -32768 else x

/-- The raw sample of a leg in the present sample frame (R108): what LU received for a handset or microphone of a LOCKED link, and
what TU received for a trunk leg. -/
def State.raw (s : State) (trunk : List (SlotNo × Sample)) (g : LegNo) : Int :=
  match legKind g with
  | .handset p .left => if (s.link p).state = .locked then (s.link p).rawLeft.toInt else 0
  | .handset p .right => if (s.link p).state = .locked then (s.link p).rawRight.toInt else 0
  | .mic p => if (s.link p).state = .locked then (s.link p).rawMic.toInt else 0
  | .unit _ _ => 0
  | .trunk sl =>
    match trunk.find? fun e => e.1 == sl with
    | some e => e.2.toInt
    | none => 0

/-- The weighted sample g·x of a contributor (R108, R109). -/
def State.weighted (s : State) (trunk : List (SlotNo × Sample)) (g : LegNo) : Int :=
  match (s.leg g).gain with
  | some code => code.toNat * s.raw trunk g
  | none => 0

/-- The full sum A of a bridge (R109). -/
def State.fullSum (s : State) (trunk : List (SlotNo × Sample)) (b : Bridge) : Int :=
  (b.contributors.map (s.weighted trunk)).sum

/-- The receiver sum R: A less the products of every contributor of the receiver's origin (R110). -/
def State.receiverSum (s : State) (trunk : List (SlotNo × Sample)) (b : Bridge) (g : LegNo) : Int :=
  s.fullSum trunk b - ((b.contributors.filter fun k => legOrigin k == legOrigin g).map (s.weighted trunk)).sum

/-- The output of a leg before it is held within the range, 0 for a leg that receives no bridge (R105, R111, R112). -/
def State.rawOutput (s : State) (trunk : List (SlotNo × Sample)) (g : LegNo) (x : Leg) : Int :=
  match x.attach, x.volume with
  | some b, some v => scale (shiftDown (s.receiverSum trunk (s.bridge b) g) (s.bridge b).shift) v.toNat
  | _, _ => 0

/-- Some receiver of a bridge has a saturated output in the frame (R113). -/
def State.saturates (s : State) (trunk : List (SlotNo × Sample)) (b : BridgeNo) : Bool :=
  (List.finRange 784).any fun g =>
    (s.leg g).attach == some b &&
      saturate (s.rawOutput trunk g (s.leg g)) != s.rawOutput trunk g (s.leg g)

/-! ### One sample frame -/

/-- The growth value Fs of a bridge in the frame (R119). -/
def State.growthValue (s : State) (trunk : List (SlotNo × Sample)) (b : Bridge) : Int :=
  shiftDown (s.fullSum trunk b) b.shift

/-- A bridge after a frame that ME has computed: limit flag, block peak, block growth and microphone peaks (R113, R119, R124). -/
def State.frameBridge (s : State) (trunk : List (SlotNo × Sample)) (n : BridgeNo) (b : Bridge) : Bridge :=
  match b.state with
  | .free => b
  | .inUse =>
    { b with
      limit := b.limit || s.saturates trunk n
      blockPeak := max b.blockPeak (s.growthValue trunk b).natAbs
      blockGrowth := b.blockGrowth || Config.growthLevel ≤ (s.growthValue trunk b).natAbs
      micPeaks := b.micPeaks.map fun m => (m.1, max m.2 (s.raw trunk m.1).natAbs)
      computed := true }

/-- A frame in which a limit flag goes from clear to set posts LIMIT (R113). -/
def State.limitsAnew (s : State) (trunk : List (SlotNo × Sample)) : Bool :=
  (List.finRange 96).any fun n =>
    (s.bridge n).state == .inUse && !(s.bridge n).limit && s.saturates trunk n

/-- The bridges, the outputs and the frame count after ME has computed a frame (R107, R114, R120). -/
def State.mixFrame (s : State) (trunk : List (SlotNo × Sample)) : State :=
  let s1 :=
    { s with
      bridges := tabMapIdx (s.frameBridge trunk) s.bridges
      legs := tabMapIdx
        (fun g (x : Leg) => { x with out := BitVec.ofInt 16 (saturate (s.rawOutput trunk g x)) }) s.legs
      frameCount := s.frameCount + 1 }
  if s.limitsAnew trunk then s1.post .limit else s1

/-- Every deadline timer counts one sample frame (R158). -/
def Timers.tick (t : Timers) : Timers where
  ringTimeout := tabMap Timer.tick t.ringTimeout
  holdRecall := tabMap Timer.tick t.holdRecall
  burst := tabMap Timer.tick t.burst
  silence := tabMap (tabMap Timer.tick) t.silence
  grace := tabMap Timer.tick t.grace
  qualify := tabMap Timer.tick t.qualify
  faultConfirm := tabMap Timer.tick t.faultConfirm
  restore := tabMap Timer.tick t.restore

/-- What else passes with a sample frame: the timers and cadence phases count (R150, R158), the ring-out outputs follow the marks
as they stand (R146), and the raw samples of the frame are over (log entry 8). -/
def State.passFrame (s : State) : State :=
  { s with
    timers := s.timers.tick
    generators := tabMap Generator.tick s.generators
    slots := tabMap (fun x => { x with ringOut := s.drives x }) s.slots
    links := tabMap (fun (x : Link) => { x with rawLeft := 0, rawRight := 0, rawMic := 0 }) s.links }

/-! ### The block end -/

/-- The AUTO adjustment at a block end (R122). -/
def Bridge.adjust (b : Bridge) : Bridge :=
  if b.blockGrowth ∧ b.shift < 2 then { b with shift := b.shift + 1, release := 0 }
  else if b.blockPeak < Config.quietLevel then
    let r := min Config.releaseBlocks (b.release + 1)
    if r = Config.releaseBlocks ∧ headroomFloor b.count < b.shift then { b with shift := b.shift - 1, release := 0 }
    else { b with release := r }
  else { b with release := 0 }

/-- The evaluation of a bridge at a block end (R121): the growth mark, the AUTO adjustment, and the accumulators cleared. A bridge
of which ME has computed no frame of the block is not evaluated (R120). DEDUCED (log entry 9, safe). -/
def Bridge.blockEnd (b : Bridge) : Bridge :=
  if b.state = .inUse ∧ b.computed then
    let b1 := match b.headroom.kind with | .fixed => b | .auto => b.adjust
    { b1 with
      growth := b.blockGrowth, blockPeak := 0, blockGrowth := false
      micPeaks := b.micPeaks.map fun m => (m.1, 0), computed := false }
  else b

/-- The peak ME keeps for a microphone on a bridge (R124). -/
def Bridge.peak (b : Bridge) (g : LegNo) : Nat :=
  match b.micPeaks.find? fun m => m.1 == g with
  | some m => m.2
  | none => 0

/-- The positions of the active microphones of a bridge, in contributor order (R125). -/
def Bridge.active (b : Bridge) (threshold : Nat) : List Pos :=
  b.contributors.filterMap fun g =>
    match legKind g with
    | .mic p => if threshold ≤ b.peak g then some p else none
    | _ => none

/-- The activity reports of a block end, one for each evaluated bridge that a channel owns (R125). -/
def State.blockReports (s : State) : List ActivityReport :=
  (List.finRange 96).filterMap fun n =>
    let b := s.bridge n
    match b.owner with
    | some (.channel c) =>
      if b.state = .inUse ∧ b.computed then some ⟨c, b.active (s.channel c).threshold⟩ else none
    | _ => none

/-- The block end of every IN-USE bridge, when the frame count has reached 128 (R120, R121). -/
def State.blockEnd (s : State) : State :=
  if s.frameCount = Config.blockFrames then
    { s with
      bridges := tabMap Bridge.blockEnd s.bridges
      reports := s.reports ++ s.blockReports
      frameCount := 0 }
  else s

/-- One sample frame. A block end that is due is taken first: it is part of ME's work on the frame before (R121). -/
def State.sampleFrame (s : State) (trunk : List (SlotNo × Sample)) : State := (s.blockEnd.mixFrame trunk).passFrame

/-- CC takes the oldest activity report of a channel: each named position in turn (R82). -/
def State.takeReport (s : State) (c : ChanNo) : State :=
  match s.reports.find? fun r => r.channel == c with
  | none => s
  | some r => r.active.foldl (fun t p => t.takeActivity c p) { s with reports := s.reports.erase r }

/-! ### One meaning per row -/

/-- SAMPLE-FRAME (R107): `trunk` holds the samples TU receives in the frame, 0 for a slot it does not list. -/
def execSampleFrame (trunk : List (SlotNo × Sample)) (s : State) : Host.Outcome State Fault Refusal :=
  .next (s.sampleFrame trunk)

/-- MIX-BLOCK-END (R121). -/
def execMixBlockEnd (s : State) : Host.Outcome State Fault Refusal := .next s.blockEnd

/-- ACTIVITY-REPORT (R82). -/
def execActivityReport (c : ChanNo) (s : State) : Host.Outcome State Fault Refusal := .next (s.takeReport c)

end Sys2Proof.Machine
end

