-- ==== Sys2Proof/Machine/Records.lean ====
section
/-! DEFINITION. The words of every record that the management port reads (chapter 11 section 11.1, Tables 1 to 4), with the record
counts of chapter 10, Table 2. -/

namespace Sys2Proof.Machine

/-- Two bytes of a word, the low byte first (chapter 11, Table 1). -/
def bytePair (lo hi : Byte) : Word := hi ++ lo

/-- The two words of an occupant list (words 13 and 14): two occupants per word, low byte first. -/
def occupantWords (os : List Occupant) : List Word :=
  let b := padBytes 4 (os.map Occupant.byte)
  [bytePair (b.getD 0 0xFF#8) (b.getD 1 0xFF#8), bytePair (b.getD 2 0xFF#8) (b.getD 3 0xFF#8)]

/-- A position with a speaker unit: position in bits 0–7, unit in bits 8–10. -/
def unitEntry (p : Pos) (u : UnitNo) : Word := pack [(p.val, 0), (u.val, 8)]

/-- A floor entry of the channel record: position in bits 0–7, latched in bit 8. -/
def floorEntry (e : FloorEntry) : Word := pack [(e.pos.val, 0), (flag e.latched, 8)]

/-- A headroom mode in word 5 of a line or channel record: hf in bits 0–1, mode in bit 2. -/
def headroomWord (h : Headroom) : Word := pack [(h.hf.val, 0), (h.kind.code, 2)]

/-- A remaining time as a record shows it (R160). -/
def State.remaining (s : State) (t : TimerId) : Word := word (s.timer t).remaining

/-- The line record (Table 1). -/
def State.lineWords (s : State) (l : LineNo) : List Word :=
  let x := s.line l
  [pack [(x.state.code, 0), (x.kind.code, 4), (x.defaultPrivacy.code, 6), (x.currentPrivacy.code, 7), (x.holdMode.code, 8),
      (x.route.code, 10)],
    pack [(x.marks.code, 0), (x.cadence.val, 8), (optBits 4 x.refGen, 12)],
    optWord x.primary, optWord x.alternate,
    pack [(optBits 8 x.bridge, 0), (optBits 8 x.holdOwner, 8)],
    headroomWord x.headroom,
    word x.ringTimeout, word x.holdRecall, word x.burst,
    s.remaining (.ringTimeout l), s.remaining (.holdRecall l), s.remaining (.burst l),
    pack [(x.occupants.length, 0), (x.monitors.length, 4), (x.appearances.length, 8)]] ++
    occupantWords x.occupants ++ padWords 8 (x.monitors.map fun m => unitEntry m.pos m.unit)

/-- A set of positions as 48 bits, positions 0–15 in the first word (Table 2). -/
def setWords (ps : List Pos) : List Word :=
  (List.range 3).map fun i => pack ((List.range 16).map fun j => (flag (ps.any fun p => p.val == 16 * i + j), j))

/-- The channel record (Table 2). -/
def State.channelWords (s : State) (c : ChanNo) : List Word :=
  let x := s.channel c
  [pack [(x.state.code, 0), (x.kind.code, 4), (flag x.noTrunk, 5), (x.maxTalkers, 8)],
    optWord x.trunk, optWord x.bridge, word x.silence, word x.threshold, headroomWord x.headroom,
    pack [(x.talkers.length, 0), (x.queue.length, 4), (x.members.length, 8)]] ++
    padWords 3 (x.talkers.map floorEntry) ++
    padWords 3 (x.talkers.map fun e => s.remaining (.silence c e.pos)) ++
    padWords 8 (x.queue.map floorEntry) ++ setWords x.listen ++ setWords x.talk ++
    padWords 16 (x.members.map fun m => unitEntry m.pos m.unit)

/-- The bridge record (Table 3). -/
def State.bridgeWords (s : State) (n : BridgeNo) : List Word :=
  let b := s.bridge n
  [pack [(b.release, 0), (b.shift, 6), (b.headroom.hf.val, 8), (b.headroom.kind.code, 10), (flag b.growth, 11),
      (flag b.limit, 12), (ownerKind b.owner, 13), (b.state.code, 15)],
    ownerWord b.owner, word b.contributors.length, word b.receivers] ++
    padWords 8 (b.contributors.map fun g => word g.val)

/-- A gain or volume, FFFFh where the leg has none. -/
def gainWord (o : Option Byte) : Word :=
  match o with
  | none => 0xFFFF#16
  | some v => v.setWidth 16

/-- The leg record (Table 3). -/
def State.legWords (s : State) (g : LegNo) : List Word :=
  [gainWord (s.leg g).gain, gainWord (s.leg g).volume, optWord (s.leg g).attach]

/-- The slot record (Table 3). -/
def State.slotWords (s : State) (sl : SlotNo) : List Word :=
  let x := s.slot sl
  [pack [(x.state.code, 0), (x.polarity.code, 2), (flag x.ringHigh, 4), (flag x.alive, 5), (flag x.ringOut, 6),
      (ownerKind x.claimant, 7), (ownerKind x.primaryNamer, 8)],
    ownerWord x.claimant, ownerWord x.primaryNamer, word x.altLines.length, word x.qualify,
    s.remaining (.qualify sl), s.remaining (.faultConfirm sl), s.remaining (.restore sl)]

/-- The generator record (Table 3). -/
def State.generatorWords (s : State) (g : GenNo) : List Word :=
  let x := s.generator g
  [pack [(x.state.code, 0)], word x.onSetting, word x.offSetting, word x.onForce, word x.offForce, word x.remaining,
    word x.refs]

/-- A selection: number in bits 0–7, CHANNEL 1 or LINE 2 in bits 14–15; NONE reads FFFFh (Table 4). -/
def selectionWord (x : Selection) : Word :=
  match x with
  | .none => 0xFFFF#16
  | .channel c => pack [(c.val, 0), (1, 14)]
  | .line l => pack [(l.val, 0), (2, 14)]

/-- The link record with the device timings (Table 4). -/
def State.linkWords (s : State) (p : Pos) : List Word :=
  let x := s.link p
  [pack [(x.state.code, 0), (x.goodCount, 2), (x.badCount, 4), (flag x.badFrame, 8), (flag x.messageLost, 9),
      (flag x.overrun, 10), (x.switchAction.code, 12), (flag (x.assembly != .between), 13),
      (flag (!x.transmit.isEmpty), 14)],
    pack [(x.requests.length, 0), (x.answers.length, 4), (x.indications.length, 8)],
    s.remaining (.grace p)] ++
    (List.finRange 8).map (fun u => selectionWord (s.selection p u)) ++
    [word s.mp.faultConfirm, word s.mp.restore, word s.mp.grace]

/-- A key of a directory with the ring-enabled setting of its appearance (Table 4). -/
def State.keyWord (s : State) (p : Pos) (k : Key) : Word :=
  match s.keyLine p k with
  | none => 0xFFFF#16
  | some l =>
    pack [(l.val, 0), (flag (match (s.line l).appearanceAt p with | some a => a.ring | none => false), 8)]

/-- The directory of a position (Table 4). -/
def State.directoryWords (s : State) (p : Pos) : List Word := (List.finRange 64).map (s.keyWord p)

/-- The record counts of the tables (chapter 10, Table 2). -/
def recordCount (table : Nat) : Nat :=
  match table with
  | 0 => 192
  | 1 => 32
  | 2 => 96
  | 3 => 784
  | 4 => 256
  | 5 => 8
  | 6 => 48
  | 7 => 48
  | _ => 0

/-- The words of a record, absent where the index names none (R182, R183). -/
def State.recordWords (s : State) (table index : Nat) : Option (List Word) :=
  match table with
  | 0 => (toFin? 192 index).map s.lineWords
  | 1 => (toFin? 32 index).map s.channelWords
  | 2 => (toFin? 96 index).map s.bridgeWords
  | 3 => (toFin? 784 index).map s.legWords
  | 4 => (toFin? 256 index).map s.slotWords
  | 5 => (toFin? 8 index).map s.generatorWords
  | 6 => (toFin? 48 index).map s.linkWords
  | 7 => (toFin? 48 index).map s.directoryWords
  | _ => none

end Sys2Proof.Machine
end

