-- ==== Sys2Proof/Machine/Port.lean ====
section
/-! DEFINITION. The transactions of the management port (chapter 10 sections 10.1 and 10.2): record reads with their bursts, control
words, and writes. -/

namespace Sys2Proof.Machine

/-! ### Control words (chapter 10, Table 3) -/

/-- A control word; an offset above 17 reads 0000h (R184, R185). -/
def State.controlWord (s : State) (offset : Nat) : Word :=
  match offset with
  | 0 => Config.identity
  | 1 => 48#16
  | 2 => 192#16
  | 3 => 32#16
  | 4 => 96#16
  | 5 => 256#16
  | 6 => s.mp.flags.setWidth 16
  | 7 => s.mp.enables.setWidth 16
  | 16 => word s.mp.slot.code
  | 17 => word s.mp.result.code
  | n =>
    match toFin? 8 (n - 8) with
    | some i => if 8 ≤ n then s.mp.buffer[i] else 0#16
    | none => 0#16

/-- A word of the command buffer stored (R185). -/
def State.storeBuffer (s : State) (i : Fin 8) (d : Word) : State :=
  s.modMp fun m => { m with buffer := m.buffer.set i.val d i.isLt }

/-- The port at the end of a transaction that reads nothing: WAIT inactive, no data word. -/
def State.quietPort (s : State) : State := s.modMp fun m => { m with port := Port.quiet }

/-- A CONTROL write (R184, R185): event flags, event enables, command buffer, and GO; every other write is ignored. -/
def State.controlWrite (s : State) (offset : Nat) (d : Word) : State :=
  match offset with
  | 6 => s.quietPort.clearFlags d
  | 7 => s.quietPort.writeEnables d
  | 16 => if d = Config.goCode then s.quietPort.go else s.quietPort
  | n =>
    match toFin? 8 (n - 8) with
    | some i => if 8 ≤ n then s.quietPort.storeBuffer i d else s.quietPort
    | none => s.quietPort

/-! ### Reads (R181–R184) -/

/-- The table of command-address word 0: bits 4–6 (chapter 11 section 11.2). -/
def tableField (w0 : Word) : Nat := bits w0 4 3

/-- A LINEAR burst: bit 2 of command-address word 0 (chapter 11 section 11.2). -/
def isLinear (w0 : Word) : Bool := bit w0 2

/-- The words of a WRAP read: from the offset to the last word, then from word 0, round and round (R183). -/
def wrapRead (record : List Word) (offset words : Nat) : List Word :=
  (List.range words).map fun i => record.getD ((offset + i) % record.length) 0

/-- The words of a LINEAR read from one record, and whether the burst has reached its end (R183). -/
def linearRead (record : List Word) (offset words : Nat) : List Word × Bool :=
  ((record.drop (offset % record.length)).take words, record.length - offset % record.length ≤ words)

/-- The record after a record of a table; after the last comes record 0 (R183). -/
def nextRecord (table index : Nat) : Nat := if index + 1 < recordCount table then index + 1 else 0

/-- A read in RECORD space (R182, R183). `words` is the number of data words the system controller takes; of a LINEAR burst this act
delivers those of the first record. `waited` says that the device let a pending act of the owner come first, so that WAIT was
active at word 2 and the latency is 8 port clocks. -/
def State.recordPort (s : State) (w0 w1 w2 : Word) (words : Nat) (waited : Bool) : Port :=
  match s.recordWords (tableField w0) w1.toNat with
  | none => ⟨false, 4, List.replicate words 0#16, none⟩
  | some record =>
    let latency := if waited then 8 else 4
    if isLinear w0 then
      let r := linearRead record w2.toNat words
      ⟨waited, latency, r.1,
        if r.2 then some (tableField w0, nextRecord (tableField w0) w1.toNat) else none⟩
    else ⟨waited, latency, wrapRead record w2.toNat words, none⟩

/-- A read in CONTROL space: its word follows 4 port clocks after word 2, and further words read 0000h (R184). -/
def State.controlPort (s : State) (w2 : Word) (words : Nat) : Port :=
  ⟨false, 4, (s.controlWord w2.toNat :: List.replicate words 0#16).take words, none⟩

/-- A transaction of the port that reads (R181). A WRITE direction reads nothing. DESIGN CHOICE (log entry 16, safe). -/
def State.readPort (s : State) (w0 w1 w2 : Word) (words : Nat) (waited : Bool) : State :=
  s.modMp fun m =>
    { m with
      port :=
        if isWrite w0 then Port.quiet
        else if isControl w0 then s.controlPort w2 words
        else s.recordPort w0 w1 w2 words waited }

/-- A LINEAR burst crosses into the next record: a new copy of it is taken, and its words follow the ones already driven (R183). With
no burst at the end of a record there is nothing to cross into. -/
def State.crossRecord (s : State) (words : Nat) : State :=
  match s.mp.port.crossing with
  | none => s
  | some (table, index) =>
    match s.recordWords table index with
    | none => s
    | some record =>
      let r := linearRead record 0 words
      s.modMp fun m =>
        { m with
          port :=
            { m.port with
              data := m.port.data ++ r.1
              crossing := if r.2 then some (table, nextRecord table index) else none } }

/-! ### One meaning per row -/

/-- RECORD-READ (R182, R183). -/
def execRecordRead (w0 w1 w2 : Word) (words : Nat) (waited : Bool) (s : State) : Host.Outcome State Fault Refusal :=
  .next (s.readPort w0 w1 w2 words waited)

/-- LINEAR-CROSSING (R183). -/
def execLinearCrossing (words : Nat) (s : State) : Host.Outcome State Fault Refusal := .next (s.crossRecord words)

/-- EVENT-FLAGS-CLEAR (R186). -/
def execEventFlagsClear (d : Word) (s : State) : Host.Outcome State Fault Refusal := .next (s.controlWrite 6 d)

/-- EVENT-ENABLES-WRITE (R187). -/
def execEventEnablesWrite (d : Word) (s : State) : Host.Outcome State Fault Refusal := .next (s.controlWrite 7 d)

/-- COMMAND-BUFFER-WRITE (R185): buffer word `i` at offset 8 + i. -/
def execCommandBufferWrite (i : Fin 8) (d : Word) (s : State) : Host.Outcome State Fault Refusal :=
  .next (s.controlWrite (8 + i.val) d)

/-- IGNORED-WRITE (R184): a write in RECORD space, to a read-only or unused offset, or of another value than GO to offset 16; a write
that R184 does not ignore acts as the control write that its words give. -/
def execIgnoredWrite (w0 _w1 w2 d : Word) (s : State) : Host.Outcome State Fault Refusal :=
  .next (if isWrite w0 && isControl w0 then s.controlWrite w2.toNat d else s.quietPort)

end Sys2Proof.Machine
end

