-- ==== Sys2Proof/Machine/Requests.lean ====
section
/-! DEFINITION. The Request Engine (R171–R173): which link it serves, what it refuses itself, and the answer it queues. -/

namespace Sys2Proof.Machine

/-- A link is eligible when its buffer is not empty and its answer queue holds fewer than 8 answers (R171). -/
def Link.eligible (x : Link) : Bool := !x.requests.isEmpty && x.answers.length < Config.maxAnswers

/-- The positions in the order RE looks at them: from the pointer upward, wrapping from 47 to 0 (R171). -/
def rotation (p : Pos) : List Pos := (List.finRange 48).map fun i => p + i

/-- The link that RE serves next: the first eligible one from the pointer (R171). -/
def State.nextLink (s : State) : Option Pos := (rotation s.pointer).find? fun p => (s.link p).eligible

/-- A request command on a LOCKED link whose buffer is empty stands for a request that the link has just completed (log entry 2):
it comes into the buffer, if its field bytes are no more than the assembly takes (R168). -/
def State.arrive (s : State) (p : Pos) (r : Request) : State :=
  if (s.link p).state = .locked ∧ (s.link p).requests = [] ∧ r.code ≠ 0#8 ∧ r.fields.length ≤ Config.maxFields then
    s.modLink p fun x => { x with requests := [r] }
  else s

/-- RE takes the request `r` of position `p`: the link is the one RE serves next and `r` is the head of its buffer. The head leaves
the buffer and the pointer moves past the link (R171). None where RE would take another request, or none. -/
def State.takeRequest (s : State) (p : Pos) (r : Request) : Option State :=
  let s1 := s.arrive p r
  if s1.nextLink = some p ∧ (s1.link p).requests.head? = some r then
    some { s1.modLink p fun x => { x with requests := x.requests.tail } with pointer := p + 1 }
  else none

/-- The channels whose position fields or channel fields a request may change: the one it names, and the one the unit selects,
which is told of first. DESIGN CHOICE (log entry 14, unsafe). -/
def State.requestChannels (s : State) (p : Pos) (t : TurretRequest) : List ChanNo :=
  let selected (u : UnitNo) : List ChanNo :=
    match s.selection p u with
    | .channel c => [c]
    | _ => []
  match t with
  | .speakerLine u _ | .speakerClear u => selected u
  | .speakerChannel u c => if selected u = [c] then [c] else selected u ++ [c]
  | .talkOn c _ | .talkOff c => [c]
  | _ => []

/-- The owner's decision of a request (chapters 2 to 4). -/
def State.decideOwner (s : State) (p : Pos) (t : TurretRequest) : AnswerResult × State :=
  match t with
  | .seize k h => s.seizeKey p k h
  | .retrieve k h => s.seizeKey p k h
  | .release h => s.releaseHandset p h
  | .hold h => s.holdHandset p h
  | .privacy k on => s.privacyKey p k on
  | .signal k => s.signalKey p k
  | .acknowledge k => s.acknowledgeKey p k
  | .queryLine k => s.queryKey p k
  | .queryChannel c => s.queryChannel p c
  | .speakerLine u k => s.speakerLine p u k
  | .speakerChannel u c => s.speakerChannel p u c
  | .speakerClear u => s.speakerClear p u
  | .talkOn c latched => s.talkOn p c latched
  | .talkOff c => s.talkOff p c

/-- The position whose own TALK-OFF the act is, if it is one (R80). -/
def TurretRequest.ownOff (t : TurretRequest) (p : Pos) : Option Pos :=
  match t with
  | .talkOff _ => some p
  | _ => none

/-- A request decided as one act, with the indications of the act (R24, R172). -/
def State.decide (s : State) (p : Pos) (r : Request) : AnswerResult × State :=
  if s.resetting then (.refused .resetting, s)
  else
    match decodeRequest r with
    | none => (.refused .badRequest, s)
    | some t => ((s.decideOwner p t).1, finishAct (t.ownOff p) (s.requestChannels p t) s (s.decideOwner p t).2)

/-- RE places an answer at the tail of a link's answer queue (R173). -/
def State.answer (s : State) (p : Pos) (a : Answer) : State :=
  s.modLink p fun x => { x with answers := x.answers ++ [a] }

/-- RE takes a request, has it decided and queues its answer. A request that RE does not take now is turned away: nothing
happens (log entry 2). -/
def State.serveRequest (s : State) (p : Pos) (r : Request) : State :=
  match s.takeRequest p r with
  | none => s
  | some s1 => (s1.decide p r).2.answer p ⟨r.code, (s1.decide p r).1⟩

/-! ### One meaning per row -/

/-- SEIZE (R26–R32, R37). -/
def execSeize (p : Pos) (fields : List Byte) (s : State) : Host.Outcome State Fault Refusal :=
  .next (s.serveRequest p ⟨0x01#8, fields⟩)

/-- RETRIEVE (R37). -/
def execRetrieve (p : Pos) (fields : List Byte) (s : State) : Host.Outcome State Fault Refusal :=
  .next (s.serveRequest p ⟨0x02#8, fields⟩)

/-- RELEASE (R33). -/
def execRelease (p : Pos) (fields : List Byte) (s : State) : Host.Outcome State Fault Refusal :=
  .next (s.serveRequest p ⟨0x03#8, fields⟩)

/-- HOLD (R36). -/
def execHold (p : Pos) (fields : List Byte) (s : State) : Host.Outcome State Fault Refusal :=
  .next (s.serveRequest p ⟨0x04#8, fields⟩)

/-- PRIVACY (R40, R41). -/
def execPrivacy (p : Pos) (fields : List Byte) (s : State) : Host.Outcome State Fault Refusal :=
  .next (s.serveRequest p ⟨0x05#8, fields⟩)

/-- SIGNAL (R45). -/
def execSignal (p : Pos) (fields : List Byte) (s : State) : Host.Outcome State Fault Refusal :=
  .next (s.serveRequest p ⟨0x06#8, fields⟩)

/-- ACKNOWLEDGE (R44). -/
def execAcknowledge (p : Pos) (fields : List Byte) (s : State) : Host.Outcome State Fault Refusal :=
  .next (s.serveRequest p ⟨0x07#8, fields⟩)

/-- QUERY, line form (R49). -/
def execQueryLine (p : Pos) (fields : List Byte) (s : State) : Host.Outcome State Fault Refusal :=
  .next (s.serveRequest p ⟨0x08#8, fields⟩)

/-- QUERY, channel form (R62). -/
def execQueryChannel (p : Pos) (fields : List Byte) (s : State) : Host.Outcome State Fault Refusal :=
  .next (s.serveRequest p ⟨0x09#8, fields⟩)

/-- SPEAKER, line form (R47). -/
def execSpeakerLine (p : Pos) (fields : List Byte) (s : State) : Host.Outcome State Fault Refusal :=
  .next (s.serveRequest p ⟨0x0A#8, fields⟩)

/-- SPEAKER, channel form (R58). -/
def execSpeakerChannel (p : Pos) (fields : List Byte) (s : State) : Host.Outcome State Fault Refusal :=
  .next (s.serveRequest p ⟨0x0B#8, fields⟩)

/-- SPEAKER, clear form (R59). -/
def execSpeakerClear (p : Pos) (fields : List Byte) (s : State) : Host.Outcome State Fault Refusal :=
  .next (s.serveRequest p ⟨0x0C#8, fields⟩)

/-- TALK-ON (R75). -/
def execTalkOn (p : Pos) (fields : List Byte) (s : State) : Host.Outcome State Fault Refusal :=
  .next (s.serveRequest p ⟨0x0D#8, fields⟩)

/-- TALK-OFF (R78). -/
def execTalkOff (p : Pos) (fields : List Byte) (s : State) : Host.Outcome State Fault Refusal :=
  .next (s.serveRequest p ⟨0x0E#8, fields⟩)

/-- A request with a code byte of its own: an unknown one is answered BAD-REQUEST with that byte as its request code (R172,
R197). -/
def execUnknownRequest (p : Pos) (code : Byte) (fields : List Byte) (s : State) : Host.Outcome State Fault Refusal :=
  .next (s.serveRequest p ⟨code, fields⟩)

end Sys2Proof.Machine
end

