-- ==== Sys2Proof/Machine/Dispatch.lean ====
section
/-! DEFINITION. The meaning of every command: one arm per constructor of `Instr`. -/

namespace Sys2Proof.Machine

def exec (i : Instr) (s : State) : Host.Outcome State Fault Refusal :=
  match i with
  | .seize p fields => Sys2Proof.Machine.execSeize p fields s
  | .retrieve p fields => Sys2Proof.Machine.execRetrieve p fields s
  | .release p fields => Sys2Proof.Machine.execRelease p fields s
  | .hold p fields => Sys2Proof.Machine.execHold p fields s
  | .privacy p fields => Sys2Proof.Machine.execPrivacy p fields s
  | .signal p fields => Sys2Proof.Machine.execSignal p fields s
  | .acknowledge p fields => Sys2Proof.Machine.execAcknowledge p fields s
  | .queryLine p fields => Sys2Proof.Machine.execQueryLine p fields s
  | .queryChannel p fields => Sys2Proof.Machine.execQueryChannel p fields s
  | .speakerLine p fields => Sys2Proof.Machine.execSpeakerLine p fields s
  | .speakerChannel p fields => Sys2Proof.Machine.execSpeakerChannel p fields s
  | .speakerClear p fields => Sys2Proof.Machine.execSpeakerClear p fields s
  | .talkOn p fields => Sys2Proof.Machine.execTalkOn p fields s
  | .talkOff p fields => Sys2Proof.Machine.execTalkOff p fields s
  | .unknownRequest p code fields => Sys2Proof.Machine.execUnknownRequest p code fields s
  | .createLine w => Sys2Proof.Machine.execCreateLine w s
  | .setLine w => Sys2Proof.Machine.execSetLine w s
  | .retireLine w => Sys2Proof.Machine.execRetireLine w s
  | .addAppearance w => Sys2Proof.Machine.execAddAppearance w s
  | .dropAppearance w => Sys2Proof.Machine.execDropAppearance w s
  | .forceRelease w => Sys2Proof.Machine.execForceRelease w s
  | .createChannel w => Sys2Proof.Machine.execCreateChannel w s
  | .setChannel w => Sys2Proof.Machine.execSetChannel w s
  | .retireChannel w => Sys2Proof.Machine.execRetireChannel w s
  | .addMember w => Sys2Proof.Machine.execAddMember w s
  | .dropMember w => Sys2Proof.Machine.execDropMember w s
  | .permit w => Sys2Proof.Machine.execPermit w s
  | .unpermit w => Sys2Proof.Machine.execUnpermit w s
  | .forceUntalk w => Sys2Proof.Machine.execForceUntalk w s
  | .setLeg w => Sys2Proof.Machine.execSetLeg w s
  | .setSlot w => Sys2Proof.Machine.execSetSlot w s
  | .setCadence w => Sys2Proof.Machine.execSetCadence w s
  | .setPosition w => Sys2Proof.Machine.execSetPosition w s
  | .setTiming w => Sys2Proof.Machine.execSetTiming w s
  | .clearMarks w => Sys2Proof.Machine.execClearMarks w s
  | .floorReset w => Sys2Proof.Machine.execFloorReset w s
  | .unknownCommand code w => Sys2Proof.Machine.execUnknownCommand code w s
  | .cmdOverrun => Sys2Proof.Machine.execCmdOverrun s
  | .floorResetLines => Sys2Proof.Machine.execFloorResetLines s
  | .floorResetChannels => Sys2Proof.Machine.execFloorResetChannels s
  | .floorResetRoutes => Sys2Proof.Machine.execFloorResetRoutes s
  | .floorResetGroups => Sys2Proof.Machine.execFloorResetGroups s
  | .floorResetCompletion => Sys2Proof.Machine.execFloorResetCompletion s
  | .lineSweepVisit => Sys2Proof.Machine.execLineSweepVisit s
  | .channelSweepVisit => Sys2Proof.Machine.execChannelSweepVisit s
  | .deadlineExpiry t => Sys2Proof.Machine.execDeadlineExpiry t s
  | .ringTimeoutExpiry l => Sys2Proof.Machine.execRingTimeoutExpiry l s
  | .holdRecallExpiry l => Sys2Proof.Machine.execHoldRecallExpiry l s
  | .burstExpiry l => Sys2Proof.Machine.execBurstExpiry l s
  | .silenceExpiry c p => Sys2Proof.Machine.execSilenceExpiry c p s
  | .graceExpiry p => Sys2Proof.Machine.execGraceExpiry p s
  | .qualifyExpiry sl => Sys2Proof.Machine.execQualifyExpiry sl s
  | .faultConfirmExpiry sl => Sys2Proof.Machine.execFaultConfirmExpiry sl s
  | .restoreExpiry sl => Sys2Proof.Machine.execRestoreExpiry sl s
  | .cadencePhaseEnd g => Sys2Proof.Machine.execCadencePhaseEnd g s
  | .mixBlockEnd => Sys2Proof.Machine.execMixBlockEnd s
  | .activityReport c => Sys2Proof.Machine.execActivityReport c s
  | .sampleFrame trunk => Sys2Proof.Machine.execSampleFrame trunk s
  | .huntFrame p bytes => Sys2Proof.Machine.execHuntFrame p bytes s
  | .goodFrame p bytes => Sys2Proof.Machine.execGoodFrame p bytes s
  | .badFrame p bytes => Sys2Proof.Machine.execBadFrame p bytes s
  | .downstreamFrame p => Sys2Proof.Machine.execDownstreamFrame p s
  | .ringDetectChange sl high => Sys2Proof.Machine.execRingDetectChange sl high s
  | .aliveChange sl present => Sys2Proof.Machine.execAliveChange sl present s
  | .resetInput => Sys2Proof.Machine.execResetInput s
  | .recordRead w0 w1 w2 words waited => Sys2Proof.Machine.execRecordRead w0 w1 w2 words waited s
  | .linearCrossing words => Sys2Proof.Machine.execLinearCrossing words s
  | .eventFlagsClear d => Sys2Proof.Machine.execEventFlagsClear d s
  | .eventEnablesWrite d => Sys2Proof.Machine.execEventEnablesWrite d s
  | .commandBufferWrite n d => Sys2Proof.Machine.execCommandBufferWrite n d s
  | .ignoredWrite w0 w1 w2 d => Sys2Proof.Machine.execIgnoredWrite w0 w1 w2 d s

end Sys2Proof.Machine
end

