-- ==== Sys2Proof/Safety.lean ====
section
/-! DEFINITION. What the statements speak of: the bounds that every step keeps (chapter 4 of the scope, R8, R73, R115, R163, R169,
R173, R175), when the Request Engine serves a request, what an answered request leaves of the links, and what a completed command
leaves of the management port. -/

namespace Sys2Proof.Safety

open Machine

/-! ### Bounds that every step keeps -/

/-- A link holds at most 4 requests, 8 answers and one indication per subject; its good count is at most 1 and its bad count at
most 3; a DISABLED link holds none of them and no message (R163, R164, R169, R173, R175). -/
abbrev LinkBounds (x : Link) : Prop :=
  x.requests.length ≤ 4 ∧ x.answers.length ≤ 8 ∧ (x.indications.map Indication.subject).Nodup ∧
    x.goodCount ≤ 1 ∧ x.badCount ≤ 3 ∧
    (x.state = .disabled → x.requests = [] ∧ x.answers = [] ∧ x.indications = [] ∧ x.transmit = [] ∧ x.assembly = .between)

/-- Every link keeps its bounds. -/
abbrev LinksBounded (s : State) : Prop := ∀ p : Pos, LinkBounds (s.link p)

/-- The headroom law of a bridge (R115, R117, R122): an IN-USE bridge has its floor ≤ h ≤ 2 and a release counter of at most 16; in
FIXED mode h is max(hf, floor) and the counter is 0; a FREE bridge has h = 0 and the counter at 0. -/
abbrev HeadroomLaw (b : Bridge) : Prop :=
  (b.state = .inUse →
    headroomFloor b.contributors.length ≤ b.shift ∧ b.shift ≤ 2 ∧ b.release ≤ 16 ∧
      (b.headroom.kind = .fixed →
        b.shift = max b.headroom.hf.val (headroomFloor b.contributors.length) ∧ b.release = 0)) ∧
  (b.state = .free → b.shift = 0 ∧ b.release = 0)

/-- Every bridge keeps the headroom law. -/
abbrev HeadroomKept (s : State) : Prop := ∀ b : BridgeNo, HeadroomLaw (s.bridge b)

/-- A line has at most 4 occupants and 8 monitors (R8), and appears at most once at each position (R10). -/
abbrev LineBounds (x : Line) : Prop :=
  x.occupants.length ≤ 4 ∧ x.monitors.length ≤ 8 ∧ (x.appearances.map Appearance.pos).Nodup

/-- A channel's talkers are no more than its maximum, which is at most 3; it has at most 8 queue entries and 16 members (R68, R73). -/
abbrev ChannelBounds (x : Channel) : Prop :=
  x.talkers.length ≤ x.maxTalkers ∧ x.maxTalkers ≤ 3 ∧ x.queue.length ≤ 8 ∧ x.members.length ≤ 16

/-- Every list of the lines and channels keeps its bound. -/
abbrev ListsBounded (s : State) : Prop :=
  (∀ l : LineNo, LineBounds (s.line l)) ∧ ∀ c : ChanNo, ChannelBounds (s.channel c)

/-- The slots and the records that name them agree: a line is counted in a slot's alternate namers, and a line or channel is its primary
namer, exactly where its record names the slot so (R131). A VACANT record, and one that a retire sweeps, names no slot (R20, R70). -/
abbrev NamesAgree (s : State) : Prop :=
  (∀ (n : SlotNo) (l : LineNo), l ∈ (s.slot n).altLines ↔ (s.line l).alternate = some n) ∧
  (∀ (n : SlotNo) (l : LineNo), (s.slot n).primaryNamer = some (.line l) ↔ (s.line l).primary = some n) ∧
  (∀ (n : SlotNo) (c : ChanNo), (s.slot n).primaryNamer = some (.channel c) ↔ (s.channel c).trunk = some n) ∧
  (∀ l : LineNo, (s.line l).state = .vacant → (s.line l).primary = none ∧ (s.line l).alternate = none) ∧
  (∀ c : ChanNo, (s.channel c).state = .vacant → (s.channel c).trunk = none) ∧
  (∀ (l : LineNo) (p : Pos), s.mp.job = some (.retireLine l p) → (s.line l).primary = none ∧ (s.line l).alternate = none) ∧
  ∀ (c : ChanNo) (p : Pos), s.mp.job = some (.retireChannel c p) → (s.channel c).trunk = none

/-! ### Requests -/

/-- RE serves position `p` next and the head of its buffer is `r` (R171). -/
abbrev Ready (s : State) (p : Pos) (r : Request) : Prop :=
  s.nextLink = some p ∧ (s.link p).requests.head? = some r

/-- The state in which the owner decides the request RE has taken: it has left the buffer, and the pointer stands at the position
after the link (R171). -/
def taken (s : State) (p : Pos) : State :=
  { s.setLink p { s.link p with requests := (s.link p).requests.tail } with pointer := p + 1 }

/-- A link but for its buffer, its answers and its indications. -/
def linkCore (x : Link) : Link := { x with requests := [], answers := [], indications := [] }

/-- One request of `p` has been answered with `a`: it has left the buffer, its answer stands last in the queue, the pointer has moved
on, and but for indications no other part of any link has changed (R171, R173). -/
abbrev Answered (s t : State) (p : Pos) (a : Answer) : Prop :=
  t.pointer = p + 1 ∧ (t.link p).requests = (s.link p).requests.tail ∧
    (t.link p).answers = (s.link p).answers ++ [a] ∧
    (∀ q : Pos, q ≠ p → (t.link q).requests = (s.link q).requests ∧ (t.link q).answers = (s.link q).answers) ∧
    ∀ q : Pos, linkCore (t.link q) = linkCore (s.link q)

/-- Position `p`'s request has been answered with `a` and no more: no indication is enqueued and no record changes, but for the
headroom floor applied to every bridge at the end of the act (R116) and, at NO-BRIDGE, the POOL event (R100). -/
abbrev Unmoved (s u : State) (p : Pos) (a : Answer) : Prop :=
  Answered s u p a ∧ (∀ q : Pos, (u.link q).indications = (s.link q).indications) ∧
    u =
      { s with
        bridges := tabMap Bridge.settle s.bridges, links := u.links, pointer := u.pointer
        mp := if a.result = .refused .noBridge then { s.mp with flags := s.mp.flags ||| 8#7 } else s.mp }

/-! ### Indications of an act -/

/-- The link of position `q` after the LINE-STATE of line `l`: one under each key of the line there (R7). -/
def toldLine (u : State) (q : Pos) (x : Link) (l : LineNo) : Link :=
  ((u.line l).appearances.filter fun a => a.pos == q).foldl
    (fun y a => y.indicate ⟨.key a.key, .lineState, (u.line l).content⟩) x

/-- The link of position `q` after an act that leads from `s` to `u`: a LINE-STATE of each line whose visible fields differ, in
ascending order (R7; the order is log entry 14's). -/
def toldLines (s u : State) (q : Pos) : Link :=
  ((List.finRange 192).filter fun l => (s.line l).view != (u.line l).view).foldl (toldLine u q) (s.link q)

/-- The kind of a channel indication (R80): TALK-GRANTED where the act gave the position the floor from the queue, FLOOR-LOST where it
took its entry away or moved it to the queue other than by the position's own TALK-OFF, else CHANNEL-STATE. -/
def toldKind (own : Option Pos) (q : Pos) (x y : Channel) : IndKind :=
  if !x.talking q && x.queued q && y.talking q then .talkGranted
  else if own != some q && !y.talking q && (x.talking q || (x.queued q && !y.queued q)) then .floorLost
  else .channelState

/-- The link of position `q` after the indication of channel `c` (R61): the act has changed a channel field, or is one on its members
(`all`, R68, R69), and the position qualifies before or after it; or the act has changed a position field there. -/
def toldChannel (own : Option Pos) (all : Bool) (s u : State) (q : Pos) (x : Link) (c : ChanNo) : Link :=
  if (s.channel c).live ∧ (u.channel c).live ∧
      (((all ∨ (s.channel c).view ≠ (u.channel c).view) ∧ (s.qualifies c q ∨ u.qualifies c q)) ∨
        s.positionView c q ≠ u.positionView c q) then
    x.indicate ⟨.channel c, toldKind own q (s.channel c) (u.channel c), u.channelContent c q⟩
  else x

/-- The link of position `q` after the indications of an act that may touch the channels `cs`: lines first (log entry 14). -/
def told (own : Option Pos) (cs : List ChanNo) (s u : State) (q : Pos) : Link :=
  cs.foldl (toldChannel own false s u q) (toldLines s u q)

/-- Every position's indication queue is what the indications of the act leave. -/
abbrev Told (own : Option Pos) (cs : List ChanNo) (s u : State) : Prop :=
  ∀ q : Pos, (u.link q).indications = (told own cs s u q).indications

/-- One LINE-STATE of line `l` at every key of the line, and no other indication. -/
abbrev ToldLine (s u : State) (l : LineNo) : Prop :=
  ∀ q : Pos, (u.link q).indications = (toldLine u q (s.link q) l).indications

/-- The indications of channel `c` alone. -/
abbrev ToldChannel (own : Option Pos) (s u : State) (c : ChanNo) : Prop :=
  ∀ q : Pos, (u.link q).indications = (toldChannel own false s u q (s.link q) c).indications

/-- The channel that a unit selects. -/
def selectedChannel (s : State) (p : Pos) (n : UnitNo) : List ChanNo :=
  match s.selection p n with
  | .channel c => [c]
  | _ => []

/-! ### What an act leaves of a record, written on the record alone -/

/-- A line that has returned to rest (R3): the bulleted parts, then LOCKOUT without a route where NO-ROUTE was set, else IDLE. -/
def rested (x : Line) : Line :=
  { x with
    state := if x.marks.noRoute then .lockout else .idle
    route := if x.marks.noRoute then .none else x.route
    currentPrivacy := x.defaultPrivacy, occupants := [], monitors := [], holdOwner := none, bridge := none
    marks := { missed := x.marks.missed, farSignal := false, noRoute := false, recalled := false, ringOut := false } }

/-- The floor of a channel after the entry of a position is removed (R78, R79, R84): a talker's place goes to the queue head where
one waits and the maximum allows it. -/
def floorWithout (x : Channel) (p : Pos) : Channel :=
  let talkers := x.talkers.filter fun e => e.pos != p
  if x.talkers.any fun e => e.pos == p then
    if talkers.length < x.maxTalkers then
      { x with talkers := talkers ++ x.queue.take 1, queue := x.queue.drop 1 }
    else { x with talkers := talkers }
  else { x with queue := x.queue.filter fun e => e.pos != p }

/-- The queue entries that the removal of a position's entry grants: the head, where a talker leaves a place (R79). -/
def granted (x : Channel) (p : Pos) : List FloorEntry :=
  if x.talking p ∧ (x.talkers.filter fun e => e.pos != p).length < x.maxTalkers then x.queue.take 1 else []

/-- The removal of a position's entry closes the channel (R56, R78). -/
abbrev Closes (x : Channel) (p : Pos) (heard : Bool) : Prop :=
  x.talking p ∧ x.state = .opened ∧ (floorWithout x p).talkers = [] ∧ heard = false

/-- A channel after the entry of a position is removed: closed where a talker has left it without talker and receiver (R56, R78, R83,
R84). `heard` says that some unit selects it. -/
def floorAfter (x : Channel) (p : Pos) (heard : Bool) : Channel :=
  if Closes x p heard then { floorWithout x p with state := .closed, bridge := none } else floorWithout x p

/-- Microphones joined to the end of a contributor list, each where it does not stand yet. -/
def micsJoined (gs : List LegNo) (es : List FloorEntry) : List LegNo :=
  es.foldl (fun y e => if micLeg e.pos ∈ y then y else y ++ [micLeg e.pos]) gs

/-- The silence timers after the removal of position `p`'s entry on channel `c` (R78, R79, R81): that of a talker that leaves is stopped,
and that of a latched one that is granted starts. -/
abbrev FloorTimers (s u : State) (c : ChanNo) (p : Pos) : Prop :=
  ((s.channel c).talking p = true → (∀ e ∈ granted (s.channel c) p, e.pos ≠ p) →
    (u.timer (.silence c p)).running = false) ∧
  ∀ e ∈ granted (s.channel c) p, e.pos ≠ p →
    u.timer (.silence c e.pos) =
      if e.latched = true ∧ (s.channel c).silence ≠ 0 then
        (s.timer (.silence c e.pos)).start (1000 * (s.channel c).silence)
      else s.timer (.silence c e.pos)

/-- A bridge at the end of an act that has brought it to the contributors it has: the headroom floor is applied (R116). The receivers and
the microphone peaks are not said here. -/
abbrev ReachedBy (x y : Bridge) : Prop :=
  { y with receivers := 0, micPeaks := [] } = { x.settle with receivers := 0, micPeaks := [] }

/-- A bridge at the end of an act that has passed it headroom mode `m` (R116, R118): a mode equal to its own changes nothing, FIXED gives
the shift max(hf, floor), AUTO keeps the shift, and either has the release counter at 0; the growth mark, the limit flag and the
accumulators stand. The receivers and the microphone peaks are not said here. -/
abbrev ModePassed (x : Bridge) (m : Headroom) (y : Bridge) : Prop :=
  (x.headroom = m ∨ x.state = .free → ReachedBy x y) ∧
  (x.headroom ≠ m → x.state = .inUse →
    (m.kind = .fixed →
      { y with receivers := 0, micPeaks := [] } =
        { x with
          headroom := m, shift := max m.hf.val (headroomFloor x.contributors.length), release := 0
          receivers := 0, micPeaks := [] }) ∧
    (m.kind = .auto →
      { y with receivers := 0, micPeaks := [] } =
        { x with
          headroom := m, shift := max x.shift (headroomFloor x.contributors.length), release := 0
          receivers := 0, micPeaks := [] }))

/-- The timers, the bridge and the microphones after the removal of position `p`'s entry on channel `c` (R78, R79, R81). -/
abbrev FloorMoved (s u : State) (c : ChanNo) (p : Pos) : Prop :=
  FloorTimers s u c p ∧
  (∀ t : TimerId, ((s.channel c).talking p = true → t ≠ .silence c p) →
    (∀ e ∈ granted (s.channel c) p, t ≠ .silence c e.pos) → u.timer t = s.timer t) ∧
  (∀ b : BridgeNo, (s.channel c).bridge = some b →
    (Closes (s.channel c) p (s.hasReceiver c) → u.bridge b = Bridge.free ∧ ∀ g : LegNo, (u.leg g).attach ≠ some b) ∧
    (¬Closes (s.channel c) p (s.hasReceiver c) → (s.channel c).talking p = true →
      (u.bridge b).contributors = micsJoined ((s.bridge b).contributors.erase (micLeg p)) (granted (s.channel c) p) ∧
      ReachedBy { s.bridge b with contributors := (u.bridge b).contributors } (u.bridge b)) ∧
    ((s.channel c).talking p = false → u.bridge b = (s.bridge b).settle) ∧
    ∀ b' : BridgeNo, b' ≠ b → u.bridge b' = (s.bridge b').settle) ∧
  (¬Closes (s.channel c) p (s.hasReceiver c) → ∀ g : LegNo, g ≠ micLeg p → u.leg g = s.leg g)

/-- The floor of a channel after a new maximum `n` (R87, R88): the newest talkers above it go to the head of the queue, whose tail is
cut to 8; free places go to the queue's head entries in order. -/
def floorUnder (x : Channel) (n : Nat) : Channel :=
  if n < x.talkers.length then
    { x with maxTalkers := n, talkers := x.talkers.take n, queue := (x.talkers.drop n ++ x.queue).take 8 }
  else
    { x with
      maxTalkers := n, talkers := x.talkers ++ x.queue.take (n - x.talkers.length)
      queue := x.queue.drop (n - x.talkers.length) }

/-- The queue entries that a new maximum grants (R88). -/
def floorGains (x : Channel) (n : Nat) : List FloorEntry := x.queue.take (n - x.talkers.length)

/-- A line that a handset leaves by the switch (R30): without the entry, or held, or at rest. -/
def leftBy (x : Line) (o : Occupant) (a : SwitchAction) : Line :=
  if x.occupants = [o] then
    match a with
    | .hold => { x with state := .held, occupants := [], monitors := [], holdOwner := some o.pos }
    | .release => rested x
  else { x with occupants := x.occupants.erase o }

/-- A line that a handset has come to by an accepted SEIZE or RETRIEVE, on bridge `b` (R26, R27, R29, R37). -/
def takenBy (y : Line) (o : Occupant) (b : BridgeNo) : Line :=
  match y.state with
  | .connected =>
    { y with
      occupants :=
        if y.occupiedBy o.pos then y.occupants.map fun e => if e.pos = o.pos then o else e else y.occupants ++ [o] }
  | .held =>
    { y with
      state := .connected, occupants := [o], holdOwner := none, marks := { y.marks with recalled := false } }
  | .alerting =>
    { y with
      state := .connected, occupants := [o], bridge := some b, refGen := none
      marks := { y.marks with missed := false } }
  | _ =>
    { y with
      state := .connected, occupants := [o], bridge := some b
      marks := { y.marks with missed := false, ringOut := y.marks.ringOut || y.kind == .auto } }

/-- A bridge is the lowest-numbered one that `had` allows. -/
abbrev Lowest (had : BridgeNo → Prop) (b : BridgeNo) : Prop := had b ∧ ∀ b' : BridgeNo, b' < b → ¬had b'

/-- A bridge that a SEIZE by handset `o` of current line `x` can have: a FREE one, or the one that its release returns (R31). -/
abbrev HadBySeize (s : State) (o : Occupant) (x : LineNo) (b : BridgeNo) : Prop :=
  (s.bridge b).state = .free ∨
    ((s.line x).occupants = [o] ∧ (s.link o.pos).switchAction = .release ∧ (s.line x).bridge = some b)

/-- The switch returns the line that handset `o` leaves to rest: its sole occupant leaves it under switch action RELEASE (R30, R31). -/
abbrev LeftToRest (s : State) (o : Occupant) (x : LineNo) : Prop :=
  (s.line x).occupants = [o] ∧ (s.link o.pos).switchAction = .release

/-- A line that comes to rest as it is now does not revert (R142). -/
abbrev Stays (s : State) (l : LineNo) : Prop :=
  (s.line l).marks.noRoute = true ∨ (s.line l).route ≠ .alternate ∨ s.isStandby (s.line l).primary = false

/-- A line that leaves an alert for IDLE as it is now does not revert (R142). -/
abbrev StaysIdle (s : State) (l : LineNo) : Prop :=
  (s.line l).route ≠ .alternate ∨ s.isStandby (s.line l).primary = false

/-- A line comes to rest when position `p` has no part in it any more: the position holds it, or is its sole occupant (R18, R19). -/
abbrev RestsWithout (x : Line) (p : Pos) : Prop := x.holdOwner = some p ∨ x.occupants.map Occupant.pos = [p]

/-- The release of a unit's selection closes the channel: it is OPEN without talkers, and no other unit selects it (R56, R60). -/
abbrev Unheard (s : State) (c : ChanNo) (p : Pos) (n : UnitNo) : Prop :=
  (s.channel c).state = .opened ∧ (s.channel c).talkers = [] ∧
    ∀ (q : Pos) (m : UnitNo), s.selection q m = .channel c → q = p ∧ m = n

/-- A bridge that a unit's selection of channel `c` can have: a FREE one, or the one that the release of its selection returns (R55). -/
abbrev HadBySelect (s : State) (p : Pos) (n : UnitNo) (c : ChanNo) (b : BridgeNo) : Prop :=
  (s.bridge b).state = .free ∨
    ∃ y : ChanNo, s.selection p n = .channel y ∧ y ≠ c ∧ Unheard s y p n ∧ (s.channel y).bridge = some b

/-- What the release of a unit's previous selection leaves of the records, but for channel `c` and line `l`, which the act itself
writes (R48, R56, R60). -/
abbrev Released (s u : State) (p : Pos) (n : UnitNo) (c : Option ChanNo) (l : Option LineNo) : Prop :=
  (∀ y : ChanNo, c ≠ some y →
    u.channel y =
      if s.selection p n = .channel y ∧ Unheard s y p n then { s.channel y with state := .closed, bridge := none }
      else s.channel y) ∧
  (∀ x : LineNo, l ≠ some x →
    u.line x =
      if s.selection p n = .line x then { s.line x with monitors := (s.line x).monitors.erase ⟨p, n⟩ } else s.line x) ∧
  ∀ (q : Pos) (m : UnitNo), ¬(q = p ∧ m = n) → u.selection q m = s.selection q m

/-- The legs after the release of a unit's previous selection, but for the unit's own leg and the trunk leg of a slot that joins: only
the closing of a channel detaches legs, those of its bridge (R56, R101). -/
abbrev LegsReleased (s u : State) (p : Pos) (n : UnitNo) (trunk : Option SlotNo) : Prop :=
  ((∀ y : ChanNo, s.selection p n = .channel y → ¬Unheard s y p n) →
    ∀ g : LegNo, g ≠ unitLeg p n → (∀ sl : SlotNo, trunk = some sl → g ≠ trunkLeg sl) → u.leg g = s.leg g) ∧
  ∀ y : ChanNo, s.selection p n = .channel y → Unheard s y p n → ∀ b : BridgeNo, (s.channel y).bridge = some b →
    ∀ g : LegNo, g ≠ unitLeg p n → (∀ sl : SlotNo, trunk = some sl → g ≠ trunkLeg sl) →
      u.leg g = if (s.leg g).attach = some b then { s.leg g with attach := none } else s.leg g

/-- A bridge that a leg has left as contributor and receiver, with the headroom floor of the contributors that stay (R95, R116). -/
def bridgeWithout (s : State) (b : BridgeNo) (g : LegNo) : Bridge :=
  Bridge.settle
    { s.bridge b with
      contributors := (s.bridge b).contributors.erase g
      micPeaks := (s.bridge b).micPeaks.filter fun m => m.1 != g
      receivers := if (s.leg g).attach = some b then (s.bridge b).receivers - 1 else (s.bridge b).receivers }

/-- The bridges after the release of a unit's previous selection, but for bridge `taken`, which the act goes on to use: that of a
channel that closes is FREE, one that the unit leaves in use has lost its leg, and every other has its headroom floor (R48, R56, R101,
R116). -/
abbrev BridgesReleased (s u : State) (p : Pos) (n : UnitNo) (taken : Option BridgeNo) : Prop :=
  ∀ b : BridgeNo, taken ≠ some b →
    (∀ y : ChanNo, s.selection p n = .channel y → (s.channel y).bridge = some b →
      u.bridge b = if Unheard s y p n then Bridge.free else bridgeWithout s b (unitLeg p n)) ∧
    (∀ x : LineNo, s.selection p n = .line x → (s.line x).bridge = some b → u.bridge b = bridgeWithout s b (unitLeg p n)) ∧
    ((∀ y : ChanNo, s.selection p n = .channel y → (s.channel y).bridge ≠ some b) →
      (∀ x : LineNo, s.selection p n = .line x → (s.line x).bridge ≠ some b) → u.bridge b = (s.bridge b).settle)

/-- No waiting line names a slot, and it is no record's primary or trunk: a slot that is freed stays free (R141, R142). -/
abbrev Unsought (s : State) (a : SlotNo) : Prop :=
  (s.slot a).primaryNamer = none ∧ ∀ l : LineNo, (s.line l).waiting = true → (s.line l).names a = false

/-- No unit of another position selects a channel. -/
abbrev OnlyHeardBy (s : State) (c : ChanNo) (p : Pos) : Prop :=
  ∀ (q : Pos) (m : UnitNo), s.selection q m = .channel c → q = p

/-- A channel that has lost position `p`'s units as receivers: closed where it is left without receiver and talker (R56, R67). -/
def unheardBy (s : State) (c : ChanNo) (p : Pos) : Channel :=
  if (s.channel c).state = .opened ∧ (s.channel c).talkers = [] ∧ OnlyHeardBy s c p ∧
      ∃ m : UnitNo, s.selection p m = .channel c then
    { s.channel c with state := .closed, bridge := none }
  else s.channel c

/-- A channel that has lost position `p`'s floor entry and units (R56, R69). -/
def withoutMember (s : State) (c : ChanNo) (p : Pos) : Channel :=
  if (s.channel c).state = .opened ∧ (floorWithout (s.channel c) p).talkers = [] ∧ OnlyHeardBy s c p ∧
      ((s.channel c).talking p = true ∨ ∃ m : UnitNo, s.selection p m = .channel c) then
    { floorWithout (s.channel c) p with state := .closed, bridge := none }
  else floorWithout (s.channel c) p

/-! ### Position teardown (R178) -/

/-- The occupants of a line once the handsets of position `p` have left their current lines. -/
def occupantsLeft (s : State) (p : Pos) (l : LineNo) : List Occupant :=
  [Handset.left, Handset.right].foldl
    (fun os h => if s.currentLine ⟨p, h⟩ = some l then os.erase ⟨p, h⟩ else os) (s.line l).occupants

/-- A handset of position `p` is the last to leave a line. -/
abbrev LeftAtRest (s : State) (p : Pos) (l : LineNo) : Prop :=
  (s.currentLine ⟨p, .left⟩ = some l ∨ s.currentLine ⟨p, .right⟩ = some l) ∧ occupantsLeft s p l = []

/-- A line that comes to rest in the teardown of position `p` removes the monitor. -/
abbrev MonitorGone (s : State) (p : Pos) (m : Monitor) : Prop := ∃ r : LineNo, LeftAtRest s p r ∧ m ∈ (s.line r).monitors

/-- The monitors of a line once those of position `p` are removed. -/
def monitorsLeft (s : State) (p : Pos) (l : LineNo) : List Monitor :=
  (List.finRange 8).foldl
    (fun ms n => if s.selection p n = .line l ∧ ¬MonitorGone s p ⟨p, n⟩ then ms.erase ⟨p, n⟩ else ms) (s.line l).monitors

/-- Steps 1 to 3 of R178 where no line that the handsets leave reverts: the handsets are released, the monitors removed with their
selections, and the floor entries removed with their grants; the other positions are told, and all else stands. -/
abbrev TornDown (s u : State) (p : Pos) : Prop :=
  (∀ l : LineNo, u.line l =
    if LeftAtRest s p l then rested (s.line l)
    else { s.line l with occupants := occupantsLeft s p l, monitors := monitorsLeft s p l }) ∧
  (∀ c : ChanNo, u.channel c = floorAfter (s.channel c) p (u.hasReceiver c)) ∧
  (∀ (q : Pos) (m : UnitNo),
    u.selection q m =
      if MonitorGone s p ⟨q, m⟩ ∨ (q = p ∧ ∃ l : LineNo, s.selection p m = .line l) then .none else s.selection q m) ∧
  (∀ (l : LineNo) (b : BridgeNo), (s.line l).bridge = some b →
    (LeftAtRest s p l → (u.bridge b).state = .free ∧ ∀ g : LegNo, (u.leg g).attach ≠ some b) ∧
    (∀ h : Handset, s.currentLine ⟨p, h⟩ = some l → (u.leg (handsetLeg p h)).attach ≠ some b) ∧
    ∀ m : UnitNo, s.selection p m = .line l → ¬MonitorGone s p ⟨p, m⟩ → (u.leg (unitLeg p m)).attach ≠ some b) ∧
  (∀ (c : ChanNo) (b : BridgeNo), (s.channel c).bridge = some b → Closes (s.channel c) p (u.hasReceiver c) →
    (u.bridge b).state = .free ∧ ∀ g : LegNo, (u.leg g).attach ≠ some b) ∧
  (∀ c : ChanNo, FloorTimers s u c p) ∧
  (∀ l : LineNo, LeftAtRest s p l → (u.timer (.holdRecall l)).running = false ∧ (u.timer (.burst l)).running = false) ∧
  (∀ l : LineNo, ¬LeftAtRest s p l →
    u.timer (.holdRecall l) = s.timer (.holdRecall l) ∧ u.timer (.burst l) = s.timer (.burst l)) ∧
  (∀ q : Pos, q ≠ p → u.link q = told none (List.finRange 32) s u q) ∧
  u.directories = s.directories ∧ u.generators = s.generators ∧ u.slots = s.slots ∧ u.reports = s.reports ∧
  u.pointer = s.pointer ∧ u.frameCount = s.frameCount

/-! ### The later acts of FLOOR-RESET (R72, R148) -/

/-- A slot that the end of every claim leaves STANDBY (R148 step 1). -/
abbrev Freed (s : State) (sl : SlotNo) : Prop := (s.slot sl).state = .standby ∨ (s.slot sl).state = .active

/-- A channel that names a slot as its trunk. -/
abbrev NamesTrunk (s : State) (sl : SlotNo) (c : ChanNo) : Prop := (s.channel c).live = true ∧ (s.channel c).trunk = some sl

/-- A line that names a slot as its primary. -/
abbrev NamesPrimary (s : State) (sl : SlotNo) (l : LineNo) : Prop :=
  (s.line l).state ≠ .vacant ∧ (s.line l).primary = some sl

/-- The channel that claims a slot anew: the lowest that names it (R148 step 3). -/
abbrev TrunkGoesTo (s : State) (sl : SlotNo) (c : ChanNo) : Prop := NamesTrunk s sl c ∧ ∀ d : ChanNo, d < c → ¬NamesTrunk s sl d

/-- The line that claims a slot anew as its primary: the lowest that names it so, where no channel does (R148 step 4). -/
abbrev PrimaryGoesTo (s : State) (sl : SlotNo) (l : LineNo) : Prop :=
  NamesPrimary s sl l ∧ (∀ c : ChanNo, ¬NamesTrunk s sl c) ∧ ∀ k : LineNo, k < l → ¬NamesPrimary s sl k

/-- A line that names a slot as its alternate and has not gained its primary (R148 step 5). -/
abbrev SeeksAlternate (s : State) (sl : SlotNo) (l : LineNo) : Prop :=
  (s.line l).state ≠ .vacant ∧ (s.line l).alternate = some sl ∧
    ∀ n : SlotNo, (s.line l).primary = some n → ¬(Freed s n ∧ PrimaryGoesTo s n l)

/-- The line that claims a slot anew as its alternate: the lowest that seeks it, where no record names it as trunk or primary (R148
step 5). -/
abbrev AlternateGoesTo (s : State) (sl : SlotNo) (l : LineNo) : Prop :=
  SeeksAlternate s sl l ∧ (∀ c : ChanNo, ¬NamesTrunk s sl c) ∧ (∀ k : LineNo, ¬NamesPrimary s sl k) ∧
    ∀ k : LineNo, k < l → ¬SeeksAlternate s sl k

/-- The CLOSED GROUP channels with members, ascending (R72). -/
def groupsWithMembers (s : State) : List ChanNo :=
  (List.finRange 32).filter fun d =>
    (s.channel d).state == .closed && (s.channel d).kind == .group && !(s.channel d).members.isEmpty

/-- The command that takes an expiry of a timer (R159). -/
def expiryCommand (t : TimerId) : Instr :=
  match t with
  | .ringTimeout l => .ringTimeoutExpiry l
  | .holdRecall l => .holdRecallExpiry l
  | .burst l => .burstExpiry l
  | .silence c p => .silenceExpiry c p
  | .grace p => .graceExpiry p
  | .qualify sl => .qualifyExpiry sl
  | .faultConfirm sl => .faultConfirmExpiry sl
  | .restore sl => .restoreExpiry sl

/-- An expiry of the timer's current run is the next of that timer in flight (R158, R159). -/
abbrev Current (s : State) (t : TimerId) : Prop :=
  s.inFlight.find? (fun e => e.timer == t) = some ⟨t, (s.timer t).run⟩

/-! ### Audio and frames -/

/-- The value that leg `g` is given of bridge `b` before it is held within the sample range: the products of the contributors of another
origin, shifted, and scaled by the volume (R109–R112). -/
def mixedFor (s : State) (trunk : List (SlotNo × Sample)) (b : BridgeNo) (g : LegNo) (v : Byte) : Int :=
  scale
    (shiftDown
      (((s.bridge b).contributors.filter fun k => legOrigin k != legOrigin g).map (s.weighted trunk)).sum
      (s.bridge b).shift)
    v.toNat

/-- Some receiver of a bridge is given a value outside the sample range (R113). -/
abbrev Overflows (s : State) (trunk : List (SlotNo × Sample)) (b : BridgeNo) : Prop :=
  ∃ g : LegNo, (s.leg g).attach = some b ∧
    ∃ v : Byte, (s.leg g).volume = some v ∧ (32767 < mixedFor s trunk b g v ∨ mixedFor s trunk b g v < -32768)

/-- The growth value of a bridge: the sum of all its products, shifted (R119). -/
def growthOf (s : State) (trunk : List (SlotNo × Sample)) (b : BridgeNo) : Int :=
  shiftDown ((s.bridge b).contributors.map (s.weighted trunk)).sum (s.bridge b).shift

/-- The activity report of a bridge that ME evaluates and a channel owns: the positions of the microphones whose peak is at least the
channel's threshold, in contributor order (R125). -/
def activityOf (s : State) (n : BridgeNo) : Option ActivityReport :=
  match (s.bridge n).owner with
  | some (.channel c) =>
    if (s.bridge n).state = .inUse ∧ (s.bridge n).computed = true then
      some ⟨c, (s.bridge n).contributors.filterMap fun g =>
        ((List.finRange 48).find? fun p => micLeg p == g).filter fun _ =>
          decide ((s.channel c).threshold ≤ (((s.bridge n).micPeaks.find? fun m => m.1 == g).map Prod.snd).getD 0)⟩
    else none
  | _ => none

/-- The sample that the frame of a position carries for one of its legs (R105, R114, R165). -/
def heardBy (s : State) (p : Pos) (g : LegNo) : Sample :=
  if (s.link p).state = .locked ∧ (s.leg g).attach ≠ none then (s.leg g).out else 0

/-- The ringer of a position is to sound: a key names an ALERTING line whose appearance there has ringing enabled and whose generator is
ON (R155). -/
abbrev Ringing (s : State) (p : Pos) : Prop :=
  ∃ (k : Key) (l : LineNo), s.keyLine p k = some l ∧ (s.line l).state = .alerting ∧
    (∃ a : Appearance, (s.line l).appearanceAt p = some a ∧ a.ring = true) ∧
    ∃ n : GenNo, (s.line l).refGen = some n ∧ (s.generator n).state = .on

/-! ### Record words (chapter 11) -/

/-- The words of a record from word `i` upward are these numbers, which say every bit of them. -/
abbrev Numbers (ws : List Word) (i : Nat) (xs : List Nat) : Prop := ((ws.drop i).take xs.length).map BitVec.toNat = xs

/-- The words of a record from word `i` upward show these values, each in a word of its own. -/
abbrev Words (ws : List Word) (i : Nat) (xs : List Nat) : Prop := (ws.drop i).take xs.length = xs.map word

/-- The `n` words of a record from word `i` upward are the entries of a list in order, and FFFFh where it has none. -/
abbrev Listed {α : Type} (ws : List Word) (i n : Nat) (f : α → Nat) (xs : List α) : Prop :=
  ∀ j : Nat, j < n → ws[i + j]? = some (((xs[j]?).map fun e => word (f e)).getD 0xFFFF#16)

/-- The number of an optional field, and the all-ones value of its width where it is absent (R196). -/
def numberOr {n : Nat} (absent : Nat) (o : Option (Fin n)) : Nat := (o.map Fin.val).getD absent

/-- The byte of an occupant list's entry: position in bits 0–5, handset in bit 6, FFh for an unused entry. -/
def octet (os : List Occupant) (i : Nat) : Nat := ((os[i]?).map fun o => o.pos.val + 64 * handsetCode o.handset).getD 255

/-- The byte of a floor entry in a message: position in bits 0–5, latched in bit 6, FFh for an unused entry (R197). -/
def floorOctet (es : List FloorEntry) (i : Nat) : Nat := ((es[i]?).map fun e => e.pos.val + 64 * flag e.latched).getD 255

/-- The kind bit and the number of an owner: a line 0, a channel 1, and 1 with FFFFh where it is absent (chapter 11, Table 3). -/
def ownerPair (o : Option Owner) : Nat × Nat :=
  match o with
  | none => (1, 65535)
  | some (.line l) => (0, l.val)
  | some (.channel c) => (1, c.val)

/-! ### Commands -/

/-- MP after a command that has completed with result `r`: the buffer holds the command's words, the slot is DONE, the DONE event is
posted (R188). -/
def mpDone (m : Management) (code : Byte) (w : CmdWords) (r : Result) : Management :=
  { m with
    buffer := w.toBuffer code, slot := .done, result := r, flags := m.flags ||| Event.done.mask, job := none
    port := Port.quiet }

/-- A command is refused with result `r` and changes nothing but the words of its buffer, the slot and the result (R188, R189). -/
abbrev Declines (c : Instr) (s : State) (code : Byte) (w : CmdWords) (r : Result) : Prop :=
  exec c s = .next { s with mp := mpDone s.mp code w r }

/-- The queue of every link after the indications of a command's act that may touch the channels `cs`: no other part of a link has
changed. -/
abbrev ToldAll (cs : List ChanNo) (s u : State) : Prop := ∀ q : Pos, u.link q = told none cs s u q

/-- MP after a command refused for want of a bridge: POOL is posted with DONE (R100, R188). -/
def mpNoBridge (m : Management) (code : Byte) (w : CmdWords) : Management :=
  { mpDone m code w .noBridge with flags := m.flags ||| Event.pool.mask ||| Event.done.mask }

/-! ### What the commands refuse -/

/-- A slot argument that is neither absent nor a slot (R196). -/
abbrev SlotOut (x : Word) : Prop := x ≠ 0xFFFF#16 ∧ 255 < x.toNat

/-- The words of CREATE-LINE that R12 refuses BAD-FIELD. -/
abbrev CreateLineBad (w : CmdWords) : Prop :=
  191 < w.w1.toNat ∨ bits w.w2 0 2 = 3 ∨ bits w.w2 8 2 = 3 ∨ SlotOut w.w3 ∨ SlotOut w.w4 ∨
    w.w3 = w.w4 ∧ w.w3 ≠ 0xFFFF#16

/-- The words of SET-LINE that R14 refuses BAD-FIELD for a line: the mask, a masked code, or the two slots the record would name. -/
abbrev SetLineBad (x : Line) (w : CmdWords) : Prop :=
  w.maskBit 15 = true ∨ w.maskBit 8 = true ∧ bits w.w2 0 2 = 3 ∨ w.maskBit 12 = true ∧ bits w.w2 8 2 = 3 ∨
    w.maskBit 13 = true ∧ SlotOut w.w3 ∨ w.maskBit 14 = true ∧ SlotOut w.w4 ∨
    ∃ n : SlotNo, (if w.maskBit 13 = true then w.w3 = word n.val else x.primary = some n) ∧
      if w.maskBit 14 = true then w.w4 = word n.val else x.alternate = some n

/-- A line record with the masked settings of a SET-LINE written, its kind and headroom mode being `kind` and `m`: the timings are brought
into range, and a new default privacy becomes the current one on a line at rest, alerting or locked out (R5, R14, R15). -/
def lineSet (x : Line) (w : CmdWords) (kind : LineKind) (m : Headroom) : Line :=
  { x with
    kind := kind
    defaultPrivacy := if w.maskBit 9 = true then (lineArgs w).privacy else x.defaultPrivacy
    currentPrivacy :=
      if w.maskBit 9 = true ∧ (x.state = .idle ∨ x.state = .alerting ∨ x.state = .lockout) then (lineArgs w).privacy
      else x.currentPrivacy
    holdMode := if w.maskBit 10 = true then (lineArgs w).holdMode else x.holdMode
    cadence := if w.maskBit 11 = true then (lineArgs w).cadence else x.cadence
    headroom := m
    ringTimeout := if bit w.w1 8 = true then max 1 (min 255 w.w5.toNat) else x.ringTimeout
    holdRecall := if bit w.w1 9 = true then min 900 w.w6.toNat else x.holdRecall
    burst := if bit w.w1 10 = true then max 100 (min 10000 w.w7.toNat) else x.burst }

/-- Another record names a slot as primary or trunk, so that line `l` may not (R12, R131). -/
abbrev PrimaryTaken (s : State) (l : LineNo) (o : Option SlotNo) : Prop :=
  ∃ n : SlotNo, o = some n ∧ (s.slot n).primaryNamer ≠ none ∧ (s.slot n).primaryNamer ≠ some (.line l)

/-- A channel names a slot as trunk, so that no line may name it as alternate (R12, R131). -/
abbrev AlternateTaken (s : State) (o : Option SlotNo) : Prop :=
  ∃ (n : SlotNo) (c : ChanNo), o = some n ∧ (s.slot n).primaryNamer = some (.channel c)

/-- The words of CREATE-CHANNEL that R65 refuses BAD-FIELD. -/
abbrev CreateChannelBad (w : CmdWords) : Prop :=
  31 < w.w1.toNat ∨ bits w.w2 4 2 = 0 ∨ bits w.w2 8 2 = 3 ∨ SlotOut w.w3 ∨ bit w.w2 0 = true ∧ w.w3 ≠ 0xFFFF#16

/-- The words of SET-CHANNEL that R66 refuses BAD-FIELD for a channel: the mask, a masked value, or a GROUP that would name a trunk. -/
abbrev SetChannelBad (x : Channel) (w : CmdWords) : Prop :=
  w.maskBit 14 = true ∨ w.maskBit 15 = true ∨ w.maskBit 9 = true ∧ bits w.w2 4 2 = 0 ∨
    w.maskBit 13 = true ∧ bits w.w2 8 2 = 3 ∨ w.maskBit 10 = true ∧ SlotOut w.w3 ∨
    (if w.maskBit 8 = true then bit w.w2 0 = true else x.kind = .group) ∧
      if w.maskBit 10 = true then w.w3 ≠ 0xFFFF#16 else x.trunk ≠ none

/-- A line or another channel names a slot, so that channel `c` may not (R63). -/
abbrev TrunkTaken (s : State) (c : ChanNo) (o : Option SlotNo) : Prop :=
  ∃ n : SlotNo, o = some n ∧ (s.slot n).named = true ∧ (s.slot n).primaryNamer ≠ some (.channel c)

/-- A channel record with the masked settings of a SET-CHANNEL written, its kind and headroom mode being `kind` and `m`: a change of kind
empties the listen and talk sets (R66). -/
def channelSet (x : Channel) (w : CmdWords) (kind : ChannelKind) (m : Headroom) : Channel :=
  { x with
    kind := kind
    listen := if kind = x.kind then x.listen else []
    talk := if kind = x.kind then x.talk else []
    silence := if w.maskBit 11 = true then min 255 w.w4.toNat else x.silence
    threshold := if w.maskBit 12 = true then min 32767 w.w5.toNat else x.threshold
    headroom := m }

/-- The fault-confirm timer of a slot that a record comes to name: it starts where the slot was UNASSIGNED with its level ABSENT
(R131, R136). -/
def confirmAtNaming (s : State) (n : SlotNo) : Timer :=
  if (s.slot n).state = .unassigned ∧ (s.slot n).alive = false then (s.timer (.faultConfirm n)).start s.mp.faultConfirm
  else s.timer (.faultConfirm n)

/-- A slot that a record can claim once it names it (R131, R132). -/
abbrev Claimable (s : State) (n : SlotNo) : Prop := (s.slot n).state = .unassigned ∨ (s.slot n).state = .standby

/-- The contributors of a channel's bridge after a change of its trunk slot: the old trunk leg is taken out, and the new one stands last
where the channel claims its slot (R63, R66, R95). -/
def trunkSwapped (s : State) (gs : List LegNo) (old new : Option SlotNo) : List LegNo :=
  if old = new then gs
  else
    let kept := old.elim gs fun n => gs.erase (trunkLeg n)
    new.elim kept fun n => if Claimable s n ∧ trunkLeg n ∉ kept then kept ++ [trunkLeg n] else kept

/-- MP after a command that goes on over later acts: the slot is BUSY and the result NONE (R188). -/
def mpBusy (m : Management) (code : Byte) (w : CmdWords) (j : Job) : Management :=
  { m with buffer := w.toBuffer code, slot := .busy, result := .none, job := some j, port := Port.quiet }

end Sys2Proof.Safety
end

