-- ==== Sys2Proof/Certificates/Slice0/Obligations.lean ====
section
/-! DEFINITION. The statements about the model, for the provers: what each command does when it completes, what it leaves unchanged,
and the laws that every step keeps. Each docstring names the rule of spec/ it formalises, or the log entry of the model's choice.
In every statement the order of the subjects that one act tells of (lines ascending, then channels) is log entry 14's choice, and that a
timer which starts takes the identity one above its last, and one which stops keeps its duration, log entry 10's. -/

open Sys2Proof Sys2Proof.Machine Sys2Proof.Safety

/-! ### The machine -/

/-- A step carries out the command at the front of the queue on the state with the queue's rest; on an empty queue the block idles
(log entry 6). -/
def Obligations.StepTakesFrontCommand : Prop :=
  (∀ (s : State) (c : Instr) (rest : List Instr),
      step { s with pending := c :: rest } = exec c { s with pending := rest }) ∧
    ∀ s : State, s.pending = [] → step s = .next s

/-- No command changes the queue of waiting commands, and every command answers a next state: the device reports every error by an
answer, a result, a mark or an event flag, and nothing stops it. -/
def Obligations.CommandsAnswerAndKeepQueue : Prop :=
  ∀ (i : Instr) (s : State), ∃ u : State, exec i s = .next u ∧ u.pending = s.pending

/-- The bounds of every link's buffers and counts are kept by every step (R163, R169, R173, R175). -/
def Obligations.StepKeepsLinkBounds : Prop :=
  ∀ s u : State, LinksBounded s → step s = .next u → LinksBounded u

/-- The headroom law of every bridge is kept by every step (R115, R116, R117, R122). -/
def Obligations.StepKeepsHeadroomLaw : Prop :=
  ∀ s u : State, HeadroomKept s → step s = .next u → HeadroomKept u

/-- The bounds of the occupant, monitor, talker, queue and member lists, and one appearance of a line per position at most, are kept by
every step (R8, R10, R68, R73). So is the agreement of the slots with the lines and channels that name them (R131). -/
def Obligations.StepKeepsListBounds : Prop :=
  (∀ s u : State, ListsBounded s → step s = .next u → ListsBounded u) ∧
    ∀ s u : State, NamesAgree s → step s = .next u → NamesAgree u

/-- After the reset input the bounds of the links, the headroom law and the bounds of the lists hold, and the slots agree with the
records that name them: none does. -/
def Obligations.ResetMeetsEveryBound : Prop :=
  LinksBounded State.reset ∧ HeadroomKept State.reset ∧ ListsBounded State.reset ∧ NamesAgree State.reset

/-- The reset input returns every block to the values of R194: lines, channels, bridges, generators, links and the management port, every
leg with its gain and volume at 128 where it has one (R92), and no report or expiry on its way; the slots' inputs are what the line
cards drive (log entry 1), and run identities start at 0 (log entry 10). -/
def Obligations.ResetInputReturnsEveryBlock : Prop :=
  ∀ s : State, ∃ u : State, exec .resetInput s = .next u ∧
    (∀ l : LineNo, u.line l = Line.vacant) ∧ (∀ (p : Pos) (k : Key), u.keyLine p k = none) ∧
    (∀ c : ChanNo, u.channel c = Channel.vacant) ∧ (∀ (p : Pos) (n : UnitNo), u.selection p n = .none) ∧
    (∀ b : BridgeNo, u.bridge b = Bridge.free) ∧
    (∀ (p : Pos) (h : Handset), u.leg (handsetLeg p h) = ⟨some 128#8, some 128#8, none, 0#16⟩) ∧
    (∀ p : Pos, u.leg (micLeg p) = ⟨some 128#8, none, none, 0#16⟩) ∧
    (∀ (p : Pos) (n : UnitNo), u.leg (unitLeg p n) = ⟨none, some 128#8, none, 0#16⟩) ∧
    (∀ sl : SlotNo, u.leg (trunkLeg sl) = ⟨some 128#8, some 128#8, none, 0#16⟩) ∧
    (∀ sl : SlotNo, u.slot sl =
      { Slot.initial with ringHigh := (s.slot sl).ringHigh, alive := (s.slot sl).alive }) ∧
    (∀ n : GenNo, u.generator n = ⟨100, 300, 100, 300, .idle, 0, 0⟩) ∧
    (∀ t : TimerId, u.timer t = ⟨false, 0, 0, 0⟩) ∧ u.inFlight = [] ∧ u.reports = [] ∧
    (∀ p : Pos, u.link p = Link.initial) ∧ u.pointer = 0 ∧ u.frameCount = 0 ∧ u.mp = Management.initial ∧
    u.interrupt = false ∧ u.pending = s.pending

/-! ### Requests -/

/-- A request's code byte and field bytes are those of Table 7, and a message decodes to a request exactly where it is that request's.
An answer has 5 bytes, an indication of a line 10 and of a channel 18, or 4 where its content is VACANT alone, each with its code, its
field length and its fields in the places of R197; an absent hold owner and an unused entry are FFh (R172, R197). -/
def Obligations.MessagesHaveTheirBytes : Prop :=
  (∀ (r : Request) (t : TurretRequest), decodeRequest r = some t ↔ t.message = r) ∧
  (∀ (k : Key) (h : Handset) (n : UnitNo) (c : ChanNo) (v : Bool),
    [TurretRequest.seize k h, .retrieve k h, .release h, .hold h, .privacy k v, .signal k, .acknowledge k, .queryLine k,
        .queryChannel c, .speakerLine n k, .speakerChannel n c, .speakerClear n, .talkOn c v, .talkOff c].map
      (fun t => (t.message.code.toNat, t.message.fields.map BitVec.toNat)) =
      [(1, [k.val, handsetCode h]), (2, [k.val, handsetCode h]), (3, [handsetCode h]), (4, [handsetCode h]),
        (5, [k.val, flag v]), (6, [k.val]), (7, [k.val]), (8, [k.val]), (9, [c.val]), (10, [n.val, k.val]),
        (11, [n.val, c.val]), (12, [n.val]), (13, [c.val, flag v]), (14, [c.val])]) ∧
  ([Reason.vacant, .notAppearing, .outOfService, .noBridge, .secluded, .full, .notSole, .notHolder, .notOccupant,
      .notOwner, .noPermission, .unitFixed, .floorFull, .micBusy, .badRequest, .resetting].map Reason.code =
    (List.range 16).map fun i => i + 1) ∧
  (∀ code : Byte,
    (⟨code, .accepted⟩ : Answer).bytes = [0x80#8, 3#8, code, 0#8, 0#8] ∧
    (⟨code, .queued⟩ : Answer).bytes = [0x80#8, 3#8, code, 1#8, 0#8] ∧
    ∀ r : Reason, (⟨code, .refused r⟩ : Answer).bytes = [0x80#8, 3#8, code, 2#8, BitVec.ofNat 8 r.code]) ∧
  (∀ (k : Key) (c : ChanNo) (x : IndKind × Nat),
    x ∈ [(IndKind.lineState, 0x81), (.holdRecall, 0x82), (.channelState, 0x83), (.talkGranted, 0x84), (.floorLost, 0x85)] →
    (⟨.key k, x.1, .vacant⟩ : Indication).bytes.map BitVec.toNat = [x.2, 2, k.val, 0] ∧
    (⟨.channel c, x.1, .vacant⟩ : Indication).bytes.map BitVec.toNat = [x.2, 2, c.val, 0] ∧
    (∀ v : LineView, v.occupants.length ≤ 4 →
      (⟨.key k, x.1, .line v⟩ : Indication).bytes.map BitVec.toNat =
        [x.2, 8, k.val, v.state.code + 8 * v.kind.code + 32 * v.privacy.code + 64 * v.route.code,
          flag v.marks.missed + 2 * flag v.marks.farSignal + 4 * flag v.marks.noRoute + 8 * flag v.marks.recalled +
            16 * flag v.marks.ringOut,
          numberOr 255 v.holdOwner, octet v.occupants 0, octet v.occupants 1, octet v.occupants 2,
          octet v.occupants 3]) ∧
    ∀ (v : ChannelView) (y : PositionView), v.maxTalkers ≤ 3 → v.talkers.length ≤ 3 → v.queue.length ≤ 8 →
      y.units.length = 8 → (∀ (latched : Bool) (place : Nat), y.floor = .queued latched place → place ≤ 8) →
      (⟨.channel c, x.1, .channel v y⟩ : Indication).bytes.map BitVec.toNat =
        [x.2, 16, c.val,
          v.state.code + 4 * v.kind.code + 8 * flag v.noTrunk + 16 * v.maxTalkers,
          ((List.range 8).map fun n => 2 ^ n * flag (y.units.getD n false)).sum,
          flag y.listen + 2 * flag y.talk + 4 * flag y.member.isSome + 8 * numberOr 15 y.member,
          match y.floor with
            | .none => 0
            | .talking latched => 1 + 4 * flag latched
            | .queued latched place => 2 + 4 * flag latched + 16 * place] ++
          (List.range 3).map (floorOctet v.talkers) ++ (List.range 8).map (floorOctet v.queue))

/-- RE decides first: while FLOOR-RESET is in progress a request is refused RESETTING; one that is no message of Table 7 (its code is
none of them, its field count is not the one the code requires, or a field lies outside its range) is refused BAD-REQUEST; neither
changes a record or enqueues an indication. Any other request is answered as its owner decides it (R172). -/
def Obligations.EngineRefusesOrHandsOn : Prop :=
  ∀ (s : State) (p : Pos) (code : Byte) (fields : List Byte) (c : Instr),
    (c, code) ∈
      [(Instr.seize p fields, 0x01#8), (.retrieve p fields, 0x02#8), (.release p fields, 0x03#8), (.hold p fields, 0x04#8),
        (.privacy p fields, 0x05#8), (.signal p fields, 0x06#8), (.acknowledge p fields, 0x07#8),
        (.queryLine p fields, 0x08#8), (.queryChannel p fields, 0x09#8), (.speakerLine p fields, 0x0A#8),
        (.speakerChannel p fields, 0x0B#8), (.speakerClear p fields, 0x0C#8), (.talkOn p fields, 0x0D#8),
        (.talkOff p fields, 0x0E#8), (.unknownRequest p code fields, code)] →
    Ready s p ⟨code, fields⟩ →
    (s.resetting = true →
      exec c s =
        .next
          { s.setLink p
              { s.link p with
                requests := (s.link p).requests.tail
                answers := (s.link p).answers ++ [⟨code, .refused .resetting⟩] } with
            pointer := p + 1 }) ∧
    (s.resetting = false → (∀ t : TurretRequest, t.message ≠ ⟨code, fields⟩) →
      exec c s =
        .next
          { s.setLink p
              { s.link p with
                requests := (s.link p).requests.tail
                answers := (s.link p).answers ++ [⟨code, .refused .badRequest⟩] } with
            pointer := p + 1 }) ∧
    ∀ t : TurretRequest, s.resetting = false → t.message = ⟨code, fields⟩ →
      ∃ u : State, exec c s = .next u ∧ Answered s u p ⟨code, ((taken s p).decideOwner p t).1⟩

/-- SEIZE of a line at rest or alerting, and RETRIEVE which is decided alike, by a free handset: the lowest-numbered FREE bridge is
allocated, the trunk leg and then the handset are its contributors, and the line is CONNECTED. An AUTO line seized from IDLE starts a
ring-out burst; an alert that is answered ends, its ring timeout cancelled and its cadence reference dropped, and no burst starts. Each
appearing position is told once, and nothing else changes but for the headroom floor (R116) (R7, R26, R27, R99). With no bridge FREE
the request is refused NO-BRIDGE with POOL posted and all stands as it was (R28, R100). -/
def Obligations.SeizeConnectsLine : Prop :=
  (∀ (s : State) (p : Pos) (k : Key) (h : Handset) (l : LineNo) (b : BridgeNo) (t : TurretRequest),
    (t = .seize k h ∨ t = .retrieve k h) → Ready s p t.message → s.resetting = false → s.keyLine p k = some l →
    ((s.line l).state = .idle ∨ (s.line l).state = .alerting) → s.currentLine ⟨p, h⟩ = none → s.lowestFree = some b →
    ∃ u : State, exec (t.command p) s = .next u ∧ Answered s u p ⟨t.code, .accepted⟩ ∧ ToldLine s u l ∧
      u.line l = takenBy (s.line l) ⟨p, h⟩ b ∧ (∀ l' : LineNo, l' ≠ l → u.line l' = s.line l') ∧
      { u.bridge b with receivers := 0 } =
        { Bridge.allocated (.line l) (s.line l).headroom with
          contributors := (s.line l).activeSlot.toList.map trunkLeg ++ [handsetLeg p h] } ∧
      (∀ b' : BridgeNo, b' ≠ b → u.bridge b' = (s.bridge b').settle) ∧
      u.leg (handsetLeg p h) = { s.leg (handsetLeg p h) with attach := some b } ∧
      (∀ sl : SlotNo, (s.line l).activeSlot = some sl →
        u.leg (trunkLeg sl) = { s.leg (trunkLeg sl) with attach := some b }) ∧
      (∀ g : LegNo, g ≠ handsetLeg p h → (∀ sl : SlotNo, (s.line l).activeSlot = some sl → g ≠ trunkLeg sl) →
        u.leg g = s.leg g) ∧
      u.timer (.burst l) =
        (if (s.line l).state = .idle ∧ (s.line l).kind = .auto then (s.timer (.burst l)).start (s.line l).burst
        else s.timer (.burst l)) ∧
      ((s.line l).state = .idle → u.timer (.ringTimeout l) = s.timer (.ringTimeout l) ∧ u.generators = s.generators) ∧
      ((s.line l).state = .alerting →
        (u.timer (.ringTimeout l)).running = false ∧
        ((s.line l).refGen = none → u.generators = s.generators) ∧
        ∀ n : GenNo, (s.line l).refGen = some n →
          (u.generator n).refs = (s.generator n).refs - 1 ∧
          ((s.generator n).refs = 1 → (u.generator n).state = .idle ∧ (u.generator n).remaining = 0) ∧
          ∀ n' : GenNo, n' ≠ n → u.generator n' = s.generator n') ∧
      (∀ id : TimerId, id ≠ .burst l → id ≠ .ringTimeout l → u.timer id = s.timer id) ∧
      u =
        { s with
          lines := u.lines, bridges := u.bridges, legs := u.legs, timers := u.timers, generators := u.generators
          links := u.links, pointer := u.pointer }) ∧
  ∀ (s : State) (p : Pos) (k : Key) (h : Handset) (l : LineNo) (t : TurretRequest),
    (t = .seize k h ∨ t = .retrieve k h) → Ready s p t.message → s.resetting = false → s.keyLine p k = some l →
    ((s.line l).state = .idle ∨ (s.line l).state = .alerting) → s.currentLine ⟨p, h⟩ = none → s.lowestFree = none →
    ∃ u : State, exec (t.command p) s = .next u ∧ Unmoved s u p ⟨t.code, .refused .noBridge⟩ ∧ u.flagged .pool = true

/-- The handset switch. A SEIZE or RETRIEVE that names a handset in use on another line is decided as for a free handset, with that
line's bridge counted where the switch releases it; accepted, it first holds that line under switch action HOLD where the handset is
its sole occupant, and releases the handset from it otherwise, and then attaches the handset to the line named. Refused, it leaves
both lines as they were. The legs and bridges of no other line are touched, but for the headroom floor (R116). A line that is left at rest on
its alternate with its primary STANDBY reverts, with ROUTE posted; its effects are stated where nothing seeks the alternate it gives up
(R25, R30, R31, R32, R48, R101, R142, R147). That the indications of the two lines are enqueued in ascending line order is the model's
choice (log entry 14). -/
def Obligations.HandsetSwitchLeavesFirst : Prop :=
  ∀ (s : State) (p : Pos) (k : Key) (h : Handset) (l x : LineNo) (t : TurretRequest),
    (t = .seize k h ∨ t = .retrieve k h) → Ready s p t.message → s.resetting = false → s.keyLine p k = some l →
    s.currentLine ⟨p, h⟩ = some x → x ≠ l → ⟨p, h⟩ ∉ (s.line l).occupants →
    ∃ u : State, exec (t.command p) s = .next u ∧
      (∀ b : BridgeNo,
        (((s.line l).state = .idle ∨ (s.line l).state = .alerting) ∧ Lowest (HadBySeize s ⟨p, h⟩ x) b ∨
          (s.line l).state = .connected ∧ (s.line l).bridge = some b ∧
            ((s.line l).occupiedBy p = true ∨
              (s.line l).currentPrivacy = .shared ∧ (s.line l).occupants.length < 4) ∨
          (s.line l).state = .held ∧ (s.line l).bridge = some b ∧
            ((s.line l).holdOwner = some p ∨ (s.line l).holdMode = .common ∨ (s.line l).marks.recalled = true)) →
        (LeftToRest s ⟨p, h⟩ x → Stays s x ∨ ∀ a : SlotNo, (s.line x).alternate = some a → Unsought s a) →
        Answered s u p ⟨t.code, .accepted⟩ ∧
        (∀ q : Pos, (u.link q).indications = (told none [] s u q).indications) ∧
        u.line l = takenBy (s.line l) ⟨p, h⟩ b ∧
        (∀ l' : LineNo, l' ≠ x → l' ≠ l → u.line l' = s.line l') ∧
        (u.leg (handsetLeg p h)).attach = some b ∧ handsetLeg p h ∈ (u.bridge b).contributors ∧
        (∀ h' : Handset, (s.line l).state = .connected → h' ≠ h → ⟨p, h'⟩ ∈ (s.line l).occupants →
          (u.leg (handsetLeg p h')).attach ≠ some b) ∧
        ((s.line l).state = .idle ∨ (s.line l).state = .alerting →
          (u.bridge b).state = .inUse ∧ (u.bridge b).owner = some (.line l) ∧
          ∀ sl : SlotNo, (s.line l).activeSlot = some sl →
            (u.leg (trunkLeg sl)).attach = some b ∧ trunkLeg sl ∈ (u.bridge b).contributors) ∧
        (∀ g : LegNo, g ≠ handsetLeg p h →
          (∀ h' : Handset, (s.line l).state = .connected → ⟨p, h'⟩ ∈ (s.line l).occupants → g ≠ handsetLeg p h') →
          (∀ sl : SlotNo, (s.line l).state = .idle ∨ (s.line l).state = .alerting → (s.line l).activeSlot = some sl →
            g ≠ trunkLeg sl) →
          u.leg g =
            if (s.leg g).attach ≠ none ∧ (s.leg g).attach = (s.line x).bridge ∧ (s.line x).occupants = [⟨p, h⟩] ∧
                ((s.link p).switchAction = .release ∨ ∃ y ∈ (s.line x).monitors, g = unitLeg y.pos y.unit) then
              { s.leg g with attach := none }
            else s.leg g) ∧
        (∀ b' : BridgeNo, b' ≠ b → (s.line x).bridge ≠ some b' → u.bridge b' = (s.bridge b').settle) ∧
        (∀ b' : BridgeNo, b' ≠ b → (s.line x).bridge = some b' →
          (LeftToRest s ⟨p, h⟩ x → u.bridge b' = Bridge.free) ∧
          (¬LeftToRest s ⟨p, h⟩ x → (s.line x).occupants ≠ [⟨p, h⟩] ∨ (s.line x).monitors = [] →
            u.bridge b' = bridgeWithout s b' (handsetLeg p h))) ∧
        (LeftToRest s ⟨p, h⟩ x → (u.timer (.holdRecall x)).running = false ∧ (u.timer (.burst x)).running = false) ∧
        ((s.line x).occupants = [⟨p, h⟩] → (s.link p).switchAction = .hold →
          u.timer (.holdRecall x) =
            (if (s.line x).holdRecall = 0 then s.timer (.holdRecall x)
            else (s.timer (.holdRecall x)).start (1000 * (s.line x).holdRecall)) ∧
          u.timer (.burst x) = s.timer (.burst x)) ∧
        ((s.line x).occupants ≠ [⟨p, h⟩] →
          u.timer (.holdRecall x) = s.timer (.holdRecall x) ∧ u.timer (.burst x) = s.timer (.burst x)) ∧
        u.timer (.burst l) =
          (if (s.line l).state = .idle ∧ (s.line l).kind = .auto then (s.timer (.burst l)).start (s.line l).burst
          else s.timer (.burst l)) ∧
        ((s.line l).state = .alerting → (u.timer (.ringTimeout l)).running = false) ∧
        ((s.line l).state = .held → (u.timer (.holdRecall l)).running = false) ∧
        (∀ id : TimerId, id ≠ .holdRecall x → id ≠ .burst x → id ≠ .burst l →
          ((s.line l).state = .alerting → id ≠ .ringTimeout l) → ((s.line l).state = .held → id ≠ .holdRecall l) →
          u.timer id = s.timer id) ∧
        (∀ (q : Pos) (m : UnitNo),
          u.selection q m =
            if (s.line x).occupants = [⟨p, h⟩] ∧ ⟨q, m⟩ ∈ (s.line x).monitors then .none else s.selection q m) ∧
        ((s.line l).state ≠ .alerting → u.generators = s.generators) ∧
        u =
          { s with
            lines := u.lines, bridges := u.bridges, legs := u.legs, timers := u.timers, generators := u.generators
            selections := u.selections, slots := u.slots, links := u.links, pointer := u.pointer, mp := u.mp } ∧
        (¬LeftToRest s ⟨p, h⟩ x ∨ Stays s x →
          u.line x = leftBy (s.line x) ⟨p, h⟩ (s.link p).switchAction ∧ u.slots = s.slots ∧ u.mp = s.mp) ∧
        (LeftToRest s ⟨p, h⟩ x → ¬Stays s x →
          u.line x = { rested (s.line x) with route := .primary } ∧
          u.mp = { s.mp with flags := s.mp.flags ||| 2#7 } ∧
          ∀ n a : SlotNo, (s.line x).primary = some n → (s.line x).alternate = some a → n ≠ a →
            u.slot n = { s.slot n with state := .active, claimant := some (.line x) } ∧
            u.slot a = { s.slot a with state := .standby, claimant := none } ∧
            ∀ sl : SlotNo, sl ≠ n → sl ≠ a → u.slot sl = s.slot sl)) ∧
      ((s.line l).state = .idle ∨ (s.line l).state = .alerting → (∀ b : BridgeNo, ¬HadBySeize s ⟨p, h⟩ x b) →
        Unmoved s u p ⟨t.code, .refused .noBridge⟩) ∧
      ((s.line l).state = .connected → (s.line l).occupiedBy p = false → (s.line l).currentPrivacy = .secluded →
        Unmoved s u p ⟨t.code, .refused .secluded⟩) ∧
      ((s.line l).state = .connected → (s.line l).occupiedBy p = false → (s.line l).currentPrivacy = .shared →
        4 ≤ (s.line l).occupants.length → Unmoved s u p ⟨t.code, .refused .full⟩) ∧
      ((s.line l).state = .held →
        ¬((s.line l).holdOwner = some p ∨ (s.line l).holdMode = .common ∨ (s.line l).marks.recalled = true) →
        Unmoved s u p ⟨t.code, .refused .notHolder⟩)

/-- SEIZE of a CONNECTED line: by the handset that occupies it, accepted with no change; by the other handset of a position that
occupies it, the occupancy moves to the handset named and keeps its place; by another position, refused PRIVATE or FULL, and else the
handset joins as last occupant. The free handset that moves or joins becomes contributor and receiver of the line's bridge, and each
appearing position is told once (R7, R29, R95). -/
def Obligations.SeizeJoinsOrIsRefused : Prop :=
  ∀ (s : State) (p : Pos) (k : Key) (h : Handset) (l : LineNo) (t : TurretRequest),
    (t = .seize k h ∨ t = .retrieve k h) → Ready s p t.message → s.resetting = false →
    s.keyLine p k = some l → (s.line l).state = .connected →
    ∃ u : State, exec (t.command p) s = .next u ∧
      (⟨p, h⟩ ∈ (s.line l).occupants → Unmoved s u p ⟨t.code, .accepted⟩) ∧
      (∀ (b : BridgeNo) (h' : Handset), ⟨p, h⟩ ∉ (s.line l).occupants → ⟨p, h'⟩ ∈ (s.line l).occupants →
        (s.line l).bridge = some b → s.currentLine ⟨p, h⟩ = none →
        Answered s u p ⟨t.code, .accepted⟩ ∧ ToldLine s u l ∧
        u.line l =
          { s.line l with
            occupants := (s.line l).occupants.map fun e => if e = ⟨p, h'⟩ then ⟨p, h⟩ else e } ∧
        handsetLeg p h ∈ (u.bridge b).contributors ∧ (u.leg (handsetLeg p h)).attach = some b ∧
        (u.leg (handsetLeg p h')).attach ≠ some b ∧
        (∀ g : LegNo, g ≠ handsetLeg p h → g ≠ handsetLeg p h' → u.leg g = s.leg g) ∧
        (∀ l' : LineNo, l' ≠ l → u.line l' = s.line l') ∧
        (∀ b' : BridgeNo, b' ≠ b → u.bridge b' = (s.bridge b').settle) ∧
        u =
          { s with
            lines := u.lines, bridges := u.bridges, legs := u.legs, links := u.links, pointer := u.pointer }) ∧
      (∀ b : BridgeNo, (s.line l).occupiedBy p = false → (s.line l).bridge = some b →
        (s.line l).currentPrivacy = .shared → (s.line l).occupants.length < 4 → s.currentLine ⟨p, h⟩ = none →
        Answered s u p ⟨t.code, .accepted⟩ ∧ ToldLine s u l ∧
        u.line l = { s.line l with occupants := (s.line l).occupants ++ [⟨p, h⟩] } ∧
        (u.bridge b).contributors =
          (if handsetLeg p h ∈ (s.bridge b).contributors then (s.bridge b).contributors
          else (s.bridge b).contributors ++ [handsetLeg p h]) ∧
        (u.leg (handsetLeg p h)).attach = some b ∧
        (∀ g : LegNo, g ≠ handsetLeg p h → u.leg g = s.leg g) ∧ (∀ l' : LineNo, l' ≠ l → u.line l' = s.line l') ∧
        (∀ b' : BridgeNo, b' ≠ b → u.bridge b' = (s.bridge b').settle) ∧
        u =
          { s with
            lines := u.lines, bridges := u.bridges, legs := u.legs, links := u.links, pointer := u.pointer }) ∧
      ((s.line l).occupiedBy p = false → (s.line l).currentPrivacy = .secluded →
        Unmoved s u p ⟨t.code, .refused .secluded⟩) ∧
      ((s.line l).occupiedBy p = false → (s.line l).currentPrivacy = .shared → 4 ≤ (s.line l).occupants.length →
        Unmoved s u p ⟨t.code, .refused .full⟩)

/-- A HELD line is retrieved by its holder, under COMMON hold mode, or once RECALLED, here by a free handset: CONNECTED with the handset
as sole occupant, the hold owner and RECALLED cleared, the recall timer cancelled and privacy as it stands; each appearing position is
told once. Any other position is refused NOT-HOLDER, with no change and no indication (R7, R37). -/
def Obligations.HeldLineIsRetrieved : Prop :=
  ∀ (s : State) (p : Pos) (k : Key) (h : Handset) (l : LineNo) (t : TurretRequest),
    (t = .retrieve k h ∨ t = .seize k h) → Ready s p t.message → s.resetting = false →
    s.keyLine p k = some l → (s.line l).state = .held →
    ∃ u : State, exec (t.command p) s = .next u ∧
      (∀ b : BridgeNo,
        ((s.line l).holdOwner = some p ∨ (s.line l).holdMode = .common ∨ (s.line l).marks.recalled = true) →
        (s.line l).bridge = some b → s.currentLine ⟨p, h⟩ = none →
        Answered s u p ⟨t.code, .accepted⟩ ∧ ToldLine s u l ∧
        u.line l =
          { s.line l with
            state := .connected, occupants := [⟨p, h⟩], holdOwner := none
            marks := { (s.line l).marks with recalled := false } } ∧
        (u.timer (.holdRecall l)).running = false ∧
        handsetLeg p h ∈ (u.bridge b).contributors ∧ (u.leg (handsetLeg p h)).attach = some b ∧
        (∀ l' : LineNo, l' ≠ l → u.line l' = s.line l') ∧
        (∀ id : TimerId, id ≠ .holdRecall l → u.timer id = s.timer id) ∧
        (∀ g : LegNo, g ≠ handsetLeg p h → u.leg g = s.leg g) ∧
        (∀ b' : BridgeNo, b' ≠ b → u.bridge b' = (s.bridge b').settle) ∧
        u =
          { s with
            lines := u.lines, bridges := u.bridges, legs := u.legs, timers := u.timers, links := u.links
            pointer := u.pointer }) ∧
      (¬((s.line l).holdOwner = some p ∨ (s.line l).holdMode = .common ∨ (s.line l).marks.recalled = true) →
        Unmoved s u p ⟨t.code, .refused .notHolder⟩)

/-- RELEASE of a free handset is accepted with no change. By one of several occupants it removes that entry, and the next oldest is
owner where it was the first; by the last one it returns the line to rest: its bridge is freed, its recall and burst timers are
stopped, its monitors' units select nothing, and it is IDLE, or LOCKOUT where NO-ROUTE was set. Each appearing position is told once.
A line that comes to rest on its alternate with its primary STANDBY reverts to it, with ROUTE posted; an alternate that no record
waits for and that is no primary is then STANDBY (R3, R7, R33, R34, R142, R147). Where a reversion changes other lines, the ascending order
of the indications is the model's choice (log entry 14). -/
def Obligations.ReleaseFreesHandset : Prop :=
  ∀ (s : State) (p : Pos) (h : Handset),
    Ready s p (TurretRequest.release h).message → s.resetting = false →
    ∃ u : State, exec ((TurretRequest.release h).command p) s = .next u ∧
      (s.currentLine ⟨p, h⟩ = none → Unmoved s u p ⟨0x03#8, .accepted⟩) ∧
      ∀ (l : LineNo) (b : BridgeNo), s.currentLine ⟨p, h⟩ = some l → (s.line l).bridge = some b →
        Answered s u p ⟨0x03#8, .accepted⟩ ∧
        ((s.line l).occupants ≠ [⟨p, h⟩] →
          ToldLine s u l ∧ u.line l = { s.line l with occupants := (s.line l).occupants.erase ⟨p, h⟩ } ∧
          (∀ l' : LineNo, l' ≠ l → u.line l' = s.line l') ∧
          (u.bridge b).contributors = (s.bridge b).contributors.erase (handsetLeg p h) ∧
          (∀ b' : BridgeNo, b' ≠ b → u.bridge b' = (s.bridge b').settle) ∧
          (u.leg (handsetLeg p h)).attach ≠ some b ∧ (∀ g : LegNo, g ≠ handsetLeg p h → u.leg g = s.leg g) ∧
          u =
            { s with
              lines := u.lines, bridges := u.bridges, legs := u.legs, links := u.links, pointer := u.pointer }) ∧
        ((s.line l).occupants = [⟨p, h⟩] →
          (u.timer (.holdRecall l)).running = false ∧ (u.timer (.burst l)).running = false ∧
          (∀ id : TimerId, id ≠ .holdRecall l → id ≠ .burst l → u.timer id = s.timer id) ∧
          (∀ (q : Pos) (m : UnitNo),
            u.selection q m = if ⟨q, m⟩ ∈ (s.line l).monitors then .none else s.selection q m) ∧
          (Stays s l →
            ToldLine s u l ∧ u.line l = rested (s.line l) ∧ (∀ l' : LineNo, l' ≠ l → u.line l' = s.line l') ∧
            u.bridge b = Bridge.free ∧ (∀ g : LegNo, (u.leg g).attach ≠ some b) ∧
            u =
              { s with
                lines := u.lines, bridges := u.bridges, legs := u.legs, timers := u.timers
                selections := u.selections, links := u.links, pointer := u.pointer }) ∧
          (¬Stays s l →
            (∀ q : Pos, (u.link q).indications = (told none [] s u q).indications) ∧
            u.line l = { rested (s.line l) with route := .primary } ∧
            u.mp = { s.mp with flags := s.mp.flags ||| 2#7 } ∧
            ∀ n a : SlotNo, (s.line l).primary = some n → (s.line l).alternate = some a → n ≠ a → Unsought s a →
              u.slot n = { s.slot n with state := .active, claimant := some (.line l) } ∧
              u.slot a = { s.slot a with state := .standby, claimant := none } ∧
              (∀ sl : SlotNo, sl ≠ n → sl ≠ a → u.slot sl = s.slot sl) ∧
              ∀ l' : LineNo, l' ≠ l → u.line l' = s.line l'))

/-- HOLD by the sole occupant keeps the bridge: HELD with the position as hold owner, no occupant and no monitor, whose units select
nothing, and the recall timer started unless the hold recall is 0; each appearing position is told once. By a free handset it is
refused NOT-OCCUPANT, and with another occupant NOT-SOLE, with no change (R7, R36, R48). -/
def Obligations.HoldKeepsBridge : Prop :=
  ∀ (s : State) (p : Pos) (h : Handset),
    Ready s p (TurretRequest.hold h).message → s.resetting = false →
    ∃ u : State, exec ((TurretRequest.hold h).command p) s = .next u ∧
      (s.currentLine ⟨p, h⟩ = none → Unmoved s u p ⟨0x04#8, .refused .notOccupant⟩) ∧
      (∀ l : LineNo, s.currentLine ⟨p, h⟩ = some l → (s.line l).occupants ≠ [⟨p, h⟩] →
        Unmoved s u p ⟨0x04#8, .refused .notSole⟩) ∧
      ∀ l : LineNo, s.currentLine ⟨p, h⟩ = some l → (s.line l).occupants = [⟨p, h⟩] →
        Answered s u p ⟨0x04#8, .accepted⟩ ∧ ToldLine s u l ∧
        u.line l = { s.line l with state := .held, occupants := [], monitors := [], holdOwner := some p } ∧
        (∀ l' : LineNo, l' ≠ l → u.line l' = s.line l') ∧
        u.timer (.holdRecall l) =
          (if (s.line l).holdRecall = 0 then s.timer (.holdRecall l)
          else (s.timer (.holdRecall l)).start (1000 * (s.line l).holdRecall)) ∧
        (∀ id : TimerId, id ≠ .holdRecall l → u.timer id = s.timer id) ∧
        (∀ (q : Pos) (m : UnitNo),
          u.selection q m = if ⟨q, m⟩ ∈ (s.line l).monitors then .none else s.selection q m) ∧
        (∀ b : BridgeNo, (s.line l).bridge = some b →
          (u.bridge b).state = (s.bridge b).state ∧ (u.bridge b).owner = (s.bridge b).owner ∧
          (u.leg (handsetLeg p h)).attach ≠ some b ∧
          (∀ m ∈ (s.line l).monitors, (u.leg (unitLeg m.pos m.unit)).attach ≠ some b) ∧
          (∀ g : LegNo, g ≠ handsetLeg p h → (∀ m ∈ (s.line l).monitors, g ≠ unitLeg m.pos m.unit) →
            (g ∈ (u.bridge b).contributors ↔ g ∈ (s.bridge b).contributors)) ∧
          ∀ b' : BridgeNo, b' ≠ b → u.bridge b' = (s.bridge b').settle) ∧
        (∀ g : LegNo, g ≠ handsetLeg p h → (∀ m ∈ (s.line l).monitors, g ≠ unitLeg m.pos m.unit) →
          u.leg g = s.leg g) ∧
        u =
          { s with
            lines := u.lines, bridges := u.bridges, legs := u.legs, timers := u.timers
            selections := u.selections, links := u.links, pointer := u.pointer }

/-- PRIVACY by the owner of a line: ON, as sole occupant, makes a SHARED line PRIVATE and removes every monitor, whose speaker units
leave the bridge and select nothing; OFF makes a PRIVATE one SHARED; each appearing position is told once. On a line that is so already
it changes nothing. By a position that is no occupant it is refused NOT-OCCUPANT, by an occupant that is not the owner NOT-OWNER, and ON
with another occupant NOT-SOLE, each with no change (R7, R40, R41, R48). -/
def Obligations.PrivacySetByOwner : Prop :=
  ∀ (s : State) (p : Pos) (k : Key) (l : LineNo) (on : Bool),
    Ready s p (TurretRequest.privacy k on).message → s.resetting = false → s.keyLine p k = some l →
    (s.line l).state ≠ .vacant → (s.line l).state ≠ .retiring → (s.line l).state ≠ .lockout →
    ∃ u : State, exec ((TurretRequest.privacy k on).command p) s = .next u ∧
      ((s.line l).occupiedBy p = false → Unmoved s u p ⟨0x05#8, .refused .notOccupant⟩) ∧
      ((s.line l).occupiedBy p = true → (s.line l).owner ≠ some p → Unmoved s u p ⟨0x05#8, .refused .notOwner⟩) ∧
      ((s.line l).owner = some p → on = true → 1 < (s.line l).occupants.length →
        Unmoved s u p ⟨0x05#8, .refused .notSole⟩) ∧
      ((s.line l).owner = some p → on = true → (s.line l).occupants.length = 1 → (s.line l).currentPrivacy = .secluded →
        Unmoved s u p ⟨0x05#8, .accepted⟩) ∧
      ((s.line l).owner = some p → on = false → (s.line l).currentPrivacy = .shared →
        Unmoved s u p ⟨0x05#8, .accepted⟩) ∧
      ((s.line l).owner = some p → on = true → (s.line l).occupants.length = 1 → (s.line l).currentPrivacy = .shared →
        Answered s u p ⟨0x05#8, .accepted⟩ ∧ ToldLine s u l ∧
        u.line l = { s.line l with currentPrivacy := .secluded, monitors := [] } ∧
        (∀ l' : LineNo, l' ≠ l → u.line l' = s.line l') ∧
        (∀ (q : Pos) (m : UnitNo),
          u.selection q m = if ⟨q, m⟩ ∈ (s.line l).monitors then .none else s.selection q m) ∧
        (∀ b : BridgeNo, (s.line l).bridge = some b →
          (∀ m ∈ (s.line l).monitors, (u.leg (unitLeg m.pos m.unit)).attach ≠ some b) ∧
          (∀ g : LegNo, (∀ m ∈ (s.line l).monitors, g ≠ unitLeg m.pos m.unit) →
            (g ∈ (u.bridge b).contributors ↔ g ∈ (s.bridge b).contributors)) ∧
          ∀ b' : BridgeNo, b' ≠ b → u.bridge b' = (s.bridge b').settle) ∧
        (∀ g : LegNo, (∀ m ∈ (s.line l).monitors, g ≠ unitLeg m.pos m.unit) → u.leg g = s.leg g) ∧
        u =
          { s with
            lines := u.lines, bridges := u.bridges, legs := u.legs, selections := u.selections, links := u.links
            pointer := u.pointer }) ∧
      ((s.line l).owner = some p → on = false → (s.line l).currentPrivacy = .secluded →
        Answered s u p ⟨0x05#8, .accepted⟩ ∧ ToldLine s u l ∧
        u.line l = { s.line l with currentPrivacy := .shared } ∧
        (∀ l' : LineNo, l' ≠ l → u.line l' = s.line l') ∧
        u =
          { s with
            lines := u.lines, bridges := tabMap Bridge.settle s.bridges, links := u.links, pointer := u.pointer })

/-- SIGNAL is refused BAD-REQUEST on a NAILED line (a HELD one too: log entry 20) and NOT-OCCUPANT by a position that does not occupy
the line; by an occupant it sets RING-OUT, of which each appearing position is told where it was clear, and starts or restarts the
burst timer with the setting in the record. ACKNOWLEDGE clears MISSED of the line at the key and nothing else of any record, and tells
each appearing position where it was set (R7, R44, R45). That a run's identity is one above the last is the model's choice (log entry
10). -/
def Obligations.SignalRingsAcknowledgeClears : Prop :=
  (∀ (s : State) (p : Pos) (k : Key) (l : LineNo),
    Ready s p (TurretRequest.signal k).message → s.resetting = false → s.keyLine p k = some l →
    (s.line l).state ≠ .vacant → (s.line l).state ≠ .retiring → (s.line l).state ≠ .lockout →
    ∃ u : State, exec ((TurretRequest.signal k).command p) s = .next u ∧
      ((s.line l).kind = .nailed → Unmoved s u p ⟨0x06#8, .refused .badRequest⟩) ∧
      ((s.line l).kind ≠ .nailed → (s.line l).occupiedBy p = false →
        Unmoved s u p ⟨0x06#8, .refused .notOccupant⟩) ∧
      ((s.line l).kind ≠ .nailed → (s.line l).occupiedBy p = true →
        Answered s u p ⟨0x06#8, .accepted⟩ ∧
        ((s.line l).marks.ringOut = false → ToldLine s u l) ∧
        ((s.line l).marks.ringOut = true → ∀ q : Pos, (u.link q).indications = (s.link q).indications) ∧
        u.line l = { s.line l with marks := { (s.line l).marks with ringOut := true } } ∧
        u.timer (.burst l) = ⟨true, (s.line l).burst, 16 * (s.line l).burst, (s.timer (.burst l)).run + 1⟩ ∧
        (∀ l' : LineNo, l' ≠ l → u.line l' = s.line l') ∧
        (∀ id : TimerId, id ≠ .burst l → u.timer id = s.timer id) ∧
        u =
          { s with
            lines := u.lines, bridges := tabMap Bridge.settle s.bridges, timers := u.timers, links := u.links
            pointer := u.pointer })) ∧
  (∀ (s : State) (p : Pos) (k : Key) (l : LineNo),
    Ready s p (TurretRequest.acknowledge k).message → s.resetting = false → s.keyLine p k = some l →
    (s.line l).state ≠ .vacant → (s.line l).state ≠ .retiring → (s.line l).state ≠ .lockout →
    ∃ u : State, exec ((TurretRequest.acknowledge k).command p) s = .next u ∧
      ((s.line l).marks.missed = false → Unmoved s u p ⟨0x07#8, .accepted⟩) ∧
      ((s.line l).marks.missed = true →
        Answered s u p ⟨0x07#8, .accepted⟩ ∧ ToldLine s u l ∧
        u.line l = { s.line l with marks := { (s.line l).marks with missed := false } } ∧
        (∀ l' : LineNo, l' ≠ l → u.line l' = s.line l') ∧
        u =
          { s with
            lines := u.lines, bridges := tabMap Bridge.settle s.bridges, links := u.links, pointer := u.pointer }))

/-- A request that names a line key is refused NOT-APPEARING on an empty key, VACANT where the line is VACANT or RETIRING, and
OUT-OF-SERVICE in LOCKOUT, with no change (R24). QUERY of a line in use and QUERY of a channel that concerns the position enqueue one
indication there with the content as it stands, and change no record; QUERY of a channel is refused VACANT where the channel is VACANT
or RETIRING, and NO-PERMISSION where the position is in none of its sets (R49, R62, R175). -/
def Obligations.KeysAreLookedUpAndQueried : Prop :=
  (∀ (s : State) (p : Pos) (k : Key) (t : TurretRequest),
    t ∈ [.privacy k true, .privacy k false, .signal k, .acknowledge k, .queryLine k, .seize k .left, .seize k .right,
      .retrieve k .left, .retrieve k .right] →
    Ready s p t.message → s.resetting = false →
    ∃ u : State, exec (t.command p) s = .next u ∧
      (s.keyLine p k = none → Unmoved s u p ⟨t.code, .refused .notAppearing⟩) ∧
      ∀ l : LineNo, s.keyLine p k = some l →
        ((s.line l).state = .vacant ∨ (s.line l).state = .retiring → Unmoved s u p ⟨t.code, .refused .vacant⟩) ∧
        ((s.line l).state = .lockout → Unmoved s u p ⟨t.code, .refused .outOfService⟩)) ∧
  (∀ (s : State) (p : Pos) (k : Key) (l : LineNo),
    Ready s p (TurretRequest.queryLine k).message → s.resetting = false → s.keyLine p k = some l →
    (s.line l).state ≠ .vacant → (s.line l).state ≠ .retiring → (s.line l).state ≠ .lockout →
    ∃ u : State, exec ((TurretRequest.queryLine k).command p) s = .next u ∧ Answered s u p ⟨0x08#8, .accepted⟩ ∧
      (u.link p).indications =
        ((s.link p).indicate ⟨.key k, .lineState, .line (s.line l).view⟩).indications ∧
      (∀ q : Pos, q ≠ p → u.link q = s.link q) ∧
      u = { s with bridges := tabMap Bridge.settle s.bridges, links := u.links, pointer := u.pointer }) ∧
  ∀ (s : State) (p : Pos) (c : ChanNo),
    Ready s p (TurretRequest.queryChannel c).message → s.resetting = false →
    ∃ u : State, exec ((TurretRequest.queryChannel c).command p) s = .next u ∧
      ((s.channel c).live = false → Unmoved s u p ⟨0x09#8, .refused .vacant⟩) ∧
      ((s.channel c).live = true → p ∉ (s.channel c).listen → p ∉ (s.channel c).talk →
        (s.channel c).memberUnit p = none → Unmoved s u p ⟨0x09#8, .refused .noPermission⟩) ∧
      ((s.channel c).live = true →
        (p ∈ (s.channel c).listen ∨ p ∈ (s.channel c).talk ∨ ∃ n : UnitNo, (s.channel c).memberUnit p = some n) →
        Answered s u p ⟨0x09#8, .accepted⟩ ∧
        (u.link p).indications =
          ((s.link p).indicate
            ⟨.channel c, .channelState, .channel (s.channel c).view (s.positionView c p)⟩).indications ∧
        (∀ q : Pos, q ≠ p → u.link q = s.link q) ∧
        u = { s with bridges := tabMap Bridge.settle s.bridges, links := u.links, pointer := u.pointer })

/-- SPEAKER, line form. A designated unit is refused UNIT-FIXED, then the key is looked up; a unit that monitors the line already is
accepted with no change; a line that is not CONNECTED refuses NOT-OCCUPANT, a PRIVATE one PRIVATE and one with 8 monitors FULL. Else the
unit's previous selection is released and the unit is the line's last monitor and listens to its bridge, whose contributor list stands
(R24, R47, R48, R55, R60). -/
def Obligations.SpeakerMonitorsLine : Prop :=
  ∀ (s : State) (p : Pos) (n : UnitNo) (k : Key),
    Ready s p (TurretRequest.speakerLine n k).message → s.resetting = false →
    ∃ u : State, exec ((TurretRequest.speakerLine n k).command p) s = .next u ∧
      ((s.designated p n).isSome = true → Unmoved s u p ⟨0x0A#8, .refused .unitFixed⟩) ∧
      (s.designated p n = none →
        (s.keyLine p k = none → Unmoved s u p ⟨0x0A#8, .refused .notAppearing⟩) ∧
        ∀ l : LineNo, s.keyLine p k = some l →
          ((s.line l).state = .vacant ∨ (s.line l).state = .retiring → Unmoved s u p ⟨0x0A#8, .refused .vacant⟩) ∧
          ((s.line l).state = .lockout → Unmoved s u p ⟨0x0A#8, .refused .outOfService⟩) ∧
          ((s.line l).state = .idle ∨ (s.line l).state = .alerting ∨ (s.line l).state = .held →
            ⟨p, n⟩ ∉ (s.line l).monitors → Unmoved s u p ⟨0x0A#8, .refused .notOccupant⟩) ∧
          ((s.line l).state = .connected →
            (⟨p, n⟩ ∈ (s.line l).monitors → Unmoved s u p ⟨0x0A#8, .accepted⟩) ∧
            (⟨p, n⟩ ∉ (s.line l).monitors → (s.line l).currentPrivacy = .secluded →
              Unmoved s u p ⟨0x0A#8, .refused .secluded⟩) ∧
            (⟨p, n⟩ ∉ (s.line l).monitors → (s.line l).currentPrivacy = .shared → 8 ≤ (s.line l).monitors.length →
              Unmoved s u p ⟨0x0A#8, .refused .full⟩) ∧
            ∀ b : BridgeNo, ⟨p, n⟩ ∉ (s.line l).monitors → (s.line l).currentPrivacy = .shared →
              (s.line l).monitors.length < 8 → (s.line l).bridge = some b →
              Answered s u p ⟨0x0A#8, .accepted⟩ ∧
              (∀ q : Pos, (u.link q).indications = (told none (selectedChannel s p n) s u q).indications) ∧
              u.line l = { s.line l with monitors := (s.line l).monitors ++ [⟨p, n⟩] } ∧
              Released s u p n none (some l) ∧ BridgesReleased s u p n (some b) ∧ u.selection p n = .line l ∧
              (u.leg (unitLeg p n)).attach = some b ∧
              ((∀ y : ChanNo, s.selection p n = .channel y → (s.channel y).bridge ≠ some b) →
                (∀ y : LineNo, s.selection p n = .line y → (s.line y).bridge ≠ some b) →
                (u.bridge b).contributors = (s.bridge b).contributors) ∧
              LegsReleased s u p n none ∧
              u =
                { s with
                  lines := u.lines, channels := u.channels, selections := u.selections, bridges := u.bridges
                  legs := u.legs, links := u.links, pointer := u.pointer }))

/-- SPEAKER, channel form, in the order of R58: a designated unit is refused UNIT-FIXED, a channel that is VACANT or RETIRING VACANT, a
unit that selects it already is accepted with no change, a position without the right to listen is refused NO-PERMISSION, and a CLOSED
channel is refused NO-BRIDGE where no bridge is FREE and none is counted. Else the unit's previous selection is released, and the unit
selects the channel and listens to it: an OPEN one keeps its bridge, and a CLOSED one opens on the lowest-numbered bridge then FREE, with
its ACTIVE trunk as contributor. The positions that qualify are told (R54, R55, R58, R60, R61), of the channel released before the channel
selected, which is the model's choice (log entry 14). -/
def Obligations.SpeakerSelectsChannel : Prop :=
  ∀ (s : State) (p : Pos) (n : UnitNo) (c : ChanNo),
    Ready s p (TurretRequest.speakerChannel n c).message → s.resetting = false →
    ∃ u : State, exec ((TurretRequest.speakerChannel n c).command p) s = .next u ∧
      ((s.designated p n).isSome = true → Unmoved s u p ⟨0x0B#8, .refused .unitFixed⟩) ∧
      (s.designated p n = none → (s.channel c).live = false → Unmoved s u p ⟨0x0B#8, .refused .vacant⟩) ∧
      (s.designated p n = none → (s.channel c).live = true →
        (s.selection p n = .channel c → Unmoved s u p ⟨0x0B#8, .accepted⟩) ∧
        (s.selection p n ≠ .channel c → (s.channel c).mayListen p = false →
          Unmoved s u p ⟨0x0B#8, .refused .noPermission⟩) ∧
        (s.selection p n ≠ .channel c → (s.channel c).mayListen p = true → (s.channel c).state = .closed →
          (∀ b : BridgeNo, (s.bridge b).state ≠ .free) →
          (∀ y : ChanNo, s.selection p n = .channel y → ¬Unheard s y p n) →
          Unmoved s u p ⟨0x0B#8, .refused .noBridge⟩) ∧
        ∀ b : BridgeNo, s.selection p n ≠ .channel c → (s.channel c).mayListen p = true →
          ((s.channel c).state = .opened ∧ (s.channel c).bridge = some b ∨
            (s.channel c).state = .closed ∧ Lowest (HadBySelect s p n c) b) →
          Answered s u p ⟨0x0B#8, .accepted⟩ ∧
          (∀ q : Pos, (u.link q).indications = (told none (selectedChannel s p n ++ [c]) s u q).indications) ∧
          u.channel c = { s.channel c with state := .opened, bridge := some b } ∧
          Released s u p n (some c) none ∧ BridgesReleased s u p n (some b) ∧ u.selection p n = .channel c ∧
          (u.leg (unitLeg p n)).attach = some b ∧
          ((s.channel c).state = .closed →
            { u.bridge b with receivers := 0 } =
              { Bridge.allocated (.channel c) (s.channel c).headroom with
                contributors := (s.liveTrunk c).toList.map trunkLeg } ∧
            ∀ sl : SlotNo, s.liveTrunk c = some sl → (u.leg (trunkLeg sl)).attach = some b) ∧
          ((s.channel c).state = .opened → s.selection p n = .none →
            (u.bridge b).contributors = (s.bridge b).contributors) ∧
          LegsReleased s u p n (if (s.channel c).state = .closed then s.liveTrunk c else none) ∧
          u =
            { s with
              lines := u.lines, channels := u.channels, selections := u.selections, bridges := u.bridges
              legs := u.legs, links := u.links, pointer := u.pointer })

/-- SPEAKER, clear form: a designated unit is refused UNIT-FIXED, and a unit that selects nothing is accepted with no change. Else the
unit's selection is released and is NONE: a monitor leaves its line, and a channel left with no receiver and no talker closes, its
bridge freed, and no bridge else changes but for the headroom floor; the positions that qualify are told (R48, R56, R59, R60, R61, R101,
R116). -/
def Obligations.SpeakerClearReleasesUnit : Prop :=
  ∀ (s : State) (p : Pos) (n : UnitNo),
    Ready s p (TurretRequest.speakerClear n).message → s.resetting = false →
    ∃ u : State, exec ((TurretRequest.speakerClear n).command p) s = .next u ∧
      ((s.designated p n).isSome = true → Unmoved s u p ⟨0x0C#8, .refused .unitFixed⟩) ∧
      (s.designated p n = none → s.selection p n = .none → Unmoved s u p ⟨0x0C#8, .accepted⟩) ∧
      (s.designated p n = none → s.selection p n ≠ .none →
        Answered s u p ⟨0x0C#8, .accepted⟩ ∧
        (∀ q : Pos, (u.link q).indications = (told none (selectedChannel s p n) s u q).indications) ∧
        u.selection p n = .none ∧ Released s u p n none none ∧ LegsReleased s u p n none ∧
        BridgesReleased s u p n none ∧
        (∀ (y : ChanNo) (b : BridgeNo), s.selection p n = .channel y → (s.channel y).bridge = some b →
          (u.leg (unitLeg p n)).attach ≠ some b) ∧
        (∀ (y : LineNo) (b : BridgeNo), s.selection p n = .line y → (s.line y).bridge = some b →
          (u.leg (unitLeg p n)).attach ≠ some b) ∧
        u =
          { s with
            lines := u.lines, channels := u.channels, selections := u.selections, bridges := u.bridges
            legs := u.legs, links := u.links, pointer := u.pointer })

/-- TALK-ON, in the order of R75: a channel that is VACANT or RETIRING is VACANT, a position without the right to talk is refused
NO-PERMISSION, one that talks already is accepted and one that is queued already QUEUED with no change, and one with 4 entries elsewhere
is MIC-BUSY. With a place free the position joins the end of the talker list with its microphone on the bridge, where a CLOSED channel
first opens on the lowest-numbered FREE bridge or refuses NO-BRIDGE, and a latched talker starts its silence timer unless the timeout is
0. With no place free it joins the queue while that holds fewer than 8, and is refused FLOOR-FULL otherwise. The positions that qualify
are told (R54, R61, R75–R77, R81). -/
def Obligations.TalkOnGrantsOrQueues : Prop :=
  ∀ (s : State) (p : Pos) (c : ChanNo) (latched : Bool),
    Ready s p (TurretRequest.talkOn c latched).message → s.resetting = false →
    ∃ u : State, exec ((TurretRequest.talkOn c latched).command p) s = .next u ∧
      ((s.channel c).live = false → Unmoved s u p ⟨0x0D#8, .refused .vacant⟩) ∧
      ((s.channel c).live = true → (s.channel c).mayTalk p = false → Unmoved s u p ⟨0x0D#8, .refused .noPermission⟩) ∧
      ((s.channel c).live = true → (s.channel c).mayTalk p = true →
        ((s.channel c).talking p = true → Unmoved s u p ⟨0x0D#8, .accepted⟩) ∧
        ((s.channel c).talking p = false → (s.channel c).queued p = true → Unmoved s u p ⟨0x0D#8, .queued⟩) ∧
        ((s.channel c).talking p = false → (s.channel c).queued p = false →
          (4 ≤ s.entryCount p → Unmoved s u p ⟨0x0D#8, .refused .micBusy⟩) ∧
          (s.entryCount p < 4 → (s.channel c).maxTalkers ≤ (s.channel c).talkers.length →
            8 ≤ (s.channel c).queue.length → Unmoved s u p ⟨0x0D#8, .refused .floorFull⟩) ∧
          (s.entryCount p < 4 → (s.channel c).talkers.length < (s.channel c).maxTalkers →
            (s.channel c).state = .closed → s.lowestFree = none → Unmoved s u p ⟨0x0D#8, .refused .noBridge⟩) ∧
          (s.entryCount p < 4 → (s.channel c).maxTalkers ≤ (s.channel c).talkers.length →
            (s.channel c).queue.length < 8 →
            Answered s u p ⟨0x0D#8, .queued⟩ ∧ ToldChannel none s u c ∧
            u.channel c = { s.channel c with queue := (s.channel c).queue ++ [⟨p, latched⟩] } ∧
            (∀ c' : ChanNo, c' ≠ c → u.channel c' = s.channel c') ∧
            u =
              { s with
                channels := u.channels, bridges := tabMap Bridge.settle s.bridges, links := u.links
                pointer := u.pointer }) ∧
          ∀ b : BridgeNo, s.entryCount p < 4 → (s.channel c).talkers.length < (s.channel c).maxTalkers →
            ((s.channel c).state = .opened ∧ (s.channel c).bridge = some b ∨
              (s.channel c).state = .closed ∧ s.lowestFree = some b) →
            Answered s u p ⟨0x0D#8, .accepted⟩ ∧ ToldChannel none s u c ∧
            u.channel c =
              { s.channel c with
                state := .opened, bridge := some b, talkers := (s.channel c).talkers ++ [⟨p, latched⟩] } ∧
            (∀ c' : ChanNo, c' ≠ c → u.channel c' = s.channel c') ∧
            ((s.channel c).state = .opened →
              (u.bridge b).contributors = micsJoined (s.bridge b).contributors [⟨p, latched⟩] ∧ u.legs = s.legs) ∧
            ((s.channel c).state = .closed →
              { u.bridge b with receivers := 0 } =
                { Bridge.allocated (.channel c) (s.channel c).headroom with
                  contributors := (s.liveTrunk c).toList.map trunkLeg ++ [micLeg p], micPeaks := [(micLeg p, 0)] } ∧
              (∀ sl : SlotNo, s.liveTrunk c = some sl →
                u.leg (trunkLeg sl) = { s.leg (trunkLeg sl) with attach := some b }) ∧
              ∀ g : LegNo, (∀ sl : SlotNo, s.liveTrunk c = some sl → g ≠ trunkLeg sl) → u.leg g = s.leg g) ∧
            (∀ b' : BridgeNo, b' ≠ b → u.bridge b' = (s.bridge b').settle) ∧
            u.timer (.silence c p) =
              (if latched = true ∧ (s.channel c).silence ≠ 0 then
                (s.timer (.silence c p)).start (1000 * (s.channel c).silence)
              else s.timer (.silence c p)) ∧
            (∀ id : TimerId, id ≠ .silence c p → u.timer id = s.timer id) ∧
            u =
              { s with
                channels := u.channels, bridges := u.bridges, legs := u.legs, timers := u.timers, links := u.links
                pointer := u.pointer }))

/-- TALK-OFF and FORCE-UNTALK remove the position's entry: a talker's place goes to the queue head, a queued entry's followers move up,
and a channel left without talker and receiver closes, its bridge freed. The bridge, its contributors and headroom floor (R116), and
the silence timers follow; where a queued entry goes, the bridge keeps its members. The positions
that qualify are told: the position granted TALK-GRANTED, one removed by FORCE-UNTALK FLOOR-LOST. TALK-OFF without an entry is accepted
with no change; of a channel that is VACANT or RETIRING it is refused VACANT. FORCE-UNTALK gives BAD-FIELD for a channel above 31 or a
position above 47, VACANT for a VACANT channel, and NOT-FOUND for a position without an entry, with no change (R56, R61, R78, R79, R80,
R81, R84, R86). -/
def Obligations.FloorEntriesAreRemoved : Prop :=
  (∀ (s : State) (p : Pos) (c : ChanNo),
    Ready s p (TurretRequest.talkOff c).message → s.resetting = false →
    ∃ u : State, exec ((TurretRequest.talkOff c).command p) s = .next u ∧
      ((s.channel c).live = false → Unmoved s u p ⟨0x0E#8, .refused .vacant⟩) ∧
      ((s.channel c).live = true → (s.channel c).talking p = false → (s.channel c).queued p = false →
        Unmoved s u p ⟨0x0E#8, .accepted⟩) ∧
      ((s.channel c).live = true → (s.channel c).talking p = true ∨ (s.channel c).queued p = true →
        Answered s u p ⟨0x0E#8, .accepted⟩ ∧ ToldChannel (some p) s u c ∧
        u.channel c = floorAfter (s.channel c) p (s.hasReceiver c) ∧ FloorMoved s u c p ∧
        (∀ c' : ChanNo, c' ≠ c → u.channel c' = s.channel c') ∧
        u =
          { s with
            channels := u.channels, bridges := u.bridges, legs := u.legs, timers := u.timers, links := u.links
            pointer := u.pointer })) ∧
  (∀ (s : State) (w : CmdWords), s.mp.slot ≠ .busy → (31 < w.w1.toNat ∨ 47 < w.w2.toNat) →
    Declines (.forceUntalk w) s 0x0E#8 w .badField) ∧
  ∀ (s : State) (w : CmdWords) (c : ChanNo) (p : Pos),
    s.mp.slot ≠ .busy → w.w1 = word c.val → w.w2 = word p.val →
    ((s.channel c).state = .vacant → Declines (.forceUntalk w) s 0x0E#8 w .vacant) ∧
    ((s.channel c).state ≠ .vacant → (s.channel c).talking p = false → (s.channel c).queued p = false →
      Declines (.forceUntalk w) s 0x0E#8 w .notFound) ∧
    ((s.channel c).state ≠ .vacant → (s.channel c).talking p = true ∨ (s.channel c).queued p = true →
      ∃ u : State, exec (.forceUntalk w) s = .next u ∧ u.mp = mpDone s.mp 0x0E#8 w .done ∧
        u.channel c = floorAfter (s.channel c) p (s.hasReceiver c) ∧ FloorMoved s u c p ∧
        (∀ c' : ChanNo, c' ≠ c → u.channel c' = s.channel c') ∧
        (∀ q : Pos, u.link q = toldChannel none false s u q (s.link q) c) ∧
        u =
          { s with
            channels := u.channels, bridges := u.bridges, legs := u.legs, timers := u.timers, links := u.links
            mp := u.mp })

/-! ### Commands of the system controller -/

/-- A GO written while the slot is BUSY is ignored: only CMD-OVERRUN is posted, and the words written to the buffer stand there. On a
slot that is not BUSY, a command whose code names none of Table 5 has the result BAD-COMMAND and changes nothing (R184, R185, R188,
R189). -/
def Obligations.BusyOrUnknownChangesNothing : Prop :=
  (∀ (s : State), s.mp.slot = .busy →
    exec .cmdOverrun s =
      .next { s with mp := { s.mp with flags := s.mp.flags ||| 64#7, port := Port.quiet } } ∧
    ∀ (code : Byte) (w : CmdWords) (c : Instr),
      (c, code) ∈
        [(Instr.createLine w, 0x01#8), (.setLine w, 0x02#8), (.retireLine w, 0x03#8), (.addAppearance w, 0x04#8),
          (.dropAppearance w, 0x05#8), (.forceRelease w, 0x06#8), (.createChannel w, 0x07#8), (.setChannel w, 0x08#8),
          (.retireChannel w, 0x09#8), (.addMember w, 0x0A#8), (.dropMember w, 0x0B#8), (.permit w, 0x0C#8),
          (.unpermit w, 0x0D#8), (.forceUntalk w, 0x0E#8), (.setLeg w, 0x0F#8), (.setSlot w, 0x10#8),
          (.setCadence w, 0x11#8), (.setPosition w, 0x12#8), (.setTiming w, 0x13#8), (.clearMarks w, 0x14#8),
          (.floorReset w, 0x15#8), (.unknownCommand code w, code)] →
      exec c s =
        .next
          { s with
            mp := { s.mp with flags := s.mp.flags ||| 64#7, port := Port.quiet, buffer := w.toBuffer code } }) ∧
  (∀ (s : State) (code : Byte) (w : CmdWords), s.mp.slot ≠ .busy → isCommandCode code = false →
    Declines (.unknownCommand code w) s code w .badCommand)

/-- CREATE-LINE is refused BAD-FIELD for a field outside its range, code set or slots, EXISTS for a record that is not VACANT, and
SLOT-CLAIMED for a slot that the record may not name, in this order and with no change. Else the record takes the settings, the three
timings brought into range; its slots name it, and one named for the first time with its level ABSENT starts its fault-confirm timer;
the line is IDLE on its primary where that slot can be claimed, and LOCKOUT without a route otherwise. No position is told, since it
appears nowhere (R12, R13, R131, R132, R136). -/
def Obligations.CreateLineTakesPrimary : Prop :=
  (∀ (s : State) (w : CmdWords), s.mp.slot ≠ .busy → CreateLineBad w → Declines (.createLine w) s 0x01#8 w .badField) ∧
  ∀ (s : State) (w : CmdWords) (l : LineNo) (kind : LineKind) (m : Headroom) (primary alternate : Option SlotNo),
    s.mp.slot ≠ .busy → w.w1 = word l.val → (lineArgs w).kind = some kind → (lineArgs w).headroom = some m →
    (lineArgs w).primary = some primary → (lineArgs w).alternate = some alternate →
    (primary = none ∨ primary ≠ alternate) →
    ((s.line l).state ≠ .vacant → Declines (.createLine w) s 0x01#8 w .exists) ∧
    ((s.line l).state = .vacant → PrimaryTaken s l primary ∨ AlternateTaken s alternate →
      Declines (.createLine w) s 0x01#8 w .slotClaimed) ∧
    ((s.line l).state = .vacant → ¬PrimaryTaken s l primary → ¬AlternateTaken s alternate →
      ∃ u : State, exec (.createLine w) s = .next u ∧
        u.mp =
          mpDone s.mp 0x01#8 w
            (if w.w5.toNat = 0 ∨ 255 < w.w5.toNat ∨ 900 < w.w6.toNat ∨ w.w7.toNat < 100 ∨ 10000 < w.w7.toNat then
              .doneClamped
            else .done) ∧
        u.line l =
          { Line.vacant with
            kind := kind, state := (u.line l).state, route := (u.line l).route, defaultPrivacy := (lineArgs w).privacy
            currentPrivacy := (lineArgs w).privacy, holdMode := (lineArgs w).holdMode, cadence := (lineArgs w).cadence
            primary := primary, alternate := alternate, headroom := m
            ringTimeout := max 1 (min 255 w.w5.toNat), holdRecall := min 900 w.w6.toNat
            burst := max 100 (min 10000 w.w7.toNat) } ∧
        (∀ n : SlotNo, primary = some n →
          u.timer (.faultConfirm n) = confirmAtNaming s n ∧
          (Claimable s n →
            (u.line l).state = .idle ∧ (u.line l).route = .primary ∧
            u.slot n =
              { s.slot n with
                state := .active, claimant := some (.line l), primaryNamer := some (.line l) }) ∧
          (¬Claimable s n →
            (u.line l).state = .lockout ∧ (u.line l).route = .none ∧
            u.slot n = { s.slot n with primaryNamer := some (.line l) })) ∧
        (primary = none → (u.line l).state = .lockout ∧ (u.line l).route = .none) ∧
        (∀ n : SlotNo, alternate = some n →
          u.timer (.faultConfirm n) = confirmAtNaming s n ∧
          u.slot n =
            { s.slot n with
              altLines := (u.slot n).altLines
              state := if (s.slot n).state = .unassigned then .standby else (s.slot n).state } ∧
          ∀ x : LineNo, x ∈ (u.slot n).altLines ↔ x = l ∨ x ∈ (s.slot n).altLines) ∧
        (∀ sl : SlotNo, primary ≠ some sl → alternate ≠ some sl → u.slot sl = s.slot sl) ∧
        (∀ id : TimerId, (∀ n : SlotNo, primary = some n ∨ alternate = some n → id ≠ .faultConfirm n) →
          u.timer id = s.timer id) ∧
        (∀ l' : LineNo, l' ≠ l → u.line l' = s.line l') ∧
        u =
          { s with
            lines := u.lines, slots := u.slots, timers := u.timers, bridges := tabMap Bridge.settle s.bridges
            mp := u.mp })

/-- SET-LINE is refused, in this order and with no change: BAD-FIELD for a line above 191, an unknown mask bit (log entry 12), a masked
code outside its set, or a primary and alternate alike; VACANT; IN-USE for a change of kind or primary of a line that is not IDLE or of
the alternate in use; SLOT-CLAIMED. Else it completes, and the masked settings are written, alone or with the slots: the timings brought
into range, the current privacy with the default on a line at rest, alerting or locked out, and a new headroom mode passed to the line's
bridge, whose shift follows R118. A new alternate: the line leaves the old slot and names the new one, and its route stands. A new
primary, alone or with a new alternate: the line gives up its active slot, is IDLE on a new primary that can be claimed, and otherwise
LOCKOUT, but for a line that names the slot given up as its alternate, which takes it back. The effects of a new primary are stated where
the slot given up is sought by no other line (R5, R7, R14, R15, R116, R118, R131, R141, R145). That a masked slot equal to the recorded
one has no effect, and that new namings come before old ones are removed, is the model's reading (log entry 11). -/
def Obligations.SetLineWritesSettings : Prop :=
  (∀ (s : State) (w : CmdWords), s.mp.slot ≠ .busy → 191 < bits w.w1 0 8 → Declines (.setLine w) s 0x02#8 w .badField) ∧
  (∀ (s : State) (w : CmdWords) (l : LineNo) (primary alternate : Option SlotNo),
    s.mp.slot ≠ .busy → bits w.w1 0 8 = l.val →
    (SetLineBad (s.line l) w → Declines (.setLine w) s 0x02#8 w .badField) ∧
    (¬SetLineBad (s.line l) w →
      ((s.line l).state = .vacant → Declines (.setLine w) s 0x02#8 w .vacant) ∧
      ((s.line l).state ≠ .vacant →
        ((w.maskBit 8 = true ∨ w.maskBit 13 = true) ∧ (s.line l).state ≠ .idle ∨
          w.maskBit 14 = true ∧ (s.line l).route = .alternate) → Declines (.setLine w) s 0x02#8 w .inUse) ∧
      ((s.line l).state ≠ .vacant →
        ¬((w.maskBit 8 = true ∨ w.maskBit 13 = true) ∧ (s.line l).state ≠ .idle ∨
          w.maskBit 14 = true ∧ (s.line l).route = .alternate) →
        slotArg w.w3 = some primary → slotArg w.w4 = some alternate →
        (w.maskBit 13 = true ∧ PrimaryTaken s l primary ∨ w.maskBit 14 = true ∧ AlternateTaken s alternate) →
        Declines (.setLine w) s 0x02#8 w .slotClaimed))) ∧
  ∀ (s : State) (w : CmdWords) (l : LineNo) (kind : LineKind) (m : Headroom) (primary alternate : Option SlotNo),
    s.mp.slot ≠ .busy → bits w.w1 0 8 = l.val → (s.line l).state ≠ .vacant → ¬SetLineBad (s.line l) w →
    (if w.maskBit 8 = true then (lineArgs w).kind = some kind ∧ (s.line l).state = .idle else kind = (s.line l).kind) →
    (if w.maskBit 12 = true then (lineArgs w).headroom = some m else m = (s.line l).headroom) →
    (if w.maskBit 13 = true then
        slotArg w.w3 = some primary ∧ (s.line l).state = .idle ∧ ¬PrimaryTaken s l primary
      else primary = (s.line l).primary) →
    (if w.maskBit 14 = true then
        slotArg w.w4 = some alternate ∧ (s.line l).route ≠ .alternate ∧ ¬AlternateTaken s alternate
      else alternate = (s.line l).alternate) →
    ∃ u : State, exec (.setLine w) s = .next u ∧
      u.mp = mpDone s.mp 0x02#8 w (if setLineClamped w = true then .doneClamped else .done) ∧
      (primary = (s.line l).primary ∨
          ((s.line l).primary = none ∨ (s.line l).primary ≠ (s.line l).alternate) ∧
            (∀ g : SlotNo, (s.line l).activeSlot = some g →
              ((s.slot g).primaryNamer = none ∨ (s.line l).primary = some g) ∧
                ∀ x : LineNo, (s.line x).waiting = true → (s.line x).names g = false) →
        ToldAll [] s u ∧
        (∀ b : BridgeNo, (s.line l).bridge = some b → w.maskBit 12 = true ∨ (s.bridge b).headroom = m →
          ModePassed (s.bridge b) m (u.bridge b) ∧ (u.bridge b).receivers = (s.bridge b).receivers ∧
            (u.bridge b).micPeaks = (s.bridge b).micPeaks) ∧
        (∀ b : BridgeNo, (s.line l).bridge ≠ some b → u.bridge b = (s.bridge b).settle) ∧
        (∀ l' : LineNo, l' ≠ l → u.line l' = s.line l') ∧
        u =
          { s with
            lines := u.lines, slots := u.slots, timers := u.timers, bridges := u.bridges, links := u.links, mp := u.mp } ∧
        (primary = (s.line l).primary →
          u.line l = { lineSet (s.line l) w kind m with alternate := alternate } ∧
          (∀ n : SlotNo, (s.line l).alternate ≠ some n → alternate ≠ some n → u.slot n = s.slot n)) ∧
        (alternate = (s.line l).alternate →
          (∀ n : SlotNo, (u.slot n).altLines = (s.slot n).altLines) ∧
          (primary = (s.line l).primary → u.slots = s.slots ∧ u.timers = s.timers)) ∧
        (alternate ≠ (s.line l).alternate →
          (∀ n : SlotNo, alternate = some n →
            (∀ x : LineNo, x ∈ (u.slot n).altLines ↔ x = l ∨ x ∈ (s.slot n).altLines) ∧
            ((primary = (s.line l).primary ∨ (s.line l).activeSlot ≠ some n ∧ (s.line l).primary ≠ some n) →
              u.timer (.faultConfirm n) = confirmAtNaming s n ∧
              u.slot n =
                { s.slot n with
                  altLines := (u.slot n).altLines
                  state := if (s.slot n).state = .unassigned then .standby else (s.slot n).state })) ∧
          (∀ n : SlotNo, (s.line l).alternate = some n →
            (u.slot n).altLines = ((s.slot n).altLines.filter fun x => x != l) ∧
            (primary = (s.line l).primary ∨ primary ≠ some n →
              u.slot n =
                { s.slot n with
                  altLines := (u.slot n).altLines
                  state := if (u.slot n).named = true then (s.slot n).state else .unassigned
                  claimant := if (u.slot n).named = true then (s.slot n).claimant else none } ∧
              ((u.slot n).named = false →
                (u.timer (.faultConfirm n)).running = false ∧ (u.timer (.restore n)).running = false))) ∧
          ∀ n : SlotNo, alternate ≠ some n → (s.line l).alternate ≠ some n →
            (u.slot n).altLines = (s.slot n).altLines) ∧
        (primary ≠ (s.line l).primary →
          u.line l =
            { lineSet (s.line l) w kind m with
              primary := primary, alternate := alternate
              currentPrivacy := (lineSet (s.line l) w kind m).defaultPrivacy
              state := (u.line l).state, route := (u.line l).route } ∧
          (∀ n : SlotNo, primary = some n →
            u.timer (.faultConfirm n) = confirmAtNaming s n ∧
            (Claimable s n →
              (u.line l).state = .idle ∧ (u.line l).route = .primary ∧
              u.slot n =
                { s.slot n with
                  altLines := (u.slot n).altLines, state := .active, claimant := some (.line l)
                  primaryNamer := some (.line l) }) ∧
            (¬Claimable s n →
              u.slot n =
                { s.slot n with altLines := (u.slot n).altLines, primaryNamer := some (.line l) })) ∧
          ((∀ n : SlotNo, primary = some n → ¬Claimable s n) →
            (alternate ≠ none → alternate = (s.line l).activeSlot →
              (u.line l).state = .idle ∧ (u.line l).route = .alternate) ∧
            (alternate = none ∨ alternate ≠ (s.line l).activeSlot →
              (u.line l).state = .lockout ∧ (u.line l).route = .none)) ∧
          (∀ g : SlotNo, (s.line l).activeSlot = some g →
            ((u.line l).route = .alternate →
              u.slot g =
                { s.slot g with
                  altLines := (u.slot g).altLines, state := .active, claimant := some (.line l)
                  primaryNamer := (u.slot g).primaryNamer }) ∧
            ((u.line l).route ≠ .alternate →
              u.slot g =
                { s.slot g with
                  altLines := (u.slot g).altLines
                  state := if (s.line l).primary = some g ∧ (u.slot g).altLines = [] then .unassigned else .standby
                  claimant := none, primaryNamer := (u.slot g).primaryNamer })) ∧
          (∀ o : SlotNo, (s.line l).primary = some o →
            (u.slot o).primaryNamer = none ∧
            ((u.slot o).altLines = [] →
              (u.slot o).state = .unassigned ∧ (u.slot o).claimant = none ∧
              (u.timer (.faultConfirm o)).running = false ∧ (u.timer (.restore o)).running = false) ∧
            ((s.line l).activeSlot ≠ some o → alternate ≠ some o → (u.slot o).altLines ≠ [] →
              u.slot o =
                { s.slot o with altLines := (u.slot o).altLines, primaryNamer := none })) ∧
          ∀ n : SlotNo, primary ≠ some n → (s.line l).primary ≠ some n → alternate ≠ some n →
            (s.line l).alternate ≠ some n → u.slot n = s.slot n) ∧
        ∀ id : TimerId,
          (∀ n : SlotNo,
            primary ≠ (s.line l).primary ∧ primary = some n ∨ alternate ≠ (s.line l).alternate ∧ alternate = some n →
              id ≠ .faultConfirm n) →
          (∀ n : SlotNo,
            primary ≠ (s.line l).primary ∧ (s.line l).primary = some n ∨
                alternate ≠ (s.line l).alternate ∧ (s.line l).alternate = some n →
              (u.slot n).named = false → id ≠ .faultConfirm n ∧ id ≠ .restore n) → u.timer id = s.timer id)

/-- RETIRE-LINE is refused BAD-FIELD for a line above 191, VACANT, and IN-USE for a line alerting or in use without the force flag, with
no change. Else the line is taken down, an alert ended and a call cleared as by R3; it is RETIRING with neither route nor slots, each
appearing position is told VACANT, the slot is BUSY and the next visit that of position 0. RETIRE-CHANNEL is refused BAD-FIELD, VACANT, and
IN-USE for an OPEN channel without the flag; else it takes the channel down, tells VACANT to every position that qualified, and starts
the sweep. A primary that no line names as alternate is then UNASSIGNED, stated of states in which slots and records agree on their
namings, as they do from reset on (StepKeepsListBounds, ResetMeetsEveryBound) (R7, R20, R61, R70, R131, R145, R188). Where the retired
line's slot goes to waiting lines, the ascending order of the indications is the model's choice (log entry 14). -/
def Obligations.RetiresStartSweeps : Prop :=
  (∀ (s : State) (w : CmdWords), s.mp.slot ≠ .busy →
    (191 < w.w1.toNat → Declines (.retireLine w) s 0x03#8 w .badField) ∧
    (31 < w.w1.toNat → Declines (.retireChannel w) s 0x09#8 w .badField)) ∧
  (∀ (s : State) (w : CmdWords) (l : LineNo), s.mp.slot ≠ .busy → w.w1 = word l.val →
    ((s.line l).state = .vacant → Declines (.retireLine w) s 0x03#8 w .vacant) ∧
    ((s.line l).state = .alerting ∨ (s.line l).state = .connected ∨ (s.line l).state = .held → w.maskBit 8 = false →
      Declines (.retireLine w) s 0x03#8 w .inUse) ∧
    ((s.line l).state = .idle ∨ (s.line l).state = .lockout ∨
        ((s.line l).state = .alerting ∨ (s.line l).state = .connected ∨ (s.line l).state = .held) ∧
          w.maskBit 8 = true →
      ∃ u : State, exec (.retireLine w) s = .next u ∧ u.mp = mpBusy s.mp 0x03#8 w (.retireLine l 0) ∧ ToldAll [] s u ∧
        ((s.line l).state = .idle ∨ (s.line l).state = .lockout →
          u.line l = { s.line l with state := .retiring, route := .none, primary := none, alternate := none } ∧
          u.selections = s.selections ∧ u.generators = s.generators) ∧
        ((s.line l).state = .alerting →
          u.line l =
            { s.line l with
              state := .retiring, route := .none, primary := none, alternate := none, refGen := none } ∧
          (u.timer (.ringTimeout l)).running = false ∧ u.selections = s.selections ∧
          ∀ n : GenNo, (s.line l).refGen = some n → (u.generator n).refs = (s.generator n).refs - 1) ∧
        ((s.line l).state = .connected ∨ (s.line l).state = .held →
          u.line l =
            { rested (s.line l) with state := .retiring, route := .none, primary := none, alternate := none } ∧
          (∀ (q : Pos) (m : UnitNo),
            u.selection q m = if ⟨q, m⟩ ∈ (s.line l).monitors then .none else s.selection q m) ∧
          (u.timer (.holdRecall l)).running = false ∧ (u.timer (.burst l)).running = false ∧
          (∀ b : BridgeNo, (s.line l).bridge = some b → (u.bridge b).state = .free ∧ (u.bridge b).owner = none)) ∧
        (∀ n : SlotNo, (s.line l).primary = some n → (u.slot n).primaryNamer = none ∧
          (NamesAgree s → (s.slot n).altLines = [] →
            (u.slot n).state = .unassigned ∧ (u.slot n).claimant = none ∧
            (u.timer (.faultConfirm n)).running = false ∧ (u.timer (.restore n)).running = false)) ∧
        (∀ n : SlotNo, (s.line l).alternate = some n →
          (u.slot n).altLines = ((s.slot n).altLines.filter fun x => x != l)) ∧
        u.directories = s.directories ∧ u.inFlight = s.inFlight ∧ u.reports = s.reports ∧ u.pointer = s.pointer)) ∧
  (∀ (s : State) (w : CmdWords) (c : ChanNo), s.mp.slot ≠ .busy → w.w1 = word c.val →
    ((s.channel c).state = .vacant → Declines (.retireChannel w) s 0x09#8 w .vacant) ∧
    ((s.channel c).state = .opened → w.maskBit 8 = false → Declines (.retireChannel w) s 0x09#8 w .inUse) ∧
    ((s.channel c).state = .closed ∨ (s.channel c).state = .opened ∧ w.maskBit 8 = true →
      ∃ u : State, exec (.retireChannel w) s = .next u ∧ u.mp = mpBusy s.mp 0x09#8 w (.retireChannel c 0) ∧
        u.channel c =
          { s.channel c with
            talkers := [], queue := [], bridge := none, trunk := none, noTrunk := false, state := .retiring } ∧
        (∀ q : Pos, u.link q =
          if s.qualifies c q = true then (s.link q).indicate ⟨.channel c, .channelState, .vacant⟩ else s.link q) ∧
        (∀ b : BridgeNo, (s.channel c).bridge = some b →
          u.bridge b = Bridge.free ∧ ∀ g : LegNo, (u.leg g).attach ≠ some b) ∧
        (∀ n : SlotNo, (s.channel c).trunk = some n → (s.slot n).altLines = [] →
          u.slot n = { s.slot n with state := .unassigned, claimant := none, primaryNamer := none }) ∧
        (∀ n : SlotNo, (s.channel c).trunk ≠ some n → u.slot n = s.slot n) ∧
        (∀ e ∈ (s.channel c).talkers, (u.timer (.silence c e.pos)).running = false) ∧
        (∀ c' : ChanNo, c' ≠ c → u.channel c' = s.channel c') ∧
        u =
          { s with
            channels := u.channels, bridges := u.bridges, legs := u.legs, slots := u.slots, timers := u.timers
            links := u.links, mp := u.mp }))

/-- ADD-APPEARANCE is refused BAD-FIELD for a number out of range, VACANT, EXISTS where the line appears there under another key, and
KEY-TAKEN, with no change; under the same key it writes the ring setting. Else it adds the entry and the key and tells the position.
DROP-APPEARANCE is refused BAD-FIELD, VACANT, and NOT-FOUND; else it releases what the position has in the line and then removes entry
and key and tells the position VACANT: an occupancy is released, monitors are removed, and a hold of the position returns the line to
rest (here one that does not revert); the other appearing positions are told of what changed (R7, R11, R16–R19, R48). -/
def Obligations.AppearancesAddedAndDropped : Prop :=
  (∀ (s : State) (w : CmdWords), s.mp.slot ≠ .busy → (191 < w.w1.toNat ∨ 47 < w.w2.toNat) →
    Declines (.dropAppearance w) s 0x05#8 w .badField) ∧
  (∀ (s : State) (w : CmdWords), s.mp.slot ≠ .busy → (191 < w.w1.toNat ∨ 47 < w.w2.toNat ∨ 63 < w.w3.toNat) →
    Declines (.addAppearance w) s 0x04#8 w .badField) ∧
  (∀ (s : State) (w : CmdWords) (l : LineNo) (p : Pos) (k : Key),
    s.mp.slot ≠ .busy → w.w1 = word l.val → w.w2 = word p.val → w.w3 = word k.val →
    ((s.line l).state = .vacant → Declines (.addAppearance w) s 0x04#8 w .vacant) ∧
    ((s.line l).state ≠ .vacant →
      (∀ a : Appearance, (s.line l).appearanceAt p = some a → a.key ≠ k →
        Declines (.addAppearance w) s 0x04#8 w .exists) ∧
      ((s.line l).appearanceAt p = none → s.keyLine p k ≠ none → Declines (.addAppearance w) s 0x04#8 w .keyTaken) ∧
      (∀ a : Appearance, (s.line l).appearanceAt p = some a → a.key = k →
        exec (.addAppearance w) s =
          .next
            { s.setLine l
                { s.line l with
                  appearances :=
                    (s.line l).appearances.map fun y => if y.pos = p then { y with ring := bit w.w4 0 } else y } with
              mp := mpDone s.mp 0x04#8 w .done }) ∧
      ((s.line l).appearanceAt p = none → s.keyLine p k = none →
        ∃ u : State, exec (.addAppearance w) s = .next u ∧ u.mp = mpDone s.mp 0x04#8 w .done ∧
          (∀ a : Appearance, a ∈ (u.line l).appearances ↔ a = ⟨p, k, bit w.w4 0⟩ ∨ a ∈ (s.line l).appearances) ∧
          { u.line l with appearances := [] } = { s.line l with appearances := [] } ∧
          (∀ l' : LineNo, l' ≠ l → u.line l' = s.line l') ∧
          u.keyLine p k = some l ∧ (∀ (q : Pos) (j : Key), ¬(q = p ∧ j = k) → u.keyLine q j = s.keyLine q j) ∧
          u.link p = (s.link p).indicate ⟨.key k, .lineState, (s.line l).content⟩ ∧
          (∀ q : Pos, q ≠ p → u.link q = s.link q) ∧
          u = { s with lines := u.lines, directories := u.directories, links := u.links, mp := u.mp }))) ∧
  (∀ (s : State) (w : CmdWords) (l : LineNo) (p : Pos),
    s.mp.slot ≠ .busy → w.w1 = word l.val → w.w2 = word p.val →
    ((s.line l).state = .vacant → Declines (.dropAppearance w) s 0x05#8 w .vacant) ∧
    ((s.line l).state ≠ .vacant → (s.line l).appearanceAt p = none →
      Declines (.dropAppearance w) s 0x05#8 w .notFound) ∧
    ∀ a : Appearance, (s.line l).state ≠ .vacant → (s.line l).appearanceAt p = some a → Stays s l →
      ∃ u : State, exec (.dropAppearance w) s = .next u ∧ u.mp = mpDone s.mp 0x05#8 w .done ∧
        u.line l =
          { (if RestsWithout (s.line l) p then rested (s.line l)
            else
              { s.line l with
                monitors := (s.line l).monitors.filter fun m => m.pos != p
                occupants := (s.line l).occupants.eraseP fun o => o.pos == p }) with
            appearances := (s.line l).appearances.filter fun y => y.pos != p } ∧
        (∀ l' : LineNo, l' ≠ l → u.line l' = s.line l') ∧
        (∀ (q : Pos) (m : UnitNo),
          u.selection q m =
            if ⟨q, m⟩ ∈ (s.line l).monitors ∧ (q = p ∨ RestsWithout (s.line l) p) then .none
            else s.selection q m) ∧
        (∀ b : BridgeNo, (s.line l).bridge = some b →
          (RestsWithout (s.line l) p →
            u.bridge b = Bridge.free ∧ ∀ g : LegNo, (u.leg g).attach ≠ some b) ∧
          (∀ m ∈ (s.line l).monitors, m.pos = p → (u.leg (unitLeg m.pos m.unit)).attach ≠ some b) ∧
          ∀ b' : BridgeNo, b' ≠ b → u.bridge b' = (s.bridge b').settle) ∧
        (RestsWithout (s.line l) p →
          (u.timer (.holdRecall l)).running = false ∧ (u.timer (.burst l)).running = false) ∧
        (∀ id : TimerId, id ≠ .holdRecall l → id ≠ .burst l → u.timer id = s.timer id) ∧
        u.keyLine p a.key = none ∧
        (∀ (q : Pos) (j : Key), ¬(q = p ∧ j = a.key) → u.keyLine q j = s.keyLine q j) ∧
        u.link p = (told none [] s u p).indicate ⟨.key a.key, .lineState, .vacant⟩ ∧
        (∀ q : Pos, q ≠ p → u.link q = told none [] s u q) ∧
        u =
          { s with
            lines := u.lines, directories := u.directories, selections := u.selections, bridges := u.bridges
            legs := u.legs, timers := u.timers, links := u.links, mp := u.mp })

/-- FORCE-RELEASE is refused BAD-FIELD for a line above 191 and VACANT for a VACANT one. A CONNECTED or HELD line returns to rest and its
bridge is FREE; an ALERTING one is IDLE with its alert ended and MISSED as it stands; an IDLE or LOCKOUT line is left as it is. Where
the line comes to rest on its alternate with its primary STANDBY it reverts to it, with ROUTE posted (R3, R7, R35, R142, R147). Where the
reversion changes other lines, the ascending order of the indications is the model's choice (log entry 14). -/
def Obligations.ForceReleaseReturnsToRest : Prop :=
  (∀ (s : State) (w : CmdWords), s.mp.slot ≠ .busy → 191 < w.w1.toNat →
    Declines (.forceRelease w) s 0x06#8 w .badField) ∧
  ∀ (s : State) (w : CmdWords) (l : LineNo), s.mp.slot ≠ .busy → w.w1 = word l.val →
    ((s.line l).state = .vacant → Declines (.forceRelease w) s 0x06#8 w .vacant) ∧
    ((s.line l).state = .idle ∨ (s.line l).state = .lockout → Declines (.forceRelease w) s 0x06#8 w .done) ∧
    ((s.line l).state = .connected ∨ (s.line l).state = .held →
      ∃ u : State, exec (.forceRelease w) s = .next u ∧ ToldAll [] s u ∧
        (u.timer (.holdRecall l)).running = false ∧ (u.timer (.burst l)).running = false ∧
        (∀ id : TimerId, id ≠ .holdRecall l → id ≠ .burst l → u.timer id = s.timer id) ∧
        (∀ (q : Pos) (m : UnitNo),
          u.selection q m = if ⟨q, m⟩ ∈ (s.line l).monitors then .none else s.selection q m) ∧
        (Stays s l →
          u.mp = mpDone s.mp 0x06#8 w .done ∧ u.line l = rested (s.line l) ∧
          (∀ l' : LineNo, l' ≠ l → u.line l' = s.line l') ∧
          (∀ b : BridgeNo, (s.line l).bridge = some b →
            u.bridge b = Bridge.free ∧ (∀ g : LegNo, (u.leg g).attach ≠ some b) ∧
            ∀ b' : BridgeNo, b' ≠ b → (u.bridge b').state = (s.bridge b').state) ∧
          u =
            { s with
              lines := u.lines, selections := u.selections, bridges := u.bridges, legs := u.legs, timers := u.timers
              links := u.links, mp := u.mp }) ∧
        (¬Stays s l →
          u.mp = { mpDone s.mp 0x06#8 w .done with flags := s.mp.flags ||| 2#7 ||| 32#7 } ∧
          u.line l = { rested (s.line l) with route := .primary })) ∧
    ((s.line l).state = .alerting →
      ∃ u : State, exec (.forceRelease w) s = .next u ∧ ToldAll [] s u ∧
        (u.timer (.ringTimeout l)).running = false ∧
        (∀ id : TimerId, id ≠ .ringTimeout l → u.timer id = s.timer id) ∧
        (∀ n : GenNo, (s.line l).refGen = some n →
          (u.generator n).refs = (s.generator n).refs - 1 ∧ ∀ n' : GenNo, n' ≠ n → u.generator n' = s.generator n') ∧
        (StaysIdle s l →
          u.mp = mpDone s.mp 0x06#8 w .done ∧
          u.line l =
            { s.line l with state := .idle, currentPrivacy := (s.line l).defaultPrivacy, refGen := none } ∧
          (∀ l' : LineNo, l' ≠ l → u.line l' = s.line l') ∧
          u =
            { s with
              lines := u.lines, bridges := tabMap Bridge.settle s.bridges, timers := u.timers
              generators := u.generators, links := u.links, mp := u.mp }) ∧
        (¬StaysIdle s l →
          u.mp = { mpDone s.mp 0x06#8 w .done with flags := s.mp.flags ||| 2#7 ||| 32#7 } ∧
          u.line l =
            { s.line l with
              state := .idle, currentPrivacy := (s.line l).defaultPrivacy, refGen := none, route := .primary }))

/-- CREATE-CHANNEL is refused BAD-FIELD for a field outside its range or code set or a GROUP channel with a trunk, EXISTS for a record
that is not VACANT, and SLOT-CLAIMED for a slot that a line or another channel names, in this order and with no change. Else the channel
is CLOSED with the settings, its silence timeout and activity threshold brought into range. A trunk slot names it, starts its
fault-confirm timer where it was UNASSIGNED with its level ABSENT, and is claimed with NO-TRUNK clear where it is UNASSIGNED or STANDBY;
otherwise NO-TRUNK is set. No position is told, since none qualifies (R63, R65, R131, R132, R136). -/
def Obligations.CreateChannelIsClosed : Prop :=
  (∀ (s : State) (w : CmdWords), s.mp.slot ≠ .busy → CreateChannelBad w →
    Declines (.createChannel w) s 0x07#8 w .badField) ∧
  ∀ (s : State) (w : CmdWords) (c : ChanNo) (maximum : Nat) (m : Headroom) (trunk : Option SlotNo),
    s.mp.slot ≠ .busy → w.w1 = word c.val → maximumArg w.w2 = some maximum → headroomArg w.w2 = some m →
    slotArg w.w3 = some trunk → (bit w.w2 0 = true → trunk = none) →
    ((s.channel c).state ≠ .vacant → Declines (.createChannel w) s 0x07#8 w .exists) ∧
    ((s.channel c).state = .vacant → TrunkTaken s c trunk → Declines (.createChannel w) s 0x07#8 w .slotClaimed) ∧
    ((s.channel c).state = .vacant → ¬TrunkTaken s c trunk →
      ∃ u : State, exec (.createChannel w) s = .next u ∧
        u.mp = mpDone s.mp 0x07#8 w (if 255 < w.w4.toNat ∨ 32767 < w.w5.toNat then .doneClamped else .done) ∧
        u.channel c =
          { Channel.vacant with
            kind := channelKindArg (bit w.w2 0), state := .closed, maxTalkers := maximum, trunk := trunk
            silence := min 255 w.w4.toNat, threshold := min 32767 w.w5.toNat, headroom := m
            noTrunk := (u.channel c).noTrunk } ∧
        (trunk = none → (u.channel c).noTrunk = false) ∧
        (∀ n : SlotNo, trunk = some n →
          u.timer (.faultConfirm n) = confirmAtNaming s n ∧
          (Claimable s n →
            (u.channel c).noTrunk = false ∧
            u.slot n =
              { s.slot n with
                state := .active, claimant := some (.channel c), primaryNamer := some (.channel c) }) ∧
          (¬Claimable s n →
            (u.channel c).noTrunk = true ∧ u.slot n = { s.slot n with primaryNamer := some (.channel c) })) ∧
        (∀ n : SlotNo, trunk ≠ some n → u.slot n = s.slot n) ∧
        (∀ id : TimerId, (∀ n : SlotNo, trunk = some n → id ≠ .faultConfirm n) → u.timer id = s.timer id) ∧
        (∀ c' : ChanNo, c' ≠ c → u.channel c' = s.channel c') ∧
        u = { s with channels := u.channels, slots := u.slots, timers := u.timers, mp := u.mp })

/-- SET-CHANNEL is refused, in this order and with no change: BAD-FIELD for a channel above 31, an unknown mask bit (log entry 12), a
masked value outside its range or a GROUP with a trunk; VACANT; IN-USE for a change of kind of a channel that is not CLOSED;
SLOT-CLAIMED. Else it writes each masked setting, with or without the trunk; a change of kind empties the listen and talk sets, and a new
maximum takes effect on the floor at once: newest talkers go to the head of the queue with their microphones off the bridge and their
timers stopped, or the queue's head entries are granted with microphones on it and, where latched, timers started; a new headroom mode
passes to the bridge, whose shift follows R118. With a new trunk the channel leaves the old slot and names the new one, and its trunk leg on
the bridge is replaced; it claims the slot with NO-TRUNK clear where that is UNASSIGNED or STANDBY. The positions that qualify are told
(R61, R63, R66, R81, R87, R88, R116, R118, R131). That the granted talkers' silence timers take the silence timeout of the same act, that
their microphones join before the new trunk leg, and that a masked trunk equal to the recorded one has no effect, are the model's reading
and choice (log entry 11). -/
def Obligations.SetChannelWritesSettings : Prop :=
  (∀ (s : State) (w : CmdWords), s.mp.slot ≠ .busy → 31 < w.w1.toNat →
    Declines (.setChannel w) s 0x08#8 w .badField) ∧
  (∀ (s : State) (w : CmdWords) (c : ChanNo), s.mp.slot ≠ .busy → w.w1 = word c.val →
    (SetChannelBad (s.channel c) w → Declines (.setChannel w) s 0x08#8 w .badField) ∧
    (¬SetChannelBad (s.channel c) w →
      ((s.channel c).state = .vacant → Declines (.setChannel w) s 0x08#8 w .vacant) ∧
      ((s.channel c).state ≠ .vacant → (s.channel c).state ≠ .closed → w.maskBit 8 = true →
        Declines (.setChannel w) s 0x08#8 w .inUse) ∧
      ∀ trunk : Option SlotNo, (s.channel c).state ≠ .vacant →
        (w.maskBit 8 = true → (s.channel c).state = .closed) → w.maskBit 10 = true → slotArg w.w3 = some trunk →
        TrunkTaken s c trunk → Declines (.setChannel w) s 0x08#8 w .slotClaimed)) ∧
  ∀ (s : State) (w : CmdWords) (c : ChanNo) (kind : ChannelKind) (maximum : Nat) (m : Headroom) (trunk : Option SlotNo),
    s.mp.slot ≠ .busy → w.w1 = word c.val → (s.channel c).state ≠ .vacant → ¬SetChannelBad (s.channel c) w →
    (if w.maskBit 8 = true then kind = channelKindArg (bit w.w2 0) ∧ (s.channel c).state = .closed
      else kind = (s.channel c).kind) →
    (if w.maskBit 9 = true then maximumArg w.w2 = some maximum else maximum = (s.channel c).maxTalkers) →
    (if w.maskBit 10 = true then slotArg w.w3 = some trunk ∧ ¬TrunkTaken s c trunk else trunk = (s.channel c).trunk) →
    (if w.maskBit 13 = true then headroomArg w.w2 = some m else m = (s.channel c).headroom) →
    ∃ u : State, exec (.setChannel w) s = .next u ∧
      u.mp =
        mpDone s.mp 0x08#8 w
          (if w.maskBit 11 = true ∧ 255 < w.w4.toNat ∨ w.maskBit 12 = true ∧ 32767 < w.w5.toNat then .doneClamped
          else .done) ∧
      u.channel c =
        { channelSet (floorUnder (s.channel c) maximum) w kind m with
          trunk := trunk, noTrunk := (u.channel c).noTrunk } ∧
      ToldAll [c] s u ∧
      (∀ e ∈ (s.channel c).talkers.drop maximum, (u.timer (.silence c e.pos)).running = false) ∧
      (∀ e ∈ floorGains (s.channel c) maximum, e.latched = true → (u.channel c).silence ≠ 0 →
        (u.timer (.silence c e.pos)).running = true ∧
        (u.timer (.silence c e.pos)).framesLeft = 16 * (1000 * (u.channel c).silence)) ∧
      (∀ id : TimerId, (∀ e ∈ (s.channel c).talkers.drop maximum, id ≠ .silence c e.pos) →
        (∀ e ∈ floorGains (s.channel c) maximum, id ≠ .silence c e.pos) →
        (∀ n : SlotNo, trunk ≠ (s.channel c).trunk → trunk = some n → id ≠ .faultConfirm n) →
        (∀ n : SlotNo, trunk ≠ (s.channel c).trunk → (s.channel c).trunk = some n → (u.slot n).named = false →
          id ≠ .faultConfirm n ∧ id ≠ .restore n) → u.timer id = s.timer id) ∧
      (∀ b : BridgeNo, (s.channel c).bridge = some b →
        (u.bridge b).contributors =
          trunkSwapped s
            (micsJoined
              (((s.channel c).talkers.drop maximum).foldl (fun gs e => gs.erase (micLeg e.pos)) (s.bridge b).contributors)
              (floorGains (s.channel c) maximum))
            (s.channel c).trunk trunk ∧
        (w.maskBit 13 = true ∨ (s.bridge b).headroom = m →
          ModePassed { s.bridge b with contributors := (u.bridge b).contributors } m (u.bridge b))) ∧
      (∀ b : BridgeNo, (s.channel c).bridge ≠ some b → u.bridge b = (s.bridge b).settle) ∧
      (∀ g : LegNo, (∀ e ∈ (s.channel c).talkers.drop maximum, g ≠ micLeg e.pos) →
        (∀ n : SlotNo, trunk ≠ (s.channel c).trunk → trunk = some n ∨ (s.channel c).trunk = some n → g ≠ trunkLeg n) →
        u.leg g = s.leg g) ∧
      (trunk = (s.channel c).trunk → (u.channel c).noTrunk = (s.channel c).noTrunk ∧ u.slots = s.slots) ∧
      (trunk ≠ (s.channel c).trunk →
        (trunk = none → (u.channel c).noTrunk = false) ∧
        (∀ n : SlotNo, trunk = some n →
          u.timer (.faultConfirm n) = confirmAtNaming s n ∧
          (Claimable s n →
            (u.channel c).noTrunk = false ∧
            u.slot n =
              { s.slot n with state := .active, claimant := some (.channel c), primaryNamer := some (.channel c) } ∧
            ∀ b : BridgeNo, (s.channel c).bridge = some b →
              trunkLeg n ∈ (u.bridge b).contributors ∧ u.leg (trunkLeg n) = { s.leg (trunkLeg n) with attach := some b }) ∧
          (¬Claimable s n →
            (u.channel c).noTrunk = true ∧ u.slot n = { s.slot n with primaryNamer := some (.channel c) } ∧
            u.leg (trunkLeg n) = s.leg (trunkLeg n))) ∧
        (∀ n : SlotNo, (s.channel c).trunk = some n →
          ((s.slot n).altLines = [] →
            u.slot n = { s.slot n with state := .unassigned, claimant := none, primaryNamer := none } ∧
            (u.timer (.faultConfirm n)).running = false ∧ (u.timer (.restore n)).running = false) ∧
          ((s.slot n).altLines ≠ [] → u.slot n = { s.slot n with primaryNamer := none }) ∧
          ∀ b : BridgeNo, (s.channel c).bridge = some b →
            u.leg (trunkLeg n) =
              (if (s.leg (trunkLeg n)).attach = some b then { s.leg (trunkLeg n) with attach := none }
              else s.leg (trunkLeg n)) ∧
            ((s.bridge b).contributors.Nodup → trunkLeg n ∉ (u.bridge b).contributors)) ∧
        ∀ n : SlotNo, trunk ≠ some n → (s.channel c).trunk ≠ some n → u.slot n = s.slot n) ∧
      (∀ c' : ChanNo, c' ≠ c → u.channel c' = s.channel c') ∧
      u =
        { s with
          channels := u.channels, slots := u.slots, bridges := u.bridges, legs := u.legs, timers := u.timers
          links := u.links, mp := u.mp }

/-- ADD-MEMBER, in the order of R68: BAD-FIELD for a number out of range, VACANT, BAD-FIELD for a HOOT channel; a member with the unit
named is accepted with no change and with another EXISTS; a unit designated elsewhere is IN-USE, a list of 16 LIST-FULL, and a CLOSED
channel for which no bridge can be had NO-BRIDGE, with POOL posted. Else the member is last in the list, the unit's previous selection
is released, and it selects the channel and listens, which opens it on the lowest-numbered bridge then FREE. DROP-MEMBER: BAD-FIELD,
VACANT, NOT-FOUND for a HOOT channel or a position that is no member; else the position's floor entry goes, its units that select the
channel are released, the channel closes where it is left unused, and the membership goes. Every position that qualifies before or
after is told (R55, R56, R61, R68, R69, R78–R81, R100), of a channel released before the group, which is the model's choice (log entry 14). -/
def Obligations.MembersJoinAndLeave : Prop :=
  (∀ (s : State) (w : CmdWords), s.mp.slot ≠ .busy →
    (31 < w.w1.toNat ∨ 47 < w.w2.toNat ∨ 7 < w.w3.toNat → Declines (.addMember w) s 0x0A#8 w .badField) ∧
    (31 < w.w1.toNat ∨ 47 < w.w2.toNat → Declines (.dropMember w) s 0x0B#8 w .badField)) ∧
  (∀ (s : State) (w : CmdWords) (c : ChanNo) (p : Pos) (n : UnitNo),
    s.mp.slot ≠ .busy → w.w1 = word c.val → w.w2 = word p.val → w.w3 = word n.val →
    ((s.channel c).state = .vacant → Declines (.addMember w) s 0x0A#8 w .vacant) ∧
    ((s.channel c).state ≠ .vacant → (s.channel c).kind = .hoot → Declines (.addMember w) s 0x0A#8 w .badField) ∧
    ((s.channel c).state ≠ .vacant → (s.channel c).kind = .group →
      (∀ m : UnitNo, (s.channel c).memberUnit p = some m →
        Declines (.addMember w) s 0x0A#8 w (if m = n then .done else .exists)) ∧
      ((s.channel c).memberUnit p = none →
        (s.designated p n ≠ none → Declines (.addMember w) s 0x0A#8 w .inUse) ∧
        (s.designated p n = none →
          (16 ≤ (s.channel c).members.length → Declines (.addMember w) s 0x0A#8 w .listFull) ∧
          ((s.channel c).members.length < 16 → (s.channel c).state = .closed →
            (∀ b : BridgeNo, (s.bridge b).state ≠ .free) →
            (∀ y : ChanNo, s.selection p n = .channel y → y = c ∨ ¬Unheard s y p n) →
            exec (.addMember w) s = .next { s with mp := mpNoBridge s.mp 0x0A#8 w })))) ∧
    ∀ b : BridgeNo, (s.channel c).kind = .group → (s.channel c).memberUnit p = none → s.designated p n = none →
      (s.channel c).members.length < 16 → s.selection p n ≠ .channel c →
      ((s.channel c).state = .opened ∧ (s.channel c).bridge = some b ∨
        (s.channel c).state = .closed ∧ Lowest (HadBySelect s p n c) b) →
      ∃ u : State, exec (.addMember w) s = .next u ∧ u.mp = mpDone s.mp 0x0A#8 w .done ∧
        u.channel c =
          { s.channel c with
            state := .opened, bridge := some b, members := (s.channel c).members ++ [⟨p, n⟩] } ∧
        Released s u p n (some c) none ∧ BridgesReleased s u p n (some b) ∧ u.selection p n = .channel c ∧
        (u.leg (unitLeg p n)).attach = some b ∧ LegsReleased s u p n (if (s.channel c).state = .closed then s.liveTrunk c else none) ∧
        ((s.channel c).state = .closed → s.liveTrunk c = none →
          { u.bridge b with receivers := 0 } = Bridge.allocated (.channel c) (s.channel c).headroom) ∧
        (∀ q : Pos, u.link q =
          toldChannel none true s u q (told none (selectedChannel s p n) s u q) c) ∧
        u =
          { s with
            lines := u.lines, channels := u.channels, selections := u.selections, bridges := u.bridges
            legs := u.legs, links := u.links, mp := u.mp }) ∧
  ∀ (s : State) (w : CmdWords) (c : ChanNo) (p : Pos),
    s.mp.slot ≠ .busy → w.w1 = word c.val → w.w2 = word p.val →
    ((s.channel c).state = .vacant → Declines (.dropMember w) s 0x0B#8 w .vacant) ∧
    ((s.channel c).state ≠ .vacant → (s.channel c).kind = .hoot ∨ (s.channel c).memberUnit p = none →
      Declines (.dropMember w) s 0x0B#8 w .notFound) ∧
    ((s.channel c).state ≠ .vacant → (s.channel c).kind = .group → (s.channel c).memberUnit p ≠ none →
      ∃ u : State, exec (.dropMember w) s = .next u ∧ u.mp = mpDone s.mp 0x0B#8 w .done ∧
        u.channel c =
          { withoutMember s c p with members := (s.channel c).members.filter fun m => m.pos != p } ∧
        (∀ q : Pos, u.link q = toldChannel none true s u q (s.link q) c) ∧
        (∀ (q : Pos) (m : UnitNo),
          u.selection q m = if q = p ∧ s.selection p m = .channel c then .none else s.selection q m) ∧
        FloorTimers s u c p ∧
        (∀ id : TimerId, id ≠ .silence c p → (∀ e ∈ granted (s.channel c) p, id ≠ .silence c e.pos) →
          u.timer id = s.timer id) ∧
        (∀ b : BridgeNo, (s.channel c).bridge = some b →
          ((s.channel c).state = .opened → (u.channel c).state = .closed →
            u.bridge b = Bridge.free ∧ ∀ g : LegNo, (u.leg g).attach ≠ some b) ∧
          (∀ m : UnitNo, s.selection p m = .channel c → (u.leg (unitLeg p m)).attach ≠ some b) ∧
          ∀ b' : BridgeNo, b' ≠ b → u.bridge b' = (s.bridge b').settle) ∧
        (∀ c' : ChanNo, c' ≠ c → u.channel c' = s.channel c') ∧
        u =
          { s with
            channels := u.channels, selections := u.selections, bridges := u.bridges, legs := u.legs
            timers := u.timers, links := u.links, mp := u.mp })

/-- PERMIT and UNPERMIT are refused BAD-FIELD for a number out of range, VACANT, and BAD-FIELD for a GROUP channel, with no change. PERMIT
adds a position to the listen or the talk set of a HOOT channel. UNPERMIT of a position outside the set is accepted with no change; of a
listener it releases every unit of the position that selects the channel, which closes where it is left unused, and of a talker it
removes the position's talker or queue entry, with the grant and the closing that follow. Each leaves the other set as it is, and the
positions that qualify are told (R56, R61, R67, R78–R81, R85). -/
def Obligations.PermissionsChange : Prop :=
  (∀ (s : State) (w : CmdWords) (x : Instr × Byte), s.mp.slot ≠ .busy →
    x ∈ [(Instr.permit w, 0x0C#8), (.unpermit w, 0x0D#8)] →
    (31 < w.w1.toNat ∨ 47 < w.w2.toNat → Declines x.1 s x.2 w .badField) ∧
    ∀ (c : ChanNo) (p : Pos), w.w1 = word c.val → w.w2 = word p.val →
      ((s.channel c).state = .vacant → Declines x.1 s x.2 w .vacant) ∧
      ((s.channel c).state ≠ .vacant → (s.channel c).kind = .group → Declines x.1 s x.2 w .badField)) ∧
  ∀ (s : State) (w : CmdWords) (c : ChanNo) (p : Pos),
    s.mp.slot ≠ .busy → w.w1 = word c.val → w.w2 = word p.val → (s.channel c).state ≠ .vacant →
    (s.channel c).kind = .hoot →
    (∃ u : State, exec (.permit w) s = .next u ∧ u.mp = mpDone s.mp 0x0C#8 w .done ∧
      (∀ q : Pos, q ∈ (u.channel c).talk ↔ (q = p ∧ w.maskBit 8 = true) ∨ q ∈ (s.channel c).talk) ∧
      (∀ q : Pos, q ∈ (u.channel c).listen ↔ (q = p ∧ w.maskBit 8 = false) ∨ q ∈ (s.channel c).listen) ∧
      { u.channel c with talk := [], listen := [] } = { s.channel c with talk := [], listen := [] } ∧
      ToldAll [c] s u ∧ (∀ c' : ChanNo, c' ≠ c → u.channel c' = s.channel c') ∧
      u = { s with channels := u.channels, bridges := tabMap Bridge.settle s.bridges, links := u.links, mp := u.mp }) ∧
    (p ∉ (if w.maskBit 8 = true then (s.channel c).talk else (s.channel c).listen) →
      Declines (.unpermit w) s 0x0D#8 w .done) ∧
    (w.maskBit 8 = true → p ∈ (s.channel c).talk →
      ∃ u : State, exec (.unpermit w) s = .next u ∧ u.mp = mpDone s.mp 0x0D#8 w .done ∧
        u.channel c =
          { floorAfter (s.channel c) p (s.hasReceiver c) with
            talk := (s.channel c).talk.filter fun q => q != p } ∧
        FloorMoved s u c p ∧ ToldAll [c] s u ∧ (∀ c' : ChanNo, c' ≠ c → u.channel c' = s.channel c') ∧
        u =
          { s with
            channels := u.channels, bridges := u.bridges, legs := u.legs, timers := u.timers, links := u.links
            mp := u.mp }) ∧
    (w.maskBit 8 = false → p ∈ (s.channel c).listen →
      ∃ u : State, exec (.unpermit w) s = .next u ∧ u.mp = mpDone s.mp 0x0D#8 w .done ∧
        u.channel c = { unheardBy s c p with listen := (s.channel c).listen.filter fun q => q != p } ∧
        (∀ (q : Pos) (m : UnitNo),
          u.selection q m = if q = p ∧ s.selection p m = .channel c then .none else s.selection q m) ∧
        (∀ b : BridgeNo, (s.channel c).bridge = some b →
          ((s.channel c).state = .opened → (u.channel c).state = .closed →
            u.bridge b = Bridge.free ∧ ∀ g : LegNo, (u.leg g).attach ≠ some b) ∧
          (∀ m : UnitNo, s.selection p m = .channel c → (u.leg (unitLeg p m)).attach ≠ some b) ∧
          ∀ b' : BridgeNo, b' ≠ b → u.bridge b' = (s.bridge b').settle) ∧
        ((u.channel c).state = (s.channel c).state →
          ∀ g : LegNo, (∀ m : UnitNo, s.selection p m = .channel c → g ≠ unitLeg p m) → u.leg g = s.leg g) ∧
        ToldAll [c] s u ∧ (∀ c' : ChanNo, c' ≠ c → u.channel c' = s.channel c') ∧
        u =
          { s with
            channels := u.channels, selections := u.selections, bridges := u.bridges, legs := u.legs
            links := u.links, mp := u.mp })

/-- SET-CADENCE brings an ON duration into 1–1000 and an OFF duration into 0–1000, with DONE-CLAMPED where that changed one, and writes
them into the settings; an IDLE generator takes them into force at once, one that runs keeps its phase and the values in force. Nothing
else changes. A generator number above 7 is BAD-FIELD with no change (R153). The completion that posts DONE is R188's, and the row writes
the command's words into the buffer before its GO (log entry 3), so that the whole is the model's reading of the row. -/
def Obligations.SetCadenceWritesSettings : Prop :=
  (∀ (s : State) (w : CmdWords) (n : GenNo), s.mp.slot ≠ .busy → w.w1 = word n.val →
    exec (.setCadence w) s =
      .next
        { s.setGenerator n
            { s.generator n with
              onSetting := max 1 (min 1000 w.w2.toNat), offSetting := min 1000 w.w3.toNat
              onForce :=
                if (s.generator n).state = .idle then max 1 (min 1000 w.w2.toNat) else (s.generator n).onForce
              offForce := if (s.generator n).state = .idle then min 1000 w.w3.toNat else (s.generator n).offForce } with
          mp :=
            mpDone s.mp 0x11#8 w
              (if w.w2.toNat = 0 ∨ 1000 < w.w2.toNat ∨ 1000 < w.w3.toNat then .doneClamped else .done) }) ∧
  (∀ (s : State) (w : CmdWords), s.mp.slot ≠ .busy → 7 < w.w1.toNat → Declines (.setCadence w) s 0x11#8 w .badField)

/-- SET-LEG writes the masked gain and volume of a leg, each brought to 255 at most with DONE-CLAMPED, and nothing else; a leg number
above 783, an unknown mask bit (log entry 12), or a masked field that the leg does not have, is BAD-FIELD. SET-TIMING writes the masked
device timings, each brought into its range; an unknown mask bit is BAD-FIELD. SET-SLOT writes the masked qualify time, brought into
10–200 ms, and the masked polarity; a change of polarity stops a qualify timer that runs, and starts it where the present level is now
active. A slot above 255, an unknown mask bit or a masked polarity that is no code is BAD-FIELD (R93, R133, R191). -/
def Obligations.SettingsBroughtIntoRange : Prop :=
  (∀ (s : State) (w : CmdWords) (g : LegNo), s.mp.slot ≠ .busy → w.w1 = word g.val →
    (w.maskBelow 10 = true → (w.maskBit 8 = true → (s.leg g).gain ≠ none) →
      (w.maskBit 9 = true → (s.leg g).volume ≠ none) →
      exec (.setLeg w) s =
        .next
          { s.setLeg g
              { s.leg g with
                gain := if w.maskBit 8 = true then some (BitVec.ofNat 8 (min 255 w.w2.toNat)) else (s.leg g).gain
                volume :=
                  if w.maskBit 9 = true then some (BitVec.ofNat 8 (min 255 w.w3.toNat)) else (s.leg g).volume } with
            mp :=
              mpDone s.mp 0x0F#8 w
                (if w.maskBit 8 = true ∧ 255 < w.w2.toNat ∨ w.maskBit 9 = true ∧ 255 < w.w3.toNat then .doneClamped
                else .done) }) ∧
    (w.maskBelow 10 = false ∨ w.maskBit 8 = true ∧ (s.leg g).gain = none ∨
        w.maskBit 9 = true ∧ (s.leg g).volume = none →
      Declines (.setLeg w) s 0x0F#8 w .badField)) ∧
  (∀ (s : State) (w : CmdWords), s.mp.slot ≠ .busy → 783 < w.w1.toNat → Declines (.setLeg w) s 0x0F#8 w .badField) ∧
  (∀ (s : State) (w : CmdWords), s.mp.slot ≠ .busy →
    (w.maskBelow 11 = false → Declines (.setTiming w) s 0x13#8 w .badField) ∧
    (w.maskBelow 11 = true →
      exec (.setTiming w) s =
        .next
          { s with
            mp :=
              { mpDone s.mp 0x13#8 w
                  (if w.maskBit 8 = true ∧ (w.w1.toNat < 10 ∨ 2000 < w.w1.toNat) ∨
                      w.maskBit 9 = true ∧ (w.w2.toNat < 100 ∨ 60000 < w.w2.toNat) ∨
                      w.maskBit 10 = true ∧ 10000 < w.w3.toNat then
                    .doneClamped
                  else .done) with
                faultConfirm := if w.maskBit 8 = true then max 10 (min 2000 w.w1.toNat) else s.mp.faultConfirm
                restore := if w.maskBit 9 = true then max 100 (min 60000 w.w2.toNat) else s.mp.restore
                grace := if w.maskBit 10 = true then min 10000 w.w3.toNat else s.mp.grace } })) ∧
  (∀ (s : State) (w : CmdWords), s.mp.slot ≠ .busy →
    (255 < w.w1.toNat ∨ w.maskBelow 10 = false ∨ w.maskBit 8 = true ∧ w.w2 ≠ 0#16 ∧ w.w2 ≠ 1#16) →
    Declines (.setSlot w) s 0x10#8 w .badField) ∧
  ∀ (s : State) (w : CmdWords) (sl : SlotNo), s.mp.slot ≠ .busy → w.w1 = word sl.val → w.maskBelow 10 = true →
    (w.maskBit 8 = true → w.w2 = 0#16 ∨ w.w2 = 1#16) →
    ∃ u : State, exec (.setSlot w) s = .next u ∧
      u.mp =
        mpDone s.mp 0x10#8 w
          (if w.maskBit 9 = true ∧ (w.w3.toNat < 10 ∨ 200 < w.w3.toNat) then .doneClamped else .done) ∧
      u.slot sl =
        { s.slot sl with
          polarity :=
            if w.maskBit 8 = true then (if w.w2 = 1#16 then .activeLow else .activeHigh) else (s.slot sl).polarity
          qualify := if w.maskBit 9 = true then max 10 (min 200 w.w3.toNat) else (s.slot sl).qualify } ∧
      ((u.slot sl).polarity = (s.slot sl).polarity → u.timers = s.timers) ∧
      ((u.slot sl).polarity ≠ (s.slot sl).polarity →
        ((u.slot sl).ringActive = true →
          (u.timer (.qualify sl)).running = true ∧ (u.timer (.qualify sl)).framesLeft = 16 * (u.slot sl).qualify ∧
            (s.timer (.qualify sl)).run < (u.timer (.qualify sl)).run) ∧
        ((u.slot sl).ringActive = false → (u.timer (.qualify sl)).running = false)) ∧
      (∀ id : TimerId, id ≠ .qualify sl → u.timer id = s.timer id) ∧ (∀ n : SlotNo, n ≠ sl → u.slot n = s.slot n) ∧
      u = { s with slots := u.slots, timers := u.timers, mp := u.mp }

/-- SET-POSITION is refused BAD-FIELD for a position above 47, an unknown mask bit (log entry 12) or a masked value that names no code,
with no change. Else a masked switch action is written; an enable of a DISABLED link puts it in HUNT with good count 0, and a disable of
a HUNT or LOCKED one carries out the teardown of the position (stated where no line that it leaves reverts) and makes it DISABLED, its
buffers, queues, assembly and message in transmission dropped and its grace timer stopped; the sticky flags stand and no LINK event is
posted (R30, R164, R178, R190). That the indications of the teardown are enqueued for lines and then for channels, in ascending order, is
the model's choice (log entry 14). -/
def Obligations.SetPositionSwitchesLink : Prop :=
  (∀ (s : State) (w : CmdWords), s.mp.slot ≠ .busy →
    (47 < w.w1.toNat ∨ w.maskBelow 10 = false ∨ w.maskBit 8 = true ∧ 1 < w.w2.toNat ∨
      w.maskBit 9 = true ∧ 1 < w.w3.toNat) →
    Declines (.setPosition w) s 0x12#8 w .badField) ∧
  ∀ (s : State) (w : CmdWords) (p : Pos) (a : SwitchAction), s.mp.slot ≠ .busy → w.w1 = word p.val →
    w.maskBelow 10 = true → (w.maskBit 8 = true → w.w2.toNat ≤ 1) → (w.maskBit 9 = true → w.w3.toNat ≤ 1) →
    a = (if w.maskBit 9 = true then (if w.w3 = 1#16 then .hold else .release) else (s.link p).switchAction) →
    (w.maskBit 8 = true → w.w2 = 1#16 → (s.link p).state = .disabled →
      exec (.setPosition w) s =
        .next
          { s.setLink p { s.link p with state := .hunt, goodCount := 0, huntBytes := [], switchAction := a } with
            mp := mpDone s.mp 0x12#8 w .done }) ∧
    (w.maskBit 8 = false ∨ w.w2 = 1#16 ∧ (s.link p).state ≠ .disabled ∨ w.w2 = 0#16 ∧ (s.link p).state = .disabled →
      exec (.setPosition w) s =
        .next
          { s.setLink p { s.link p with switchAction := a } with
            mp := mpDone s.mp 0x12#8 w .done }) ∧
    (w.maskBit 8 = true → w.w2 = 0#16 → (s.link p).state ≠ .disabled →
      ∃ u : State, exec (.setPosition w) s = .next u ∧
        u.link p =
          { s.link p with
            state := .disabled, requests := [], answers := [], indications := [], assembly := .between
            transmit := [], huntBytes := [], rawLeft := 0, rawRight := 0, rawMic := 0, switchAction := a } ∧
        (∀ q : Pos, q ≠ p → linkCore (u.link q) = linkCore (s.link q) ∧
          (u.link q).requests = (s.link q).requests ∧ (u.link q).answers = (s.link q).answers) ∧
        (u.timer (.grace p)).running = false ∧ u.directories = s.directories ∧ u.mp.slot = .done ∧
        u.mp.result = .done ∧ u.flagged .done = true ∧ (s.flagged .link = false → u.flagged .link = false) ∧
        ((∀ (h : Handset) (l : LineNo), s.currentLine ⟨p, h⟩ = some l → Stays s l) →
          TornDown s u p ∧ u.mp = mpDone s.mp 0x12#8 w .done ∧ u.inFlight = s.inFlight))

/-- CLEAR-MARKS clears the limit flag of a bridge, the three sticky flags of a link, or MISSED of a line, with LINE-STATE at its
appearing positions where that changed it, and nothing else. A VACANT line is refused VACANT; a kind that names none of the three, or a
number above 95, 47 or 191 for its kind, is BAD-FIELD (R7, R127, R170, R192). -/
def Obligations.ClearMarksClearsOne : Prop :=
  (∀ (s : State) (w : CmdWords) (b : BridgeNo), s.mp.slot ≠ .busy → w.w1 = 0#16 → w.w2 = word b.val →
    exec (.clearMarks w) s =
      .next { s.setBridge b { s.bridge b with limit := false } with mp := mpDone s.mp 0x14#8 w .done }) ∧
  (∀ (s : State) (w : CmdWords) (p : Pos), s.mp.slot ≠ .busy → w.w1 = 1#16 → w.w2 = word p.val →
    exec (.clearMarks w) s =
      .next
        { s.setLink p { s.link p with badFrame := false, messageLost := false, overrun := false } with
          mp := mpDone s.mp 0x14#8 w .done }) ∧
  (∀ (s : State) (w : CmdWords) (l : LineNo), s.mp.slot ≠ .busy → w.w1 = 2#16 → w.w2 = word l.val →
    ((s.line l).state = .vacant → Declines (.clearMarks w) s 0x14#8 w .vacant) ∧
    ((s.line l).state ≠ .vacant →
      ∃ u : State, exec (.clearMarks w) s = .next u ∧ u.mp = mpDone s.mp 0x14#8 w .done ∧
        u.line l = { s.line l with marks := { (s.line l).marks with missed := false } } ∧
        (∀ l' : LineNo, l' ≠ l → u.line l' = s.line l') ∧ ToldAll [] s u ∧
        u = { s with lines := u.lines, bridges := tabMap Bridge.settle s.bridges, links := u.links, mp := u.mp })) ∧
  (∀ (s : State) (w : CmdWords), s.mp.slot ≠ .busy →
    (2 < w.w1.toNat ∨ w.w1 = 0#16 ∧ 95 < w.w2.toNat ∨ w.w1 = 1#16 ∧ 47 < w.w2.toNat ∨
      w.w1 = 2#16 ∧ 191 < w.w2.toNat) →
    Declines (.clearMarks w) s 0x14#8 w .badField)

/-! ### Later acts of FLOOR-RESET and of the retires -/

/-- Act 2 of FLOOR-RESET: every line that is not VACANT gives up occupants, monitors, hold, marks and bridge, a line in use is IDLE, or
LOCKOUT without a route; its timers are stopped; every bridge that a line owned is FREE, and monitor selections are NONE; every
generator is IDLE with count 0 and the settings in force; nothing else changes (R23, R48, R106, R154). That the act enqueues no
indication is the model's choice (log entry 14). -/
def Obligations.FloorResetClearsLines : Prop :=
  ∀ s : State, s.mp.job = some (.floorReset .lines) →
    ∃ u : State, exec .floorResetLines s = .next u ∧ u.mp = { s.mp with job := some (.floorReset .channels) } ∧
      (∀ l : LineNo, (s.line l).state = .vacant → u.line l = s.line l) ∧
      (∀ l : LineNo, (s.line l).state ≠ .vacant →
        u.line l =
          { s.line l with
            state :=
              if (s.line l).state = .alerting ∨ (s.line l).state = .connected ∨ (s.line l).state = .held then
                (if (s.line l).route = .none then .lockout else .idle)
              else (s.line l).state
            currentPrivacy := (s.line l).defaultPrivacy, occupants := [], monitors := [], holdOwner := none
            refGen := none, bridge := none, marks := ⟨false, false, false, false, false⟩ }) ∧
      (∀ l : LineNo, (u.timer (.ringTimeout l)).running = false ∧ (u.timer (.holdRecall l)).running = false ∧
        (u.timer (.burst l)).running = false) ∧
      (∀ t : TimerId, (∀ l : LineNo, t ≠ .ringTimeout l ∧ t ≠ .holdRecall l ∧ t ≠ .burst l) → u.timer t = s.timer t) ∧
      (∀ (b : BridgeNo) (l : LineNo), (s.bridge b).owner = some (.line l) →
        u.bridge b = Bridge.free ∧ ∀ g : LegNo, (u.leg g).attach ≠ some b) ∧
      (∀ b : BridgeNo, (∀ l : LineNo, (s.bridge b).owner ≠ some (.line l)) → u.bridge b = (s.bridge b).settle) ∧
      (∀ (q : Pos) (m : UnitNo),
        u.selection q m = match s.selection q m with | .line _ => .none | x => x) ∧
      (∀ n : GenNo, u.generator n =
        { s.generator n with
          onForce := (s.generator n).onSetting, offForce := (s.generator n).offSetting, state := .idle
          phaseFrames := 0, refs := 0 }) ∧
      u.links = s.links ∧
      u =
        { s with
          lines := u.lines, selections := u.selections, bridges := u.bridges, legs := u.legs
          generators := u.generators, timers := u.timers, mp := u.mp }

/-- Act 3 of FLOOR-RESET: every floor is empty, every silence timer stopped, every OPEN channel CLOSED with its bridge FREE, and every
selection NONE but those of designated units; nothing else changes (R72, R89, R106). That the act enqueues no indication, though
channels close, is the model's choice (log entry 14). -/
def Obligations.FloorResetClosesChannels : Prop :=
  ∀ s : State, s.mp.job = some (.floorReset .channels) →
    ∃ u : State, exec .floorResetChannels s = .next u ∧ u.mp = { s.mp with job := some (.floorReset .routes) } ∧
      (∀ c : ChanNo, u.channel c =
        { s.channel c with
          talkers := [], queue := [], bridge := none
          state := if (s.channel c).state = .opened then .closed else (s.channel c).state }) ∧
      (∀ (c : ChanNo) (p : Pos), (u.timer (.silence c p)).running = false) ∧
      (∀ t : TimerId, (∀ (c : ChanNo) (p : Pos), t ≠ .silence c p) → u.timer t = s.timer t) ∧
      (∀ (b : BridgeNo) (c : ChanNo), (s.bridge b).owner = some (.channel c) →
        u.bridge b = Bridge.free ∧ ∀ g : LegNo, (u.leg g).attach ≠ some b) ∧
      (∀ b : BridgeNo, (∀ c : ChanNo, (s.bridge b).owner ≠ some (.channel c)) → u.bridge b = (s.bridge b).settle) ∧
      (∀ (p : Pos) (n : UnitNo),
        u.selection p n =
          if ∃ c : ChanNo, (s.channel c).live = true ∧ (s.channel c).kind = .group ∧ ⟨p, n⟩ ∈ (s.channel c).members then
            s.selection p n
          else .none) ∧
      u.links = s.links ∧
      u =
        { s with
          channels := u.channels, selections := u.selections, bridges := u.bridges, legs := u.legs
          timers := u.timers, mp := u.mp }

/-- Act 4 of FLOOR-RESET: every claim ends and no slot is driven; then the STANDBY slots are claimed anew: a channel's trunk by the
lowest channel that names it, then by the lowest line that names it as primary, then by the lowest line that names it as alternate and
gained no primary. A channel without its trunk has NO-TRUNK; a line with a route is IDLE and one without LOCKOUT. Slots in FAULT or
UNASSIGNED stay so. Qualify timers are stopped, the fault-confirm timer runs exactly at a slot that was STANDBY or ACTIVE with its level
ABSENT, and the restore timer at one in FAULT with its level PRESENT (R148). That the act enqueues no indication is the model's choice
(log entry 14). -/
def Obligations.FloorResetReroutes : Prop :=
  ∀ s : State, s.mp.job = some (.floorReset .routes) →
    ∃ u : State, exec .floorResetRoutes s = .next u ∧ u.mp = { s.mp with job := some (.floorReset .groups) } ∧
      (∀ l : LineNo, (s.line l).state = .vacant → u.line l = s.line l) ∧
      (∀ sl : SlotNo, ¬Freed s sl → u.slot sl = { s.slot sl with ringOut := false }) ∧
      (∀ sl : SlotNo, Freed s sl →
        (∀ c : ChanNo, TrunkGoesTo s sl c →
          u.slot sl =
            { s.slot sl with state := .active, claimant := some (.channel c), ringOut := false } ∧
          u.channel c = { s.channel c with noTrunk := false }) ∧
        (∀ l : LineNo, PrimaryGoesTo s sl l →
          u.slot sl = { s.slot sl with state := .active, claimant := some (.line l), ringOut := false } ∧
          u.line l =
            { s.line l with state := .idle, route := .primary, currentPrivacy := (s.line l).defaultPrivacy }) ∧
        (∀ l : LineNo, AlternateGoesTo s sl l →
          u.slot sl = { s.slot sl with state := .active, claimant := some (.line l), ringOut := false } ∧
          u.line l =
            { s.line l with state := .idle, route := .alternate, currentPrivacy := (s.line l).defaultPrivacy }) ∧
        ((∀ c : ChanNo, ¬TrunkGoesTo s sl c) → (∀ l : LineNo, ¬PrimaryGoesTo s sl l) →
          (∀ l : LineNo, ¬AlternateGoesTo s sl l) →
          (u.slot sl).state = .standby ∧ (u.slot sl).ringOut = false ∧
          ((s.slot sl).state = .active → (u.slot sl).claimant = none))) ∧
      (∀ l : LineNo, (s.line l).state ≠ .vacant →
        (∀ sl : SlotNo, (s.line l).primary = some sl → Freed s sl → ¬PrimaryGoesTo s sl l) →
        (∀ sl : SlotNo, (s.line l).alternate = some sl → Freed s sl → ¬AlternateGoesTo s sl l) →
        u.line l =
          { s.line l with state := .lockout, route := .none, currentPrivacy := (s.line l).defaultPrivacy }) ∧
      (∀ c : ChanNo,
        ((s.channel c).live = false ∨ (s.channel c).trunk = none → u.channel c = s.channel c) ∧
        ∀ sl : SlotNo, (s.channel c).live = true → (s.channel c).trunk = some sl → ¬(Freed s sl ∧ TrunkGoesTo s sl c) →
          u.channel c = { s.channel c with noTrunk := true }) ∧
      (∀ sl : SlotNo, (u.timer (.qualify sl)).running = false ∧
        ((u.timer (.faultConfirm sl)).running = true ↔ Freed s sl ∧ (s.slot sl).alive = false) ∧
        ((u.timer (.restore sl)).running = true ↔ (s.slot sl).state = .fault ∧ (s.slot sl).alive = true)) ∧
      (∀ t : TimerId, (∀ sl : SlotNo, t ≠ .qualify sl ∧ t ≠ .faultConfirm sl ∧ t ≠ .restore sl) →
        u.timer t = s.timer t) ∧
      ((∀ c : ChanNo, (s.channel c).bridge = none) → u.legs = s.legs ∧ u.bridges = tabMap Bridge.settle s.bridges) ∧
      u.links = s.links ∧
      u =
        { s with
          lines := u.lines, channels := u.channels, slots := u.slots, bridges := u.bridges, legs := u.legs
          timers := u.timers, mp := u.mp }

/-- Act 5 of FLOOR-RESET with every bridge FREE: the GROUP channels with members reopen in ascending order, each on the lowest-numbered
FREE bridge, so that the first takes bridge 0, the second bridge 1, and so on; the bridge has the channel's headroom mode, its ACTIVE
trunk as contributor and its members' designated units as receivers. Nothing else changes (R54, R72, R106). That the act enqueues no
indication is the model's choice (log entry 14). -/
def Obligations.FloorResetReopensGroups : Prop :=
  ∀ s : State, s.mp.job = some (.floorReset .groups) → (∀ b : BridgeNo, s.bridge b = Bridge.free) →
    ∃ u : State, exec .floorResetGroups s = .next u ∧ u.mp = { s.mp with job := some (.floorReset .completion) } ∧
      (∀ (b : BridgeNo) (c : ChanNo), (groupsWithMembers s)[b.val]? = some c →
        u.channel c = { s.channel c with state := .opened, bridge := some b } ∧
        { u.bridge b with receivers := 0 } =
          { Bridge.allocated (.channel c) (s.channel c).headroom with
            contributors := (s.liveTrunk c).toList.map trunkLeg } ∧
        (∀ m ∈ (s.channel c).members,
          (∀ d ∈ groupsWithMembers s, d ≠ c → m ∉ (s.channel d).members) →
          u.leg (unitLeg m.pos m.unit) = { s.leg (unitLeg m.pos m.unit) with attach := some b }) ∧
        ((∀ g : LegNo, (s.leg g).attach = none) → (s.channel c).members.Nodup →
          (∀ m ∈ (s.channel c).members, ∀ d ∈ groupsWithMembers s, d ≠ c → m ∉ (s.channel d).members) →
          s.liveTrunk c = none → (u.bridge b).receivers = (s.channel c).members.length)) ∧
      (∀ b : BridgeNo, (groupsWithMembers s)[b.val]? = none → u.bridge b = Bridge.free) ∧
      (∀ c : ChanNo, c ∉ groupsWithMembers s → u.channel c = s.channel c) ∧
      (∀ g : LegNo,
        (∀ c ∈ groupsWithMembers s,
          (∀ m ∈ (s.channel c).members, g ≠ unitLeg m.pos m.unit) ∧
          ∀ sl : SlotNo, s.liveTrunk c = some sl → g ≠ trunkLeg sl) →
        u.leg g = s.leg g) ∧
      u.links = s.links ∧
      u = { s with channels := u.channels, bridges := u.bridges, legs := u.legs, mp := u.mp }

/-- FLOOR-RESET starts: every request buffer, answer queue and indication queue is empty, every message in transmission is abandoned
and every grace timer stopped; the slot is BUSY and the lines come next. It completes: every LOCKED link holds exactly the 96
indications of a full refresh, keys and then channels in ascending order, every other queue is empty, answers stand, and the result is
DONE (R176, R179, R193). -/
def Obligations.FloorResetStartsAndCompletes : Prop :=
  (∀ (s : State) (w : CmdWords), s.mp.slot ≠ .busy →
    ∃ u : State, exec (.floorReset w) s = .next u ∧ u.mp = mpBusy s.mp 0x15#8 w (.floorReset .lines) ∧
      u.resetting = true ∧
      (∀ p : Pos, u.link p = { s.link p with requests := [], answers := [], indications := [], transmit := [] }) ∧
      (∀ p : Pos, (u.timer (.grace p)).running = false) ∧
      (∀ t : TimerId, (∀ p : Pos, t ≠ .grace p) → u.timer t = s.timer t) ∧
      u = { s with links := u.links, timers := u.timers, mp := u.mp }) ∧
  (∀ s : State, s.mp.job = some (.floorReset .completion) →
    ∃ u : State, exec .floorResetCompletion s = .next u ∧
      u.mp = { s.mp with job := none, slot := .done, result := .done, flags := s.mp.flags ||| 32#7 } ∧
      u.resetting = false ∧
      (∀ p : Pos,
        u.link p =
          { s.link p with indications := if (s.link p).state = .locked then s.refreshList p else [] }) ∧
      (∀ p : Pos, (s.refreshList p).map Indication.subject =
        (List.finRange 64).map Subject.key ++ (List.finRange 32).map Subject.channel) ∧
      u = { s with bridges := tabMap Bridge.settle s.bridges, links := u.links, mp := u.mp })

/-- A visit of a retire sweep. Of a line: at a position where the line appears its key is emptied and the entry removed, and every
other key of every directory stands; of a channel: every selection of it there is NONE and the position leaves its sets. The visit of
position 47 writes the vacant values and completes the command DONE. Nothing else changes (R21, R22, R71). That one step is one visit,
without the pace of R21, is log entry 7's, and that a visit of a channel enqueues no indication log entry 21's. -/
def Obligations.SweepVisitsPositions : Prop :=
  (∀ (s : State) (l : LineNo) (p : Pos), s.mp.job = some (.retireLine l p) →
    ∃ u : State, exec .lineSweepVisit s = .next u ∧
      (∀ (q : Pos) (k : Key),
        u.keyLine q k =
          if q = p ∧ ((s.line l).appearanceAt p).map Appearance.key = some k then none else s.keyLine q k) ∧
      (p.val < 47 →
        (u.line l) = { s.line l with appearances := (s.line l).appearances.filter fun y => y.pos != p } ∧
        ∃ q : Pos, q.val = p.val + 1 ∧ u.mp = { s.mp with job := some (.retireLine l q) }) ∧
      (p.val = 47 → u.line l = Line.vacant ∧
        u.mp = { s.mp with job := none, slot := .done, result := .done, flags := s.mp.flags ||| 32#7 }) ∧
      (∀ l' : LineNo, l' ≠ l → u.line l' = s.line l') ∧
      u = { s with lines := u.lines, directories := u.directories, mp := u.mp }) ∧
  (∀ (s : State) (c : ChanNo) (p : Pos), s.mp.job = some (.retireChannel c p) →
    ∃ u : State, exec .channelSweepVisit s = .next u ∧
      (∀ (q : Pos) (n : UnitNo),
        u.selection q n = if q = p ∧ s.selection p n = .channel c then .none else s.selection q n) ∧
      (p.val < 47 →
        u.channel c =
          { s.channel c with
            listen := (s.channel c).listen.filter fun q => q != p, talk := (s.channel c).talk.filter fun q => q != p
            members := (s.channel c).members.filter fun m => m.pos != p } ∧
        ∃ q : Pos, q.val = p.val + 1 ∧ u.mp = { s.mp with job := some (.retireChannel c q) }) ∧
      (p.val = 47 → u.channel c = Channel.vacant ∧
        u.mp = { s.mp with job := none, slot := .done, result := .done, flags := s.mp.flags ||| 32#7 }) ∧
      (∀ c' : ChanNo, c' ≠ c → u.channel c' = s.channel c') ∧
      u = { s with channels := u.channels, selections := u.selections, mp := u.mp })

/-! ### Timers and generators -/

/-- The end of a timer's count makes its expiry: the timer stops, keeps its run identity, and the expiry that carries it is in flight; a
timer with frames still to count makes none (log entry 5). An expiry whose run is not the timer's current one is discarded with no
change of any state but its own leaving; so is every expiry while FLOOR-RESET is in progress, but for those of the fault-confirm and
restore timers once its route step is taken (R148, R158, R159). That the stopped timer keeps its duration is the model's choice (log entry
10). -/
def Obligations.ExpiriesMadeAndDiscarded : Prop :=
  (∀ (s : State) (t : TimerId),
    ((s.timer t).running = true → (s.timer t).framesLeft = 0 →
      exec (.deadlineExpiry t) s =
        .next
          { s.setTimer t ⟨false, (s.timer t).duration, 0, (s.timer t).run⟩ with
            inFlight := s.inFlight ++ [⟨t, (s.timer t).run⟩] }) ∧
    ((s.timer t).framesLeft ≠ 0 → exec (.deadlineExpiry t) s = .next s)) ∧
  (∀ (s : State) (t : TimerId) (n : Nat), s.inFlight.find? (fun e => e.timer == t) = some ⟨t, n⟩ →
    (n ≠ (s.timer t).run →
      exec (expiryCommand t) s = .next { s with inFlight := s.inFlight.erase ⟨t, n⟩ }) ∧
    (s.resetting = true →
      ((∀ sl : SlotNo, t ≠ .faultConfirm sl ∧ t ≠ .restore sl) ∨
        s.mp.job = some (.floorReset .lines) ∨ s.mp.job = some (.floorReset .channels) ∨
        s.mp.job = some (.floorReset .routes)) →
      exec (expiryCommand t) s = .next { s with inFlight := s.inFlight.erase ⟨t, n⟩ }))

/-- The expiries of a line's timers. A ring timeout leaves an ALERTING line IDLE with MISSED and its cadence reference dropped, and a
line on its alternate with its primary STANDBY reverts to it with ROUTE posted; a hold recall sets RECALLED on a HELD line and enqueues
HOLD-RECALL at the hold owner and LINE-STATE at every other appearing position, once; a burst expiry clears RING-OUT. Each expiry has
left; the appearing positions are told, and nothing else changes (R7, R38, R43, R46, R142, R147). That a recall whose mark is set already
changes nothing is the model's reading (log entry 17), and the ascending order of the indications after a reversion its choice (log entry
14). -/
def Obligations.LineExpiriesAct : Prop :=
  ∀ (s : State) (l : LineNo), s.resetting = false →
    (Current s (.ringTimeout l) → (s.line l).state = .alerting →
      ∃ u : State, exec (.ringTimeoutExpiry l) s = .next u ∧ ToldAll [] s u ∧
        u.inFlight = s.inFlight.erase ⟨.ringTimeout l, (s.timer (.ringTimeout l)).run⟩ ∧
        (u.timer (.ringTimeout l)).running = false ∧
        (∀ id : TimerId, id ≠ .ringTimeout l → u.timer id = s.timer id) ∧
        (∀ n : GenNo, (s.line l).refGen = some n →
          (u.generator n).refs = (s.generator n).refs - 1 ∧
          ((s.generator n).refs = 1 → (u.generator n).state = .idle) ∧
          ∀ n' : GenNo, n' ≠ n → u.generator n' = s.generator n') ∧
        (StaysIdle s l →
          u.line l =
            { s.line l with
              state := .idle, currentPrivacy := (s.line l).defaultPrivacy, refGen := none
              marks := { (s.line l).marks with missed := true } } ∧
          (∀ l' : LineNo, l' ≠ l → u.line l' = s.line l') ∧
          u =
            { s with
              lines := u.lines, bridges := tabMap Bridge.settle s.bridges, timers := u.timers
              generators := u.generators, links := u.links, inFlight := u.inFlight }) ∧
        (¬StaysIdle s l →
          u.line l =
            { s.line l with
              state := .idle, currentPrivacy := (s.line l).defaultPrivacy, refGen := none, route := .primary
              marks := { (s.line l).marks with missed := true } } ∧
          u.mp = { s.mp with flags := s.mp.flags ||| 2#7 })) ∧
    (Current s (.holdRecall l) → (s.line l).state = .held →
      ∃ u : State, exec (.holdRecallExpiry l) s = .next u ∧
        u.inFlight = s.inFlight.erase ⟨.holdRecall l, (s.timer (.holdRecall l)).run⟩ ∧
        u.line l = { s.line l with marks := { (s.line l).marks with recalled := true } } ∧
        (∀ l' : LineNo, l' ≠ l → u.line l' = s.line l') ∧
        ((s.line l).marks.recalled = true → u.links = s.links) ∧
        ((s.line l).marks.recalled = false →
          ∀ q : Pos, u.link q =
            ((s.line l).appearances.filter fun a => a.pos == q).foldl
              (fun y a =>
                y.indicate
                  ⟨.key a.key, if (s.line l).holdOwner = some q then .holdRecall else .lineState, (u.line l).content⟩)
              (s.link q)) ∧
        u = { s with lines := u.lines, links := u.links, inFlight := u.inFlight }) ∧
    (Current s (.burst l) → (s.line l).marks.ringOut = true →
      ∃ u : State, exec (.burstExpiry l) s = .next u ∧ ToldAll [] s u ∧
        u.inFlight = s.inFlight.erase ⟨.burst l, (s.timer (.burst l)).run⟩ ∧
        u.line l = { s.line l with marks := { (s.line l).marks with ringOut := false } } ∧
        (∀ l' : LineNo, l' ≠ l → u.line l' = s.line l') ∧
        u =
          { s with
            lines := u.lines, bridges := tabMap Bridge.settle s.bridges, links := u.links, inFlight := u.inFlight })

/-- A silence expiry removes the latched talker and grants the queue head, which closes a channel left without talker and receiver, and
tells the positions that qualify, the talker FLOOR-LOST. A grace expiry of a link in HUNT tears the position down (stated where no line
that it leaves reverts) and posts LINK: its buffers, queues, assembly and message are dropped, and the rest of its link record stands.
Where both handsets leave lines that come to rest and revert, a line without a route that names both slots given up claims the
lower-numbered one, since slots that one act frees are served in ascending order (R56, R61, R80, R83, R141, R142, R177, R178). That both
lines revert before either slot is served is the model's reading (log entry 19), and the order of the indications, lines and then channels
ascending, its choice (log entry 14). -/
def Obligations.SilenceAndGraceExpiriesAct : Prop :=
  (∀ (s : State) (c : ChanNo) (p : Pos), s.resetting = false → Current s (.silence c p) → (s.channel c).live = true →
    ⟨p, true⟩ ∈ (s.channel c).talkers →
    ∃ u : State, exec (.silenceExpiry c p) s = .next u ∧
      u.inFlight = s.inFlight.erase ⟨.silence c p, (s.timer (.silence c p)).run⟩ ∧
      u.channel c = floorAfter (s.channel c) p (s.hasReceiver c) ∧ FloorMoved s u c p ∧
      (∀ c' : ChanNo, c' ≠ c → u.channel c' = s.channel c') ∧
      (∀ q : Pos, u.link q = toldChannel none false s u q (s.link q) c) ∧
      u =
        { s with
          channels := u.channels, bridges := u.bridges, legs := u.legs, timers := u.timers, links := u.links
          inFlight := u.inFlight }) ∧
  (∀ (s : State) (p : Pos), s.resetting = false → Current s (.grace p) → (s.link p).state = .hunt →
    ∃ u : State, exec (.graceExpiry p) s = .next u ∧
      u.inFlight = s.inFlight.erase ⟨.grace p, (s.timer (.grace p)).run⟩ ∧
      u.link p =
        { s.link p with
          requests := [], answers := [], indications := [], assembly := .between, transmit := [] } ∧
      (∀ q : Pos, q ≠ p → linkCore (u.link q) = linkCore (s.link q) ∧
        (u.link q).requests = (s.link q).requests ∧ (u.link q).answers = (s.link q).answers) ∧
      u.flagged .link = true ∧ u.directories = s.directories ∧
      ((∀ (h : Handset) (l : LineNo), s.currentLine ⟨p, h⟩ = some l → Stays s l) →
        TornDown s u p ∧ u.mp = { s.mp with flags := s.mp.flags ||| 1#7 }) ∧
      ∀ (x y w : LineNo) (a b m n : SlotNo),
        s.currentLine ⟨p, .left⟩ = some x → s.currentLine ⟨p, .right⟩ = some y → x ≠ y →
        LeftAtRest s p x → LeftAtRest s p y → ¬Stays s x → ¬Stays s y →
        (s.line x).alternate = some a → (s.line y).alternate = some b →
        (s.line x).primary = some m → (s.line y).primary = some n → [a, b, m, n].Nodup →
        (s.line w).state = .held → (s.line w).marks.noRoute = true → (s.line w).names a = true →
        (s.line w).names b = true →
        (∀ l : LineNo, l ≠ w → (s.line l).waiting = true → (s.line l).names a = false ∧ (s.line l).names b = false) →
        (∀ sl : SlotNo, sl = a ∨ sl = b →
          (s.slot sl).primaryNamer = none ∨ (s.slot sl).primaryNamer = some (.line w)) →
        (u.line x).route = .primary ∧ (u.line y).route = .primary ∧
        (u.slot (min a b)).claimant = some (.line w) ∧ (u.slot (max a b)).state = .standby ∧
        (u.slot (max a b)).claimant = none ∧ (u.line w).marks.noRoute = false)

/-- A qualified ring start on the ACTIVE slot of a line: an IDLE line is ALERTING, with a reference on its cadence generator and the
ring timeout started; an ALERTING one has its timeout retriggered and its reference moved to the cadence now set; a CONNECTED one takes
FAR-SIGNAL; a NAILED line, a line in another state, a channel's slot and a slot that is not ACTIVE discard it. A confirmed fault puts
the slot in FAULT and posts ROUTE: the claimant line takes its other slot where that is STANDBY, with its trunk leg on the bridge
replaced; else a CONNECTED or HELD one has NO-ROUTE with the leg off the bridge, and an IDLE or ALERTING one is LOCKOUT, its alert ended
with MISSED as it stands; a claimant channel has NO-TRUNK with its leg off the bridge. The positions concerned are told (R7, R42, R61,
R64, R104, R134–R136, R138–R140, R147). -/
def Obligations.RingStartsAndFaultsAct : Prop :=
  (∀ (s : State) (sl : SlotNo), s.resetting = false → Current s (.qualify sl) → (s.slot sl).ringActive = true →
    ∃ u : State, exec (.qualifyExpiry sl) s = .next u ∧
      u.inFlight = s.inFlight.erase ⟨.qualify sl, (s.timer (.qualify sl)).run⟩ ∧ ToldAll [] s u ∧
      ((s.slot sl).state ≠ .active ∨ (∀ l : LineNo, (s.slot sl).claimant ≠ some (.line l)) →
        u = { s with inFlight := u.inFlight }) ∧
      ∀ l : LineNo, (s.slot sl).state = .active → (s.slot sl).claimant = some (.line l) →
        ((s.line l).kind = .nailed ∨
            (s.line l).state ≠ .idle ∧ (s.line l).state ≠ .alerting ∧ (s.line l).state ≠ .connected →
          u = { s with inFlight := u.inFlight, bridges := tabMap Bridge.settle s.bridges }) ∧
        ((s.line l).kind ≠ .nailed → (s.line l).state = .idle →
          u.line l = { s.line l with state := .alerting, refGen := some (s.line l).cadence } ∧
          (u.generator (s.line l).cadence).refs = (s.generator (s.line l).cadence).refs + 1 ∧
          ((s.generator (s.line l).cadence).refs = 0 →
            (u.generator (s.line l).cadence).state = .on ∧
            (u.generator (s.line l).cadence).phaseFrames = 160 * (s.generator (s.line l).cadence).onSetting) ∧
          (∀ n : GenNo, n ≠ (s.line l).cadence → u.generator n = s.generator n)) ∧
        ((s.line l).kind ≠ .nailed → (s.line l).state = .alerting →
          u.line l = { s.line l with refGen := (s.line l).refGen.map fun _ => (s.line l).cadence } ∧
          ((s.line l).refGen = none ∨ (s.line l).refGen = some (s.line l).cadence → u.generators = s.generators) ∧
          ∀ n : GenNo, (s.line l).refGen = some n → n ≠ (s.line l).cadence →
            (u.generator n).refs = (s.generator n).refs - 1 ∧
            (u.generator (s.line l).cadence).refs = (s.generator (s.line l).cadence).refs + 1) ∧
        ((s.line l).kind ≠ .nailed → (s.line l).state = .idle ∨ (s.line l).state = .alerting →
          u.timer (.ringTimeout l) = (s.timer (.ringTimeout l)).start (1000 * (s.line l).ringTimeout) ∧
          ∀ id : TimerId, id ≠ .ringTimeout l → u.timer id = s.timer id) ∧
        ((s.line l).kind ≠ .nailed → (s.line l).state = .connected →
          u.line l = { s.line l with marks := { (s.line l).marks with farSignal := true } } ∧
          u.generators = s.generators ∧ u.timers = s.timers) ∧
        (∀ l' : LineNo, l' ≠ l → u.line l' = s.line l') ∧
        u =
          { s with
            lines := u.lines, bridges := tabMap Bridge.settle s.bridges, timers := u.timers
            generators := u.generators, links := u.links, inFlight := u.inFlight }) ∧
  (∀ (s : State) (sl : SlotNo), s.resetting = false ∨ s.routesTaken = true → Current s (.faultConfirm sl) →
    (s.slot sl).alive = false → Freed s sl →
    ∃ u : State, exec (.faultConfirmExpiry sl) s = .next u ∧
      u.inFlight = s.inFlight.erase ⟨.faultConfirm sl, (s.timer (.faultConfirm sl)).run⟩ ∧
      u.mp = { s.mp with flags := s.mp.flags ||| 2#7 } ∧
      u.slot sl = { s.slot sl with state := .fault, claimant := none } ∧
      ((s.slot sl).claimant = none → u = { s with slots := u.slots, inFlight := u.inFlight, mp := u.mp }) ∧
      (∀ l : LineNo, (s.slot sl).claimant = some (.line l) →
        ToldAll [] s u ∧ (∀ l' : LineNo, l' ≠ l → u.line l' = s.line l') ∧ u.channels = s.channels ∧
        (∀ n : SlotNo, (s.line l).otherSlot = some n → n ≠ sl → (s.slot n).state = .standby →
          u.line l =
            { s.line l with route := if (s.line l).primary = some n then .primary else .alternate } ∧
          u.slot n = { s.slot n with state := .active, claimant := some (.line l) } ∧
          (∀ n' : SlotNo, n' ≠ sl → n' ≠ n → u.slot n' = s.slot n') ∧
          (∀ b : BridgeNo, (s.line l).bridge = some b →
            ((s.bridge b).contributors.Nodup → trunkLeg n ∉ (s.bridge b).contributors →
              (u.bridge b).contributors = (s.bridge b).contributors.erase (trunkLeg sl) ++ [trunkLeg n]) ∧
            (u.leg (trunkLeg n)).attach = some b ∧ (u.leg (trunkLeg sl)).attach ≠ some b) ∧
          u.timers = s.timers ∧ u.generators = s.generators) ∧
        ((∀ n : SlotNo, (s.line l).otherSlot = some n → n = sl ∨ (s.slot n).state ≠ .standby) →
          (∀ n' : SlotNo, n' ≠ sl → u.slot n' = s.slot n') ∧
          ((s.line l).state = .connected ∨ (s.line l).state = .held →
            u.line l = { s.line l with route := .none, marks := { (s.line l).marks with noRoute := true } } ∧
            (∀ b : BridgeNo, (s.line l).bridge = some b →
              (u.bridge b).contributors = (s.bridge b).contributors.erase (trunkLeg sl) ∧
              (u.leg (trunkLeg sl)).attach ≠ some b) ∧
            u.timers = s.timers ∧ u.generators = s.generators) ∧
          ((s.line l).state = .idle ∨ (s.line l).state = .alerting →
            u.line l =
              { s.line l with
                state := .lockout, route := .none, currentPrivacy := (s.line l).defaultPrivacy, refGen := none } ∧
            (u.timer (.ringTimeout l)).running = false ∧
            (∀ n : GenNo, (s.line l).refGen = some n → (u.generator n).refs = (s.generator n).refs - 1) ∧
            u.legs = s.legs))) ∧
      (∀ c : ChanNo, (s.slot sl).claimant = some (.channel c) →
        ToldAll [c] s u ∧ u.channel c = { s.channel c with noTrunk := true } ∧
        (∀ c' : ChanNo, c' ≠ c → u.channel c' = s.channel c') ∧
        (∀ n' : SlotNo, n' ≠ sl → u.slot n' = s.slot n') ∧
        (∀ b : BridgeNo, (s.channel c).bridge = some b →
          (u.bridge b).contributors = (s.bridge b).contributors.erase (trunkLeg sl) ∧
          (u.leg (trunkLeg sl)).attach ≠ some b) ∧
        u =
          { s with
            channels := u.channels, bridges := u.bridges, legs := u.legs, slots := u.slots, links := u.links
            inFlight := u.inFlight, mp := u.mp }))

/-- A completed restore posts ROUTE and serves its slot. The channel that names it as trunk claims it, with NO-TRUNK clear and its trunk
leg on the bridge; else the lowest-numbered line that waits and names it claims it: LOCKOUT becomes IDLE, and a CONNECTED or HELD line
clears NO-ROUTE and has the trunk leg on its bridge; else the line that names it as primary and is IDLE on its alternate reverts, and
the alternate it gives up is served in turn (stated where nothing seeks that one). A slot that nobody takes is STANDBY. The positions
concerned are told (R7, R61, R64, R132, R137, R141–R143, R147). Where several lines change, the ascending order of the indications is the
model's choice (log entry 14). -/
def Obligations.RestoresServeSlot : Prop :=
  ∀ (s : State) (sl : SlotNo), s.resetting = false ∨ s.routesTaken = true → Current s (.restore sl) →
    (s.slot sl).alive = true → (s.slot sl).state = .fault →
    ∃ u : State, exec (.restoreExpiry sl) s = .next u ∧
      u.inFlight = s.inFlight.erase ⟨.restore sl, (s.timer (.restore sl)).run⟩ ∧
      u.mp = { s.mp with flags := s.mp.flags ||| 2#7 } ∧ u.timers = s.timers ∧
      (∀ c : ChanNo, (s.slot sl).primaryNamer = some (.channel c) →
        ToldAll [c] s u ∧ u.lines = s.lines ∧ (∀ n : SlotNo, n ≠ sl → u.slot n = s.slot n) ∧
        (∀ c' : ChanNo, c' ≠ c → u.channel c' = s.channel c') ∧
        ((s.channel c).trunk = some sl → (s.slot sl).claimant ≠ some (.channel c) →
          u.channel c = { s.channel c with noTrunk := false } ∧
          u.slot sl = { s.slot sl with state := .active, claimant := some (.channel c) } ∧
          ∀ b : BridgeNo, (s.channel c).bridge = some b →
            (trunkLeg sl ∉ (s.bridge b).contributors →
              (u.bridge b).contributors = (s.bridge b).contributors ++ [trunkLeg sl]) ∧
            (u.leg (trunkLeg sl)).attach = some b) ∧
        ((s.channel c).trunk ≠ some sl → u.channel c = s.channel c ∧ u.slot sl = { s.slot sl with state := .standby })) ∧
      ((∀ c : ChanNo, (s.slot sl).primaryNamer ≠ some (.channel c)) →
        ToldAll [] s u ∧
        (∀ l : LineNo, (s.line l).waiting = true → (s.line l).names sl = true →
          (∀ k : LineNo, k < l → (s.line k).waiting = true → (s.line k).names sl = false) →
          ((s.line l).primary = some sl ∨ s.isStandby (s.line l).primary = false) →
          u.slot sl = { s.slot sl with state := .active, claimant := some (.line l) } ∧ u.channels = s.channels ∧
          (∀ n : SlotNo, n ≠ sl → u.slot n = s.slot n) ∧ (∀ l' : LineNo, l' ≠ l → u.line l' = s.line l') ∧
          ((s.line l).state = .lockout →
            u.line l =
              { s.line l with
                state := .idle, currentPrivacy := (s.line l).defaultPrivacy
                route := if (s.line l).primary = some sl then .primary else .alternate } ∧
            u.legs = s.legs) ∧
          ((s.line l).state = .connected ∨ (s.line l).state = .held →
            u.line l =
              { s.line l with
                marks := { (s.line l).marks with noRoute := false }
                route := if (s.line l).primary = some sl then .primary else .alternate } ∧
            ∀ b : BridgeNo, (s.line l).bridge = some b →
              (trunkLeg sl ∉ (s.bridge b).contributors →
                (u.bridge b).contributors = (s.bridge b).contributors ++ [trunkLeg sl]) ∧
              (u.leg (trunkLeg sl)).attach = some b)) ∧
        ((∀ l : LineNo, (s.line l).waiting = true → (s.line l).names sl = false) →
          (∀ (l : LineNo) (a : SlotNo), (s.slot sl).primaryNamer = some (.line l) → (s.line l).state = .idle →
            (s.line l).route = .alternate → (s.line l).primary = some sl → (s.line l).alternate = some a → a ≠ sl →
            Unsought s a →
            u.line l = { s.line l with route := .primary } ∧
            u.slot sl = { s.slot sl with state := .active, claimant := some (.line l) } ∧
            u.slot a = { s.slot a with state := .standby, claimant := none } ∧
            (∀ n : SlotNo, n ≠ sl → n ≠ a → u.slot n = s.slot n) ∧
            (∀ l' : LineNo, l' ≠ l → u.line l' = s.line l') ∧ u.legs = s.legs ∧ u.channels = s.channels) ∧
          ((∀ l : LineNo, (s.slot sl).primaryNamer = some (.line l) →
              ¬((s.line l).state = .idle ∧ (s.line l).route = .alternate)) →
            u =
              { s with
                slots := s.slots.set sl.val { s.slot sl with state := .standby }
                bridges := tabMap Bridge.settle s.bridges, inFlight := u.inFlight, mp := u.mp })))

/-- A generator that is not IDLE changes phase when its remaining time runs out: from ON to OFF for the OFF in force, or to a new ON
phase where that is 0; from OFF to a new ON phase. Each start of an ON phase takes the settings into force. Nothing else changes. A
drop of the last reference leaves it IDLE, whichever of the two is taken first (R152). -/
def Obligations.CadencePhasesFollow : Prop :=
  ∀ (s : State) (n : GenNo), (s.generator n).phaseFrames = 0 →
    ((s.generator n).state = .on → (s.generator n).offForce ≠ 0 →
      exec (.cadencePhaseEnd n) s =
        .next
          (s.setGenerator n
            { s.generator n with state := .off, phaseFrames := 160 * (s.generator n).offForce })) ∧
    ((s.generator n).state = .on ∧ (s.generator n).offForce = 0 ∨ (s.generator n).state = .off →
      exec (.cadencePhaseEnd n) s =
        .next
          (s.setGenerator n
            { s.generator n with
              state := .on, onForce := (s.generator n).onSetting, offForce := (s.generator n).offSetting
              phaseFrames := 160 * (s.generator n).onSetting })) ∧
    ((s.generator n).state = .idle → exec (.cadencePhaseEnd n) s = .next s) ∧
    ((s.generator n).refs = 1 →
      (s.generator n).phaseEnd.dropRef.state = .idle ∧ (s.generator n).dropRef.phaseEnd = (s.generator n).phaseEnd.dropRef)

/-! ### Audio -/

/-- The shift and the volume step round to the nearest integer, an exact half towards positive, and the output is held within the
sample range (R111, R112, R113). -/
def Obligations.ScalingRoundsHalvesUp : Prop :=
  (∀ (r : Int) (h : Nat),
    -(2 ^ (7 + h) : Int) ≤ 2 * (r - shiftDown r h * 2 ^ (7 + h)) ∧
      2 * (r - shiftDown r h * 2 ^ (7 + h)) < 2 ^ (7 + h)) ∧
  (∀ (y : Int) (v : Nat), -128 ≤ 2 * (y * v - scale y v * 128) ∧ 2 * (y * v - scale y v * 128) < 128) ∧
  (∀ y : Int, scale y 128 = y ∧ scale y 0 = 0) ∧
  ∀ x : Int, (-32768 ≤ saturate x ∧ saturate x ≤ 32767) ∧ (-32768 ≤ x → x ≤ 32767 → saturate x = x) ∧
    (32767 < x → saturate x = 32767) ∧ (x < -32768 → saturate x = -32768)

/-- In a sample frame every leg that receives a bridge is given the sum of the products of the contributors of another origin, shifted,
scaled and held within range; a leg that receives none is given 0. An IN-USE bridge with an output out of range has its limit flag set,
with LIMIT posted where one was clear; its accumulators take the growth value of the whole sum and the microphones' levels. The timers
and phases count one frame, a slot's ring-out is driven exactly where it is ACTIVE for a line with RING-OUT, and the frame count rises
by one; nothing else changes (R105, R107, R109–R113, R119, R124, R146, R158). A frame at which a block end is due takes that block end
first, and is then the frame of the state this leaves (R121); that, and that the raw samples of the frame are then over, is log
entries 8 and 9. -/
def Obligations.SampleFrameMixesOthers : Prop :=
  (∀ (s : State) (trunk : List (SlotNo × Sample)), s.frameCount = 128 →
    ∃ m : State, exec .mixBlockEnd s = .next m ∧ m.frameCount = 0 ∧
      ∃ u : State, exec (.sampleFrame trunk) m = .next u ∧ exec (.sampleFrame trunk) s = .next u) ∧
  ∀ (s : State) (trunk : List (SlotNo × Sample)), s.frameCount < 128 →
    ∃ u : State, exec (.sampleFrame trunk) s = .next u ∧ u.frameCount = s.frameCount + 1 ∧
      (∀ g : LegNo, u.leg g =
        { s.leg g with
          out :=
            match (s.leg g).attach, (s.leg g).volume with
            | some b, some v => BitVec.ofInt 16 (saturate (mixedFor s trunk b g v))
            | _, _ => 0 }) ∧
      (∀ b : BridgeNo, (s.bridge b).state = .free → u.bridge b = s.bridge b) ∧
      (∀ b : BridgeNo, (s.bridge b).state = .inUse →
        ((u.bridge b).limit = true ↔ (s.bridge b).limit = true ∨ Overflows s trunk b) ∧
        u.bridge b =
          { s.bridge b with
            limit := (u.bridge b).limit
            blockPeak := max (s.bridge b).blockPeak (growthOf s trunk b).natAbs
            blockGrowth := (s.bridge b).blockGrowth || decide (24576 ≤ (growthOf s trunk b).natAbs)
            micPeaks := (s.bridge b).micPeaks.map fun m => (m.1, max m.2 (s.raw trunk m.1).natAbs)
            computed := true }) ∧
      ((∃ b : BridgeNo, (s.bridge b).state = .inUse ∧ (s.bridge b).limit = false ∧ Overflows s trunk b) →
        u.mp = { s.mp with flags := s.mp.flags ||| 4#7 }) ∧
      ((∀ b : BridgeNo, (s.bridge b).state = .inUse → (s.bridge b).limit = false → ¬Overflows s trunk b) →
        u.mp = s.mp) ∧
      (∀ t : TimerId, u.timer t =
        { s.timer t with
          framesLeft := if (s.timer t).running = true then (s.timer t).framesLeft - 1 else (s.timer t).framesLeft }) ∧
      (∀ n : GenNo, u.generator n =
        { s.generator n with
          phaseFrames :=
            if (s.generator n).state = .idle then (s.generator n).phaseFrames else (s.generator n).phaseFrames - 1 }) ∧
      (∀ sl : SlotNo, (u.slot sl).ringOut = true ↔
        (s.slot sl).state = .active ∧
          ∃ l : LineNo, (s.slot sl).claimant = some (.line l) ∧ (s.line l).marks.ringOut = true) ∧
      (∀ sl : SlotNo, u.slot sl = { s.slot sl with ringOut := (u.slot sl).ringOut }) ∧
      (∀ p : Pos, u.link p = { s.link p with rawLeft := 0, rawRight := 0, rawMic := 0 }) ∧
      u =
        { s with
          bridges := u.bridges, legs := u.legs, slots := u.slots, generators := u.generators, timers := u.timers
          links := u.links, frameCount := u.frameCount, mp := u.mp }

/-- At a block end (log entry 9), an AUTO bridge that ME has computed rises by one step with growth below 2; else, quiet, it counts and
at 16 above its floor falls by one; else it restarts the count. A FIXED one stands. Each takes the block growth into its mark and clears
its accumulators, and the frame count is 0. For each evaluated bridge that a channel owns, in ascending order, one activity report names
the positions of its microphones whose peak is at least the channel's threshold, in contributor order. A report retriggers the silence
timer of each position it names that is a latched talker of the channel, with the channel's silence timeout, and a timeout of 0 stops it.
The report has left, and no other timer and no record changes (R82, R120–R122, R124, R125). -/
def Obligations.BlockEndAdjustsAndReports : Prop :=
  (∀ s : State, s.frameCount = 128 →
    ∃ u : State, exec .mixBlockEnd s = .next u ∧ u.frameCount = 0 ∧
      u.reports = s.reports ++ (List.finRange 96).filterMap (activityOf s) ∧
      (∀ b : BridgeNo, (s.bridge b).state = .inUse → (s.bridge b).computed = true →
        u.bridge b =
          { s.bridge b with
            shift := (u.bridge b).shift, release := (u.bridge b).release, growth := (s.bridge b).blockGrowth
            blockPeak := 0, blockGrowth := false, micPeaks := (s.bridge b).micPeaks.map fun m => (m.1, 0)
            computed := false } ∧
        ((s.bridge b).headroom.kind = .fixed →
          (u.bridge b).shift = (s.bridge b).shift ∧ (u.bridge b).release = (s.bridge b).release) ∧
        ((s.bridge b).headroom.kind = .auto → (s.bridge b).blockGrowth = true → (s.bridge b).shift < 2 →
          (u.bridge b).shift = (s.bridge b).shift + 1 ∧ (u.bridge b).release = 0) ∧
        ((s.bridge b).headroom.kind = .auto → ¬((s.bridge b).blockGrowth = true ∧ (s.bridge b).shift < 2) →
          (s.bridge b).blockPeak < 8192 → (s.bridge b).release < 15 →
          (u.bridge b).shift = (s.bridge b).shift ∧ (u.bridge b).release = (s.bridge b).release + 1) ∧
        ((s.bridge b).headroom.kind = .auto → ¬((s.bridge b).blockGrowth = true ∧ (s.bridge b).shift < 2) →
          (s.bridge b).blockPeak < 8192 → 15 ≤ (s.bridge b).release →
          headroomFloor (s.bridge b).contributors.length < (s.bridge b).shift →
          (u.bridge b).shift = (s.bridge b).shift - 1 ∧ (u.bridge b).release = 0) ∧
        ((s.bridge b).headroom.kind = .auto → ¬((s.bridge b).blockGrowth = true ∧ (s.bridge b).shift < 2) →
          (s.bridge b).blockPeak < 8192 → 15 ≤ (s.bridge b).release →
          ¬headroomFloor (s.bridge b).contributors.length < (s.bridge b).shift →
          (u.bridge b).shift = (s.bridge b).shift ∧ (u.bridge b).release = 16) ∧
        ((s.bridge b).headroom.kind = .auto → ¬((s.bridge b).blockGrowth = true ∧ (s.bridge b).shift < 2) →
          8192 ≤ (s.bridge b).blockPeak →
          (u.bridge b).shift = (s.bridge b).shift ∧ (u.bridge b).release = 0)) ∧
      (∀ b : BridgeNo, (s.bridge b).state = .free ∨ (s.bridge b).computed = false → u.bridge b = s.bridge b) ∧
      u = { s with bridges := u.bridges, reports := u.reports, frameCount := u.frameCount }) ∧
  ∀ (s : State) (c : ChanNo) (active : List Pos), active.Nodup →
    s.reports.find? (fun r => r.channel == c) = some ⟨c, active⟩ →
    ∃ u : State, exec (.activityReport c) s = .next u ∧ u.reports = s.reports.erase ⟨c, active⟩ ∧
      (∀ p : Pos, p ∈ active → ⟨p, true⟩ ∈ (s.channel c).talkers → (s.channel c).silence ≠ 0 →
        u.timer (.silence c p) = (s.timer (.silence c p)).start (1000 * (s.channel c).silence)) ∧
      (∀ p : Pos, p ∈ active → ⟨p, true⟩ ∈ (s.channel c).talkers → (s.channel c).silence = 0 →
        (u.timer (.silence c p)).running = false) ∧
      (∀ t : TimerId, (∀ p : Pos, p ∈ active → ⟨p, true⟩ ∈ (s.channel c).talkers → t ≠ .silence c p) →
        u.timer t = s.timer t) ∧
      u = { s with timers := u.timers, reports := u.reports }

/-! ### Links -/

/-- In HUNT, a good frame that begins at the byte after a first good frame locks the link: LOCKED with bad count 0 and assembly
BETWEEN, the grace timer stopped, LINK posted, and a full refresh enqueued unless FLOOR-RESET is in progress. The frame itself is not
taken. Bytes that hold no good frame return the good count to 0 (R165, with the search as log entry 13 gives it). -/
def Obligations.SecondGoodFrameLocks : Prop :=
  ∀ (s : State) (p : Pos) (bytes : List Byte), (s.link p).state = .hunt → (s.link p).huntBytes = [] →
    bytes.length = 10 →
    ∃ u : State, exec (.huntFrame p bytes) s = .next u ∧
      ((s.link p).goodCount = 1 → isGoodFrame bytes = true →
        (u.link p).state = .locked ∧ (u.link p).badCount = 0 ∧ (u.link p).assembly = .between ∧
        (u.timer (.grace p)).running = false ∧ u.flagged .link = true ∧
        (u.link p).requests = (s.link p).requests ∧ (u.link p).rawMic = (s.link p).rawMic ∧
        (s.resetting = false → (s.link p).indications = [] → (u.link p).indications = s.refreshList p) ∧
        (s.resetting = true → (u.link p).indications = (s.link p).indications)) ∧
      ((s.link p).goodCount = 0 → isGoodFrame bytes = true →
        u = s.setLink p { s.link p with goodCount := 1 }) ∧
      (isGoodFrame bytes = false →
        u = s.setLink p { s.link p with goodCount := 0, huntBytes := bytes.drop 1 }) ∧
      (∀ q : Pos, q ≠ p → u.link q = s.link q) ∧ (∀ t : TimerId, t ≠ .grace p → u.timer t = s.timer t) ∧
      u = { s with links := u.links, timers := u.timers, mp := u.mp }

/-- In LOCKED, a good frame delivers its three samples, sets the bad count to 0 and gives its message byte to the assembly, which acts
by the table of R168; a request completed at a full buffer is discarded with OVERRUN (R166, R168, R169). -/
def Obligations.GoodFrameIsAssembled : Prop :=
  ∀ (s : State) (p : Pos) (bytes : List Byte), (s.link p).state = .locked → isGoodFrame bytes = true →
    ∃ u : State, exec (.goodFrame p bytes) s = .next u ∧
      (u.link p).state = .locked ∧ (u.link p).badCount = 0 ∧
      (u.link p).rawLeft = sampleOf (bytes.getD 2 0) (bytes.getD 3 0) ∧
      (u.link p).rawRight = sampleOf (bytes.getD 4 0) (bytes.getD 5 0) ∧
      (u.link p).rawMic = sampleOf (bytes.getD 6 0) (bytes.getD 7 0) ∧
      ((s.link p).assembly = .between → bytes.getD 8 0 = 0#8 →
        (u.link p).assembly = .between ∧ (u.link p).requests = (s.link p).requests) ∧
      ((s.link p).assembly = .between → bytes.getD 8 0 ≠ 0#8 →
        (u.link p).assembly = .awaitLength (bytes.getD 8 0) ∧ (u.link p).requests = (s.link p).requests) ∧
      (∀ code : Byte, (s.link p).assembly = .awaitLength code → 1 ≤ (bytes.getD 8 0).toNat →
        (bytes.getD 8 0).toNat ≤ 5 →
        (u.link p).assembly = .awaitFields code (bytes.getD 8 0).toNat [] ∧
          (u.link p).requests = (s.link p).requests) ∧
      (∀ code : Byte, (s.link p).assembly = .awaitLength code → 5 < (bytes.getD 8 0).toNat →
        (u.link p).assembly = .between ∧ (u.link p).messageLost = true ∧
          (u.link p).requests = (s.link p).requests ∧ ((s.link p).messageLost = false → u.flagged .link = true)) ∧
      (∀ (code : Byte) (n : Nat) (got : List Byte), (s.link p).assembly = .awaitFields code n got →
        got.length + 1 < n →
        (u.link p).assembly = .awaitFields code n (got ++ [bytes.getD 8 0]) ∧
          (u.link p).requests = (s.link p).requests) ∧
      (∀ (code : Byte) (got : List Byte),
        ((s.link p).assembly = .awaitLength code ∧ bytes.getD 8 0 = 0#8 ∧ got = [] ∨
          ∃ (n : Nat) (old : List Byte), (s.link p).assembly = .awaitFields code n old ∧ n = old.length + 1 ∧
            got = old ++ [bytes.getD 8 0]) →
        (u.link p).assembly = .between ∧
        ((s.link p).requests.length < 4 → (u.link p).requests = (s.link p).requests ++ [⟨code, got⟩]) ∧
        (4 ≤ (s.link p).requests.length →
          (u.link p).requests = (s.link p).requests ∧ (u.link p).overrun = true ∧ u.flagged .overrun = true)) ∧
      (∀ q : Pos, q ≠ p → u.link q = s.link q) ∧ u = { s with links := u.links, mp := u.mp }

/-- In LOCKED, a bad frame gives samples of 0, sets BAD-FRAME, discards a message in progress with MESSAGE-LOST, and raises the bad
count; the fourth in a row puts the link in HUNT with both counts 0 and starts the grace timer with the grace time then set. LINK is
posted where BAD-FRAME or MESSAGE-LOST goes from clear to set and where the link falls to HUNT, and not otherwise. Buffers and queues
stand (R166, R170, R177). -/
def Obligations.BadFrameCountsToLoss : Prop :=
  ∀ (s : State) (p : Pos) (bytes : List Byte), (s.link p).state = .locked → isGoodFrame bytes = false →
    ∃ u : State, exec (.badFrame p bytes) s = .next u ∧
      (u.link p).rawLeft = 0 ∧ (u.link p).rawRight = 0 ∧ (u.link p).rawMic = 0 ∧ (u.link p).badFrame = true ∧
      (u.link p).messageLost = ((s.link p).messageLost || (s.link p).assembly != .between) ∧
      (u.link p).assembly = .between ∧ (u.link p).requests = (s.link p).requests ∧
      (u.link p).answers = (s.link p).answers ∧ (u.link p).indications = (s.link p).indications ∧
      (u.link p).transmit = (s.link p).transmit ∧
      ((s.link p).badCount < 3 →
        (u.link p).state = .locked ∧ (u.link p).badCount = (s.link p).badCount + 1 ∧ u.timers = s.timers) ∧
      ((s.link p).badCount = 3 →
        (u.link p).state = .hunt ∧ (u.link p).badCount = 0 ∧ (u.link p).goodCount = 0 ∧
        u.timer (.grace p) = (s.timer (.grace p)).start s.mp.grace ∧
        (∀ t : TimerId, t ≠ .grace p → u.timer t = s.timer t)) ∧
      u.mp =
        (if (s.link p).badFrame = false ∨ ((s.link p).messageLost = false ∧ (u.link p).messageLost = true) ∨
            3 ≤ (s.link p).badCount then
          { s.mp with flags := s.mp.flags ||| 1#7 }
        else s.mp) ∧
      (∀ q : Pos, q ≠ p → u.link q = s.link q) ∧ u = { s with links := u.links, timers := u.timers, mp := u.mp }

/-- A HUNT or LOCKED link sends a frame of 26 bytes that opens with 3Ch A5h and sums to FFh modulo 256, with the samples of its ten legs,
each the one computed for it in the last sample frame, or 0 in HUNT or without an attachment. Two bytes of its message stream follow: a
message in transmission goes on, and when a byte is to be sent and none is left, the oldest answer begins, else the first indication,
else the byte is 00h. The status byte shows the ringer mark and the three sticky flags; the ringer mark is set where a key of the
position names an ALERTING line whose appearance there has ringing enabled and whose generator is ON. A DISABLED link sends none (R105,
R114, R155, R165, R167, R174). -/
def Obligations.DownstreamFrameIsSent : Prop :=
  ∀ (s : State) (p : Pos),
    ∃ u : State, exec (.downstreamFrame p) s = .next u ∧
      ((s.link p).state = .disabled → u = s.setLink p { s.link p with sent := [] }) ∧
      ((s.link p).state ≠ .disabled →
        (u.link p).sent.length = 26 ∧ (u.link p).sent.take 2 = [0x3C#8, 0xA5#8] ∧ byteSum (u.link p).sent = 255 ∧
        sampleOf ((u.link p).sent.getD 2 0) ((u.link p).sent.getD 3 0) = heardBy s p (handsetLeg p .left) ∧
        sampleOf ((u.link p).sent.getD 4 0) ((u.link p).sent.getD 5 0) = heardBy s p (handsetLeg p .right) ∧
        (∀ n : UnitNo,
          sampleOf ((u.link p).sent.getD (6 + 2 * n.val) 0) ((u.link p).sent.getD (7 + 2 * n.val) 0) =
            heardBy s p (unitLeg p n)) ∧
        (((u.link p).sent.getD 24 0).getLsbD 0 = true ↔ Ringing s p) ∧
        ((u.link p).sent.getD 24 0).getLsbD 1 = (s.link p).badFrame ∧
        ((u.link p).sent.getD 24 0).getLsbD 2 = (s.link p).messageLost ∧
        ((u.link p).sent.getD 24 0).getLsbD 3 = (s.link p).overrun ∧ ((u.link p).sent.getD 24 0).toNat < 16 ∧
        (∀ (x y : Byte) (rest : List Byte), (s.link p).transmit = x :: y :: rest →
          ((u.link p).sent.drop 22).take 2 = [x, y] ∧ (u.link p).transmit = rest ∧
          (u.link p).answers = (s.link p).answers ∧ (u.link p).indications = (s.link p).indications) ∧
        (∀ last : List Byte, (s.link p).transmit = last → last.length ≤ 1 →
          (∀ (a : Answer) (rest : List Answer), (s.link p).answers = a :: rest →
            (u.link p).answers = rest ∧ ((u.link p).sent.drop 22).take 2 = (last ++ a.bytes).take 2 ∧
            (u.link p).transmit = (last ++ a.bytes).drop 2 ∧ (u.link p).indications = (s.link p).indications) ∧
          (∀ (i : Indication) (rest : List Indication), (s.link p).answers = [] →
            (s.link p).indications = i :: rest →
            (u.link p).answers = [] ∧ (u.link p).indications = rest ∧
            ((u.link p).sent.drop 22).take 2 = (last ++ i.bytes).take 2 ∧
            (u.link p).transmit = (last ++ i.bytes).drop 2) ∧
          ((s.link p).answers = [] → (s.link p).indications = [] →
            (u.link p).answers = [] ∧ (u.link p).indications = [] ∧
            ((u.link p).sent.drop 22).take 2 = (last ++ [0#8, 0#8]).take 2 ∧ (u.link p).transmit = [])) ∧
        u.link p =
          { s.link p with
            answers := (u.link p).answers, indications := (u.link p).indications, transmit := (u.link p).transmit
            sent := (u.link p).sent }) ∧
      (∀ q : Pos, q ≠ p → u.link q = s.link q) ∧ u = { s with links := u.links }

/-! ### Pins -/

/-- A ring-detect level that passes into the active level starts the qualify timer with the slot's qualify time, and one that passes
out of it stops it (R130, R134). An alive level gone ABSENT starts the fault-confirm timer of a STANDBY or ACTIVE slot and stops its
restore timer; one come PRESENT stops the fault-confirm timer and starts the restore timer of a slot in FAULT (R136, R137). -/
def Obligations.LevelsDriveSlotTimers : Prop :=
  ∀ (s : State) (sl : SlotNo) (v : Bool),
    ((s.slot sl).ringHigh ≠ v →
      ∃ u : State, exec (.ringDetectChange sl v) s = .next u ∧ u.slot sl = { s.slot sl with ringHigh := v } ∧
        (((s.slot sl).polarity = .activeHigh ↔ v = true) →
          u.timer (.qualify sl) = (s.timer (.qualify sl)).start (s.slot sl).qualify) ∧
        (¬((s.slot sl).polarity = .activeHigh ↔ v = true) → (u.timer (.qualify sl)).running = false) ∧
        (∀ t : TimerId, t ≠ .qualify sl → u.timer t = s.timer t) ∧ (∀ n : SlotNo, n ≠ sl → u.slot n = s.slot n) ∧
        u = { s with slots := u.slots, timers := u.timers }) ∧
    ((s.slot sl).alive ≠ v →
      ∃ u : State, exec (.aliveChange sl v) s = .next u ∧ u.slot sl = { s.slot sl with alive := v } ∧
        (v = false →
          (u.timer (.restore sl)).running = false ∧
          ((s.slot sl).state = .standby ∨ (s.slot sl).state = .active →
            u.timer (.faultConfirm sl) = (s.timer (.faultConfirm sl)).start s.mp.faultConfirm) ∧
          ((s.slot sl).state = .unassigned ∨ (s.slot sl).state = .fault →
            u.timer (.faultConfirm sl) = s.timer (.faultConfirm sl))) ∧
        (v = true →
          (u.timer (.faultConfirm sl)).running = false ∧
          ((s.slot sl).state = .fault → u.timer (.restore sl) = (s.timer (.restore sl)).start s.mp.restore) ∧
          ((s.slot sl).state ≠ .fault → u.timer (.restore sl) = s.timer (.restore sl))) ∧
        (∀ t : TimerId, t ≠ .restore sl → t ≠ .faultConfirm sl → u.timer t = s.timer t) ∧
        (∀ n : SlotNo, n ≠ sl → u.slot n = s.slot n) ∧ u = { s with slots := u.slots, timers := u.timers }) ∧
    ((s.slot sl).ringHigh = v → exec (.ringDetectChange sl v) s = .next s) ∧
    ((s.slot sl).alive = v → exec (.aliveChange sl v) s = .next s)

/-! ### The management port -/

/-- The control words read as Table 3 of chapter 10 gives them, and the interrupt output is active exactly while an event flag is set
whose enable is set. A write to offset 6 clears each flag whose bit is 1 and leaves the others; a write to offset 7 replaces all seven
enables; a write to offsets 8–15 stores its word, which a read of the offset then returns, and changes no other word of the buffer
(R184–R187). A write in RECORD space, to a read-only word, to an offset above 17, or of another value than GO to offset 16, changes
nothing (R184). -/
def Obligations.ControlWritesAct : Prop :=
  (∀ s : State,
    [0, 1, 2, 3, 4, 5].map s.controlWord = [0x4810#16, 48#16, 192#16, 32#16, 96#16, 256#16] ∧
    (s.controlWord 6).toNat = s.mp.flags.toNat ∧ (s.controlWord 7).toNat = s.mp.enables.toNat ∧
    (s.mp.slot, s.controlWord 16) ∈
      [(CommandState.idle, 0#16), (CommandState.busy, 1#16), (CommandState.done, 2#16)] ∧
    (s.mp.result, s.controlWord 17) ∈
      [(Result.none, 0x00#16), (.done, 0x01#16), (.doneClamped, 0x02#16), (.badCommand, 0x10#16), (.badField, 0x11#16),
        (.vacant, 0x12#16), (.exists, 0x13#16), (.inUse, 0x14#16), (.slotClaimed, 0x15#16), (.keyTaken, 0x16#16),
        (.listFull, 0x17#16), (.noBridge, 0x18#16), (.notFound, 0x19#16)] ∧
    ∀ n : Nat, 17 < n → s.controlWord n = 0#16) ∧
  (∀ s : State, s.interrupt = true ↔ ∃ i : Fin 7, s.mp.flags.getLsbD i.val = true ∧ s.mp.enables.getLsbD i.val = true) ∧
  (∀ (s : State) (d : Word),
    (∃ u : State, exec (.eventFlagsClear d) s = .next u ∧
      (∀ i : Fin 7, u.mp.flags.getLsbD i.val = (s.mp.flags.getLsbD i.val && !d.getLsbD i.val)) ∧
      u = { s with mp := { s.mp with flags := u.mp.flags, port := Port.quiet } }) ∧
    (∃ u : State, exec (.eventEnablesWrite d) s = .next u ∧
      (∀ i : Fin 7, u.mp.enables.getLsbD i.val = d.getLsbD i.val) ∧
      u = { s with mp := { s.mp with enables := u.mp.enables, port := Port.quiet } })) ∧
  (∀ (s : State) (i : Fin 8) (d : Word),
    ∃ u : State, exec (.commandBufferWrite i d) s = .next u ∧ u.controlWord (8 + i.val) = d ∧
      (∀ j : Fin 8, j ≠ i → u.controlWord (8 + j.val) = s.controlWord (8 + j.val)) ∧
      u = { s with mp := { s.mp with buffer := u.mp.buffer, port := Port.quiet } }) ∧
  (∀ (s : State) (w0 w1 w2 d : Word),
    (isControl w0 = false ∨ w2.toNat ≤ 5 ∨ 17 ≤ w2.toNat ∨ w2.toNat = 16 ∧ d ≠ 0x8000#16) → isWrite w0 = true →
    exec (.ignoredWrite w0 w1 w2 d) s = .next { s with mp := { s.mp with port := Port.quiet } })

/-- A read in RECORD space copies the record whole: a WRAP burst gives its words from the offset round and round; a LINEAR burst gives
them to the end of the record, and where it has reached the end its crossing goes on with the next record of the table, after the last
with record 0. An index that names no record reads 0000h. WAIT at word 2 goes with a latency of 8 port clocks. A read in CONTROL space
gives the word of its offset and then 0000h (log entry 16). No other state changes (R182–R184). -/
def Obligations.RecordReadCopiesRecord : Prop :=
  (∀ (s : State) (w0 w1 w2 : Word) (words : Nat) (waited : Bool), isWrite w0 = false →
    ∃ u : State, exec (.recordRead w0 w1 w2 words waited) s = .next u ∧
      u = { s with mp := { s.mp with port := u.mp.port } } ∧
      (∀ record : List Word, isControl w0 = false → s.recordWords (tableField w0) w1.toNat = some record →
        (bit w0 2 = false →
          u.mp.port.data.length = words ∧ u.mp.port.crossing = none ∧
          ∀ i : Nat, i < words → u.mp.port.data[i]? = record[(w2.toNat + i) % record.length]?) ∧
        (bit w0 2 = true →
          u.mp.port.data = (record.drop (w2.toNat % record.length)).take words ∧
          u.mp.port.crossing =
            if record.length ≤ w2.toNat % record.length + words then
              some (tableField w0, if w1.toNat + 1 < recordCount (tableField w0) then w1.toNat + 1 else 0)
            else none) ∧
        u.mp.port.wait = waited ∧ u.mp.port.latency = (if waited = true then 8 else 4)) ∧
      (isControl w0 = false → s.recordWords (tableField w0) w1.toNat = none →
        u.mp.port = ⟨false, 4, List.replicate words 0#16, none⟩) ∧
      (isControl w0 = true →
        u.mp.port.data.length = words ∧ u.mp.port.latency = 4 ∧ u.mp.port.wait = false ∧ u.mp.port.crossing = none ∧
        ∀ i : Nat, i < words → u.mp.port.data[i]? = some (if i = 0 then s.controlWord w2.toNat else 0#16))) ∧
  (∀ (s : State) (table index words : Nat) (record : List Word), s.mp.port.crossing = some (table, index) →
    s.recordWords table index = some record →
    ∃ u : State, exec (.linearCrossing words) s = .next u ∧
      u.mp.port =
        { s.mp.port with
          data := s.mp.port.data ++ record.take words
          crossing :=
            if record.length ≤ words then some (table, if index + 1 < recordCount table then index + 1 else 0)
            else none } ∧
      u = { s with mp := { s.mp with port := u.mp.port } }) ∧
  (List.range 8).map recordCount = [192, 32, 96, 784, 256, 8, 48, 48]

/-- The records read as Tables 1 to 4 of chapter 11 lay them out: each word field by field from its lowest bit, with 0 in the bits that
no field has, all ones for an absent field (15 for a generator, 255 for a packed number, FFFFh in a word of its own), FFFFh for an
unused entry of a list (log entry 15), and the owner's kind bit 1 where the owner is absent. Stated of states within the bounds that
every step keeps. A timer's word is its milliseconds still to count, rounded up, 0 when stopped and at most 65535 (R160, R196). -/
def Obligations.RecordLayouts : Prop :=
  (∀ t : Timer,
    (t.running = false → t.remaining = 0) ∧
    (t.running = true → 1 ≤ t.remaining ∧ t.remaining ≤ 65535 ∧
      (0 < t.framesLeft → t.framesLeft ≤ 16 * 65535 →
        16 * (t.remaining - 1) < t.framesLeft ∧ t.framesLeft ≤ 16 * t.remaining))) ∧
  ([LineState.vacant, .idle, .alerting, .connected, .held, .lockout, .retiring].map LineState.code = List.range 7 ∧
    [LineKind.auto, .manual, .nailed].map LineKind.code = List.range 3 ∧
    [Privacy.shared, .secluded].map Privacy.code = [0, 1] ∧ [HoldMode.exclusive, .common].map HoldMode.code = [0, 1] ∧
    [Route.none, .primary, .alternate].map Route.code = List.range 3 ∧
    [HeadroomKind.fixed, .auto].map HeadroomKind.code = [0, 1] ∧ [Handset.left, .right].map handsetCode = [0, 1] ∧
    [ChannelState.vacant, .closed, .opened, .retiring].map ChannelState.code = List.range 4 ∧
    [ChannelKind.hoot, .group].map ChannelKind.code = [0, 1] ∧ [BridgeState.free, .inUse].map BridgeState.code = [0, 1] ∧
    [SlotState.unassigned, .standby, .active, .fault].map SlotState.code = List.range 4 ∧
    [Polarity.activeHigh, .activeLow].map Polarity.code = [0, 1] ∧
    [GenState.idle, .on, .off].map GenState.code = List.range 3 ∧
    [LinkState.disabled, .hunt, .locked].map LinkState.code = List.range 3 ∧
    [SwitchAction.release, .hold].map SwitchAction.code = [0, 1]) ∧
  (∀ (s : State) (l : LineNo), LineBounds (s.line l) →
    ∃ ws : List Word, s.recordWords 0 l.val = some ws ∧ ws.length = 23 ∧
      Numbers ws 0
        [(s.line l).state.code + 16 * (s.line l).kind.code + 64 * (s.line l).defaultPrivacy.code +
            128 * (s.line l).currentPrivacy.code + 256 * (s.line l).holdMode.code + 1024 * (s.line l).route.code,
          flag (s.line l).marks.missed + 2 * flag (s.line l).marks.farSignal + 4 * flag (s.line l).marks.noRoute +
            8 * flag (s.line l).marks.recalled + 16 * flag (s.line l).marks.ringOut + 256 * (s.line l).cadence.val +
            4096 * numberOr 15 (s.line l).refGen,
          numberOr 65535 (s.line l).primary, numberOr 65535 (s.line l).alternate,
          numberOr 255 (s.line l).bridge + 256 * numberOr 255 (s.line l).holdOwner,
          (s.line l).headroom.hf.val + 4 * (s.line l).headroom.kind.code] ∧
      Words ws 6
        [(s.line l).ringTimeout, (s.line l).holdRecall, (s.line l).burst, (s.timer (.ringTimeout l)).remaining,
          (s.timer (.holdRecall l)).remaining, (s.timer (.burst l)).remaining] ∧
      Numbers ws 12
        [(s.line l).occupants.length + 16 * (s.line l).monitors.length + 256 * (s.line l).appearances.length,
          octet (s.line l).occupants 0 + 256 * octet (s.line l).occupants 1,
          octet (s.line l).occupants 2 + 256 * octet (s.line l).occupants 3] ∧
      Listed ws 15 8 (fun m : Monitor => m.pos.val + 256 * m.unit.val) (s.line l).monitors) ∧
  (∀ (s : State) (c : ChanNo), ChannelBounds (s.channel c) →
    ∃ ws : List Word, s.recordWords 1 c.val = some ws ∧ ws.length = 43 ∧
      Numbers ws 0
        [(s.channel c).state.code + 16 * (s.channel c).kind.code + 32 * flag (s.channel c).noTrunk +
            256 * (s.channel c).maxTalkers,
          numberOr 65535 (s.channel c).trunk, numberOr 65535 (s.channel c).bridge] ∧
      Words ws 3 [(s.channel c).silence, (s.channel c).threshold] ∧
      Numbers ws 5
        [(s.channel c).headroom.hf.val + 4 * (s.channel c).headroom.kind.code,
          (s.channel c).talkers.length + 16 * (s.channel c).queue.length + 256 * (s.channel c).members.length] ∧
      Listed ws 7 3 (fun e : FloorEntry => e.pos.val + 256 * flag e.latched) (s.channel c).talkers ∧
      Listed ws 10 3 (fun e : FloorEntry => (s.timer (.silence c e.pos)).remaining) (s.channel c).talkers ∧
      Listed ws 13 8 (fun e : FloorEntry => e.pos.val + 256 * flag e.latched) (s.channel c).queue ∧
      (∀ p : Pos,
        (bit (ws.getD (21 + p.val / 16) 0) (p.val % 16) = true ↔ p ∈ (s.channel c).listen) ∧
        (bit (ws.getD (24 + p.val / 16) 0) (p.val % 16) = true ↔ p ∈ (s.channel c).talk)) ∧
      Listed ws 27 16 (fun m : Member => m.pos.val + 256 * m.unit.val) (s.channel c).members) ∧
  (∀ (s : State) (b : BridgeNo), HeadroomLaw (s.bridge b) →
    ∃ ws : List Word, s.recordWords 2 b.val = some ws ∧ ws.length = 12 ∧
      Numbers ws 0
        [(s.bridge b).release + 64 * (s.bridge b).shift + 256 * (s.bridge b).headroom.hf.val +
            1024 * (s.bridge b).headroom.kind.code + 2048 * flag (s.bridge b).growth + 4096 * flag (s.bridge b).limit +
            8192 * (ownerPair (s.bridge b).owner).1 + 32768 * (s.bridge b).state.code,
          (ownerPair (s.bridge b).owner).2] ∧
      Words ws 2 [(s.bridge b).contributors.length, (s.bridge b).receivers] ∧
      Listed ws 4 8 (fun g : LegNo => g.val) (s.bridge b).contributors) ∧
  (∀ (s : State) (g : LegNo),
    ∃ ws : List Word, s.recordWords 3 g.val = some ws ∧ ws.length = 3 ∧
      Numbers ws 0
        [((s.leg g).gain.map BitVec.toNat).getD 65535, ((s.leg g).volume.map BitVec.toNat).getD 65535,
          numberOr 65535 (s.leg g).attach]) ∧
  (∀ (s : State) (sl : SlotNo),
    ∃ ws : List Word, s.recordWords 4 sl.val = some ws ∧ ws.length = 8 ∧
      Numbers ws 0
        [(s.slot sl).state.code + 4 * (s.slot sl).polarity.code + 16 * flag (s.slot sl).ringHigh +
            32 * flag (s.slot sl).alive + 64 * flag (s.slot sl).ringOut + 128 * (ownerPair (s.slot sl).claimant).1 +
            256 * (ownerPair (s.slot sl).primaryNamer).1,
          (ownerPair (s.slot sl).claimant).2, (ownerPair (s.slot sl).primaryNamer).2] ∧
      Words ws 3
        [(s.slot sl).altLines.length, (s.slot sl).qualify, (s.timer (.qualify sl)).remaining,
          (s.timer (.faultConfirm sl)).remaining, (s.timer (.restore sl)).remaining]) ∧
  (∀ (s : State) (n : GenNo),
    ∃ ws : List Word, s.recordWords 5 n.val = some ws ∧ ws.length = 7 ∧ Numbers ws 0 [(s.generator n).state.code] ∧
      Words ws 1
        [(s.generator n).onSetting, (s.generator n).offSetting, (s.generator n).onForce, (s.generator n).offForce,
          (s.generator n).remaining, (s.generator n).refs]) ∧
  (∀ (s : State) (p : Pos), LinkBounds (s.link p) →
    ∃ ws : List Word, s.recordWords 6 p.val = some ws ∧ ws.length = 14 ∧
      Numbers ws 0
        [(s.link p).state.code + 4 * (s.link p).goodCount + 16 * (s.link p).badCount + 256 * flag (s.link p).badFrame +
            512 * flag (s.link p).messageLost + 1024 * flag (s.link p).overrun + 4096 * (s.link p).switchAction.code +
            8192 * flag ((s.link p).assembly != .between) + 16384 * flag (!(s.link p).transmit.isEmpty),
          (s.link p).requests.length + 16 * (s.link p).answers.length + 256 * (s.link p).indications.length] ∧
      Words ws 2 [(s.timer (.grace p)).remaining] ∧
      (∀ n : UnitNo, Numbers ws (3 + n.val)
        [match s.selection p n with | .none => 65535 | .channel c => c.val + 16384 | .line l => l.val + 32768]) ∧
      Words ws 11 [s.mp.faultConfirm, s.mp.restore, s.mp.grace]) ∧
  ∀ (s : State) (p : Pos), (∀ l : LineNo, LineBounds (s.line l)) →
    ∃ ws : List Word, s.recordWords 7 p.val = some ws ∧ ws.length = 64 ∧
      ∀ k : Key, Numbers ws k.val
        [match s.keyLine p k with
          | none => 65535
          | some l => l.val + 256 * flag ((s.line l).appearances.any fun a => a.pos == p && a.ring)]
end

