-- ==== Sys2Proof/Laws/State.lean ====
section
/-! SUPPORT. One lemma per field per update of `State`, and reads after writes of every kind of record. Each is true by `rfl` or by
a read after a write of a table, and is tagged `simp`, so that no proof unfolds a record update. -/

namespace Sys2Proof.Machine

/-! ### Changes are writes -/

@[simp] theorem State.modLine_eq (s : State) (l : LineNo) (f : Line → Line) : s.modLine l f = s.setLine l (f (s.line l)) := rfl
@[simp] theorem State.modChannel_eq (s : State) (c : ChanNo) (f : Channel → Channel) :
    s.modChannel c f = s.setChannel c (f (s.channel c)) := rfl
@[simp] theorem State.modBridge_eq (s : State) (b : BridgeNo) (f : Bridge → Bridge) :
    s.modBridge b f = s.setBridge b (f (s.bridge b)) := rfl
@[simp] theorem State.modLeg_eq (s : State) (g : LegNo) (f : Leg → Leg) : s.modLeg g f = s.setLeg g (f (s.leg g)) := rfl
@[simp] theorem State.modSlot_eq (s : State) (sl : SlotNo) (f : Slot → Slot) : s.modSlot sl f = s.setSlot sl (f (s.slot sl)) := rfl
@[simp] theorem State.modLink_eq (s : State) (p : Pos) (f : Link → Link) : s.modLink p f = s.setLink p (f (s.link p)) := rfl
@[simp] theorem State.startTimer_eq (s : State) (t : TimerId) (ms : Nat) :
    s.startTimer t ms = s.setTimer t ((s.timer t).start ms) := rfl
@[simp] theorem State.cancelTimer_eq (s : State) (t : TimerId) :
    s.cancelTimer t = s.setTimer t ((s.timer t).cancel (s.expiryInFlight t)) := rfl
@[simp] theorem State.addRef_eq (s : State) (g : GenNo) : s.addRef g = s.setGenerator g (s.generator g).addRef := rfl
@[simp] theorem State.dropRef_eq (s : State) (g : GenNo) : s.dropRef g = s.setGenerator g (s.generator g).dropRef := rfl
@[simp] theorem State.enqueueAt_eq (s : State) (p : Pos) (i : Indication) :
    s.enqueueAt p i = s.setLink p ((s.link p).indicate i) := rfl

/-! ### One lemma per field per update -/

@[simp] theorem State.setLine_directories (s : State) (l : LineNo) (x : Line) : (s.setLine l x).directories = s.directories := rfl
@[simp] theorem State.setLine_channels (s : State) (l : LineNo) (x : Line) : (s.setLine l x).channels = s.channels := rfl
@[simp] theorem State.setLine_selections (s : State) (l : LineNo) (x : Line) : (s.setLine l x).selections = s.selections := rfl
@[simp] theorem State.setLine_bridges (s : State) (l : LineNo) (x : Line) : (s.setLine l x).bridges = s.bridges := rfl
@[simp] theorem State.setLine_legs (s : State) (l : LineNo) (x : Line) : (s.setLine l x).legs = s.legs := rfl
@[simp] theorem State.setLine_slots (s : State) (l : LineNo) (x : Line) : (s.setLine l x).slots = s.slots := rfl
@[simp] theorem State.setLine_generators (s : State) (l : LineNo) (x : Line) : (s.setLine l x).generators = s.generators := rfl
@[simp] theorem State.setLine_timers (s : State) (l : LineNo) (x : Line) : (s.setLine l x).timers = s.timers := rfl
@[simp] theorem State.setLine_inFlight (s : State) (l : LineNo) (x : Line) : (s.setLine l x).inFlight = s.inFlight := rfl
@[simp] theorem State.setLine_reports (s : State) (l : LineNo) (x : Line) : (s.setLine l x).reports = s.reports := rfl
@[simp] theorem State.setLine_links (s : State) (l : LineNo) (x : Line) : (s.setLine l x).links = s.links := rfl
@[simp] theorem State.setLine_pointer (s : State) (l : LineNo) (x : Line) : (s.setLine l x).pointer = s.pointer := rfl
@[simp] theorem State.setLine_frameCount (s : State) (l : LineNo) (x : Line) : (s.setLine l x).frameCount = s.frameCount := rfl
@[simp] theorem State.setLine_mp (s : State) (l : LineNo) (x : Line) : (s.setLine l x).mp = s.mp := rfl
@[simp] theorem State.setLine_pending (s : State) (l : LineNo) (x : Line) : (s.setLine l x).pending = s.pending := rfl

@[simp] theorem State.setChannel_lines (s : State) (c : ChanNo) (x : Channel) : (s.setChannel c x).lines = s.lines := rfl
@[simp] theorem State.setChannel_directories (s : State) (c : ChanNo) (x : Channel) : (s.setChannel c x).directories = s.directories := rfl
@[simp] theorem State.setChannel_selections (s : State) (c : ChanNo) (x : Channel) : (s.setChannel c x).selections = s.selections := rfl
@[simp] theorem State.setChannel_bridges (s : State) (c : ChanNo) (x : Channel) : (s.setChannel c x).bridges = s.bridges := rfl
@[simp] theorem State.setChannel_legs (s : State) (c : ChanNo) (x : Channel) : (s.setChannel c x).legs = s.legs := rfl
@[simp] theorem State.setChannel_slots (s : State) (c : ChanNo) (x : Channel) : (s.setChannel c x).slots = s.slots := rfl
@[simp] theorem State.setChannel_generators (s : State) (c : ChanNo) (x : Channel) : (s.setChannel c x).generators = s.generators := rfl
@[simp] theorem State.setChannel_timers (s : State) (c : ChanNo) (x : Channel) : (s.setChannel c x).timers = s.timers := rfl
@[simp] theorem State.setChannel_inFlight (s : State) (c : ChanNo) (x : Channel) : (s.setChannel c x).inFlight = s.inFlight := rfl
@[simp] theorem State.setChannel_reports (s : State) (c : ChanNo) (x : Channel) : (s.setChannel c x).reports = s.reports := rfl
@[simp] theorem State.setChannel_links (s : State) (c : ChanNo) (x : Channel) : (s.setChannel c x).links = s.links := rfl
@[simp] theorem State.setChannel_pointer (s : State) (c : ChanNo) (x : Channel) : (s.setChannel c x).pointer = s.pointer := rfl
@[simp] theorem State.setChannel_frameCount (s : State) (c : ChanNo) (x : Channel) : (s.setChannel c x).frameCount = s.frameCount := rfl
@[simp] theorem State.setChannel_mp (s : State) (c : ChanNo) (x : Channel) : (s.setChannel c x).mp = s.mp := rfl
@[simp] theorem State.setChannel_pending (s : State) (c : ChanNo) (x : Channel) : (s.setChannel c x).pending = s.pending := rfl

@[simp] theorem State.setBridge_lines (s : State) (b : BridgeNo) (x : Bridge) : (s.setBridge b x).lines = s.lines := rfl
@[simp] theorem State.setBridge_directories (s : State) (b : BridgeNo) (x : Bridge) : (s.setBridge b x).directories = s.directories := rfl
@[simp] theorem State.setBridge_channels (s : State) (b : BridgeNo) (x : Bridge) : (s.setBridge b x).channels = s.channels := rfl
@[simp] theorem State.setBridge_selections (s : State) (b : BridgeNo) (x : Bridge) : (s.setBridge b x).selections = s.selections := rfl
@[simp] theorem State.setBridge_legs (s : State) (b : BridgeNo) (x : Bridge) : (s.setBridge b x).legs = s.legs := rfl
@[simp] theorem State.setBridge_slots (s : State) (b : BridgeNo) (x : Bridge) : (s.setBridge b x).slots = s.slots := rfl
@[simp] theorem State.setBridge_generators (s : State) (b : BridgeNo) (x : Bridge) : (s.setBridge b x).generators = s.generators := rfl
@[simp] theorem State.setBridge_timers (s : State) (b : BridgeNo) (x : Bridge) : (s.setBridge b x).timers = s.timers := rfl
@[simp] theorem State.setBridge_inFlight (s : State) (b : BridgeNo) (x : Bridge) : (s.setBridge b x).inFlight = s.inFlight := rfl
@[simp] theorem State.setBridge_reports (s : State) (b : BridgeNo) (x : Bridge) : (s.setBridge b x).reports = s.reports := rfl
@[simp] theorem State.setBridge_links (s : State) (b : BridgeNo) (x : Bridge) : (s.setBridge b x).links = s.links := rfl
@[simp] theorem State.setBridge_pointer (s : State) (b : BridgeNo) (x : Bridge) : (s.setBridge b x).pointer = s.pointer := rfl
@[simp] theorem State.setBridge_frameCount (s : State) (b : BridgeNo) (x : Bridge) : (s.setBridge b x).frameCount = s.frameCount := rfl
@[simp] theorem State.setBridge_mp (s : State) (b : BridgeNo) (x : Bridge) : (s.setBridge b x).mp = s.mp := rfl
@[simp] theorem State.setBridge_pending (s : State) (b : BridgeNo) (x : Bridge) : (s.setBridge b x).pending = s.pending := rfl

@[simp] theorem State.setLeg_lines (s : State) (g : LegNo) (x : Leg) : (s.setLeg g x).lines = s.lines := rfl
@[simp] theorem State.setLeg_directories (s : State) (g : LegNo) (x : Leg) : (s.setLeg g x).directories = s.directories := rfl
@[simp] theorem State.setLeg_channels (s : State) (g : LegNo) (x : Leg) : (s.setLeg g x).channels = s.channels := rfl
@[simp] theorem State.setLeg_selections (s : State) (g : LegNo) (x : Leg) : (s.setLeg g x).selections = s.selections := rfl
@[simp] theorem State.setLeg_bridges (s : State) (g : LegNo) (x : Leg) : (s.setLeg g x).bridges = s.bridges := rfl
@[simp] theorem State.setLeg_slots (s : State) (g : LegNo) (x : Leg) : (s.setLeg g x).slots = s.slots := rfl
@[simp] theorem State.setLeg_generators (s : State) (g : LegNo) (x : Leg) : (s.setLeg g x).generators = s.generators := rfl
@[simp] theorem State.setLeg_timers (s : State) (g : LegNo) (x : Leg) : (s.setLeg g x).timers = s.timers := rfl
@[simp] theorem State.setLeg_inFlight (s : State) (g : LegNo) (x : Leg) : (s.setLeg g x).inFlight = s.inFlight := rfl
@[simp] theorem State.setLeg_reports (s : State) (g : LegNo) (x : Leg) : (s.setLeg g x).reports = s.reports := rfl
@[simp] theorem State.setLeg_links (s : State) (g : LegNo) (x : Leg) : (s.setLeg g x).links = s.links := rfl
@[simp] theorem State.setLeg_pointer (s : State) (g : LegNo) (x : Leg) : (s.setLeg g x).pointer = s.pointer := rfl
@[simp] theorem State.setLeg_frameCount (s : State) (g : LegNo) (x : Leg) : (s.setLeg g x).frameCount = s.frameCount := rfl
@[simp] theorem State.setLeg_mp (s : State) (g : LegNo) (x : Leg) : (s.setLeg g x).mp = s.mp := rfl
@[simp] theorem State.setLeg_pending (s : State) (g : LegNo) (x : Leg) : (s.setLeg g x).pending = s.pending := rfl

@[simp] theorem State.setSlot_lines (s : State) (sl : SlotNo) (x : Slot) : (s.setSlot sl x).lines = s.lines := rfl
@[simp] theorem State.setSlot_directories (s : State) (sl : SlotNo) (x : Slot) : (s.setSlot sl x).directories = s.directories := rfl
@[simp] theorem State.setSlot_channels (s : State) (sl : SlotNo) (x : Slot) : (s.setSlot sl x).channels = s.channels := rfl
@[simp] theorem State.setSlot_selections (s : State) (sl : SlotNo) (x : Slot) : (s.setSlot sl x).selections = s.selections := rfl
@[simp] theorem State.setSlot_bridges (s : State) (sl : SlotNo) (x : Slot) : (s.setSlot sl x).bridges = s.bridges := rfl
@[simp] theorem State.setSlot_legs (s : State) (sl : SlotNo) (x : Slot) : (s.setSlot sl x).legs = s.legs := rfl
@[simp] theorem State.setSlot_generators (s : State) (sl : SlotNo) (x : Slot) : (s.setSlot sl x).generators = s.generators := rfl
@[simp] theorem State.setSlot_timers (s : State) (sl : SlotNo) (x : Slot) : (s.setSlot sl x).timers = s.timers := rfl
@[simp] theorem State.setSlot_inFlight (s : State) (sl : SlotNo) (x : Slot) : (s.setSlot sl x).inFlight = s.inFlight := rfl
@[simp] theorem State.setSlot_reports (s : State) (sl : SlotNo) (x : Slot) : (s.setSlot sl x).reports = s.reports := rfl
@[simp] theorem State.setSlot_links (s : State) (sl : SlotNo) (x : Slot) : (s.setSlot sl x).links = s.links := rfl
@[simp] theorem State.setSlot_pointer (s : State) (sl : SlotNo) (x : Slot) : (s.setSlot sl x).pointer = s.pointer := rfl
@[simp] theorem State.setSlot_frameCount (s : State) (sl : SlotNo) (x : Slot) : (s.setSlot sl x).frameCount = s.frameCount := rfl
@[simp] theorem State.setSlot_mp (s : State) (sl : SlotNo) (x : Slot) : (s.setSlot sl x).mp = s.mp := rfl
@[simp] theorem State.setSlot_pending (s : State) (sl : SlotNo) (x : Slot) : (s.setSlot sl x).pending = s.pending := rfl

@[simp] theorem State.setGenerator_lines (s : State) (g : GenNo) (x : Generator) : (s.setGenerator g x).lines = s.lines := rfl
@[simp] theorem State.setGenerator_directories (s : State) (g : GenNo) (x : Generator) : (s.setGenerator g x).directories = s.directories := rfl
@[simp] theorem State.setGenerator_channels (s : State) (g : GenNo) (x : Generator) : (s.setGenerator g x).channels = s.channels := rfl
@[simp] theorem State.setGenerator_selections (s : State) (g : GenNo) (x : Generator) : (s.setGenerator g x).selections = s.selections := rfl
@[simp] theorem State.setGenerator_bridges (s : State) (g : GenNo) (x : Generator) : (s.setGenerator g x).bridges = s.bridges := rfl
@[simp] theorem State.setGenerator_legs (s : State) (g : GenNo) (x : Generator) : (s.setGenerator g x).legs = s.legs := rfl
@[simp] theorem State.setGenerator_slots (s : State) (g : GenNo) (x : Generator) : (s.setGenerator g x).slots = s.slots := rfl
@[simp] theorem State.setGenerator_timers (s : State) (g : GenNo) (x : Generator) : (s.setGenerator g x).timers = s.timers := rfl
@[simp] theorem State.setGenerator_inFlight (s : State) (g : GenNo) (x : Generator) : (s.setGenerator g x).inFlight = s.inFlight := rfl
@[simp] theorem State.setGenerator_reports (s : State) (g : GenNo) (x : Generator) : (s.setGenerator g x).reports = s.reports := rfl
@[simp] theorem State.setGenerator_links (s : State) (g : GenNo) (x : Generator) : (s.setGenerator g x).links = s.links := rfl
@[simp] theorem State.setGenerator_pointer (s : State) (g : GenNo) (x : Generator) : (s.setGenerator g x).pointer = s.pointer := rfl
@[simp] theorem State.setGenerator_frameCount (s : State) (g : GenNo) (x : Generator) : (s.setGenerator g x).frameCount = s.frameCount := rfl
@[simp] theorem State.setGenerator_mp (s : State) (g : GenNo) (x : Generator) : (s.setGenerator g x).mp = s.mp := rfl
@[simp] theorem State.setGenerator_pending (s : State) (g : GenNo) (x : Generator) : (s.setGenerator g x).pending = s.pending := rfl

@[simp] theorem State.setLink_lines (s : State) (p : Pos) (x : Link) : (s.setLink p x).lines = s.lines := rfl
@[simp] theorem State.setLink_directories (s : State) (p : Pos) (x : Link) : (s.setLink p x).directories = s.directories := rfl
@[simp] theorem State.setLink_channels (s : State) (p : Pos) (x : Link) : (s.setLink p x).channels = s.channels := rfl
@[simp] theorem State.setLink_selections (s : State) (p : Pos) (x : Link) : (s.setLink p x).selections = s.selections := rfl
@[simp] theorem State.setLink_bridges (s : State) (p : Pos) (x : Link) : (s.setLink p x).bridges = s.bridges := rfl
@[simp] theorem State.setLink_legs (s : State) (p : Pos) (x : Link) : (s.setLink p x).legs = s.legs := rfl
@[simp] theorem State.setLink_slots (s : State) (p : Pos) (x : Link) : (s.setLink p x).slots = s.slots := rfl
@[simp] theorem State.setLink_generators (s : State) (p : Pos) (x : Link) : (s.setLink p x).generators = s.generators := rfl
@[simp] theorem State.setLink_timers (s : State) (p : Pos) (x : Link) : (s.setLink p x).timers = s.timers := rfl
@[simp] theorem State.setLink_inFlight (s : State) (p : Pos) (x : Link) : (s.setLink p x).inFlight = s.inFlight := rfl
@[simp] theorem State.setLink_reports (s : State) (p : Pos) (x : Link) : (s.setLink p x).reports = s.reports := rfl
@[simp] theorem State.setLink_pointer (s : State) (p : Pos) (x : Link) : (s.setLink p x).pointer = s.pointer := rfl
@[simp] theorem State.setLink_frameCount (s : State) (p : Pos) (x : Link) : (s.setLink p x).frameCount = s.frameCount := rfl
@[simp] theorem State.setLink_mp (s : State) (p : Pos) (x : Link) : (s.setLink p x).mp = s.mp := rfl
@[simp] theorem State.setLink_pending (s : State) (p : Pos) (x : Link) : (s.setLink p x).pending = s.pending := rfl

@[simp] theorem State.setKey_lines (s : State) (p : Pos) (k : Key) (o : Option LineNo) : (s.setKey p k o).lines = s.lines := rfl
@[simp] theorem State.setKey_channels (s : State) (p : Pos) (k : Key) (o : Option LineNo) : (s.setKey p k o).channels = s.channels := rfl
@[simp] theorem State.setKey_selections (s : State) (p : Pos) (k : Key) (o : Option LineNo) : (s.setKey p k o).selections = s.selections := rfl
@[simp] theorem State.setKey_bridges (s : State) (p : Pos) (k : Key) (o : Option LineNo) : (s.setKey p k o).bridges = s.bridges := rfl
@[simp] theorem State.setKey_legs (s : State) (p : Pos) (k : Key) (o : Option LineNo) : (s.setKey p k o).legs = s.legs := rfl
@[simp] theorem State.setKey_slots (s : State) (p : Pos) (k : Key) (o : Option LineNo) : (s.setKey p k o).slots = s.slots := rfl
@[simp] theorem State.setKey_generators (s : State) (p : Pos) (k : Key) (o : Option LineNo) : (s.setKey p k o).generators = s.generators := rfl
@[simp] theorem State.setKey_timers (s : State) (p : Pos) (k : Key) (o : Option LineNo) : (s.setKey p k o).timers = s.timers := rfl
@[simp] theorem State.setKey_inFlight (s : State) (p : Pos) (k : Key) (o : Option LineNo) : (s.setKey p k o).inFlight = s.inFlight := rfl
@[simp] theorem State.setKey_reports (s : State) (p : Pos) (k : Key) (o : Option LineNo) : (s.setKey p k o).reports = s.reports := rfl
@[simp] theorem State.setKey_links (s : State) (p : Pos) (k : Key) (o : Option LineNo) : (s.setKey p k o).links = s.links := rfl
@[simp] theorem State.setKey_pointer (s : State) (p : Pos) (k : Key) (o : Option LineNo) : (s.setKey p k o).pointer = s.pointer := rfl
@[simp] theorem State.setKey_frameCount (s : State) (p : Pos) (k : Key) (o : Option LineNo) : (s.setKey p k o).frameCount = s.frameCount := rfl
@[simp] theorem State.setKey_mp (s : State) (p : Pos) (k : Key) (o : Option LineNo) : (s.setKey p k o).mp = s.mp := rfl
@[simp] theorem State.setKey_pending (s : State) (p : Pos) (k : Key) (o : Option LineNo) : (s.setKey p k o).pending = s.pending := rfl

@[simp] theorem State.setSelection_lines (s : State) (p : Pos) (u : UnitNo) (x : Selection) : (s.setSelection p u x).lines = s.lines := rfl
@[simp] theorem State.setSelection_directories (s : State) (p : Pos) (u : UnitNo) (x : Selection) : (s.setSelection p u x).directories = s.directories := rfl
@[simp] theorem State.setSelection_channels (s : State) (p : Pos) (u : UnitNo) (x : Selection) : (s.setSelection p u x).channels = s.channels := rfl
@[simp] theorem State.setSelection_bridges (s : State) (p : Pos) (u : UnitNo) (x : Selection) : (s.setSelection p u x).bridges = s.bridges := rfl
@[simp] theorem State.setSelection_legs (s : State) (p : Pos) (u : UnitNo) (x : Selection) : (s.setSelection p u x).legs = s.legs := rfl
@[simp] theorem State.setSelection_slots (s : State) (p : Pos) (u : UnitNo) (x : Selection) : (s.setSelection p u x).slots = s.slots := rfl
@[simp] theorem State.setSelection_generators (s : State) (p : Pos) (u : UnitNo) (x : Selection) : (s.setSelection p u x).generators = s.generators := rfl
@[simp] theorem State.setSelection_timers (s : State) (p : Pos) (u : UnitNo) (x : Selection) : (s.setSelection p u x).timers = s.timers := rfl
@[simp] theorem State.setSelection_inFlight (s : State) (p : Pos) (u : UnitNo) (x : Selection) : (s.setSelection p u x).inFlight = s.inFlight := rfl
@[simp] theorem State.setSelection_reports (s : State) (p : Pos) (u : UnitNo) (x : Selection) : (s.setSelection p u x).reports = s.reports := rfl
@[simp] theorem State.setSelection_links (s : State) (p : Pos) (u : UnitNo) (x : Selection) : (s.setSelection p u x).links = s.links := rfl
@[simp] theorem State.setSelection_pointer (s : State) (p : Pos) (u : UnitNo) (x : Selection) : (s.setSelection p u x).pointer = s.pointer := rfl
@[simp] theorem State.setSelection_frameCount (s : State) (p : Pos) (u : UnitNo) (x : Selection) : (s.setSelection p u x).frameCount = s.frameCount := rfl
@[simp] theorem State.setSelection_mp (s : State) (p : Pos) (u : UnitNo) (x : Selection) : (s.setSelection p u x).mp = s.mp := rfl
@[simp] theorem State.setSelection_pending (s : State) (p : Pos) (u : UnitNo) (x : Selection) : (s.setSelection p u x).pending = s.pending := rfl

@[simp] theorem State.setTimer_lines (s : State) (t : TimerId) (x : Timer) : (s.setTimer t x).lines = s.lines := rfl
@[simp] theorem State.setTimer_directories (s : State) (t : TimerId) (x : Timer) : (s.setTimer t x).directories = s.directories := rfl
@[simp] theorem State.setTimer_channels (s : State) (t : TimerId) (x : Timer) : (s.setTimer t x).channels = s.channels := rfl
@[simp] theorem State.setTimer_selections (s : State) (t : TimerId) (x : Timer) : (s.setTimer t x).selections = s.selections := rfl
@[simp] theorem State.setTimer_bridges (s : State) (t : TimerId) (x : Timer) : (s.setTimer t x).bridges = s.bridges := rfl
@[simp] theorem State.setTimer_legs (s : State) (t : TimerId) (x : Timer) : (s.setTimer t x).legs = s.legs := rfl
@[simp] theorem State.setTimer_slots (s : State) (t : TimerId) (x : Timer) : (s.setTimer t x).slots = s.slots := rfl
@[simp] theorem State.setTimer_generators (s : State) (t : TimerId) (x : Timer) : (s.setTimer t x).generators = s.generators := rfl
@[simp] theorem State.setTimer_inFlight (s : State) (t : TimerId) (x : Timer) : (s.setTimer t x).inFlight = s.inFlight := rfl
@[simp] theorem State.setTimer_reports (s : State) (t : TimerId) (x : Timer) : (s.setTimer t x).reports = s.reports := rfl
@[simp] theorem State.setTimer_links (s : State) (t : TimerId) (x : Timer) : (s.setTimer t x).links = s.links := rfl
@[simp] theorem State.setTimer_pointer (s : State) (t : TimerId) (x : Timer) : (s.setTimer t x).pointer = s.pointer := rfl
@[simp] theorem State.setTimer_frameCount (s : State) (t : TimerId) (x : Timer) : (s.setTimer t x).frameCount = s.frameCount := rfl
@[simp] theorem State.setTimer_mp (s : State) (t : TimerId) (x : Timer) : (s.setTimer t x).mp = s.mp := rfl
@[simp] theorem State.setTimer_pending (s : State) (t : TimerId) (x : Timer) : (s.setTimer t x).pending = s.pending := rfl

@[simp] theorem State.modMp_lines (s : State) (f : Management → Management) : (s.modMp f).lines = s.lines := rfl
@[simp] theorem State.modMp_directories (s : State) (f : Management → Management) : (s.modMp f).directories = s.directories := rfl
@[simp] theorem State.modMp_channels (s : State) (f : Management → Management) : (s.modMp f).channels = s.channels := rfl
@[simp] theorem State.modMp_selections (s : State) (f : Management → Management) : (s.modMp f).selections = s.selections := rfl
@[simp] theorem State.modMp_bridges (s : State) (f : Management → Management) : (s.modMp f).bridges = s.bridges := rfl
@[simp] theorem State.modMp_legs (s : State) (f : Management → Management) : (s.modMp f).legs = s.legs := rfl
@[simp] theorem State.modMp_slots (s : State) (f : Management → Management) : (s.modMp f).slots = s.slots := rfl
@[simp] theorem State.modMp_generators (s : State) (f : Management → Management) : (s.modMp f).generators = s.generators := rfl
@[simp] theorem State.modMp_timers (s : State) (f : Management → Management) : (s.modMp f).timers = s.timers := rfl
@[simp] theorem State.modMp_inFlight (s : State) (f : Management → Management) : (s.modMp f).inFlight = s.inFlight := rfl
@[simp] theorem State.modMp_reports (s : State) (f : Management → Management) : (s.modMp f).reports = s.reports := rfl
@[simp] theorem State.modMp_links (s : State) (f : Management → Management) : (s.modMp f).links = s.links := rfl
@[simp] theorem State.modMp_pointer (s : State) (f : Management → Management) : (s.modMp f).pointer = s.pointer := rfl
@[simp] theorem State.modMp_frameCount (s : State) (f : Management → Management) : (s.modMp f).frameCount = s.frameCount := rfl
@[simp] theorem State.modMp_pending (s : State) (f : Management → Management) : (s.modMp f).pending = s.pending := rfl

@[simp] theorem State.post_lines (s : State) (e : Event) : (s.post e).lines = s.lines := rfl
@[simp] theorem State.post_directories (s : State) (e : Event) : (s.post e).directories = s.directories := rfl
@[simp] theorem State.post_channels (s : State) (e : Event) : (s.post e).channels = s.channels := rfl
@[simp] theorem State.post_selections (s : State) (e : Event) : (s.post e).selections = s.selections := rfl
@[simp] theorem State.post_bridges (s : State) (e : Event) : (s.post e).bridges = s.bridges := rfl
@[simp] theorem State.post_legs (s : State) (e : Event) : (s.post e).legs = s.legs := rfl
@[simp] theorem State.post_slots (s : State) (e : Event) : (s.post e).slots = s.slots := rfl
@[simp] theorem State.post_generators (s : State) (e : Event) : (s.post e).generators = s.generators := rfl
@[simp] theorem State.post_timers (s : State) (e : Event) : (s.post e).timers = s.timers := rfl
@[simp] theorem State.post_inFlight (s : State) (e : Event) : (s.post e).inFlight = s.inFlight := rfl
@[simp] theorem State.post_reports (s : State) (e : Event) : (s.post e).reports = s.reports := rfl
@[simp] theorem State.post_links (s : State) (e : Event) : (s.post e).links = s.links := rfl
@[simp] theorem State.post_pointer (s : State) (e : Event) : (s.post e).pointer = s.pointer := rfl
@[simp] theorem State.post_frameCount (s : State) (e : Event) : (s.post e).frameCount = s.frameCount := rfl
@[simp] theorem State.post_pending (s : State) (e : Event) : (s.post e).pending = s.pending := rfl

/-! ### Reads of other records -/

@[simp] theorem State.channel_setLine (s : State) (l : LineNo) (x : Line) (c' : ChanNo) : (s.setLine l x).channel c' = s.channel c' := rfl
@[simp] theorem State.bridge_setLine (s : State) (l : LineNo) (x : Line) (b' : BridgeNo) : (s.setLine l x).bridge b' = s.bridge b' := rfl
@[simp] theorem State.leg_setLine (s : State) (l : LineNo) (x : Line) (g' : LegNo) : (s.setLine l x).leg g' = s.leg g' := rfl
@[simp] theorem State.slot_setLine (s : State) (l : LineNo) (x : Line) (sl' : SlotNo) : (s.setLine l x).slot sl' = s.slot sl' := rfl
@[simp] theorem State.generator_setLine (s : State) (l : LineNo) (x : Line) (n' : GenNo) : (s.setLine l x).generator n' = s.generator n' := rfl
@[simp] theorem State.link_setLine (s : State) (l : LineNo) (x : Line) (p' : Pos) : (s.setLine l x).link p' = s.link p' := rfl
@[simp] theorem State.keyLine_setLine (s : State) (l : LineNo) (x : Line) (p' : Pos) (k' : Key) : (s.setLine l x).keyLine p' k' = s.keyLine p' k' := rfl
@[simp] theorem State.selection_setLine (s : State) (l : LineNo) (x : Line) (p' : Pos) (u' : UnitNo) : (s.setLine l x).selection p' u' = s.selection p' u' := rfl
@[simp] theorem State.timer_setLine (s : State) (l : LineNo) (x : Line) (t' : TimerId) : (s.setLine l x).timer t' = s.timer t' := rfl

@[simp] theorem State.line_setChannel (s : State) (c : ChanNo) (x : Channel) (l' : LineNo) : (s.setChannel c x).line l' = s.line l' := rfl
@[simp] theorem State.bridge_setChannel (s : State) (c : ChanNo) (x : Channel) (b' : BridgeNo) : (s.setChannel c x).bridge b' = s.bridge b' := rfl
@[simp] theorem State.leg_setChannel (s : State) (c : ChanNo) (x : Channel) (g' : LegNo) : (s.setChannel c x).leg g' = s.leg g' := rfl
@[simp] theorem State.slot_setChannel (s : State) (c : ChanNo) (x : Channel) (sl' : SlotNo) : (s.setChannel c x).slot sl' = s.slot sl' := rfl
@[simp] theorem State.generator_setChannel (s : State) (c : ChanNo) (x : Channel) (n' : GenNo) : (s.setChannel c x).generator n' = s.generator n' := rfl
@[simp] theorem State.link_setChannel (s : State) (c : ChanNo) (x : Channel) (p' : Pos) : (s.setChannel c x).link p' = s.link p' := rfl
@[simp] theorem State.keyLine_setChannel (s : State) (c : ChanNo) (x : Channel) (p' : Pos) (k' : Key) : (s.setChannel c x).keyLine p' k' = s.keyLine p' k' := rfl
@[simp] theorem State.selection_setChannel (s : State) (c : ChanNo) (x : Channel) (p' : Pos) (u' : UnitNo) : (s.setChannel c x).selection p' u' = s.selection p' u' := rfl
@[simp] theorem State.timer_setChannel (s : State) (c : ChanNo) (x : Channel) (t' : TimerId) : (s.setChannel c x).timer t' = s.timer t' := rfl

@[simp] theorem State.line_setBridge (s : State) (b : BridgeNo) (x : Bridge) (l' : LineNo) : (s.setBridge b x).line l' = s.line l' := rfl
@[simp] theorem State.channel_setBridge (s : State) (b : BridgeNo) (x : Bridge) (c' : ChanNo) : (s.setBridge b x).channel c' = s.channel c' := rfl
@[simp] theorem State.leg_setBridge (s : State) (b : BridgeNo) (x : Bridge) (g' : LegNo) : (s.setBridge b x).leg g' = s.leg g' := rfl
@[simp] theorem State.slot_setBridge (s : State) (b : BridgeNo) (x : Bridge) (sl' : SlotNo) : (s.setBridge b x).slot sl' = s.slot sl' := rfl
@[simp] theorem State.generator_setBridge (s : State) (b : BridgeNo) (x : Bridge) (n' : GenNo) : (s.setBridge b x).generator n' = s.generator n' := rfl
@[simp] theorem State.link_setBridge (s : State) (b : BridgeNo) (x : Bridge) (p' : Pos) : (s.setBridge b x).link p' = s.link p' := rfl
@[simp] theorem State.keyLine_setBridge (s : State) (b : BridgeNo) (x : Bridge) (p' : Pos) (k' : Key) : (s.setBridge b x).keyLine p' k' = s.keyLine p' k' := rfl
@[simp] theorem State.selection_setBridge (s : State) (b : BridgeNo) (x : Bridge) (p' : Pos) (u' : UnitNo) : (s.setBridge b x).selection p' u' = s.selection p' u' := rfl
@[simp] theorem State.timer_setBridge (s : State) (b : BridgeNo) (x : Bridge) (t' : TimerId) : (s.setBridge b x).timer t' = s.timer t' := rfl

@[simp] theorem State.line_setLeg (s : State) (g : LegNo) (x : Leg) (l' : LineNo) : (s.setLeg g x).line l' = s.line l' := rfl
@[simp] theorem State.channel_setLeg (s : State) (g : LegNo) (x : Leg) (c' : ChanNo) : (s.setLeg g x).channel c' = s.channel c' := rfl
@[simp] theorem State.bridge_setLeg (s : State) (g : LegNo) (x : Leg) (b' : BridgeNo) : (s.setLeg g x).bridge b' = s.bridge b' := rfl
@[simp] theorem State.slot_setLeg (s : State) (g : LegNo) (x : Leg) (sl' : SlotNo) : (s.setLeg g x).slot sl' = s.slot sl' := rfl
@[simp] theorem State.generator_setLeg (s : State) (g : LegNo) (x : Leg) (n' : GenNo) : (s.setLeg g x).generator n' = s.generator n' := rfl
@[simp] theorem State.link_setLeg (s : State) (g : LegNo) (x : Leg) (p' : Pos) : (s.setLeg g x).link p' = s.link p' := rfl
@[simp] theorem State.keyLine_setLeg (s : State) (g : LegNo) (x : Leg) (p' : Pos) (k' : Key) : (s.setLeg g x).keyLine p' k' = s.keyLine p' k' := rfl
@[simp] theorem State.selection_setLeg (s : State) (g : LegNo) (x : Leg) (p' : Pos) (u' : UnitNo) : (s.setLeg g x).selection p' u' = s.selection p' u' := rfl
@[simp] theorem State.timer_setLeg (s : State) (g : LegNo) (x : Leg) (t' : TimerId) : (s.setLeg g x).timer t' = s.timer t' := rfl

@[simp] theorem State.line_setSlot (s : State) (sl : SlotNo) (x : Slot) (l' : LineNo) : (s.setSlot sl x).line l' = s.line l' := rfl
@[simp] theorem State.channel_setSlot (s : State) (sl : SlotNo) (x : Slot) (c' : ChanNo) : (s.setSlot sl x).channel c' = s.channel c' := rfl
@[simp] theorem State.bridge_setSlot (s : State) (sl : SlotNo) (x : Slot) (b' : BridgeNo) : (s.setSlot sl x).bridge b' = s.bridge b' := rfl
@[simp] theorem State.leg_setSlot (s : State) (sl : SlotNo) (x : Slot) (g' : LegNo) : (s.setSlot sl x).leg g' = s.leg g' := rfl
@[simp] theorem State.generator_setSlot (s : State) (sl : SlotNo) (x : Slot) (n' : GenNo) : (s.setSlot sl x).generator n' = s.generator n' := rfl
@[simp] theorem State.link_setSlot (s : State) (sl : SlotNo) (x : Slot) (p' : Pos) : (s.setSlot sl x).link p' = s.link p' := rfl
@[simp] theorem State.keyLine_setSlot (s : State) (sl : SlotNo) (x : Slot) (p' : Pos) (k' : Key) : (s.setSlot sl x).keyLine p' k' = s.keyLine p' k' := rfl
@[simp] theorem State.selection_setSlot (s : State) (sl : SlotNo) (x : Slot) (p' : Pos) (u' : UnitNo) : (s.setSlot sl x).selection p' u' = s.selection p' u' := rfl
@[simp] theorem State.timer_setSlot (s : State) (sl : SlotNo) (x : Slot) (t' : TimerId) : (s.setSlot sl x).timer t' = s.timer t' := rfl

@[simp] theorem State.line_setGenerator (s : State) (g : GenNo) (x : Generator) (l' : LineNo) : (s.setGenerator g x).line l' = s.line l' := rfl
@[simp] theorem State.channel_setGenerator (s : State) (g : GenNo) (x : Generator) (c' : ChanNo) : (s.setGenerator g x).channel c' = s.channel c' := rfl
@[simp] theorem State.bridge_setGenerator (s : State) (g : GenNo) (x : Generator) (b' : BridgeNo) : (s.setGenerator g x).bridge b' = s.bridge b' := rfl
@[simp] theorem State.leg_setGenerator (s : State) (g : GenNo) (x : Generator) (g' : LegNo) : (s.setGenerator g x).leg g' = s.leg g' := rfl
@[simp] theorem State.slot_setGenerator (s : State) (g : GenNo) (x : Generator) (sl' : SlotNo) : (s.setGenerator g x).slot sl' = s.slot sl' := rfl
@[simp] theorem State.link_setGenerator (s : State) (g : GenNo) (x : Generator) (p' : Pos) : (s.setGenerator g x).link p' = s.link p' := rfl
@[simp] theorem State.keyLine_setGenerator (s : State) (g : GenNo) (x : Generator) (p' : Pos) (k' : Key) : (s.setGenerator g x).keyLine p' k' = s.keyLine p' k' := rfl
@[simp] theorem State.selection_setGenerator (s : State) (g : GenNo) (x : Generator) (p' : Pos) (u' : UnitNo) : (s.setGenerator g x).selection p' u' = s.selection p' u' := rfl
@[simp] theorem State.timer_setGenerator (s : State) (g : GenNo) (x : Generator) (t' : TimerId) : (s.setGenerator g x).timer t' = s.timer t' := rfl

@[simp] theorem State.line_setLink (s : State) (p : Pos) (x : Link) (l' : LineNo) : (s.setLink p x).line l' = s.line l' := rfl
@[simp] theorem State.channel_setLink (s : State) (p : Pos) (x : Link) (c' : ChanNo) : (s.setLink p x).channel c' = s.channel c' := rfl
@[simp] theorem State.bridge_setLink (s : State) (p : Pos) (x : Link) (b' : BridgeNo) : (s.setLink p x).bridge b' = s.bridge b' := rfl
@[simp] theorem State.leg_setLink (s : State) (p : Pos) (x : Link) (g' : LegNo) : (s.setLink p x).leg g' = s.leg g' := rfl
@[simp] theorem State.slot_setLink (s : State) (p : Pos) (x : Link) (sl' : SlotNo) : (s.setLink p x).slot sl' = s.slot sl' := rfl
@[simp] theorem State.generator_setLink (s : State) (p : Pos) (x : Link) (n' : GenNo) : (s.setLink p x).generator n' = s.generator n' := rfl
@[simp] theorem State.keyLine_setLink (s : State) (p : Pos) (x : Link) (p' : Pos) (k' : Key) : (s.setLink p x).keyLine p' k' = s.keyLine p' k' := rfl
@[simp] theorem State.selection_setLink (s : State) (p : Pos) (x : Link) (p' : Pos) (u' : UnitNo) : (s.setLink p x).selection p' u' = s.selection p' u' := rfl
@[simp] theorem State.timer_setLink (s : State) (p : Pos) (x : Link) (t' : TimerId) : (s.setLink p x).timer t' = s.timer t' := rfl

@[simp] theorem State.line_setKey (s : State) (p : Pos) (k : Key) (o : Option LineNo) (l' : LineNo) : (s.setKey p k o).line l' = s.line l' := rfl
@[simp] theorem State.channel_setKey (s : State) (p : Pos) (k : Key) (o : Option LineNo) (c' : ChanNo) : (s.setKey p k o).channel c' = s.channel c' := rfl
@[simp] theorem State.bridge_setKey (s : State) (p : Pos) (k : Key) (o : Option LineNo) (b' : BridgeNo) : (s.setKey p k o).bridge b' = s.bridge b' := rfl
@[simp] theorem State.leg_setKey (s : State) (p : Pos) (k : Key) (o : Option LineNo) (g' : LegNo) : (s.setKey p k o).leg g' = s.leg g' := rfl
@[simp] theorem State.slot_setKey (s : State) (p : Pos) (k : Key) (o : Option LineNo) (sl' : SlotNo) : (s.setKey p k o).slot sl' = s.slot sl' := rfl
@[simp] theorem State.generator_setKey (s : State) (p : Pos) (k : Key) (o : Option LineNo) (n' : GenNo) : (s.setKey p k o).generator n' = s.generator n' := rfl
@[simp] theorem State.link_setKey (s : State) (p : Pos) (k : Key) (o : Option LineNo) (p' : Pos) : (s.setKey p k o).link p' = s.link p' := rfl
@[simp] theorem State.selection_setKey (s : State) (p : Pos) (k : Key) (o : Option LineNo) (p' : Pos) (u' : UnitNo) : (s.setKey p k o).selection p' u' = s.selection p' u' := rfl
@[simp] theorem State.timer_setKey (s : State) (p : Pos) (k : Key) (o : Option LineNo) (t' : TimerId) : (s.setKey p k o).timer t' = s.timer t' := rfl

@[simp] theorem State.line_setSelection (s : State) (p : Pos) (u : UnitNo) (x : Selection) (l' : LineNo) : (s.setSelection p u x).line l' = s.line l' := rfl
@[simp] theorem State.channel_setSelection (s : State) (p : Pos) (u : UnitNo) (x : Selection) (c' : ChanNo) : (s.setSelection p u x).channel c' = s.channel c' := rfl
@[simp] theorem State.bridge_setSelection (s : State) (p : Pos) (u : UnitNo) (x : Selection) (b' : BridgeNo) : (s.setSelection p u x).bridge b' = s.bridge b' := rfl
@[simp] theorem State.leg_setSelection (s : State) (p : Pos) (u : UnitNo) (x : Selection) (g' : LegNo) : (s.setSelection p u x).leg g' = s.leg g' := rfl
@[simp] theorem State.slot_setSelection (s : State) (p : Pos) (u : UnitNo) (x : Selection) (sl' : SlotNo) : (s.setSelection p u x).slot sl' = s.slot sl' := rfl
@[simp] theorem State.generator_setSelection (s : State) (p : Pos) (u : UnitNo) (x : Selection) (n' : GenNo) : (s.setSelection p u x).generator n' = s.generator n' := rfl
@[simp] theorem State.link_setSelection (s : State) (p : Pos) (u : UnitNo) (x : Selection) (p' : Pos) : (s.setSelection p u x).link p' = s.link p' := rfl
@[simp] theorem State.keyLine_setSelection (s : State) (p : Pos) (u : UnitNo) (x : Selection) (p' : Pos) (k' : Key) : (s.setSelection p u x).keyLine p' k' = s.keyLine p' k' := rfl
@[simp] theorem State.timer_setSelection (s : State) (p : Pos) (u : UnitNo) (x : Selection) (t' : TimerId) : (s.setSelection p u x).timer t' = s.timer t' := rfl

@[simp] theorem State.line_setTimer (s : State) (t : TimerId) (x : Timer) (l' : LineNo) : (s.setTimer t x).line l' = s.line l' := rfl
@[simp] theorem State.channel_setTimer (s : State) (t : TimerId) (x : Timer) (c' : ChanNo) : (s.setTimer t x).channel c' = s.channel c' := rfl
@[simp] theorem State.bridge_setTimer (s : State) (t : TimerId) (x : Timer) (b' : BridgeNo) : (s.setTimer t x).bridge b' = s.bridge b' := rfl
@[simp] theorem State.leg_setTimer (s : State) (t : TimerId) (x : Timer) (g' : LegNo) : (s.setTimer t x).leg g' = s.leg g' := rfl
@[simp] theorem State.slot_setTimer (s : State) (t : TimerId) (x : Timer) (sl' : SlotNo) : (s.setTimer t x).slot sl' = s.slot sl' := rfl
@[simp] theorem State.generator_setTimer (s : State) (t : TimerId) (x : Timer) (n' : GenNo) : (s.setTimer t x).generator n' = s.generator n' := rfl
@[simp] theorem State.link_setTimer (s : State) (t : TimerId) (x : Timer) (p' : Pos) : (s.setTimer t x).link p' = s.link p' := rfl
@[simp] theorem State.keyLine_setTimer (s : State) (t : TimerId) (x : Timer) (p' : Pos) (k' : Key) : (s.setTimer t x).keyLine p' k' = s.keyLine p' k' := rfl
@[simp] theorem State.selection_setTimer (s : State) (t : TimerId) (x : Timer) (p' : Pos) (u' : UnitNo) : (s.setTimer t x).selection p' u' = s.selection p' u' := rfl

@[simp] theorem State.line_modMp (s : State) (f : Management → Management) (l' : LineNo) : (s.modMp f).line l' = s.line l' := rfl
@[simp] theorem State.channel_modMp (s : State) (f : Management → Management) (c' : ChanNo) : (s.modMp f).channel c' = s.channel c' := rfl
@[simp] theorem State.bridge_modMp (s : State) (f : Management → Management) (b' : BridgeNo) : (s.modMp f).bridge b' = s.bridge b' := rfl
@[simp] theorem State.leg_modMp (s : State) (f : Management → Management) (g' : LegNo) : (s.modMp f).leg g' = s.leg g' := rfl
@[simp] theorem State.slot_modMp (s : State) (f : Management → Management) (sl' : SlotNo) : (s.modMp f).slot sl' = s.slot sl' := rfl
@[simp] theorem State.generator_modMp (s : State) (f : Management → Management) (n' : GenNo) : (s.modMp f).generator n' = s.generator n' := rfl
@[simp] theorem State.link_modMp (s : State) (f : Management → Management) (p' : Pos) : (s.modMp f).link p' = s.link p' := rfl
@[simp] theorem State.keyLine_modMp (s : State) (f : Management → Management) (p' : Pos) (k' : Key) : (s.modMp f).keyLine p' k' = s.keyLine p' k' := rfl
@[simp] theorem State.selection_modMp (s : State) (f : Management → Management) (p' : Pos) (u' : UnitNo) : (s.modMp f).selection p' u' = s.selection p' u' := rfl
@[simp] theorem State.timer_modMp (s : State) (f : Management → Management) (t' : TimerId) : (s.modMp f).timer t' = s.timer t' := rfl

@[simp] theorem State.line_post (s : State) (e : Event) (l' : LineNo) : (s.post e).line l' = s.line l' := rfl
@[simp] theorem State.channel_post (s : State) (e : Event) (c' : ChanNo) : (s.post e).channel c' = s.channel c' := rfl
@[simp] theorem State.bridge_post (s : State) (e : Event) (b' : BridgeNo) : (s.post e).bridge b' = s.bridge b' := rfl
@[simp] theorem State.leg_post (s : State) (e : Event) (g' : LegNo) : (s.post e).leg g' = s.leg g' := rfl
@[simp] theorem State.slot_post (s : State) (e : Event) (sl' : SlotNo) : (s.post e).slot sl' = s.slot sl' := rfl
@[simp] theorem State.generator_post (s : State) (e : Event) (n' : GenNo) : (s.post e).generator n' = s.generator n' := rfl
@[simp] theorem State.link_post (s : State) (e : Event) (p' : Pos) : (s.post e).link p' = s.link p' := rfl
@[simp] theorem State.keyLine_post (s : State) (e : Event) (p' : Pos) (k' : Key) : (s.post e).keyLine p' k' = s.keyLine p' k' := rfl
@[simp] theorem State.selection_post (s : State) (e : Event) (p' : Pos) (u' : UnitNo) : (s.post e).selection p' u' = s.selection p' u' := rfl
@[simp] theorem State.timer_post (s : State) (e : Event) (t' : TimerId) : (s.post e).timer t' = s.timer t' := rfl

@[simp] theorem State.resetting_setLine (s : State) (l : LineNo) (x : Line) : (s.setLine l x).resetting = s.resetting := rfl
@[simp] theorem State.resetting_setChannel (s : State) (c : ChanNo) (x : Channel) : (s.setChannel c x).resetting = s.resetting := rfl
@[simp] theorem State.resetting_setBridge (s : State) (b : BridgeNo) (x : Bridge) : (s.setBridge b x).resetting = s.resetting := rfl
@[simp] theorem State.resetting_setLeg (s : State) (g : LegNo) (x : Leg) : (s.setLeg g x).resetting = s.resetting := rfl
@[simp] theorem State.resetting_setSlot (s : State) (sl : SlotNo) (x : Slot) : (s.setSlot sl x).resetting = s.resetting := rfl
@[simp] theorem State.resetting_setGenerator (s : State) (g : GenNo) (x : Generator) : (s.setGenerator g x).resetting = s.resetting := rfl
@[simp] theorem State.resetting_setLink (s : State) (p : Pos) (x : Link) : (s.setLink p x).resetting = s.resetting := rfl
@[simp] theorem State.resetting_setKey (s : State) (p : Pos) (k : Key) (o : Option LineNo) : (s.setKey p k o).resetting = s.resetting := rfl
@[simp] theorem State.resetting_setSelection (s : State) (p : Pos) (u : UnitNo) (x : Selection) : (s.setSelection p u x).resetting = s.resetting := rfl
@[simp] theorem State.resetting_setTimer (s : State) (t : TimerId) (x : Timer) : (s.setTimer t x).resetting = s.resetting := rfl

/-! ### Reads after writes -/

/-- A read of a table after a write of one of its records. -/
theorem State.line_setLine (s : State) (l l' : LineNo) (x : Line) :
    (s.setLine l x).line l' = if l' = l then x else s.line l' := by
  simp only [State.setLine, State.line, Fin.getElem_fin, Vector.getElem_set, Fin.ext_iff, eq_comm]

@[simp] theorem State.line_setLine_self (s : State) (l : LineNo) (x : Line) : (s.setLine l x).line l = x := by
  simp [State.line_setLine]

theorem State.line_setLine_ne (s : State) {l l' : LineNo} (x : Line) (h : l' ≠ l) : (s.setLine l x).line l' = s.line l' := by
  simp [State.line_setLine, h]

@[simp] theorem State.setLine_twice (s : State) (l : LineNo) (x y : Line) : (s.setLine l x).setLine l y = s.setLine l y := by
  simp [State.setLine]

/-- A read of a table after a write of one of its records. -/
theorem State.channel_setChannel (s : State) (c c' : ChanNo) (x : Channel) :
    (s.setChannel c x).channel c' = if c' = c then x else s.channel c' := by
  simp only [State.setChannel, State.channel, Fin.getElem_fin, Vector.getElem_set, Fin.ext_iff, eq_comm]

@[simp] theorem State.channel_setChannel_self (s : State) (c : ChanNo) (x : Channel) : (s.setChannel c x).channel c = x := by
  simp [State.channel_setChannel]

theorem State.channel_setChannel_ne (s : State) {c c' : ChanNo} (x : Channel) (h : c' ≠ c) : (s.setChannel c x).channel c' = s.channel c' := by
  simp [State.channel_setChannel, h]

@[simp] theorem State.setChannel_twice (s : State) (c : ChanNo) (x y : Channel) : (s.setChannel c x).setChannel c y = s.setChannel c y := by
  simp [State.setChannel]

/-- A read of a table after a write of one of its records. -/
theorem State.bridge_setBridge (s : State) (b b' : BridgeNo) (x : Bridge) :
    (s.setBridge b x).bridge b' = if b' = b then x else s.bridge b' := by
  simp only [State.setBridge, State.bridge, Fin.getElem_fin, Vector.getElem_set, Fin.ext_iff, eq_comm]

@[simp] theorem State.bridge_setBridge_self (s : State) (b : BridgeNo) (x : Bridge) : (s.setBridge b x).bridge b = x := by
  simp [State.bridge_setBridge]

theorem State.bridge_setBridge_ne (s : State) {b b' : BridgeNo} (x : Bridge) (h : b' ≠ b) : (s.setBridge b x).bridge b' = s.bridge b' := by
  simp [State.bridge_setBridge, h]

@[simp] theorem State.setBridge_twice (s : State) (b : BridgeNo) (x y : Bridge) : (s.setBridge b x).setBridge b y = s.setBridge b y := by
  simp [State.setBridge]

/-- A read of a table after a write of one of its records. -/
theorem State.leg_setLeg (s : State) (g g' : LegNo) (x : Leg) :
    (s.setLeg g x).leg g' = if g' = g then x else s.leg g' := by
  simp only [State.setLeg, State.leg, Fin.getElem_fin, Vector.getElem_set, Fin.ext_iff, eq_comm]

@[simp] theorem State.leg_setLeg_self (s : State) (g : LegNo) (x : Leg) : (s.setLeg g x).leg g = x := by
  simp [State.leg_setLeg]

theorem State.leg_setLeg_ne (s : State) {g g' : LegNo} (x : Leg) (h : g' ≠ g) : (s.setLeg g x).leg g' = s.leg g' := by
  simp [State.leg_setLeg, h]

@[simp] theorem State.setLeg_twice (s : State) (g : LegNo) (x y : Leg) : (s.setLeg g x).setLeg g y = s.setLeg g y := by
  simp [State.setLeg]

/-- A read of a table after a write of one of its records. -/
theorem State.slot_setSlot (s : State) (sl sl' : SlotNo) (x : Slot) :
    (s.setSlot sl x).slot sl' = if sl' = sl then x else s.slot sl' := by
  simp only [State.setSlot, State.slot, Fin.getElem_fin, Vector.getElem_set, Fin.ext_iff, eq_comm]

@[simp] theorem State.slot_setSlot_self (s : State) (sl : SlotNo) (x : Slot) : (s.setSlot sl x).slot sl = x := by
  simp [State.slot_setSlot]

theorem State.slot_setSlot_ne (s : State) {sl sl' : SlotNo} (x : Slot) (h : sl' ≠ sl) : (s.setSlot sl x).slot sl' = s.slot sl' := by
  simp [State.slot_setSlot, h]

@[simp] theorem State.setSlot_twice (s : State) (sl : SlotNo) (x y : Slot) : (s.setSlot sl x).setSlot sl y = s.setSlot sl y := by
  simp [State.setSlot]

/-- A read of a table after a write of one of its records. -/
theorem State.generator_setGenerator (s : State) (g g' : GenNo) (x : Generator) :
    (s.setGenerator g x).generator g' = if g' = g then x else s.generator g' := by
  simp only [State.setGenerator, State.generator, Fin.getElem_fin, Vector.getElem_set, Fin.ext_iff, eq_comm]

@[simp] theorem State.generator_setGenerator_self (s : State) (g : GenNo) (x : Generator) : (s.setGenerator g x).generator g = x := by
  simp [State.generator_setGenerator]

theorem State.generator_setGenerator_ne (s : State) {g g' : GenNo} (x : Generator) (h : g' ≠ g) : (s.setGenerator g x).generator g' = s.generator g' := by
  simp [State.generator_setGenerator, h]

@[simp] theorem State.setGenerator_twice (s : State) (g : GenNo) (x y : Generator) : (s.setGenerator g x).setGenerator g y = s.setGenerator g y := by
  simp [State.setGenerator]

/-- A read of a table after a write of one of its records. -/
theorem State.link_setLink (s : State) (p p' : Pos) (x : Link) :
    (s.setLink p x).link p' = if p' = p then x else s.link p' := by
  simp only [State.setLink, State.link, Fin.getElem_fin, Vector.getElem_set, Fin.ext_iff, eq_comm]

@[simp] theorem State.link_setLink_self (s : State) (p : Pos) (x : Link) : (s.setLink p x).link p = x := by
  simp [State.link_setLink]

theorem State.link_setLink_ne (s : State) {p p' : Pos} (x : Link) (h : p' ≠ p) : (s.setLink p x).link p' = s.link p' := by
  simp [State.link_setLink, h]

@[simp] theorem State.setLink_twice (s : State) (p : Pos) (x y : Link) : (s.setLink p x).setLink p y = s.setLink p y := by
  simp [State.setLink]

/-- A read of a key after a write of a key. -/
theorem State.keyLine_setKey (s : State) (p p' : Pos) (k k' : Key) (o : Option LineNo) :
    (s.setKey p k o).keyLine p' k' = if p' = p ∧ k' = k then o else s.keyLine p' k' := by
  simp only [State.setKey, State.keyLine, Fin.getElem_fin, Vector.getElem_set, Fin.ext_iff]
  by_cases hp : p.val = p'.val
  · by_cases hk : k.val = k'.val
    · simp [hp, hk]
    · have hk' : ¬ k'.val = k.val := fun h => hk h.symm
      simp [hp, hk, hk']
  · have hp' : ¬ p'.val = p.val := fun h => hp h.symm
    simp [hp, hp']

/-- A read of a selection after a write of a selection. -/
theorem State.selection_setSelection (s : State) (p p' : Pos) (u u' : UnitNo) (x : Selection) :
    (s.setSelection p u x).selection p' u' = if p' = p ∧ u' = u then x else s.selection p' u' := by
  simp only [State.setSelection, State.selection, Fin.getElem_fin, Vector.getElem_set, Fin.ext_iff]
  by_cases hp : p.val = p'.val
  · by_cases hk : u.val = u'.val
    · simp [hp, hk]
    · have hk' : ¬ u'.val = u.val := fun h => hk h.symm
      simp [hp, hk, hk']
  · have hp' : ¬ p'.val = p.val := fun h => hp h.symm
    simp [hp, hp']

/-- A read of a timer after a write of the same timer. -/
@[simp] theorem State.timer_setTimer_self (s : State) (t : TimerId) (x : Timer) : (s.setTimer t x).timer t = x := by
  cases t <;> simp [State.setTimer, State.timer, Timers.set]

/-- A read of a timer after a write of another timer. -/
theorem State.timer_setTimer_ne (s : State) {t t' : TimerId} (x : Timer) (h : t' ≠ t) :
    (s.setTimer t x).timer t' = s.timer t' := by
  cases t <;> cases t' <;> simp_all [State.setTimer, State.timer, Timers.set, Vector.getElem_set, Fin.ext_iff, eq_comm]
  rename_i c p c' p'
  by_cases hc : c.val = c'.val
  · simp only [hc, if_true]
    exact (Vector.getElem_set_ne _ _ (h hc)).symm
  · simp [hc]

/-! ### Flags and port -/

@[simp] theorem State.post_flags (s : State) (e : Event) : (s.post e).mp.flags = s.mp.flags ||| e.mask := rfl
@[simp] theorem State.post_enables (s : State) (e : Event) : (s.post e).mp.enables = s.mp.enables := rfl
@[simp] theorem State.post_job (s : State) (e : Event) : (s.post e).mp.job = s.mp.job := rfl
@[simp] theorem State.post_slot (s : State) (e : Event) : (s.post e).mp.slot = s.mp.slot := rfl
@[simp] theorem State.post_result (s : State) (e : Event) : (s.post e).mp.result = s.mp.result := rfl
@[simp] theorem State.post_buffer (s : State) (e : Event) : (s.post e).mp.buffer = s.mp.buffer := rfl
@[simp] theorem State.resetting_post (s : State) (e : Event) : (s.post e).resetting = s.resetting := rfl
@[simp] theorem State.modMp_mp (s : State) (f : Management → Management) : (s.modMp f).mp = f s.mp := rfl

end Sys2Proof.Machine
end

