-- ==== Sys2Proof/Laws/FramesOps.lean ====
section
/-! SUPPORT. What the requests to the Bridge Pool and the indications leave unchanged: a lemma per operation and field. -/

namespace Sys2Proof.Machine

set_option linter.unusedTactic false
set_option linter.unnecessarySeqFocus false
set_option linter.unreachableTactic false
set_option Elab.async false

/-- What every application of an operation keeps, a fold of it keeps. -/
theorem foldl_keeps {σ ι κ : Type} (field : σ → κ) (act : σ → ι → σ) (keeps : ∀ s i, field (act s i) = field s)
    (items : List ι) (start : σ) : field (items.foldl act start) = field start :=
  List.foldlRecOn (motive := fun s => field s = field start) items act rfl fun _ kept _ _ => (keeps _ _).trans kept

@[simp] theorem State.cancelTimers_lines (s : State) (ts : List TimerId) : (s.cancelTimers ts).lines = s.lines := by
  unfold State.cancelTimers; exact foldl_keeps State.lines _ (fun _ _ => by simp) _ _
@[simp] theorem State.cancelTimers_directories (s : State) (ts : List TimerId) : (s.cancelTimers ts).directories = s.directories := by
  unfold State.cancelTimers; exact foldl_keeps State.directories _ (fun _ _ => by simp) _ _
@[simp] theorem State.cancelTimers_channels (s : State) (ts : List TimerId) : (s.cancelTimers ts).channels = s.channels := by
  unfold State.cancelTimers; exact foldl_keeps State.channels _ (fun _ _ => by simp) _ _
@[simp] theorem State.cancelTimers_selections (s : State) (ts : List TimerId) : (s.cancelTimers ts).selections = s.selections := by
  unfold State.cancelTimers; exact foldl_keeps State.selections _ (fun _ _ => by simp) _ _
@[simp] theorem State.cancelTimers_bridges (s : State) (ts : List TimerId) : (s.cancelTimers ts).bridges = s.bridges := by
  unfold State.cancelTimers; exact foldl_keeps State.bridges _ (fun _ _ => by simp) _ _
@[simp] theorem State.cancelTimers_legs (s : State) (ts : List TimerId) : (s.cancelTimers ts).legs = s.legs := by
  unfold State.cancelTimers; exact foldl_keeps State.legs _ (fun _ _ => by simp) _ _
@[simp] theorem State.cancelTimers_slots (s : State) (ts : List TimerId) : (s.cancelTimers ts).slots = s.slots := by
  unfold State.cancelTimers; exact foldl_keeps State.slots _ (fun _ _ => by simp) _ _
@[simp] theorem State.cancelTimers_generators (s : State) (ts : List TimerId) : (s.cancelTimers ts).generators = s.generators := by
  unfold State.cancelTimers; exact foldl_keeps State.generators _ (fun _ _ => by simp) _ _
@[simp] theorem State.cancelTimers_inFlight (s : State) (ts : List TimerId) : (s.cancelTimers ts).inFlight = s.inFlight := by
  unfold State.cancelTimers; exact foldl_keeps State.inFlight _ (fun _ _ => by simp) _ _
@[simp] theorem State.cancelTimers_reports (s : State) (ts : List TimerId) : (s.cancelTimers ts).reports = s.reports := by
  unfold State.cancelTimers; exact foldl_keeps State.reports _ (fun _ _ => by simp) _ _
@[simp] theorem State.cancelTimers_links (s : State) (ts : List TimerId) : (s.cancelTimers ts).links = s.links := by
  unfold State.cancelTimers; exact foldl_keeps State.links _ (fun _ _ => by simp) _ _
@[simp] theorem State.cancelTimers_pointer (s : State) (ts : List TimerId) : (s.cancelTimers ts).pointer = s.pointer := by
  unfold State.cancelTimers; exact foldl_keeps State.pointer _ (fun _ _ => by simp) _ _
@[simp] theorem State.cancelTimers_frameCount (s : State) (ts : List TimerId) : (s.cancelTimers ts).frameCount = s.frameCount := by
  unfold State.cancelTimers; exact foldl_keeps State.frameCount _ (fun _ _ => by simp) _ _
@[simp] theorem State.cancelTimers_mp (s : State) (ts : List TimerId) : (s.cancelTimers ts).mp = s.mp := by
  unfold State.cancelTimers; exact foldl_keeps State.mp _ (fun _ _ => by simp) _ _
@[simp] theorem State.cancelTimers_pending (s : State) (ts : List TimerId) : (s.cancelTimers ts).pending = s.pending := by
  unfold State.cancelTimers; exact foldl_keeps State.pending _ (fun _ _ => by simp) _ _
@[simp] theorem State.line_cancelTimers (s : State) (ts : List TimerId) (l' : LineNo) : (s.cancelTimers ts).line l' = s.line l' := by
  simp only [State.line, State.cancelTimers_lines]
@[simp] theorem State.channel_cancelTimers (s : State) (ts : List TimerId) (c' : ChanNo) : (s.cancelTimers ts).channel c' = s.channel c' := by
  simp only [State.channel, State.cancelTimers_channels]
@[simp] theorem State.bridge_cancelTimers (s : State) (ts : List TimerId) (b' : BridgeNo) : (s.cancelTimers ts).bridge b' = s.bridge b' := by
  simp only [State.bridge, State.cancelTimers_bridges]
@[simp] theorem State.leg_cancelTimers (s : State) (ts : List TimerId) (g' : LegNo) : (s.cancelTimers ts).leg g' = s.leg g' := by
  simp only [State.leg, State.cancelTimers_legs]
@[simp] theorem State.slot_cancelTimers (s : State) (ts : List TimerId) (sl' : SlotNo) : (s.cancelTimers ts).slot sl' = s.slot sl' := by
  simp only [State.slot, State.cancelTimers_slots]
@[simp] theorem State.generator_cancelTimers (s : State) (ts : List TimerId) (n' : GenNo) : (s.cancelTimers ts).generator n' = s.generator n' := by
  simp only [State.generator, State.cancelTimers_generators]
@[simp] theorem State.link_cancelTimers (s : State) (ts : List TimerId) (p' : Pos) : (s.cancelTimers ts).link p' = s.link p' := by
  simp only [State.link, State.cancelTimers_links]
@[simp] theorem State.keyLine_cancelTimers (s : State) (ts : List TimerId) (p' : Pos) (k' : Key) : (s.cancelTimers ts).keyLine p' k' = s.keyLine p' k' := by
  simp only [State.keyLine, State.cancelTimers_directories]
@[simp] theorem State.selection_cancelTimers (s : State) (ts : List TimerId) (p' : Pos) (u' : UnitNo) : (s.cancelTimers ts).selection p' u' = s.selection p' u' := by
  simp only [State.selection, State.cancelTimers_selections]
@[simp] theorem State.resetting_cancelTimers (s : State) (ts : List TimerId) : (s.cancelTimers ts).resetting = s.resetting := by
  simp only [State.resetting, State.cancelTimers_mp]

@[simp] theorem State.settleBridges_lines (s : State) : (s.settleBridges).lines = s.lines := rfl
@[simp] theorem State.settleBridges_directories (s : State) : (s.settleBridges).directories = s.directories := rfl
@[simp] theorem State.settleBridges_channels (s : State) : (s.settleBridges).channels = s.channels := rfl
@[simp] theorem State.settleBridges_selections (s : State) : (s.settleBridges).selections = s.selections := rfl
@[simp] theorem State.settleBridges_legs (s : State) : (s.settleBridges).legs = s.legs := rfl
@[simp] theorem State.settleBridges_slots (s : State) : (s.settleBridges).slots = s.slots := rfl
@[simp] theorem State.settleBridges_generators (s : State) : (s.settleBridges).generators = s.generators := rfl
@[simp] theorem State.settleBridges_timers (s : State) : (s.settleBridges).timers = s.timers := rfl
@[simp] theorem State.settleBridges_inFlight (s : State) : (s.settleBridges).inFlight = s.inFlight := rfl
@[simp] theorem State.settleBridges_reports (s : State) : (s.settleBridges).reports = s.reports := rfl
@[simp] theorem State.settleBridges_links (s : State) : (s.settleBridges).links = s.links := rfl
@[simp] theorem State.settleBridges_pointer (s : State) : (s.settleBridges).pointer = s.pointer := rfl
@[simp] theorem State.settleBridges_frameCount (s : State) : (s.settleBridges).frameCount = s.frameCount := rfl
@[simp] theorem State.settleBridges_mp (s : State) : (s.settleBridges).mp = s.mp := rfl
@[simp] theorem State.settleBridges_pending (s : State) : (s.settleBridges).pending = s.pending := rfl
@[simp] theorem State.line_settleBridges (s : State) (l' : LineNo) : (s.settleBridges).line l' = s.line l' := by
  simp only [State.line, State.settleBridges_lines]
@[simp] theorem State.channel_settleBridges (s : State) (c' : ChanNo) : (s.settleBridges).channel c' = s.channel c' := by
  simp only [State.channel, State.settleBridges_channels]
@[simp] theorem State.leg_settleBridges (s : State) (g' : LegNo) : (s.settleBridges).leg g' = s.leg g' := by
  simp only [State.leg, State.settleBridges_legs]
@[simp] theorem State.slot_settleBridges (s : State) (sl' : SlotNo) : (s.settleBridges).slot sl' = s.slot sl' := by
  simp only [State.slot, State.settleBridges_slots]
@[simp] theorem State.generator_settleBridges (s : State) (n' : GenNo) : (s.settleBridges).generator n' = s.generator n' := by
  simp only [State.generator, State.settleBridges_generators]
@[simp] theorem State.link_settleBridges (s : State) (p' : Pos) : (s.settleBridges).link p' = s.link p' := by
  simp only [State.link, State.settleBridges_links]
@[simp] theorem State.keyLine_settleBridges (s : State) (p' : Pos) (k' : Key) : (s.settleBridges).keyLine p' k' = s.keyLine p' k' := by
  simp only [State.keyLine, State.settleBridges_directories]
@[simp] theorem State.selection_settleBridges (s : State) (p' : Pos) (u' : UnitNo) : (s.settleBridges).selection p' u' = s.selection p' u' := by
  simp only [State.selection, State.settleBridges_selections]
@[simp] theorem State.timer_settleBridges (s : State) (t' : TimerId) : (s.settleBridges).timer t' = s.timer t' := by
  simp only [State.timer, State.settleBridges_timers]
@[simp] theorem State.resetting_settleBridges (s : State) : (s.settleBridges).resetting = s.resetting := by
  simp only [State.resetting, State.settleBridges_mp]

@[simp] theorem State.allocate_lines (s : State) (b : BridgeNo) (o : Owner) (m : Headroom) : (s.allocate b o m).lines = s.lines := rfl
@[simp] theorem State.allocate_directories (s : State) (b : BridgeNo) (o : Owner) (m : Headroom) : (s.allocate b o m).directories = s.directories := rfl
@[simp] theorem State.allocate_channels (s : State) (b : BridgeNo) (o : Owner) (m : Headroom) : (s.allocate b o m).channels = s.channels := rfl
@[simp] theorem State.allocate_selections (s : State) (b : BridgeNo) (o : Owner) (m : Headroom) : (s.allocate b o m).selections = s.selections := rfl
@[simp] theorem State.allocate_legs (s : State) (b : BridgeNo) (o : Owner) (m : Headroom) : (s.allocate b o m).legs = s.legs := rfl
@[simp] theorem State.allocate_slots (s : State) (b : BridgeNo) (o : Owner) (m : Headroom) : (s.allocate b o m).slots = s.slots := rfl
@[simp] theorem State.allocate_generators (s : State) (b : BridgeNo) (o : Owner) (m : Headroom) : (s.allocate b o m).generators = s.generators := rfl
@[simp] theorem State.allocate_timers (s : State) (b : BridgeNo) (o : Owner) (m : Headroom) : (s.allocate b o m).timers = s.timers := rfl
@[simp] theorem State.allocate_inFlight (s : State) (b : BridgeNo) (o : Owner) (m : Headroom) : (s.allocate b o m).inFlight = s.inFlight := rfl
@[simp] theorem State.allocate_reports (s : State) (b : BridgeNo) (o : Owner) (m : Headroom) : (s.allocate b o m).reports = s.reports := rfl
@[simp] theorem State.allocate_links (s : State) (b : BridgeNo) (o : Owner) (m : Headroom) : (s.allocate b o m).links = s.links := rfl
@[simp] theorem State.allocate_pointer (s : State) (b : BridgeNo) (o : Owner) (m : Headroom) : (s.allocate b o m).pointer = s.pointer := rfl
@[simp] theorem State.allocate_frameCount (s : State) (b : BridgeNo) (o : Owner) (m : Headroom) : (s.allocate b o m).frameCount = s.frameCount := rfl
@[simp] theorem State.allocate_mp (s : State) (b : BridgeNo) (o : Owner) (m : Headroom) : (s.allocate b o m).mp = s.mp := rfl
@[simp] theorem State.allocate_pending (s : State) (b : BridgeNo) (o : Owner) (m : Headroom) : (s.allocate b o m).pending = s.pending := rfl
@[simp] theorem State.line_allocate (s : State) (b : BridgeNo) (o : Owner) (m : Headroom) (l' : LineNo) : (s.allocate b o m).line l' = s.line l' := by
  simp only [State.line, State.allocate_lines]
@[simp] theorem State.channel_allocate (s : State) (b : BridgeNo) (o : Owner) (m : Headroom) (c' : ChanNo) : (s.allocate b o m).channel c' = s.channel c' := by
  simp only [State.channel, State.allocate_channels]
@[simp] theorem State.leg_allocate (s : State) (b : BridgeNo) (o : Owner) (m : Headroom) (g' : LegNo) : (s.allocate b o m).leg g' = s.leg g' := by
  simp only [State.leg, State.allocate_legs]
@[simp] theorem State.slot_allocate (s : State) (b : BridgeNo) (o : Owner) (m : Headroom) (sl' : SlotNo) : (s.allocate b o m).slot sl' = s.slot sl' := by
  simp only [State.slot, State.allocate_slots]
@[simp] theorem State.generator_allocate (s : State) (b : BridgeNo) (o : Owner) (m : Headroom) (n' : GenNo) : (s.allocate b o m).generator n' = s.generator n' := by
  simp only [State.generator, State.allocate_generators]
@[simp] theorem State.link_allocate (s : State) (b : BridgeNo) (o : Owner) (m : Headroom) (p' : Pos) : (s.allocate b o m).link p' = s.link p' := by
  simp only [State.link, State.allocate_links]
@[simp] theorem State.keyLine_allocate (s : State) (b : BridgeNo) (o : Owner) (m : Headroom) (p' : Pos) (k' : Key) : (s.allocate b o m).keyLine p' k' = s.keyLine p' k' := by
  simp only [State.keyLine, State.allocate_directories]
@[simp] theorem State.selection_allocate (s : State) (b : BridgeNo) (o : Owner) (m : Headroom) (p' : Pos) (u' : UnitNo) : (s.allocate b o m).selection p' u' = s.selection p' u' := by
  simp only [State.selection, State.allocate_selections]
@[simp] theorem State.timer_allocate (s : State) (b : BridgeNo) (o : Owner) (m : Headroom) (t' : TimerId) : (s.allocate b o m).timer t' = s.timer t' := by
  simp only [State.timer, State.allocate_timers]
@[simp] theorem State.resetting_allocate (s : State) (b : BridgeNo) (o : Owner) (m : Headroom) : (s.allocate b o m).resetting = s.resetting := by
  simp only [State.resetting, State.allocate_mp]

@[simp] theorem State.listen_lines (s : State) (b : BridgeNo) (g : LegNo) : (s.listen b g).lines = s.lines := by
  unfold State.listen; try dsimp only
  (repeat' split) <;> simp
@[simp] theorem State.listen_directories (s : State) (b : BridgeNo) (g : LegNo) : (s.listen b g).directories = s.directories := by
  unfold State.listen; try dsimp only
  (repeat' split) <;> simp
@[simp] theorem State.listen_channels (s : State) (b : BridgeNo) (g : LegNo) : (s.listen b g).channels = s.channels := by
  unfold State.listen; try dsimp only
  (repeat' split) <;> simp
@[simp] theorem State.listen_selections (s : State) (b : BridgeNo) (g : LegNo) : (s.listen b g).selections = s.selections := by
  unfold State.listen; try dsimp only
  (repeat' split) <;> simp
@[simp] theorem State.listen_slots (s : State) (b : BridgeNo) (g : LegNo) : (s.listen b g).slots = s.slots := by
  unfold State.listen; try dsimp only
  (repeat' split) <;> simp
@[simp] theorem State.listen_generators (s : State) (b : BridgeNo) (g : LegNo) : (s.listen b g).generators = s.generators := by
  unfold State.listen; try dsimp only
  (repeat' split) <;> simp
@[simp] theorem State.listen_timers (s : State) (b : BridgeNo) (g : LegNo) : (s.listen b g).timers = s.timers := by
  unfold State.listen; try dsimp only
  (repeat' split) <;> simp
@[simp] theorem State.listen_inFlight (s : State) (b : BridgeNo) (g : LegNo) : (s.listen b g).inFlight = s.inFlight := by
  unfold State.listen; try dsimp only
  (repeat' split) <;> simp
@[simp] theorem State.listen_reports (s : State) (b : BridgeNo) (g : LegNo) : (s.listen b g).reports = s.reports := by
  unfold State.listen; try dsimp only
  (repeat' split) <;> simp
@[simp] theorem State.listen_links (s : State) (b : BridgeNo) (g : LegNo) : (s.listen b g).links = s.links := by
  unfold State.listen; try dsimp only
  (repeat' split) <;> simp
@[simp] theorem State.listen_pointer (s : State) (b : BridgeNo) (g : LegNo) : (s.listen b g).pointer = s.pointer := by
  unfold State.listen; try dsimp only
  (repeat' split) <;> simp
@[simp] theorem State.listen_frameCount (s : State) (b : BridgeNo) (g : LegNo) : (s.listen b g).frameCount = s.frameCount := by
  unfold State.listen; try dsimp only
  (repeat' split) <;> simp
@[simp] theorem State.listen_mp (s : State) (b : BridgeNo) (g : LegNo) : (s.listen b g).mp = s.mp := by
  unfold State.listen; try dsimp only
  (repeat' split) <;> simp
@[simp] theorem State.listen_pending (s : State) (b : BridgeNo) (g : LegNo) : (s.listen b g).pending = s.pending := by
  unfold State.listen; try dsimp only
  (repeat' split) <;> simp
@[simp] theorem State.line_listen (s : State) (b : BridgeNo) (g : LegNo) (l' : LineNo) : (s.listen b g).line l' = s.line l' := by
  simp only [State.line, State.listen_lines]
@[simp] theorem State.channel_listen (s : State) (b : BridgeNo) (g : LegNo) (c' : ChanNo) : (s.listen b g).channel c' = s.channel c' := by
  simp only [State.channel, State.listen_channels]
@[simp] theorem State.slot_listen (s : State) (b : BridgeNo) (g : LegNo) (sl' : SlotNo) : (s.listen b g).slot sl' = s.slot sl' := by
  simp only [State.slot, State.listen_slots]
@[simp] theorem State.generator_listen (s : State) (b : BridgeNo) (g : LegNo) (n' : GenNo) : (s.listen b g).generator n' = s.generator n' := by
  simp only [State.generator, State.listen_generators]
@[simp] theorem State.link_listen (s : State) (b : BridgeNo) (g : LegNo) (p' : Pos) : (s.listen b g).link p' = s.link p' := by
  simp only [State.link, State.listen_links]
@[simp] theorem State.keyLine_listen (s : State) (b : BridgeNo) (g : LegNo) (p' : Pos) (k' : Key) : (s.listen b g).keyLine p' k' = s.keyLine p' k' := by
  simp only [State.keyLine, State.listen_directories]
@[simp] theorem State.selection_listen (s : State) (b : BridgeNo) (g : LegNo) (p' : Pos) (u' : UnitNo) : (s.listen b g).selection p' u' = s.selection p' u' := by
  simp only [State.selection, State.listen_selections]
@[simp] theorem State.timer_listen (s : State) (b : BridgeNo) (g : LegNo) (t' : TimerId) : (s.listen b g).timer t' = s.timer t' := by
  simp only [State.timer, State.listen_timers]
@[simp] theorem State.resetting_listen (s : State) (b : BridgeNo) (g : LegNo) : (s.listen b g).resetting = s.resetting := by
  simp only [State.resetting, State.listen_mp]

@[simp] theorem State.join_lines (s : State) (b : BridgeNo) (g : LegNo) : (s.join b g).lines = s.lines := by
  unfold State.join; try dsimp only
  (repeat' split) <;> simp
@[simp] theorem State.join_directories (s : State) (b : BridgeNo) (g : LegNo) : (s.join b g).directories = s.directories := by
  unfold State.join; try dsimp only
  (repeat' split) <;> simp
@[simp] theorem State.join_channels (s : State) (b : BridgeNo) (g : LegNo) : (s.join b g).channels = s.channels := by
  unfold State.join; try dsimp only
  (repeat' split) <;> simp
@[simp] theorem State.join_selections (s : State) (b : BridgeNo) (g : LegNo) : (s.join b g).selections = s.selections := by
  unfold State.join; try dsimp only
  (repeat' split) <;> simp
@[simp] theorem State.join_slots (s : State) (b : BridgeNo) (g : LegNo) : (s.join b g).slots = s.slots := by
  unfold State.join; try dsimp only
  (repeat' split) <;> simp
@[simp] theorem State.join_generators (s : State) (b : BridgeNo) (g : LegNo) : (s.join b g).generators = s.generators := by
  unfold State.join; try dsimp only
  (repeat' split) <;> simp
@[simp] theorem State.join_timers (s : State) (b : BridgeNo) (g : LegNo) : (s.join b g).timers = s.timers := by
  unfold State.join; try dsimp only
  (repeat' split) <;> simp
@[simp] theorem State.join_inFlight (s : State) (b : BridgeNo) (g : LegNo) : (s.join b g).inFlight = s.inFlight := by
  unfold State.join; try dsimp only
  (repeat' split) <;> simp
@[simp] theorem State.join_reports (s : State) (b : BridgeNo) (g : LegNo) : (s.join b g).reports = s.reports := by
  unfold State.join; try dsimp only
  (repeat' split) <;> simp
@[simp] theorem State.join_links (s : State) (b : BridgeNo) (g : LegNo) : (s.join b g).links = s.links := by
  unfold State.join; try dsimp only
  (repeat' split) <;> simp
@[simp] theorem State.join_pointer (s : State) (b : BridgeNo) (g : LegNo) : (s.join b g).pointer = s.pointer := by
  unfold State.join; try dsimp only
  (repeat' split) <;> simp
@[simp] theorem State.join_frameCount (s : State) (b : BridgeNo) (g : LegNo) : (s.join b g).frameCount = s.frameCount := by
  unfold State.join; try dsimp only
  (repeat' split) <;> simp
@[simp] theorem State.join_mp (s : State) (b : BridgeNo) (g : LegNo) : (s.join b g).mp = s.mp := by
  unfold State.join; try dsimp only
  (repeat' split) <;> simp
@[simp] theorem State.join_pending (s : State) (b : BridgeNo) (g : LegNo) : (s.join b g).pending = s.pending := by
  unfold State.join; try dsimp only
  (repeat' split) <;> simp
@[simp] theorem State.line_join (s : State) (b : BridgeNo) (g : LegNo) (l' : LineNo) : (s.join b g).line l' = s.line l' := by
  simp only [State.line, State.join_lines]
@[simp] theorem State.channel_join (s : State) (b : BridgeNo) (g : LegNo) (c' : ChanNo) : (s.join b g).channel c' = s.channel c' := by
  simp only [State.channel, State.join_channels]
@[simp] theorem State.slot_join (s : State) (b : BridgeNo) (g : LegNo) (sl' : SlotNo) : (s.join b g).slot sl' = s.slot sl' := by
  simp only [State.slot, State.join_slots]
@[simp] theorem State.generator_join (s : State) (b : BridgeNo) (g : LegNo) (n' : GenNo) : (s.join b g).generator n' = s.generator n' := by
  simp only [State.generator, State.join_generators]
@[simp] theorem State.link_join (s : State) (b : BridgeNo) (g : LegNo) (p' : Pos) : (s.join b g).link p' = s.link p' := by
  simp only [State.link, State.join_links]
@[simp] theorem State.keyLine_join (s : State) (b : BridgeNo) (g : LegNo) (p' : Pos) (k' : Key) : (s.join b g).keyLine p' k' = s.keyLine p' k' := by
  simp only [State.keyLine, State.join_directories]
@[simp] theorem State.selection_join (s : State) (b : BridgeNo) (g : LegNo) (p' : Pos) (u' : UnitNo) : (s.join b g).selection p' u' = s.selection p' u' := by
  simp only [State.selection, State.join_selections]
@[simp] theorem State.timer_join (s : State) (b : BridgeNo) (g : LegNo) (t' : TimerId) : (s.join b g).timer t' = s.timer t' := by
  simp only [State.timer, State.join_timers]
@[simp] theorem State.resetting_join (s : State) (b : BridgeNo) (g : LegNo) : (s.join b g).resetting = s.resetting := by
  simp only [State.resetting, State.join_mp]

@[simp] theorem State.speak_lines (s : State) (b : BridgeNo) (g : LegNo) : (s.speak b g).lines = s.lines := by
  unfold State.speak; try dsimp only
  (repeat' split) <;> simp
@[simp] theorem State.speak_directories (s : State) (b : BridgeNo) (g : LegNo) : (s.speak b g).directories = s.directories := by
  unfold State.speak; try dsimp only
  (repeat' split) <;> simp
@[simp] theorem State.speak_channels (s : State) (b : BridgeNo) (g : LegNo) : (s.speak b g).channels = s.channels := by
  unfold State.speak; try dsimp only
  (repeat' split) <;> simp
@[simp] theorem State.speak_selections (s : State) (b : BridgeNo) (g : LegNo) : (s.speak b g).selections = s.selections := by
  unfold State.speak; try dsimp only
  (repeat' split) <;> simp
@[simp] theorem State.speak_legs (s : State) (b : BridgeNo) (g : LegNo) : (s.speak b g).legs = s.legs := by
  unfold State.speak; try dsimp only
  (repeat' split) <;> simp
@[simp] theorem State.speak_slots (s : State) (b : BridgeNo) (g : LegNo) : (s.speak b g).slots = s.slots := by
  unfold State.speak; try dsimp only
  (repeat' split) <;> simp
@[simp] theorem State.speak_generators (s : State) (b : BridgeNo) (g : LegNo) : (s.speak b g).generators = s.generators := by
  unfold State.speak; try dsimp only
  (repeat' split) <;> simp
@[simp] theorem State.speak_timers (s : State) (b : BridgeNo) (g : LegNo) : (s.speak b g).timers = s.timers := by
  unfold State.speak; try dsimp only
  (repeat' split) <;> simp
@[simp] theorem State.speak_inFlight (s : State) (b : BridgeNo) (g : LegNo) : (s.speak b g).inFlight = s.inFlight := by
  unfold State.speak; try dsimp only
  (repeat' split) <;> simp
@[simp] theorem State.speak_reports (s : State) (b : BridgeNo) (g : LegNo) : (s.speak b g).reports = s.reports := by
  unfold State.speak; try dsimp only
  (repeat' split) <;> simp
@[simp] theorem State.speak_links (s : State) (b : BridgeNo) (g : LegNo) : (s.speak b g).links = s.links := by
  unfold State.speak; try dsimp only
  (repeat' split) <;> simp
@[simp] theorem State.speak_pointer (s : State) (b : BridgeNo) (g : LegNo) : (s.speak b g).pointer = s.pointer := by
  unfold State.speak; try dsimp only
  (repeat' split) <;> simp
@[simp] theorem State.speak_frameCount (s : State) (b : BridgeNo) (g : LegNo) : (s.speak b g).frameCount = s.frameCount := by
  unfold State.speak; try dsimp only
  (repeat' split) <;> simp
@[simp] theorem State.speak_mp (s : State) (b : BridgeNo) (g : LegNo) : (s.speak b g).mp = s.mp := by
  unfold State.speak; try dsimp only
  (repeat' split) <;> simp
@[simp] theorem State.speak_pending (s : State) (b : BridgeNo) (g : LegNo) : (s.speak b g).pending = s.pending := by
  unfold State.speak; try dsimp only
  (repeat' split) <;> simp
@[simp] theorem State.line_speak (s : State) (b : BridgeNo) (g : LegNo) (l' : LineNo) : (s.speak b g).line l' = s.line l' := by
  simp only [State.line, State.speak_lines]
@[simp] theorem State.channel_speak (s : State) (b : BridgeNo) (g : LegNo) (c' : ChanNo) : (s.speak b g).channel c' = s.channel c' := by
  simp only [State.channel, State.speak_channels]
@[simp] theorem State.leg_speak (s : State) (b : BridgeNo) (g : LegNo) (g' : LegNo) : (s.speak b g).leg g' = s.leg g' := by
  simp only [State.leg, State.speak_legs]
@[simp] theorem State.slot_speak (s : State) (b : BridgeNo) (g : LegNo) (sl' : SlotNo) : (s.speak b g).slot sl' = s.slot sl' := by
  simp only [State.slot, State.speak_slots]
@[simp] theorem State.generator_speak (s : State) (b : BridgeNo) (g : LegNo) (n' : GenNo) : (s.speak b g).generator n' = s.generator n' := by
  simp only [State.generator, State.speak_generators]
@[simp] theorem State.link_speak (s : State) (b : BridgeNo) (g : LegNo) (p' : Pos) : (s.speak b g).link p' = s.link p' := by
  simp only [State.link, State.speak_links]
@[simp] theorem State.keyLine_speak (s : State) (b : BridgeNo) (g : LegNo) (p' : Pos) (k' : Key) : (s.speak b g).keyLine p' k' = s.keyLine p' k' := by
  simp only [State.keyLine, State.speak_directories]
@[simp] theorem State.selection_speak (s : State) (b : BridgeNo) (g : LegNo) (p' : Pos) (u' : UnitNo) : (s.speak b g).selection p' u' = s.selection p' u' := by
  simp only [State.selection, State.speak_selections]
@[simp] theorem State.timer_speak (s : State) (b : BridgeNo) (g : LegNo) (t' : TimerId) : (s.speak b g).timer t' = s.timer t' := by
  simp only [State.timer, State.speak_timers]
@[simp] theorem State.resetting_speak (s : State) (b : BridgeNo) (g : LegNo) : (s.speak b g).resetting = s.resetting := by
  simp only [State.resetting, State.speak_mp]

@[simp] theorem State.leave_lines (s : State) (b : BridgeNo) (g : LegNo) : (s.leave b g).lines = s.lines := by
  unfold State.leave; try dsimp only
  (repeat' split) <;> simp
@[simp] theorem State.leave_directories (s : State) (b : BridgeNo) (g : LegNo) : (s.leave b g).directories = s.directories := by
  unfold State.leave; try dsimp only
  (repeat' split) <;> simp
@[simp] theorem State.leave_channels (s : State) (b : BridgeNo) (g : LegNo) : (s.leave b g).channels = s.channels := by
  unfold State.leave; try dsimp only
  (repeat' split) <;> simp
@[simp] theorem State.leave_selections (s : State) (b : BridgeNo) (g : LegNo) : (s.leave b g).selections = s.selections := by
  unfold State.leave; try dsimp only
  (repeat' split) <;> simp
@[simp] theorem State.leave_slots (s : State) (b : BridgeNo) (g : LegNo) : (s.leave b g).slots = s.slots := by
  unfold State.leave; try dsimp only
  (repeat' split) <;> simp
@[simp] theorem State.leave_generators (s : State) (b : BridgeNo) (g : LegNo) : (s.leave b g).generators = s.generators := by
  unfold State.leave; try dsimp only
  (repeat' split) <;> simp
@[simp] theorem State.leave_timers (s : State) (b : BridgeNo) (g : LegNo) : (s.leave b g).timers = s.timers := by
  unfold State.leave; try dsimp only
  (repeat' split) <;> simp
@[simp] theorem State.leave_inFlight (s : State) (b : BridgeNo) (g : LegNo) : (s.leave b g).inFlight = s.inFlight := by
  unfold State.leave; try dsimp only
  (repeat' split) <;> simp
@[simp] theorem State.leave_reports (s : State) (b : BridgeNo) (g : LegNo) : (s.leave b g).reports = s.reports := by
  unfold State.leave; try dsimp only
  (repeat' split) <;> simp
@[simp] theorem State.leave_links (s : State) (b : BridgeNo) (g : LegNo) : (s.leave b g).links = s.links := by
  unfold State.leave; try dsimp only
  (repeat' split) <;> simp
@[simp] theorem State.leave_pointer (s : State) (b : BridgeNo) (g : LegNo) : (s.leave b g).pointer = s.pointer := by
  unfold State.leave; try dsimp only
  (repeat' split) <;> simp
@[simp] theorem State.leave_frameCount (s : State) (b : BridgeNo) (g : LegNo) : (s.leave b g).frameCount = s.frameCount := by
  unfold State.leave; try dsimp only
  (repeat' split) <;> simp
@[simp] theorem State.leave_mp (s : State) (b : BridgeNo) (g : LegNo) : (s.leave b g).mp = s.mp := by
  unfold State.leave; try dsimp only
  (repeat' split) <;> simp
@[simp] theorem State.leave_pending (s : State) (b : BridgeNo) (g : LegNo) : (s.leave b g).pending = s.pending := by
  unfold State.leave; try dsimp only
  (repeat' split) <;> simp
@[simp] theorem State.line_leave (s : State) (b : BridgeNo) (g : LegNo) (l' : LineNo) : (s.leave b g).line l' = s.line l' := by
  simp only [State.line, State.leave_lines]
@[simp] theorem State.channel_leave (s : State) (b : BridgeNo) (g : LegNo) (c' : ChanNo) : (s.leave b g).channel c' = s.channel c' := by
  simp only [State.channel, State.leave_channels]
@[simp] theorem State.slot_leave (s : State) (b : BridgeNo) (g : LegNo) (sl' : SlotNo) : (s.leave b g).slot sl' = s.slot sl' := by
  simp only [State.slot, State.leave_slots]
@[simp] theorem State.generator_leave (s : State) (b : BridgeNo) (g : LegNo) (n' : GenNo) : (s.leave b g).generator n' = s.generator n' := by
  simp only [State.generator, State.leave_generators]
@[simp] theorem State.link_leave (s : State) (b : BridgeNo) (g : LegNo) (p' : Pos) : (s.leave b g).link p' = s.link p' := by
  simp only [State.link, State.leave_links]
@[simp] theorem State.keyLine_leave (s : State) (b : BridgeNo) (g : LegNo) (p' : Pos) (k' : Key) : (s.leave b g).keyLine p' k' = s.keyLine p' k' := by
  simp only [State.keyLine, State.leave_directories]
@[simp] theorem State.selection_leave (s : State) (b : BridgeNo) (g : LegNo) (p' : Pos) (u' : UnitNo) : (s.leave b g).selection p' u' = s.selection p' u' := by
  simp only [State.selection, State.leave_selections]
@[simp] theorem State.timer_leave (s : State) (b : BridgeNo) (g : LegNo) (t' : TimerId) : (s.leave b g).timer t' = s.timer t' := by
  simp only [State.timer, State.leave_timers]
@[simp] theorem State.resetting_leave (s : State) (b : BridgeNo) (g : LegNo) : (s.leave b g).resetting = s.resetting := by
  simp only [State.resetting, State.leave_mp]

@[simp] theorem State.leaveOwn_lines (s : State) (b : Option BridgeNo) (g : LegNo) : (s.leaveOwn b g).lines = s.lines := by
  unfold State.leaveOwn; try dsimp only
  (repeat' split) <;> simp
@[simp] theorem State.leaveOwn_directories (s : State) (b : Option BridgeNo) (g : LegNo) : (s.leaveOwn b g).directories = s.directories := by
  unfold State.leaveOwn; try dsimp only
  (repeat' split) <;> simp
@[simp] theorem State.leaveOwn_channels (s : State) (b : Option BridgeNo) (g : LegNo) : (s.leaveOwn b g).channels = s.channels := by
  unfold State.leaveOwn; try dsimp only
  (repeat' split) <;> simp
@[simp] theorem State.leaveOwn_selections (s : State) (b : Option BridgeNo) (g : LegNo) : (s.leaveOwn b g).selections = s.selections := by
  unfold State.leaveOwn; try dsimp only
  (repeat' split) <;> simp
@[simp] theorem State.leaveOwn_slots (s : State) (b : Option BridgeNo) (g : LegNo) : (s.leaveOwn b g).slots = s.slots := by
  unfold State.leaveOwn; try dsimp only
  (repeat' split) <;> simp
@[simp] theorem State.leaveOwn_generators (s : State) (b : Option BridgeNo) (g : LegNo) : (s.leaveOwn b g).generators = s.generators := by
  unfold State.leaveOwn; try dsimp only
  (repeat' split) <;> simp
@[simp] theorem State.leaveOwn_timers (s : State) (b : Option BridgeNo) (g : LegNo) : (s.leaveOwn b g).timers = s.timers := by
  unfold State.leaveOwn; try dsimp only
  (repeat' split) <;> simp
@[simp] theorem State.leaveOwn_inFlight (s : State) (b : Option BridgeNo) (g : LegNo) : (s.leaveOwn b g).inFlight = s.inFlight := by
  unfold State.leaveOwn; try dsimp only
  (repeat' split) <;> simp
@[simp] theorem State.leaveOwn_reports (s : State) (b : Option BridgeNo) (g : LegNo) : (s.leaveOwn b g).reports = s.reports := by
  unfold State.leaveOwn; try dsimp only
  (repeat' split) <;> simp
@[simp] theorem State.leaveOwn_links (s : State) (b : Option BridgeNo) (g : LegNo) : (s.leaveOwn b g).links = s.links := by
  unfold State.leaveOwn; try dsimp only
  (repeat' split) <;> simp
@[simp] theorem State.leaveOwn_pointer (s : State) (b : Option BridgeNo) (g : LegNo) : (s.leaveOwn b g).pointer = s.pointer := by
  unfold State.leaveOwn; try dsimp only
  (repeat' split) <;> simp
@[simp] theorem State.leaveOwn_frameCount (s : State) (b : Option BridgeNo) (g : LegNo) : (s.leaveOwn b g).frameCount = s.frameCount := by
  unfold State.leaveOwn; try dsimp only
  (repeat' split) <;> simp
@[simp] theorem State.leaveOwn_mp (s : State) (b : Option BridgeNo) (g : LegNo) : (s.leaveOwn b g).mp = s.mp := by
  unfold State.leaveOwn; try dsimp only
  (repeat' split) <;> simp
@[simp] theorem State.leaveOwn_pending (s : State) (b : Option BridgeNo) (g : LegNo) : (s.leaveOwn b g).pending = s.pending := by
  unfold State.leaveOwn; try dsimp only
  (repeat' split) <;> simp
@[simp] theorem State.line_leaveOwn (s : State) (b : Option BridgeNo) (g : LegNo) (l' : LineNo) : (s.leaveOwn b g).line l' = s.line l' := by
  simp only [State.line, State.leaveOwn_lines]
@[simp] theorem State.channel_leaveOwn (s : State) (b : Option BridgeNo) (g : LegNo) (c' : ChanNo) : (s.leaveOwn b g).channel c' = s.channel c' := by
  simp only [State.channel, State.leaveOwn_channels]
@[simp] theorem State.slot_leaveOwn (s : State) (b : Option BridgeNo) (g : LegNo) (sl' : SlotNo) : (s.leaveOwn b g).slot sl' = s.slot sl' := by
  simp only [State.slot, State.leaveOwn_slots]
@[simp] theorem State.generator_leaveOwn (s : State) (b : Option BridgeNo) (g : LegNo) (n' : GenNo) : (s.leaveOwn b g).generator n' = s.generator n' := by
  simp only [State.generator, State.leaveOwn_generators]
@[simp] theorem State.link_leaveOwn (s : State) (b : Option BridgeNo) (g : LegNo) (p' : Pos) : (s.leaveOwn b g).link p' = s.link p' := by
  simp only [State.link, State.leaveOwn_links]
@[simp] theorem State.keyLine_leaveOwn (s : State) (b : Option BridgeNo) (g : LegNo) (p' : Pos) (k' : Key) : (s.leaveOwn b g).keyLine p' k' = s.keyLine p' k' := by
  simp only [State.keyLine, State.leaveOwn_directories]
@[simp] theorem State.selection_leaveOwn (s : State) (b : Option BridgeNo) (g : LegNo) (p' : Pos) (u' : UnitNo) : (s.leaveOwn b g).selection p' u' = s.selection p' u' := by
  simp only [State.selection, State.leaveOwn_selections]
@[simp] theorem State.timer_leaveOwn (s : State) (b : Option BridgeNo) (g : LegNo) (t' : TimerId) : (s.leaveOwn b g).timer t' = s.timer t' := by
  simp only [State.timer, State.leaveOwn_timers]
@[simp] theorem State.resetting_leaveOwn (s : State) (b : Option BridgeNo) (g : LegNo) : (s.leaveOwn b g).resetting = s.resetting := by
  simp only [State.resetting, State.leaveOwn_mp]

@[simp] theorem State.joinOwn_lines (s : State) (b : Option BridgeNo) (g : LegNo) : (s.joinOwn b g).lines = s.lines := by
  unfold State.joinOwn; try dsimp only
  (repeat' split) <;> simp
@[simp] theorem State.joinOwn_directories (s : State) (b : Option BridgeNo) (g : LegNo) : (s.joinOwn b g).directories = s.directories := by
  unfold State.joinOwn; try dsimp only
  (repeat' split) <;> simp
@[simp] theorem State.joinOwn_channels (s : State) (b : Option BridgeNo) (g : LegNo) : (s.joinOwn b g).channels = s.channels := by
  unfold State.joinOwn; try dsimp only
  (repeat' split) <;> simp
@[simp] theorem State.joinOwn_selections (s : State) (b : Option BridgeNo) (g : LegNo) : (s.joinOwn b g).selections = s.selections := by
  unfold State.joinOwn; try dsimp only
  (repeat' split) <;> simp
@[simp] theorem State.joinOwn_slots (s : State) (b : Option BridgeNo) (g : LegNo) : (s.joinOwn b g).slots = s.slots := by
  unfold State.joinOwn; try dsimp only
  (repeat' split) <;> simp
@[simp] theorem State.joinOwn_generators (s : State) (b : Option BridgeNo) (g : LegNo) : (s.joinOwn b g).generators = s.generators := by
  unfold State.joinOwn; try dsimp only
  (repeat' split) <;> simp
@[simp] theorem State.joinOwn_timers (s : State) (b : Option BridgeNo) (g : LegNo) : (s.joinOwn b g).timers = s.timers := by
  unfold State.joinOwn; try dsimp only
  (repeat' split) <;> simp
@[simp] theorem State.joinOwn_inFlight (s : State) (b : Option BridgeNo) (g : LegNo) : (s.joinOwn b g).inFlight = s.inFlight := by
  unfold State.joinOwn; try dsimp only
  (repeat' split) <;> simp
@[simp] theorem State.joinOwn_reports (s : State) (b : Option BridgeNo) (g : LegNo) : (s.joinOwn b g).reports = s.reports := by
  unfold State.joinOwn; try dsimp only
  (repeat' split) <;> simp
@[simp] theorem State.joinOwn_links (s : State) (b : Option BridgeNo) (g : LegNo) : (s.joinOwn b g).links = s.links := by
  unfold State.joinOwn; try dsimp only
  (repeat' split) <;> simp
@[simp] theorem State.joinOwn_pointer (s : State) (b : Option BridgeNo) (g : LegNo) : (s.joinOwn b g).pointer = s.pointer := by
  unfold State.joinOwn; try dsimp only
  (repeat' split) <;> simp
@[simp] theorem State.joinOwn_frameCount (s : State) (b : Option BridgeNo) (g : LegNo) : (s.joinOwn b g).frameCount = s.frameCount := by
  unfold State.joinOwn; try dsimp only
  (repeat' split) <;> simp
@[simp] theorem State.joinOwn_mp (s : State) (b : Option BridgeNo) (g : LegNo) : (s.joinOwn b g).mp = s.mp := by
  unfold State.joinOwn; try dsimp only
  (repeat' split) <;> simp
@[simp] theorem State.joinOwn_pending (s : State) (b : Option BridgeNo) (g : LegNo) : (s.joinOwn b g).pending = s.pending := by
  unfold State.joinOwn; try dsimp only
  (repeat' split) <;> simp
@[simp] theorem State.line_joinOwn (s : State) (b : Option BridgeNo) (g : LegNo) (l' : LineNo) : (s.joinOwn b g).line l' = s.line l' := by
  simp only [State.line, State.joinOwn_lines]
@[simp] theorem State.channel_joinOwn (s : State) (b : Option BridgeNo) (g : LegNo) (c' : ChanNo) : (s.joinOwn b g).channel c' = s.channel c' := by
  simp only [State.channel, State.joinOwn_channels]
@[simp] theorem State.slot_joinOwn (s : State) (b : Option BridgeNo) (g : LegNo) (sl' : SlotNo) : (s.joinOwn b g).slot sl' = s.slot sl' := by
  simp only [State.slot, State.joinOwn_slots]
@[simp] theorem State.generator_joinOwn (s : State) (b : Option BridgeNo) (g : LegNo) (n' : GenNo) : (s.joinOwn b g).generator n' = s.generator n' := by
  simp only [State.generator, State.joinOwn_generators]
@[simp] theorem State.link_joinOwn (s : State) (b : Option BridgeNo) (g : LegNo) (p' : Pos) : (s.joinOwn b g).link p' = s.link p' := by
  simp only [State.link, State.joinOwn_links]
@[simp] theorem State.keyLine_joinOwn (s : State) (b : Option BridgeNo) (g : LegNo) (p' : Pos) (k' : Key) : (s.joinOwn b g).keyLine p' k' = s.keyLine p' k' := by
  simp only [State.keyLine, State.joinOwn_directories]
@[simp] theorem State.selection_joinOwn (s : State) (b : Option BridgeNo) (g : LegNo) (p' : Pos) (u' : UnitNo) : (s.joinOwn b g).selection p' u' = s.selection p' u' := by
  simp only [State.selection, State.joinOwn_selections]
@[simp] theorem State.timer_joinOwn (s : State) (b : Option BridgeNo) (g : LegNo) (t' : TimerId) : (s.joinOwn b g).timer t' = s.timer t' := by
  simp only [State.timer, State.joinOwn_timers]
@[simp] theorem State.resetting_joinOwn (s : State) (b : Option BridgeNo) (g : LegNo) : (s.joinOwn b g).resetting = s.resetting := by
  simp only [State.resetting, State.joinOwn_mp]

@[simp] theorem State.joinTrunk_lines (s : State) (b : Option BridgeNo) (sl : Option SlotNo) : (s.joinTrunk b sl).lines = s.lines := by
  unfold State.joinTrunk; try dsimp only
  (repeat' split) <;> simp
@[simp] theorem State.joinTrunk_directories (s : State) (b : Option BridgeNo) (sl : Option SlotNo) : (s.joinTrunk b sl).directories = s.directories := by
  unfold State.joinTrunk; try dsimp only
  (repeat' split) <;> simp
@[simp] theorem State.joinTrunk_channels (s : State) (b : Option BridgeNo) (sl : Option SlotNo) : (s.joinTrunk b sl).channels = s.channels := by
  unfold State.joinTrunk; try dsimp only
  (repeat' split) <;> simp
@[simp] theorem State.joinTrunk_selections (s : State) (b : Option BridgeNo) (sl : Option SlotNo) : (s.joinTrunk b sl).selections = s.selections := by
  unfold State.joinTrunk; try dsimp only
  (repeat' split) <;> simp
@[simp] theorem State.joinTrunk_slots (s : State) (b : Option BridgeNo) (sl : Option SlotNo) : (s.joinTrunk b sl).slots = s.slots := by
  unfold State.joinTrunk; try dsimp only
  (repeat' split) <;> simp
@[simp] theorem State.joinTrunk_generators (s : State) (b : Option BridgeNo) (sl : Option SlotNo) : (s.joinTrunk b sl).generators = s.generators := by
  unfold State.joinTrunk; try dsimp only
  (repeat' split) <;> simp
@[simp] theorem State.joinTrunk_timers (s : State) (b : Option BridgeNo) (sl : Option SlotNo) : (s.joinTrunk b sl).timers = s.timers := by
  unfold State.joinTrunk; try dsimp only
  (repeat' split) <;> simp
@[simp] theorem State.joinTrunk_inFlight (s : State) (b : Option BridgeNo) (sl : Option SlotNo) : (s.joinTrunk b sl).inFlight = s.inFlight := by
  unfold State.joinTrunk; try dsimp only
  (repeat' split) <;> simp
@[simp] theorem State.joinTrunk_reports (s : State) (b : Option BridgeNo) (sl : Option SlotNo) : (s.joinTrunk b sl).reports = s.reports := by
  unfold State.joinTrunk; try dsimp only
  (repeat' split) <;> simp
@[simp] theorem State.joinTrunk_links (s : State) (b : Option BridgeNo) (sl : Option SlotNo) : (s.joinTrunk b sl).links = s.links := by
  unfold State.joinTrunk; try dsimp only
  (repeat' split) <;> simp
@[simp] theorem State.joinTrunk_pointer (s : State) (b : Option BridgeNo) (sl : Option SlotNo) : (s.joinTrunk b sl).pointer = s.pointer := by
  unfold State.joinTrunk; try dsimp only
  (repeat' split) <;> simp
@[simp] theorem State.joinTrunk_frameCount (s : State) (b : Option BridgeNo) (sl : Option SlotNo) : (s.joinTrunk b sl).frameCount = s.frameCount := by
  unfold State.joinTrunk; try dsimp only
  (repeat' split) <;> simp
@[simp] theorem State.joinTrunk_mp (s : State) (b : Option BridgeNo) (sl : Option SlotNo) : (s.joinTrunk b sl).mp = s.mp := by
  unfold State.joinTrunk; try dsimp only
  (repeat' split) <;> simp
@[simp] theorem State.joinTrunk_pending (s : State) (b : Option BridgeNo) (sl : Option SlotNo) : (s.joinTrunk b sl).pending = s.pending := by
  unfold State.joinTrunk; try dsimp only
  (repeat' split) <;> simp
@[simp] theorem State.line_joinTrunk (s : State) (b : Option BridgeNo) (sl : Option SlotNo) (l' : LineNo) : (s.joinTrunk b sl).line l' = s.line l' := by
  simp only [State.line, State.joinTrunk_lines]
@[simp] theorem State.channel_joinTrunk (s : State) (b : Option BridgeNo) (sl : Option SlotNo) (c' : ChanNo) : (s.joinTrunk b sl).channel c' = s.channel c' := by
  simp only [State.channel, State.joinTrunk_channels]
@[simp] theorem State.slot_joinTrunk (s : State) (b : Option BridgeNo) (sl : Option SlotNo) (sl' : SlotNo) : (s.joinTrunk b sl).slot sl' = s.slot sl' := by
  simp only [State.slot, State.joinTrunk_slots]
@[simp] theorem State.generator_joinTrunk (s : State) (b : Option BridgeNo) (sl : Option SlotNo) (n' : GenNo) : (s.joinTrunk b sl).generator n' = s.generator n' := by
  simp only [State.generator, State.joinTrunk_generators]
@[simp] theorem State.link_joinTrunk (s : State) (b : Option BridgeNo) (sl : Option SlotNo) (p' : Pos) : (s.joinTrunk b sl).link p' = s.link p' := by
  simp only [State.link, State.joinTrunk_links]
@[simp] theorem State.keyLine_joinTrunk (s : State) (b : Option BridgeNo) (sl : Option SlotNo) (p' : Pos) (k' : Key) : (s.joinTrunk b sl).keyLine p' k' = s.keyLine p' k' := by
  simp only [State.keyLine, State.joinTrunk_directories]
@[simp] theorem State.selection_joinTrunk (s : State) (b : Option BridgeNo) (sl : Option SlotNo) (p' : Pos) (u' : UnitNo) : (s.joinTrunk b sl).selection p' u' = s.selection p' u' := by
  simp only [State.selection, State.joinTrunk_selections]
@[simp] theorem State.timer_joinTrunk (s : State) (b : Option BridgeNo) (sl : Option SlotNo) (t' : TimerId) : (s.joinTrunk b sl).timer t' = s.timer t' := by
  simp only [State.timer, State.joinTrunk_timers]
@[simp] theorem State.resetting_joinTrunk (s : State) (b : Option BridgeNo) (sl : Option SlotNo) : (s.joinTrunk b sl).resetting = s.resetting := by
  simp only [State.resetting, State.joinTrunk_mp]

@[simp] theorem State.leaveTrunk_lines (s : State) (b : Option BridgeNo) (sl : Option SlotNo) : (s.leaveTrunk b sl).lines = s.lines := by
  unfold State.leaveTrunk; try dsimp only
  (repeat' split) <;> simp
@[simp] theorem State.leaveTrunk_directories (s : State) (b : Option BridgeNo) (sl : Option SlotNo) : (s.leaveTrunk b sl).directories = s.directories := by
  unfold State.leaveTrunk; try dsimp only
  (repeat' split) <;> simp
@[simp] theorem State.leaveTrunk_channels (s : State) (b : Option BridgeNo) (sl : Option SlotNo) : (s.leaveTrunk b sl).channels = s.channels := by
  unfold State.leaveTrunk; try dsimp only
  (repeat' split) <;> simp
@[simp] theorem State.leaveTrunk_selections (s : State) (b : Option BridgeNo) (sl : Option SlotNo) : (s.leaveTrunk b sl).selections = s.selections := by
  unfold State.leaveTrunk; try dsimp only
  (repeat' split) <;> simp
@[simp] theorem State.leaveTrunk_slots (s : State) (b : Option BridgeNo) (sl : Option SlotNo) : (s.leaveTrunk b sl).slots = s.slots := by
  unfold State.leaveTrunk; try dsimp only
  (repeat' split) <;> simp
@[simp] theorem State.leaveTrunk_generators (s : State) (b : Option BridgeNo) (sl : Option SlotNo) : (s.leaveTrunk b sl).generators = s.generators := by
  unfold State.leaveTrunk; try dsimp only
  (repeat' split) <;> simp
@[simp] theorem State.leaveTrunk_timers (s : State) (b : Option BridgeNo) (sl : Option SlotNo) : (s.leaveTrunk b sl).timers = s.timers := by
  unfold State.leaveTrunk; try dsimp only
  (repeat' split) <;> simp
@[simp] theorem State.leaveTrunk_inFlight (s : State) (b : Option BridgeNo) (sl : Option SlotNo) : (s.leaveTrunk b sl).inFlight = s.inFlight := by
  unfold State.leaveTrunk; try dsimp only
  (repeat' split) <;> simp
@[simp] theorem State.leaveTrunk_reports (s : State) (b : Option BridgeNo) (sl : Option SlotNo) : (s.leaveTrunk b sl).reports = s.reports := by
  unfold State.leaveTrunk; try dsimp only
  (repeat' split) <;> simp
@[simp] theorem State.leaveTrunk_links (s : State) (b : Option BridgeNo) (sl : Option SlotNo) : (s.leaveTrunk b sl).links = s.links := by
  unfold State.leaveTrunk; try dsimp only
  (repeat' split) <;> simp
@[simp] theorem State.leaveTrunk_pointer (s : State) (b : Option BridgeNo) (sl : Option SlotNo) : (s.leaveTrunk b sl).pointer = s.pointer := by
  unfold State.leaveTrunk; try dsimp only
  (repeat' split) <;> simp
@[simp] theorem State.leaveTrunk_frameCount (s : State) (b : Option BridgeNo) (sl : Option SlotNo) : (s.leaveTrunk b sl).frameCount = s.frameCount := by
  unfold State.leaveTrunk; try dsimp only
  (repeat' split) <;> simp
@[simp] theorem State.leaveTrunk_mp (s : State) (b : Option BridgeNo) (sl : Option SlotNo) : (s.leaveTrunk b sl).mp = s.mp := by
  unfold State.leaveTrunk; try dsimp only
  (repeat' split) <;> simp
@[simp] theorem State.leaveTrunk_pending (s : State) (b : Option BridgeNo) (sl : Option SlotNo) : (s.leaveTrunk b sl).pending = s.pending := by
  unfold State.leaveTrunk; try dsimp only
  (repeat' split) <;> simp
@[simp] theorem State.line_leaveTrunk (s : State) (b : Option BridgeNo) (sl : Option SlotNo) (l' : LineNo) : (s.leaveTrunk b sl).line l' = s.line l' := by
  simp only [State.line, State.leaveTrunk_lines]
@[simp] theorem State.channel_leaveTrunk (s : State) (b : Option BridgeNo) (sl : Option SlotNo) (c' : ChanNo) : (s.leaveTrunk b sl).channel c' = s.channel c' := by
  simp only [State.channel, State.leaveTrunk_channels]
@[simp] theorem State.slot_leaveTrunk (s : State) (b : Option BridgeNo) (sl : Option SlotNo) (sl' : SlotNo) : (s.leaveTrunk b sl).slot sl' = s.slot sl' := by
  simp only [State.slot, State.leaveTrunk_slots]
@[simp] theorem State.generator_leaveTrunk (s : State) (b : Option BridgeNo) (sl : Option SlotNo) (n' : GenNo) : (s.leaveTrunk b sl).generator n' = s.generator n' := by
  simp only [State.generator, State.leaveTrunk_generators]
@[simp] theorem State.link_leaveTrunk (s : State) (b : Option BridgeNo) (sl : Option SlotNo) (p' : Pos) : (s.leaveTrunk b sl).link p' = s.link p' := by
  simp only [State.link, State.leaveTrunk_links]
@[simp] theorem State.keyLine_leaveTrunk (s : State) (b : Option BridgeNo) (sl : Option SlotNo) (p' : Pos) (k' : Key) : (s.leaveTrunk b sl).keyLine p' k' = s.keyLine p' k' := by
  simp only [State.keyLine, State.leaveTrunk_directories]
@[simp] theorem State.selection_leaveTrunk (s : State) (b : Option BridgeNo) (sl : Option SlotNo) (p' : Pos) (u' : UnitNo) : (s.leaveTrunk b sl).selection p' u' = s.selection p' u' := by
  simp only [State.selection, State.leaveTrunk_selections]
@[simp] theorem State.timer_leaveTrunk (s : State) (b : Option BridgeNo) (sl : Option SlotNo) (t' : TimerId) : (s.leaveTrunk b sl).timer t' = s.timer t' := by
  simp only [State.timer, State.leaveTrunk_timers]
@[simp] theorem State.resetting_leaveTrunk (s : State) (b : Option BridgeNo) (sl : Option SlotNo) : (s.leaveTrunk b sl).resetting = s.resetting := by
  simp only [State.resetting, State.leaveTrunk_mp]

@[simp] theorem State.freeBridge_lines (s : State) (b : BridgeNo) : (s.freeBridge b).lines = s.lines := rfl
@[simp] theorem State.freeBridge_directories (s : State) (b : BridgeNo) : (s.freeBridge b).directories = s.directories := rfl
@[simp] theorem State.freeBridge_channels (s : State) (b : BridgeNo) : (s.freeBridge b).channels = s.channels := rfl
@[simp] theorem State.freeBridge_selections (s : State) (b : BridgeNo) : (s.freeBridge b).selections = s.selections := rfl
@[simp] theorem State.freeBridge_slots (s : State) (b : BridgeNo) : (s.freeBridge b).slots = s.slots := rfl
@[simp] theorem State.freeBridge_generators (s : State) (b : BridgeNo) : (s.freeBridge b).generators = s.generators := rfl
@[simp] theorem State.freeBridge_timers (s : State) (b : BridgeNo) : (s.freeBridge b).timers = s.timers := rfl
@[simp] theorem State.freeBridge_inFlight (s : State) (b : BridgeNo) : (s.freeBridge b).inFlight = s.inFlight := rfl
@[simp] theorem State.freeBridge_reports (s : State) (b : BridgeNo) : (s.freeBridge b).reports = s.reports := rfl
@[simp] theorem State.freeBridge_links (s : State) (b : BridgeNo) : (s.freeBridge b).links = s.links := rfl
@[simp] theorem State.freeBridge_pointer (s : State) (b : BridgeNo) : (s.freeBridge b).pointer = s.pointer := rfl
@[simp] theorem State.freeBridge_frameCount (s : State) (b : BridgeNo) : (s.freeBridge b).frameCount = s.frameCount := rfl
@[simp] theorem State.freeBridge_mp (s : State) (b : BridgeNo) : (s.freeBridge b).mp = s.mp := rfl
@[simp] theorem State.freeBridge_pending (s : State) (b : BridgeNo) : (s.freeBridge b).pending = s.pending := rfl
@[simp] theorem State.line_freeBridge (s : State) (b : BridgeNo) (l' : LineNo) : (s.freeBridge b).line l' = s.line l' := by
  simp only [State.line, State.freeBridge_lines]
@[simp] theorem State.channel_freeBridge (s : State) (b : BridgeNo) (c' : ChanNo) : (s.freeBridge b).channel c' = s.channel c' := by
  simp only [State.channel, State.freeBridge_channels]
@[simp] theorem State.slot_freeBridge (s : State) (b : BridgeNo) (sl' : SlotNo) : (s.freeBridge b).slot sl' = s.slot sl' := by
  simp only [State.slot, State.freeBridge_slots]
@[simp] theorem State.generator_freeBridge (s : State) (b : BridgeNo) (n' : GenNo) : (s.freeBridge b).generator n' = s.generator n' := by
  simp only [State.generator, State.freeBridge_generators]
@[simp] theorem State.link_freeBridge (s : State) (b : BridgeNo) (p' : Pos) : (s.freeBridge b).link p' = s.link p' := by
  simp only [State.link, State.freeBridge_links]
@[simp] theorem State.keyLine_freeBridge (s : State) (b : BridgeNo) (p' : Pos) (k' : Key) : (s.freeBridge b).keyLine p' k' = s.keyLine p' k' := by
  simp only [State.keyLine, State.freeBridge_directories]
@[simp] theorem State.selection_freeBridge (s : State) (b : BridgeNo) (p' : Pos) (u' : UnitNo) : (s.freeBridge b).selection p' u' = s.selection p' u' := by
  simp only [State.selection, State.freeBridge_selections]
@[simp] theorem State.timer_freeBridge (s : State) (b : BridgeNo) (t' : TimerId) : (s.freeBridge b).timer t' = s.timer t' := by
  simp only [State.timer, State.freeBridge_timers]
@[simp] theorem State.resetting_freeBridge (s : State) (b : BridgeNo) : (s.freeBridge b).resetting = s.resetting := by
  simp only [State.resetting, State.freeBridge_mp]

@[simp] theorem State.freeOwn_lines (s : State) (b : Option BridgeNo) : (s.freeOwn b).lines = s.lines := by
  unfold State.freeOwn; try dsimp only
  (repeat' split) <;> simp
@[simp] theorem State.freeOwn_directories (s : State) (b : Option BridgeNo) : (s.freeOwn b).directories = s.directories := by
  unfold State.freeOwn; try dsimp only
  (repeat' split) <;> simp
@[simp] theorem State.freeOwn_channels (s : State) (b : Option BridgeNo) : (s.freeOwn b).channels = s.channels := by
  unfold State.freeOwn; try dsimp only
  (repeat' split) <;> simp
@[simp] theorem State.freeOwn_selections (s : State) (b : Option BridgeNo) : (s.freeOwn b).selections = s.selections := by
  unfold State.freeOwn; try dsimp only
  (repeat' split) <;> simp
@[simp] theorem State.freeOwn_slots (s : State) (b : Option BridgeNo) : (s.freeOwn b).slots = s.slots := by
  unfold State.freeOwn; try dsimp only
  (repeat' split) <;> simp
@[simp] theorem State.freeOwn_generators (s : State) (b : Option BridgeNo) : (s.freeOwn b).generators = s.generators := by
  unfold State.freeOwn; try dsimp only
  (repeat' split) <;> simp
@[simp] theorem State.freeOwn_timers (s : State) (b : Option BridgeNo) : (s.freeOwn b).timers = s.timers := by
  unfold State.freeOwn; try dsimp only
  (repeat' split) <;> simp
@[simp] theorem State.freeOwn_inFlight (s : State) (b : Option BridgeNo) : (s.freeOwn b).inFlight = s.inFlight := by
  unfold State.freeOwn; try dsimp only
  (repeat' split) <;> simp
@[simp] theorem State.freeOwn_reports (s : State) (b : Option BridgeNo) : (s.freeOwn b).reports = s.reports := by
  unfold State.freeOwn; try dsimp only
  (repeat' split) <;> simp
@[simp] theorem State.freeOwn_links (s : State) (b : Option BridgeNo) : (s.freeOwn b).links = s.links := by
  unfold State.freeOwn; try dsimp only
  (repeat' split) <;> simp
@[simp] theorem State.freeOwn_pointer (s : State) (b : Option BridgeNo) : (s.freeOwn b).pointer = s.pointer := by
  unfold State.freeOwn; try dsimp only
  (repeat' split) <;> simp
@[simp] theorem State.freeOwn_frameCount (s : State) (b : Option BridgeNo) : (s.freeOwn b).frameCount = s.frameCount := by
  unfold State.freeOwn; try dsimp only
  (repeat' split) <;> simp
@[simp] theorem State.freeOwn_mp (s : State) (b : Option BridgeNo) : (s.freeOwn b).mp = s.mp := by
  unfold State.freeOwn; try dsimp only
  (repeat' split) <;> simp
@[simp] theorem State.freeOwn_pending (s : State) (b : Option BridgeNo) : (s.freeOwn b).pending = s.pending := by
  unfold State.freeOwn; try dsimp only
  (repeat' split) <;> simp
@[simp] theorem State.line_freeOwn (s : State) (b : Option BridgeNo) (l' : LineNo) : (s.freeOwn b).line l' = s.line l' := by
  simp only [State.line, State.freeOwn_lines]
@[simp] theorem State.channel_freeOwn (s : State) (b : Option BridgeNo) (c' : ChanNo) : (s.freeOwn b).channel c' = s.channel c' := by
  simp only [State.channel, State.freeOwn_channels]
@[simp] theorem State.slot_freeOwn (s : State) (b : Option BridgeNo) (sl' : SlotNo) : (s.freeOwn b).slot sl' = s.slot sl' := by
  simp only [State.slot, State.freeOwn_slots]
@[simp] theorem State.generator_freeOwn (s : State) (b : Option BridgeNo) (n' : GenNo) : (s.freeOwn b).generator n' = s.generator n' := by
  simp only [State.generator, State.freeOwn_generators]
@[simp] theorem State.link_freeOwn (s : State) (b : Option BridgeNo) (p' : Pos) : (s.freeOwn b).link p' = s.link p' := by
  simp only [State.link, State.freeOwn_links]
@[simp] theorem State.keyLine_freeOwn (s : State) (b : Option BridgeNo) (p' : Pos) (k' : Key) : (s.freeOwn b).keyLine p' k' = s.keyLine p' k' := by
  simp only [State.keyLine, State.freeOwn_directories]
@[simp] theorem State.selection_freeOwn (s : State) (b : Option BridgeNo) (p' : Pos) (u' : UnitNo) : (s.freeOwn b).selection p' u' = s.selection p' u' := by
  simp only [State.selection, State.freeOwn_selections]
@[simp] theorem State.timer_freeOwn (s : State) (b : Option BridgeNo) (t' : TimerId) : (s.freeOwn b).timer t' = s.timer t' := by
  simp only [State.timer, State.freeOwn_timers]
@[simp] theorem State.resetting_freeOwn (s : State) (b : Option BridgeNo) : (s.freeOwn b).resetting = s.resetting := by
  simp only [State.resetting, State.freeOwn_mp]

@[simp] theorem State.notifyLine_lines (s : State) (l : LineNo) : (s.notifyLine l).lines = s.lines := by
  unfold State.notifyLine; exact foldl_keeps State.lines _ (fun _ _ => by simp) _ _
@[simp] theorem State.notifyLine_directories (s : State) (l : LineNo) : (s.notifyLine l).directories = s.directories := by
  unfold State.notifyLine; exact foldl_keeps State.directories _ (fun _ _ => by simp) _ _
@[simp] theorem State.notifyLine_channels (s : State) (l : LineNo) : (s.notifyLine l).channels = s.channels := by
  unfold State.notifyLine; exact foldl_keeps State.channels _ (fun _ _ => by simp) _ _
@[simp] theorem State.notifyLine_selections (s : State) (l : LineNo) : (s.notifyLine l).selections = s.selections := by
  unfold State.notifyLine; exact foldl_keeps State.selections _ (fun _ _ => by simp) _ _
@[simp] theorem State.notifyLine_bridges (s : State) (l : LineNo) : (s.notifyLine l).bridges = s.bridges := by
  unfold State.notifyLine; exact foldl_keeps State.bridges _ (fun _ _ => by simp) _ _
@[simp] theorem State.notifyLine_legs (s : State) (l : LineNo) : (s.notifyLine l).legs = s.legs := by
  unfold State.notifyLine; exact foldl_keeps State.legs _ (fun _ _ => by simp) _ _
@[simp] theorem State.notifyLine_slots (s : State) (l : LineNo) : (s.notifyLine l).slots = s.slots := by
  unfold State.notifyLine; exact foldl_keeps State.slots _ (fun _ _ => by simp) _ _
@[simp] theorem State.notifyLine_generators (s : State) (l : LineNo) : (s.notifyLine l).generators = s.generators := by
  unfold State.notifyLine; exact foldl_keeps State.generators _ (fun _ _ => by simp) _ _
@[simp] theorem State.notifyLine_timers (s : State) (l : LineNo) : (s.notifyLine l).timers = s.timers := by
  unfold State.notifyLine; exact foldl_keeps State.timers _ (fun _ _ => by simp) _ _
@[simp] theorem State.notifyLine_inFlight (s : State) (l : LineNo) : (s.notifyLine l).inFlight = s.inFlight := by
  unfold State.notifyLine; exact foldl_keeps State.inFlight _ (fun _ _ => by simp) _ _
@[simp] theorem State.notifyLine_reports (s : State) (l : LineNo) : (s.notifyLine l).reports = s.reports := by
  unfold State.notifyLine; exact foldl_keeps State.reports _ (fun _ _ => by simp) _ _
@[simp] theorem State.notifyLine_pointer (s : State) (l : LineNo) : (s.notifyLine l).pointer = s.pointer := by
  unfold State.notifyLine; exact foldl_keeps State.pointer _ (fun _ _ => by simp) _ _
@[simp] theorem State.notifyLine_frameCount (s : State) (l : LineNo) : (s.notifyLine l).frameCount = s.frameCount := by
  unfold State.notifyLine; exact foldl_keeps State.frameCount _ (fun _ _ => by simp) _ _
@[simp] theorem State.notifyLine_mp (s : State) (l : LineNo) : (s.notifyLine l).mp = s.mp := by
  unfold State.notifyLine; exact foldl_keeps State.mp _ (fun _ _ => by simp) _ _
@[simp] theorem State.notifyLine_pending (s : State) (l : LineNo) : (s.notifyLine l).pending = s.pending := by
  unfold State.notifyLine; exact foldl_keeps State.pending _ (fun _ _ => by simp) _ _
@[simp] theorem State.line_notifyLine (s : State) (l : LineNo) (l' : LineNo) : (s.notifyLine l).line l' = s.line l' := by
  simp only [State.line, State.notifyLine_lines]
@[simp] theorem State.channel_notifyLine (s : State) (l : LineNo) (c' : ChanNo) : (s.notifyLine l).channel c' = s.channel c' := by
  simp only [State.channel, State.notifyLine_channels]
@[simp] theorem State.bridge_notifyLine (s : State) (l : LineNo) (b' : BridgeNo) : (s.notifyLine l).bridge b' = s.bridge b' := by
  simp only [State.bridge, State.notifyLine_bridges]
@[simp] theorem State.leg_notifyLine (s : State) (l : LineNo) (g' : LegNo) : (s.notifyLine l).leg g' = s.leg g' := by
  simp only [State.leg, State.notifyLine_legs]
@[simp] theorem State.slot_notifyLine (s : State) (l : LineNo) (sl' : SlotNo) : (s.notifyLine l).slot sl' = s.slot sl' := by
  simp only [State.slot, State.notifyLine_slots]
@[simp] theorem State.generator_notifyLine (s : State) (l : LineNo) (n' : GenNo) : (s.notifyLine l).generator n' = s.generator n' := by
  simp only [State.generator, State.notifyLine_generators]
@[simp] theorem State.keyLine_notifyLine (s : State) (l : LineNo) (p' : Pos) (k' : Key) : (s.notifyLine l).keyLine p' k' = s.keyLine p' k' := by
  simp only [State.keyLine, State.notifyLine_directories]
@[simp] theorem State.selection_notifyLine (s : State) (l : LineNo) (p' : Pos) (u' : UnitNo) : (s.notifyLine l).selection p' u' = s.selection p' u' := by
  simp only [State.selection, State.notifyLine_selections]
@[simp] theorem State.timer_notifyLine (s : State) (l : LineNo) (t' : TimerId) : (s.notifyLine l).timer t' = s.timer t' := by
  simp only [State.timer, State.notifyLine_timers]
@[simp] theorem State.resetting_notifyLine (s : State) (l : LineNo) : (s.notifyLine l).resetting = s.resetting := by
  simp only [State.resetting, State.notifyLine_mp]

@[simp] theorem State.notifyLines_lines (s : State) (before : State) : (notifyLines before s).lines = s.lines := by
  unfold notifyLines; exact foldl_keeps State.lines _ (fun _ _ => by simp) _ _
@[simp] theorem State.notifyLines_directories (s : State) (before : State) : (notifyLines before s).directories = s.directories := by
  unfold notifyLines; exact foldl_keeps State.directories _ (fun _ _ => by simp) _ _
@[simp] theorem State.notifyLines_channels (s : State) (before : State) : (notifyLines before s).channels = s.channels := by
  unfold notifyLines; exact foldl_keeps State.channels _ (fun _ _ => by simp) _ _
@[simp] theorem State.notifyLines_selections (s : State) (before : State) : (notifyLines before s).selections = s.selections := by
  unfold notifyLines; exact foldl_keeps State.selections _ (fun _ _ => by simp) _ _
@[simp] theorem State.notifyLines_bridges (s : State) (before : State) : (notifyLines before s).bridges = s.bridges := by
  unfold notifyLines; exact foldl_keeps State.bridges _ (fun _ _ => by simp) _ _
@[simp] theorem State.notifyLines_legs (s : State) (before : State) : (notifyLines before s).legs = s.legs := by
  unfold notifyLines; exact foldl_keeps State.legs _ (fun _ _ => by simp) _ _
@[simp] theorem State.notifyLines_slots (s : State) (before : State) : (notifyLines before s).slots = s.slots := by
  unfold notifyLines; exact foldl_keeps State.slots _ (fun _ _ => by simp) _ _
@[simp] theorem State.notifyLines_generators (s : State) (before : State) : (notifyLines before s).generators = s.generators := by
  unfold notifyLines; exact foldl_keeps State.generators _ (fun _ _ => by simp) _ _
@[simp] theorem State.notifyLines_timers (s : State) (before : State) : (notifyLines before s).timers = s.timers := by
  unfold notifyLines; exact foldl_keeps State.timers _ (fun _ _ => by simp) _ _
@[simp] theorem State.notifyLines_inFlight (s : State) (before : State) : (notifyLines before s).inFlight = s.inFlight := by
  unfold notifyLines; exact foldl_keeps State.inFlight _ (fun _ _ => by simp) _ _
@[simp] theorem State.notifyLines_reports (s : State) (before : State) : (notifyLines before s).reports = s.reports := by
  unfold notifyLines; exact foldl_keeps State.reports _ (fun _ _ => by simp) _ _
@[simp] theorem State.notifyLines_pointer (s : State) (before : State) : (notifyLines before s).pointer = s.pointer := by
  unfold notifyLines; exact foldl_keeps State.pointer _ (fun _ _ => by simp) _ _
@[simp] theorem State.notifyLines_frameCount (s : State) (before : State) : (notifyLines before s).frameCount = s.frameCount := by
  unfold notifyLines; exact foldl_keeps State.frameCount _ (fun _ _ => by simp) _ _
@[simp] theorem State.notifyLines_mp (s : State) (before : State) : (notifyLines before s).mp = s.mp := by
  unfold notifyLines; exact foldl_keeps State.mp _ (fun _ _ => by simp) _ _
@[simp] theorem State.notifyLines_pending (s : State) (before : State) : (notifyLines before s).pending = s.pending := by
  unfold notifyLines; exact foldl_keeps State.pending _ (fun _ _ => by simp) _ _
@[simp] theorem State.line_notifyLines (s : State) (before : State) (l' : LineNo) : (notifyLines before s).line l' = s.line l' := by
  simp only [State.line, State.notifyLines_lines]
@[simp] theorem State.channel_notifyLines (s : State) (before : State) (c' : ChanNo) : (notifyLines before s).channel c' = s.channel c' := by
  simp only [State.channel, State.notifyLines_channels]
@[simp] theorem State.bridge_notifyLines (s : State) (before : State) (b' : BridgeNo) : (notifyLines before s).bridge b' = s.bridge b' := by
  simp only [State.bridge, State.notifyLines_bridges]
@[simp] theorem State.leg_notifyLines (s : State) (before : State) (g' : LegNo) : (notifyLines before s).leg g' = s.leg g' := by
  simp only [State.leg, State.notifyLines_legs]
@[simp] theorem State.slot_notifyLines (s : State) (before : State) (sl' : SlotNo) : (notifyLines before s).slot sl' = s.slot sl' := by
  simp only [State.slot, State.notifyLines_slots]
@[simp] theorem State.generator_notifyLines (s : State) (before : State) (n' : GenNo) : (notifyLines before s).generator n' = s.generator n' := by
  simp only [State.generator, State.notifyLines_generators]
@[simp] theorem State.keyLine_notifyLines (s : State) (before : State) (p' : Pos) (k' : Key) : (notifyLines before s).keyLine p' k' = s.keyLine p' k' := by
  simp only [State.keyLine, State.notifyLines_directories]
@[simp] theorem State.selection_notifyLines (s : State) (before : State) (p' : Pos) (u' : UnitNo) : (notifyLines before s).selection p' u' = s.selection p' u' := by
  simp only [State.selection, State.notifyLines_selections]
@[simp] theorem State.timer_notifyLines (s : State) (before : State) (t' : TimerId) : (notifyLines before s).timer t' = s.timer t' := by
  simp only [State.timer, State.notifyLines_timers]
@[simp] theorem State.resetting_notifyLines (s : State) (before : State) : (notifyLines before s).resetting = s.resetting := by
  simp only [State.resetting, State.notifyLines_mp]

@[simp] theorem State.notifyChannel_lines (s : State) (own : Option Pos) (all : Bool) (before after : State) (c : ChanNo) : (notifyChannel own all before after s c).lines = s.lines := by
  unfold notifyChannel; exact foldl_keeps State.lines _ (fun _ _ => by simp) _ _
@[simp] theorem State.notifyChannel_directories (s : State) (own : Option Pos) (all : Bool) (before after : State) (c : ChanNo) : (notifyChannel own all before after s c).directories = s.directories := by
  unfold notifyChannel; exact foldl_keeps State.directories _ (fun _ _ => by simp) _ _
@[simp] theorem State.notifyChannel_channels (s : State) (own : Option Pos) (all : Bool) (before after : State) (c : ChanNo) : (notifyChannel own all before after s c).channels = s.channels := by
  unfold notifyChannel; exact foldl_keeps State.channels _ (fun _ _ => by simp) _ _
@[simp] theorem State.notifyChannel_selections (s : State) (own : Option Pos) (all : Bool) (before after : State) (c : ChanNo) : (notifyChannel own all before after s c).selections = s.selections := by
  unfold notifyChannel; exact foldl_keeps State.selections _ (fun _ _ => by simp) _ _
@[simp] theorem State.notifyChannel_bridges (s : State) (own : Option Pos) (all : Bool) (before after : State) (c : ChanNo) : (notifyChannel own all before after s c).bridges = s.bridges := by
  unfold notifyChannel; exact foldl_keeps State.bridges _ (fun _ _ => by simp) _ _
@[simp] theorem State.notifyChannel_legs (s : State) (own : Option Pos) (all : Bool) (before after : State) (c : ChanNo) : (notifyChannel own all before after s c).legs = s.legs := by
  unfold notifyChannel; exact foldl_keeps State.legs _ (fun _ _ => by simp) _ _
@[simp] theorem State.notifyChannel_slots (s : State) (own : Option Pos) (all : Bool) (before after : State) (c : ChanNo) : (notifyChannel own all before after s c).slots = s.slots := by
  unfold notifyChannel; exact foldl_keeps State.slots _ (fun _ _ => by simp) _ _
@[simp] theorem State.notifyChannel_generators (s : State) (own : Option Pos) (all : Bool) (before after : State) (c : ChanNo) : (notifyChannel own all before after s c).generators = s.generators := by
  unfold notifyChannel; exact foldl_keeps State.generators _ (fun _ _ => by simp) _ _
@[simp] theorem State.notifyChannel_timers (s : State) (own : Option Pos) (all : Bool) (before after : State) (c : ChanNo) : (notifyChannel own all before after s c).timers = s.timers := by
  unfold notifyChannel; exact foldl_keeps State.timers _ (fun _ _ => by simp) _ _
@[simp] theorem State.notifyChannel_inFlight (s : State) (own : Option Pos) (all : Bool) (before after : State) (c : ChanNo) : (notifyChannel own all before after s c).inFlight = s.inFlight := by
  unfold notifyChannel; exact foldl_keeps State.inFlight _ (fun _ _ => by simp) _ _
@[simp] theorem State.notifyChannel_reports (s : State) (own : Option Pos) (all : Bool) (before after : State) (c : ChanNo) : (notifyChannel own all before after s c).reports = s.reports := by
  unfold notifyChannel; exact foldl_keeps State.reports _ (fun _ _ => by simp) _ _
@[simp] theorem State.notifyChannel_pointer (s : State) (own : Option Pos) (all : Bool) (before after : State) (c : ChanNo) : (notifyChannel own all before after s c).pointer = s.pointer := by
  unfold notifyChannel; exact foldl_keeps State.pointer _ (fun _ _ => by simp) _ _
@[simp] theorem State.notifyChannel_frameCount (s : State) (own : Option Pos) (all : Bool) (before after : State) (c : ChanNo) : (notifyChannel own all before after s c).frameCount = s.frameCount := by
  unfold notifyChannel; exact foldl_keeps State.frameCount _ (fun _ _ => by simp) _ _
@[simp] theorem State.notifyChannel_mp (s : State) (own : Option Pos) (all : Bool) (before after : State) (c : ChanNo) : (notifyChannel own all before after s c).mp = s.mp := by
  unfold notifyChannel; exact foldl_keeps State.mp _ (fun _ _ => by simp) _ _
@[simp] theorem State.notifyChannel_pending (s : State) (own : Option Pos) (all : Bool) (before after : State) (c : ChanNo) : (notifyChannel own all before after s c).pending = s.pending := by
  unfold notifyChannel; exact foldl_keeps State.pending _ (fun _ _ => by simp) _ _
@[simp] theorem State.line_notifyChannel (s : State) (own : Option Pos) (all : Bool) (before after : State) (c : ChanNo) (l' : LineNo) : (notifyChannel own all before after s c).line l' = s.line l' := by
  simp only [State.line, State.notifyChannel_lines]
@[simp] theorem State.channel_notifyChannel (s : State) (own : Option Pos) (all : Bool) (before after : State) (c : ChanNo) (c' : ChanNo) : (notifyChannel own all before after s c).channel c' = s.channel c' := by
  simp only [State.channel, State.notifyChannel_channels]
@[simp] theorem State.bridge_notifyChannel (s : State) (own : Option Pos) (all : Bool) (before after : State) (c : ChanNo) (b' : BridgeNo) : (notifyChannel own all before after s c).bridge b' = s.bridge b' := by
  simp only [State.bridge, State.notifyChannel_bridges]
@[simp] theorem State.leg_notifyChannel (s : State) (own : Option Pos) (all : Bool) (before after : State) (c : ChanNo) (g' : LegNo) : (notifyChannel own all before after s c).leg g' = s.leg g' := by
  simp only [State.leg, State.notifyChannel_legs]
@[simp] theorem State.slot_notifyChannel (s : State) (own : Option Pos) (all : Bool) (before after : State) (c : ChanNo) (sl' : SlotNo) : (notifyChannel own all before after s c).slot sl' = s.slot sl' := by
  simp only [State.slot, State.notifyChannel_slots]
@[simp] theorem State.generator_notifyChannel (s : State) (own : Option Pos) (all : Bool) (before after : State) (c : ChanNo) (n' : GenNo) : (notifyChannel own all before after s c).generator n' = s.generator n' := by
  simp only [State.generator, State.notifyChannel_generators]
@[simp] theorem State.keyLine_notifyChannel (s : State) (own : Option Pos) (all : Bool) (before after : State) (c : ChanNo) (p' : Pos) (k' : Key) : (notifyChannel own all before after s c).keyLine p' k' = s.keyLine p' k' := by
  simp only [State.keyLine, State.notifyChannel_directories]
@[simp] theorem State.selection_notifyChannel (s : State) (own : Option Pos) (all : Bool) (before after : State) (c : ChanNo) (p' : Pos) (u' : UnitNo) : (notifyChannel own all before after s c).selection p' u' = s.selection p' u' := by
  simp only [State.selection, State.notifyChannel_selections]
@[simp] theorem State.timer_notifyChannel (s : State) (own : Option Pos) (all : Bool) (before after : State) (c : ChanNo) (t' : TimerId) : (notifyChannel own all before after s c).timer t' = s.timer t' := by
  simp only [State.timer, State.notifyChannel_timers]
@[simp] theorem State.resetting_notifyChannel (s : State) (own : Option Pos) (all : Bool) (before after : State) (c : ChanNo) : (notifyChannel own all before after s c).resetting = s.resetting := by
  simp only [State.resetting, State.notifyChannel_mp]

@[simp] theorem State.finishAct_lines (s : State) (own : Option Pos) (cs : List ChanNo) (before : State) : (finishAct own cs before s).lines = s.lines := by
  unfold finishAct; rw [foldl_keeps State.lines _ (fun _ _ => by simp)]; simp
@[simp] theorem State.finishAct_directories (s : State) (own : Option Pos) (cs : List ChanNo) (before : State) : (finishAct own cs before s).directories = s.directories := by
  unfold finishAct; rw [foldl_keeps State.directories _ (fun _ _ => by simp)]; simp
@[simp] theorem State.finishAct_channels (s : State) (own : Option Pos) (cs : List ChanNo) (before : State) : (finishAct own cs before s).channels = s.channels := by
  unfold finishAct; rw [foldl_keeps State.channels _ (fun _ _ => by simp)]; simp
@[simp] theorem State.finishAct_selections (s : State) (own : Option Pos) (cs : List ChanNo) (before : State) : (finishAct own cs before s).selections = s.selections := by
  unfold finishAct; rw [foldl_keeps State.selections _ (fun _ _ => by simp)]; simp
@[simp] theorem State.finishAct_legs (s : State) (own : Option Pos) (cs : List ChanNo) (before : State) : (finishAct own cs before s).legs = s.legs := by
  unfold finishAct; rw [foldl_keeps State.legs _ (fun _ _ => by simp)]; simp
@[simp] theorem State.finishAct_slots (s : State) (own : Option Pos) (cs : List ChanNo) (before : State) : (finishAct own cs before s).slots = s.slots := by
  unfold finishAct; rw [foldl_keeps State.slots _ (fun _ _ => by simp)]; simp
@[simp] theorem State.finishAct_generators (s : State) (own : Option Pos) (cs : List ChanNo) (before : State) : (finishAct own cs before s).generators = s.generators := by
  unfold finishAct; rw [foldl_keeps State.generators _ (fun _ _ => by simp)]; simp
@[simp] theorem State.finishAct_timers (s : State) (own : Option Pos) (cs : List ChanNo) (before : State) : (finishAct own cs before s).timers = s.timers := by
  unfold finishAct; rw [foldl_keeps State.timers _ (fun _ _ => by simp)]; simp
@[simp] theorem State.finishAct_inFlight (s : State) (own : Option Pos) (cs : List ChanNo) (before : State) : (finishAct own cs before s).inFlight = s.inFlight := by
  unfold finishAct; rw [foldl_keeps State.inFlight _ (fun _ _ => by simp)]; simp
@[simp] theorem State.finishAct_reports (s : State) (own : Option Pos) (cs : List ChanNo) (before : State) : (finishAct own cs before s).reports = s.reports := by
  unfold finishAct; rw [foldl_keeps State.reports _ (fun _ _ => by simp)]; simp
@[simp] theorem State.finishAct_pointer (s : State) (own : Option Pos) (cs : List ChanNo) (before : State) : (finishAct own cs before s).pointer = s.pointer := by
  unfold finishAct; rw [foldl_keeps State.pointer _ (fun _ _ => by simp)]; simp
@[simp] theorem State.finishAct_frameCount (s : State) (own : Option Pos) (cs : List ChanNo) (before : State) : (finishAct own cs before s).frameCount = s.frameCount := by
  unfold finishAct; rw [foldl_keeps State.frameCount _ (fun _ _ => by simp)]; simp
@[simp] theorem State.finishAct_mp (s : State) (own : Option Pos) (cs : List ChanNo) (before : State) : (finishAct own cs before s).mp = s.mp := by
  unfold finishAct; rw [foldl_keeps State.mp _ (fun _ _ => by simp)]; simp
@[simp] theorem State.finishAct_pending (s : State) (own : Option Pos) (cs : List ChanNo) (before : State) : (finishAct own cs before s).pending = s.pending := by
  unfold finishAct; rw [foldl_keeps State.pending _ (fun _ _ => by simp)]; simp
@[simp] theorem State.line_finishAct (s : State) (own : Option Pos) (cs : List ChanNo) (before : State) (l' : LineNo) : (finishAct own cs before s).line l' = s.line l' := by
  simp only [State.line, State.finishAct_lines]
@[simp] theorem State.channel_finishAct (s : State) (own : Option Pos) (cs : List ChanNo) (before : State) (c' : ChanNo) : (finishAct own cs before s).channel c' = s.channel c' := by
  simp only [State.channel, State.finishAct_channels]
@[simp] theorem State.leg_finishAct (s : State) (own : Option Pos) (cs : List ChanNo) (before : State) (g' : LegNo) : (finishAct own cs before s).leg g' = s.leg g' := by
  simp only [State.leg, State.finishAct_legs]
@[simp] theorem State.slot_finishAct (s : State) (own : Option Pos) (cs : List ChanNo) (before : State) (sl' : SlotNo) : (finishAct own cs before s).slot sl' = s.slot sl' := by
  simp only [State.slot, State.finishAct_slots]
@[simp] theorem State.generator_finishAct (s : State) (own : Option Pos) (cs : List ChanNo) (before : State) (n' : GenNo) : (finishAct own cs before s).generator n' = s.generator n' := by
  simp only [State.generator, State.finishAct_generators]
@[simp] theorem State.keyLine_finishAct (s : State) (own : Option Pos) (cs : List ChanNo) (before : State) (p' : Pos) (k' : Key) : (finishAct own cs before s).keyLine p' k' = s.keyLine p' k' := by
  simp only [State.keyLine, State.finishAct_directories]
@[simp] theorem State.selection_finishAct (s : State) (own : Option Pos) (cs : List ChanNo) (before : State) (p' : Pos) (u' : UnitNo) : (finishAct own cs before s).selection p' u' = s.selection p' u' := by
  simp only [State.selection, State.finishAct_selections]
@[simp] theorem State.timer_finishAct (s : State) (own : Option Pos) (cs : List ChanNo) (before : State) (t' : TimerId) : (finishAct own cs before s).timer t' = s.timer t' := by
  simp only [State.timer, State.finishAct_timers]
@[simp] theorem State.resetting_finishAct (s : State) (own : Option Pos) (cs : List ChanNo) (before : State) : (finishAct own cs before s).resetting = s.resetting := by
  simp only [State.resetting, State.finishAct_mp]

@[simp] theorem State.finishMembers_lines (s : State) (c : ChanNo) (cs : List ChanNo) (before : State) : (finishMembers c cs before s).lines = s.lines := by
  simp [finishMembers]
@[simp] theorem State.finishMembers_directories (s : State) (c : ChanNo) (cs : List ChanNo) (before : State) : (finishMembers c cs before s).directories = s.directories := by
  simp [finishMembers]
@[simp] theorem State.finishMembers_channels (s : State) (c : ChanNo) (cs : List ChanNo) (before : State) : (finishMembers c cs before s).channels = s.channels := by
  simp [finishMembers]
@[simp] theorem State.finishMembers_selections (s : State) (c : ChanNo) (cs : List ChanNo) (before : State) : (finishMembers c cs before s).selections = s.selections := by
  simp [finishMembers]
@[simp] theorem State.finishMembers_legs (s : State) (c : ChanNo) (cs : List ChanNo) (before : State) : (finishMembers c cs before s).legs = s.legs := by
  simp [finishMembers]
@[simp] theorem State.finishMembers_slots (s : State) (c : ChanNo) (cs : List ChanNo) (before : State) : (finishMembers c cs before s).slots = s.slots := by
  simp [finishMembers]
@[simp] theorem State.finishMembers_generators (s : State) (c : ChanNo) (cs : List ChanNo) (before : State) : (finishMembers c cs before s).generators = s.generators := by
  simp [finishMembers]
@[simp] theorem State.finishMembers_timers (s : State) (c : ChanNo) (cs : List ChanNo) (before : State) : (finishMembers c cs before s).timers = s.timers := by
  simp [finishMembers]
@[simp] theorem State.finishMembers_inFlight (s : State) (c : ChanNo) (cs : List ChanNo) (before : State) : (finishMembers c cs before s).inFlight = s.inFlight := by
  simp [finishMembers]
@[simp] theorem State.finishMembers_reports (s : State) (c : ChanNo) (cs : List ChanNo) (before : State) : (finishMembers c cs before s).reports = s.reports := by
  simp [finishMembers]
@[simp] theorem State.finishMembers_pointer (s : State) (c : ChanNo) (cs : List ChanNo) (before : State) : (finishMembers c cs before s).pointer = s.pointer := by
  simp [finishMembers]
@[simp] theorem State.finishMembers_frameCount (s : State) (c : ChanNo) (cs : List ChanNo) (before : State) : (finishMembers c cs before s).frameCount = s.frameCount := by
  simp [finishMembers]
@[simp] theorem State.finishMembers_mp (s : State) (c : ChanNo) (cs : List ChanNo) (before : State) : (finishMembers c cs before s).mp = s.mp := by
  simp [finishMembers]
@[simp] theorem State.finishMembers_pending (s : State) (c : ChanNo) (cs : List ChanNo) (before : State) : (finishMembers c cs before s).pending = s.pending := by
  simp [finishMembers]
@[simp] theorem State.line_finishMembers (s : State) (c : ChanNo) (cs : List ChanNo) (before : State) (l' : LineNo) : (finishMembers c cs before s).line l' = s.line l' := by
  simp only [State.line, State.finishMembers_lines]
@[simp] theorem State.channel_finishMembers (s : State) (c : ChanNo) (cs : List ChanNo) (before : State) (c' : ChanNo) : (finishMembers c cs before s).channel c' = s.channel c' := by
  simp only [State.channel, State.finishMembers_channels]
@[simp] theorem State.leg_finishMembers (s : State) (c : ChanNo) (cs : List ChanNo) (before : State) (g' : LegNo) : (finishMembers c cs before s).leg g' = s.leg g' := by
  simp only [State.leg, State.finishMembers_legs]
@[simp] theorem State.slot_finishMembers (s : State) (c : ChanNo) (cs : List ChanNo) (before : State) (sl' : SlotNo) : (finishMembers c cs before s).slot sl' = s.slot sl' := by
  simp only [State.slot, State.finishMembers_slots]
@[simp] theorem State.generator_finishMembers (s : State) (c : ChanNo) (cs : List ChanNo) (before : State) (n' : GenNo) : (finishMembers c cs before s).generator n' = s.generator n' := by
  simp only [State.generator, State.finishMembers_generators]
@[simp] theorem State.keyLine_finishMembers (s : State) (c : ChanNo) (cs : List ChanNo) (before : State) (p' : Pos) (k' : Key) : (finishMembers c cs before s).keyLine p' k' = s.keyLine p' k' := by
  simp only [State.keyLine, State.finishMembers_directories]
@[simp] theorem State.selection_finishMembers (s : State) (c : ChanNo) (cs : List ChanNo) (before : State) (p' : Pos) (u' : UnitNo) : (finishMembers c cs before s).selection p' u' = s.selection p' u' := by
  simp only [State.selection, State.finishMembers_selections]
@[simp] theorem State.timer_finishMembers (s : State) (c : ChanNo) (cs : List ChanNo) (before : State) (t' : TimerId) : (finishMembers c cs before s).timer t' = s.timer t' := by
  simp only [State.timer, State.finishMembers_timers]
@[simp] theorem State.resetting_finishMembers (s : State) (c : ChanNo) (cs : List ChanNo) (before : State) : (finishMembers c cs before s).resetting = s.resetting := by
  simp only [State.resetting, State.finishMembers_mp]

end Sys2Proof.Machine
end

