-- ==== Sys2Proof/Laws/FramesSlots.lean ====
section
/-! SUPPORT. What the operations of the Trunk Unit leave unchanged: a lemma per operation and field. -/

namespace Sys2Proof.Machine

set_option linter.unusedTactic false
set_option linter.unnecessarySeqFocus false
set_option linter.unreachableTactic false
set_option Elab.async false

@[simp] theorem State.nameSlot_lines (s : State) (sl : SlotNo) (f : Slot → Slot) : (s.nameSlot sl f).lines = s.lines := by
  unfold State.nameSlot; try dsimp only
  (repeat' split) <;> simp
@[simp] theorem State.nameSlot_directories (s : State) (sl : SlotNo) (f : Slot → Slot) : (s.nameSlot sl f).directories = s.directories := by
  unfold State.nameSlot; try dsimp only
  (repeat' split) <;> simp
@[simp] theorem State.nameSlot_channels (s : State) (sl : SlotNo) (f : Slot → Slot) : (s.nameSlot sl f).channels = s.channels := by
  unfold State.nameSlot; try dsimp only
  (repeat' split) <;> simp
@[simp] theorem State.nameSlot_selections (s : State) (sl : SlotNo) (f : Slot → Slot) : (s.nameSlot sl f).selections = s.selections := by
  unfold State.nameSlot; try dsimp only
  (repeat' split) <;> simp
@[simp] theorem State.nameSlot_bridges (s : State) (sl : SlotNo) (f : Slot → Slot) : (s.nameSlot sl f).bridges = s.bridges := by
  unfold State.nameSlot; try dsimp only
  (repeat' split) <;> simp
@[simp] theorem State.nameSlot_legs (s : State) (sl : SlotNo) (f : Slot → Slot) : (s.nameSlot sl f).legs = s.legs := by
  unfold State.nameSlot; try dsimp only
  (repeat' split) <;> simp
@[simp] theorem State.nameSlot_generators (s : State) (sl : SlotNo) (f : Slot → Slot) : (s.nameSlot sl f).generators = s.generators := by
  unfold State.nameSlot; try dsimp only
  (repeat' split) <;> simp
@[simp] theorem State.nameSlot_inFlight (s : State) (sl : SlotNo) (f : Slot → Slot) : (s.nameSlot sl f).inFlight = s.inFlight := by
  unfold State.nameSlot; try dsimp only
  (repeat' split) <;> simp
@[simp] theorem State.nameSlot_reports (s : State) (sl : SlotNo) (f : Slot → Slot) : (s.nameSlot sl f).reports = s.reports := by
  unfold State.nameSlot; try dsimp only
  (repeat' split) <;> simp
@[simp] theorem State.nameSlot_links (s : State) (sl : SlotNo) (f : Slot → Slot) : (s.nameSlot sl f).links = s.links := by
  unfold State.nameSlot; try dsimp only
  (repeat' split) <;> simp
@[simp] theorem State.nameSlot_pointer (s : State) (sl : SlotNo) (f : Slot → Slot) : (s.nameSlot sl f).pointer = s.pointer := by
  unfold State.nameSlot; try dsimp only
  (repeat' split) <;> simp
@[simp] theorem State.nameSlot_frameCount (s : State) (sl : SlotNo) (f : Slot → Slot) : (s.nameSlot sl f).frameCount = s.frameCount := by
  unfold State.nameSlot; try dsimp only
  (repeat' split) <;> simp
@[simp] theorem State.nameSlot_mp (s : State) (sl : SlotNo) (f : Slot → Slot) : (s.nameSlot sl f).mp = s.mp := by
  unfold State.nameSlot; try dsimp only
  (repeat' split) <;> simp
@[simp] theorem State.nameSlot_pending (s : State) (sl : SlotNo) (f : Slot → Slot) : (s.nameSlot sl f).pending = s.pending := by
  unfold State.nameSlot; try dsimp only
  (repeat' split) <;> simp
@[simp] theorem State.line_nameSlot (s : State) (sl : SlotNo) (f : Slot → Slot) (l' : LineNo) : (s.nameSlot sl f).line l' = s.line l' := by
  simp only [State.line, State.nameSlot_lines]
@[simp] theorem State.channel_nameSlot (s : State) (sl : SlotNo) (f : Slot → Slot) (c' : ChanNo) : (s.nameSlot sl f).channel c' = s.channel c' := by
  simp only [State.channel, State.nameSlot_channels]
@[simp] theorem State.bridge_nameSlot (s : State) (sl : SlotNo) (f : Slot → Slot) (b' : BridgeNo) : (s.nameSlot sl f).bridge b' = s.bridge b' := by
  simp only [State.bridge, State.nameSlot_bridges]
@[simp] theorem State.leg_nameSlot (s : State) (sl : SlotNo) (f : Slot → Slot) (g' : LegNo) : (s.nameSlot sl f).leg g' = s.leg g' := by
  simp only [State.leg, State.nameSlot_legs]
@[simp] theorem State.generator_nameSlot (s : State) (sl : SlotNo) (f : Slot → Slot) (n' : GenNo) : (s.nameSlot sl f).generator n' = s.generator n' := by
  simp only [State.generator, State.nameSlot_generators]
@[simp] theorem State.link_nameSlot (s : State) (sl : SlotNo) (f : Slot → Slot) (p' : Pos) : (s.nameSlot sl f).link p' = s.link p' := by
  simp only [State.link, State.nameSlot_links]
@[simp] theorem State.keyLine_nameSlot (s : State) (sl : SlotNo) (f : Slot → Slot) (p' : Pos) (k' : Key) : (s.nameSlot sl f).keyLine p' k' = s.keyLine p' k' := by
  simp only [State.keyLine, State.nameSlot_directories]
@[simp] theorem State.selection_nameSlot (s : State) (sl : SlotNo) (f : Slot → Slot) (p' : Pos) (u' : UnitNo) : (s.nameSlot sl f).selection p' u' = s.selection p' u' := by
  simp only [State.selection, State.nameSlot_selections]
@[simp] theorem State.resetting_nameSlot (s : State) (sl : SlotNo) (f : Slot → Slot) : (s.nameSlot sl f).resetting = s.resetting := by
  simp only [State.resetting, State.nameSlot_mp]

@[simp] theorem State.unnameSlot_lines (s : State) (sl : SlotNo) (f : Slot → Slot) : (s.unnameSlot sl f).lines = s.lines := by
  unfold State.unnameSlot; try dsimp only
  (repeat' split) <;> simp
@[simp] theorem State.unnameSlot_directories (s : State) (sl : SlotNo) (f : Slot → Slot) : (s.unnameSlot sl f).directories = s.directories := by
  unfold State.unnameSlot; try dsimp only
  (repeat' split) <;> simp
@[simp] theorem State.unnameSlot_channels (s : State) (sl : SlotNo) (f : Slot → Slot) : (s.unnameSlot sl f).channels = s.channels := by
  unfold State.unnameSlot; try dsimp only
  (repeat' split) <;> simp
@[simp] theorem State.unnameSlot_selections (s : State) (sl : SlotNo) (f : Slot → Slot) : (s.unnameSlot sl f).selections = s.selections := by
  unfold State.unnameSlot; try dsimp only
  (repeat' split) <;> simp
@[simp] theorem State.unnameSlot_bridges (s : State) (sl : SlotNo) (f : Slot → Slot) : (s.unnameSlot sl f).bridges = s.bridges := by
  unfold State.unnameSlot; try dsimp only
  (repeat' split) <;> simp
@[simp] theorem State.unnameSlot_legs (s : State) (sl : SlotNo) (f : Slot → Slot) : (s.unnameSlot sl f).legs = s.legs := by
  unfold State.unnameSlot; try dsimp only
  (repeat' split) <;> simp
@[simp] theorem State.unnameSlot_generators (s : State) (sl : SlotNo) (f : Slot → Slot) : (s.unnameSlot sl f).generators = s.generators := by
  unfold State.unnameSlot; try dsimp only
  (repeat' split) <;> simp
@[simp] theorem State.unnameSlot_inFlight (s : State) (sl : SlotNo) (f : Slot → Slot) : (s.unnameSlot sl f).inFlight = s.inFlight := by
  unfold State.unnameSlot; try dsimp only
  (repeat' split) <;> simp
@[simp] theorem State.unnameSlot_reports (s : State) (sl : SlotNo) (f : Slot → Slot) : (s.unnameSlot sl f).reports = s.reports := by
  unfold State.unnameSlot; try dsimp only
  (repeat' split) <;> simp
@[simp] theorem State.unnameSlot_links (s : State) (sl : SlotNo) (f : Slot → Slot) : (s.unnameSlot sl f).links = s.links := by
  unfold State.unnameSlot; try dsimp only
  (repeat' split) <;> simp
@[simp] theorem State.unnameSlot_pointer (s : State) (sl : SlotNo) (f : Slot → Slot) : (s.unnameSlot sl f).pointer = s.pointer := by
  unfold State.unnameSlot; try dsimp only
  (repeat' split) <;> simp
@[simp] theorem State.unnameSlot_frameCount (s : State) (sl : SlotNo) (f : Slot → Slot) : (s.unnameSlot sl f).frameCount = s.frameCount := by
  unfold State.unnameSlot; try dsimp only
  (repeat' split) <;> simp
@[simp] theorem State.unnameSlot_mp (s : State) (sl : SlotNo) (f : Slot → Slot) : (s.unnameSlot sl f).mp = s.mp := by
  unfold State.unnameSlot; try dsimp only
  (repeat' split) <;> simp
@[simp] theorem State.unnameSlot_pending (s : State) (sl : SlotNo) (f : Slot → Slot) : (s.unnameSlot sl f).pending = s.pending := by
  unfold State.unnameSlot; try dsimp only
  (repeat' split) <;> simp
@[simp] theorem State.line_unnameSlot (s : State) (sl : SlotNo) (f : Slot → Slot) (l' : LineNo) : (s.unnameSlot sl f).line l' = s.line l' := by
  simp only [State.line, State.unnameSlot_lines]
@[simp] theorem State.channel_unnameSlot (s : State) (sl : SlotNo) (f : Slot → Slot) (c' : ChanNo) : (s.unnameSlot sl f).channel c' = s.channel c' := by
  simp only [State.channel, State.unnameSlot_channels]
@[simp] theorem State.bridge_unnameSlot (s : State) (sl : SlotNo) (f : Slot → Slot) (b' : BridgeNo) : (s.unnameSlot sl f).bridge b' = s.bridge b' := by
  simp only [State.bridge, State.unnameSlot_bridges]
@[simp] theorem State.leg_unnameSlot (s : State) (sl : SlotNo) (f : Slot → Slot) (g' : LegNo) : (s.unnameSlot sl f).leg g' = s.leg g' := by
  simp only [State.leg, State.unnameSlot_legs]
@[simp] theorem State.generator_unnameSlot (s : State) (sl : SlotNo) (f : Slot → Slot) (n' : GenNo) : (s.unnameSlot sl f).generator n' = s.generator n' := by
  simp only [State.generator, State.unnameSlot_generators]
@[simp] theorem State.link_unnameSlot (s : State) (sl : SlotNo) (f : Slot → Slot) (p' : Pos) : (s.unnameSlot sl f).link p' = s.link p' := by
  simp only [State.link, State.unnameSlot_links]
@[simp] theorem State.keyLine_unnameSlot (s : State) (sl : SlotNo) (f : Slot → Slot) (p' : Pos) (k' : Key) : (s.unnameSlot sl f).keyLine p' k' = s.keyLine p' k' := by
  simp only [State.keyLine, State.unnameSlot_directories]
@[simp] theorem State.selection_unnameSlot (s : State) (sl : SlotNo) (f : Slot → Slot) (p' : Pos) (u' : UnitNo) : (s.unnameSlot sl f).selection p' u' = s.selection p' u' := by
  simp only [State.selection, State.unnameSlot_selections]
@[simp] theorem State.resetting_unnameSlot (s : State) (sl : SlotNo) (f : Slot → Slot) : (s.unnameSlot sl f).resetting = s.resetting := by
  simp only [State.resetting, State.unnameSlot_mp]

@[simp] theorem State.namePrimary_lines (s : State) (sl : Option SlotNo) (o : Owner) : (s.namePrimary sl o).lines = s.lines := by
  unfold State.namePrimary; try dsimp only
  (repeat' split) <;> simp
@[simp] theorem State.namePrimary_directories (s : State) (sl : Option SlotNo) (o : Owner) : (s.namePrimary sl o).directories = s.directories := by
  unfold State.namePrimary; try dsimp only
  (repeat' split) <;> simp
@[simp] theorem State.namePrimary_channels (s : State) (sl : Option SlotNo) (o : Owner) : (s.namePrimary sl o).channels = s.channels := by
  unfold State.namePrimary; try dsimp only
  (repeat' split) <;> simp
@[simp] theorem State.namePrimary_selections (s : State) (sl : Option SlotNo) (o : Owner) : (s.namePrimary sl o).selections = s.selections := by
  unfold State.namePrimary; try dsimp only
  (repeat' split) <;> simp
@[simp] theorem State.namePrimary_bridges (s : State) (sl : Option SlotNo) (o : Owner) : (s.namePrimary sl o).bridges = s.bridges := by
  unfold State.namePrimary; try dsimp only
  (repeat' split) <;> simp
@[simp] theorem State.namePrimary_legs (s : State) (sl : Option SlotNo) (o : Owner) : (s.namePrimary sl o).legs = s.legs := by
  unfold State.namePrimary; try dsimp only
  (repeat' split) <;> simp
@[simp] theorem State.namePrimary_generators (s : State) (sl : Option SlotNo) (o : Owner) : (s.namePrimary sl o).generators = s.generators := by
  unfold State.namePrimary; try dsimp only
  (repeat' split) <;> simp
@[simp] theorem State.namePrimary_inFlight (s : State) (sl : Option SlotNo) (o : Owner) : (s.namePrimary sl o).inFlight = s.inFlight := by
  unfold State.namePrimary; try dsimp only
  (repeat' split) <;> simp
@[simp] theorem State.namePrimary_reports (s : State) (sl : Option SlotNo) (o : Owner) : (s.namePrimary sl o).reports = s.reports := by
  unfold State.namePrimary; try dsimp only
  (repeat' split) <;> simp
@[simp] theorem State.namePrimary_links (s : State) (sl : Option SlotNo) (o : Owner) : (s.namePrimary sl o).links = s.links := by
  unfold State.namePrimary; try dsimp only
  (repeat' split) <;> simp
@[simp] theorem State.namePrimary_pointer (s : State) (sl : Option SlotNo) (o : Owner) : (s.namePrimary sl o).pointer = s.pointer := by
  unfold State.namePrimary; try dsimp only
  (repeat' split) <;> simp
@[simp] theorem State.namePrimary_frameCount (s : State) (sl : Option SlotNo) (o : Owner) : (s.namePrimary sl o).frameCount = s.frameCount := by
  unfold State.namePrimary; try dsimp only
  (repeat' split) <;> simp
@[simp] theorem State.namePrimary_mp (s : State) (sl : Option SlotNo) (o : Owner) : (s.namePrimary sl o).mp = s.mp := by
  unfold State.namePrimary; try dsimp only
  (repeat' split) <;> simp
@[simp] theorem State.namePrimary_pending (s : State) (sl : Option SlotNo) (o : Owner) : (s.namePrimary sl o).pending = s.pending := by
  unfold State.namePrimary; try dsimp only
  (repeat' split) <;> simp
@[simp] theorem State.line_namePrimary (s : State) (sl : Option SlotNo) (o : Owner) (l' : LineNo) : (s.namePrimary sl o).line l' = s.line l' := by
  simp only [State.line, State.namePrimary_lines]
@[simp] theorem State.channel_namePrimary (s : State) (sl : Option SlotNo) (o : Owner) (c' : ChanNo) : (s.namePrimary sl o).channel c' = s.channel c' := by
  simp only [State.channel, State.namePrimary_channels]
@[simp] theorem State.bridge_namePrimary (s : State) (sl : Option SlotNo) (o : Owner) (b' : BridgeNo) : (s.namePrimary sl o).bridge b' = s.bridge b' := by
  simp only [State.bridge, State.namePrimary_bridges]
@[simp] theorem State.leg_namePrimary (s : State) (sl : Option SlotNo) (o : Owner) (g' : LegNo) : (s.namePrimary sl o).leg g' = s.leg g' := by
  simp only [State.leg, State.namePrimary_legs]
@[simp] theorem State.generator_namePrimary (s : State) (sl : Option SlotNo) (o : Owner) (n' : GenNo) : (s.namePrimary sl o).generator n' = s.generator n' := by
  simp only [State.generator, State.namePrimary_generators]
@[simp] theorem State.link_namePrimary (s : State) (sl : Option SlotNo) (o : Owner) (p' : Pos) : (s.namePrimary sl o).link p' = s.link p' := by
  simp only [State.link, State.namePrimary_links]
@[simp] theorem State.keyLine_namePrimary (s : State) (sl : Option SlotNo) (o : Owner) (p' : Pos) (k' : Key) : (s.namePrimary sl o).keyLine p' k' = s.keyLine p' k' := by
  simp only [State.keyLine, State.namePrimary_directories]
@[simp] theorem State.selection_namePrimary (s : State) (sl : Option SlotNo) (o : Owner) (p' : Pos) (u' : UnitNo) : (s.namePrimary sl o).selection p' u' = s.selection p' u' := by
  simp only [State.selection, State.namePrimary_selections]
@[simp] theorem State.resetting_namePrimary (s : State) (sl : Option SlotNo) (o : Owner) : (s.namePrimary sl o).resetting = s.resetting := by
  simp only [State.resetting, State.namePrimary_mp]

@[simp] theorem State.nameAlternate_lines (s : State) (sl : Option SlotNo) (l : LineNo) : (s.nameAlternate sl l).lines = s.lines := by
  unfold State.nameAlternate; try dsimp only
  (repeat' split) <;> simp
@[simp] theorem State.nameAlternate_directories (s : State) (sl : Option SlotNo) (l : LineNo) : (s.nameAlternate sl l).directories = s.directories := by
  unfold State.nameAlternate; try dsimp only
  (repeat' split) <;> simp
@[simp] theorem State.nameAlternate_channels (s : State) (sl : Option SlotNo) (l : LineNo) : (s.nameAlternate sl l).channels = s.channels := by
  unfold State.nameAlternate; try dsimp only
  (repeat' split) <;> simp
@[simp] theorem State.nameAlternate_selections (s : State) (sl : Option SlotNo) (l : LineNo) : (s.nameAlternate sl l).selections = s.selections := by
  unfold State.nameAlternate; try dsimp only
  (repeat' split) <;> simp
@[simp] theorem State.nameAlternate_bridges (s : State) (sl : Option SlotNo) (l : LineNo) : (s.nameAlternate sl l).bridges = s.bridges := by
  unfold State.nameAlternate; try dsimp only
  (repeat' split) <;> simp
@[simp] theorem State.nameAlternate_legs (s : State) (sl : Option SlotNo) (l : LineNo) : (s.nameAlternate sl l).legs = s.legs := by
  unfold State.nameAlternate; try dsimp only
  (repeat' split) <;> simp
@[simp] theorem State.nameAlternate_generators (s : State) (sl : Option SlotNo) (l : LineNo) : (s.nameAlternate sl l).generators = s.generators := by
  unfold State.nameAlternate; try dsimp only
  (repeat' split) <;> simp
@[simp] theorem State.nameAlternate_inFlight (s : State) (sl : Option SlotNo) (l : LineNo) : (s.nameAlternate sl l).inFlight = s.inFlight := by
  unfold State.nameAlternate; try dsimp only
  (repeat' split) <;> simp
@[simp] theorem State.nameAlternate_reports (s : State) (sl : Option SlotNo) (l : LineNo) : (s.nameAlternate sl l).reports = s.reports := by
  unfold State.nameAlternate; try dsimp only
  (repeat' split) <;> simp
@[simp] theorem State.nameAlternate_links (s : State) (sl : Option SlotNo) (l : LineNo) : (s.nameAlternate sl l).links = s.links := by
  unfold State.nameAlternate; try dsimp only
  (repeat' split) <;> simp
@[simp] theorem State.nameAlternate_pointer (s : State) (sl : Option SlotNo) (l : LineNo) : (s.nameAlternate sl l).pointer = s.pointer := by
  unfold State.nameAlternate; try dsimp only
  (repeat' split) <;> simp
@[simp] theorem State.nameAlternate_frameCount (s : State) (sl : Option SlotNo) (l : LineNo) : (s.nameAlternate sl l).frameCount = s.frameCount := by
  unfold State.nameAlternate; try dsimp only
  (repeat' split) <;> simp
@[simp] theorem State.nameAlternate_mp (s : State) (sl : Option SlotNo) (l : LineNo) : (s.nameAlternate sl l).mp = s.mp := by
  unfold State.nameAlternate; try dsimp only
  (repeat' split) <;> simp
@[simp] theorem State.nameAlternate_pending (s : State) (sl : Option SlotNo) (l : LineNo) : (s.nameAlternate sl l).pending = s.pending := by
  unfold State.nameAlternate; try dsimp only
  (repeat' split) <;> simp
@[simp] theorem State.line_nameAlternate (s : State) (sl : Option SlotNo) (l : LineNo) (l' : LineNo) : (s.nameAlternate sl l).line l' = s.line l' := by
  simp only [State.line, State.nameAlternate_lines]
@[simp] theorem State.channel_nameAlternate (s : State) (sl : Option SlotNo) (l : LineNo) (c' : ChanNo) : (s.nameAlternate sl l).channel c' = s.channel c' := by
  simp only [State.channel, State.nameAlternate_channels]
@[simp] theorem State.bridge_nameAlternate (s : State) (sl : Option SlotNo) (l : LineNo) (b' : BridgeNo) : (s.nameAlternate sl l).bridge b' = s.bridge b' := by
  simp only [State.bridge, State.nameAlternate_bridges]
@[simp] theorem State.leg_nameAlternate (s : State) (sl : Option SlotNo) (l : LineNo) (g' : LegNo) : (s.nameAlternate sl l).leg g' = s.leg g' := by
  simp only [State.leg, State.nameAlternate_legs]
@[simp] theorem State.generator_nameAlternate (s : State) (sl : Option SlotNo) (l : LineNo) (n' : GenNo) : (s.nameAlternate sl l).generator n' = s.generator n' := by
  simp only [State.generator, State.nameAlternate_generators]
@[simp] theorem State.link_nameAlternate (s : State) (sl : Option SlotNo) (l : LineNo) (p' : Pos) : (s.nameAlternate sl l).link p' = s.link p' := by
  simp only [State.link, State.nameAlternate_links]
@[simp] theorem State.keyLine_nameAlternate (s : State) (sl : Option SlotNo) (l : LineNo) (p' : Pos) (k' : Key) : (s.nameAlternate sl l).keyLine p' k' = s.keyLine p' k' := by
  simp only [State.keyLine, State.nameAlternate_directories]
@[simp] theorem State.selection_nameAlternate (s : State) (sl : Option SlotNo) (l : LineNo) (p' : Pos) (u' : UnitNo) : (s.nameAlternate sl l).selection p' u' = s.selection p' u' := by
  simp only [State.selection, State.nameAlternate_selections]
@[simp] theorem State.resetting_nameAlternate (s : State) (sl : Option SlotNo) (l : LineNo) : (s.nameAlternate sl l).resetting = s.resetting := by
  simp only [State.resetting, State.nameAlternate_mp]

@[simp] theorem State.unnamePrimary_lines (s : State) (sl : Option SlotNo) : (s.unnamePrimary sl).lines = s.lines := by
  unfold State.unnamePrimary; try dsimp only
  (repeat' split) <;> simp
@[simp] theorem State.unnamePrimary_directories (s : State) (sl : Option SlotNo) : (s.unnamePrimary sl).directories = s.directories := by
  unfold State.unnamePrimary; try dsimp only
  (repeat' split) <;> simp
@[simp] theorem State.unnamePrimary_channels (s : State) (sl : Option SlotNo) : (s.unnamePrimary sl).channels = s.channels := by
  unfold State.unnamePrimary; try dsimp only
  (repeat' split) <;> simp
@[simp] theorem State.unnamePrimary_selections (s : State) (sl : Option SlotNo) : (s.unnamePrimary sl).selections = s.selections := by
  unfold State.unnamePrimary; try dsimp only
  (repeat' split) <;> simp
@[simp] theorem State.unnamePrimary_bridges (s : State) (sl : Option SlotNo) : (s.unnamePrimary sl).bridges = s.bridges := by
  unfold State.unnamePrimary; try dsimp only
  (repeat' split) <;> simp
@[simp] theorem State.unnamePrimary_legs (s : State) (sl : Option SlotNo) : (s.unnamePrimary sl).legs = s.legs := by
  unfold State.unnamePrimary; try dsimp only
  (repeat' split) <;> simp
@[simp] theorem State.unnamePrimary_generators (s : State) (sl : Option SlotNo) : (s.unnamePrimary sl).generators = s.generators := by
  unfold State.unnamePrimary; try dsimp only
  (repeat' split) <;> simp
@[simp] theorem State.unnamePrimary_inFlight (s : State) (sl : Option SlotNo) : (s.unnamePrimary sl).inFlight = s.inFlight := by
  unfold State.unnamePrimary; try dsimp only
  (repeat' split) <;> simp
@[simp] theorem State.unnamePrimary_reports (s : State) (sl : Option SlotNo) : (s.unnamePrimary sl).reports = s.reports := by
  unfold State.unnamePrimary; try dsimp only
  (repeat' split) <;> simp
@[simp] theorem State.unnamePrimary_links (s : State) (sl : Option SlotNo) : (s.unnamePrimary sl).links = s.links := by
  unfold State.unnamePrimary; try dsimp only
  (repeat' split) <;> simp
@[simp] theorem State.unnamePrimary_pointer (s : State) (sl : Option SlotNo) : (s.unnamePrimary sl).pointer = s.pointer := by
  unfold State.unnamePrimary; try dsimp only
  (repeat' split) <;> simp
@[simp] theorem State.unnamePrimary_frameCount (s : State) (sl : Option SlotNo) : (s.unnamePrimary sl).frameCount = s.frameCount := by
  unfold State.unnamePrimary; try dsimp only
  (repeat' split) <;> simp
@[simp] theorem State.unnamePrimary_mp (s : State) (sl : Option SlotNo) : (s.unnamePrimary sl).mp = s.mp := by
  unfold State.unnamePrimary; try dsimp only
  (repeat' split) <;> simp
@[simp] theorem State.unnamePrimary_pending (s : State) (sl : Option SlotNo) : (s.unnamePrimary sl).pending = s.pending := by
  unfold State.unnamePrimary; try dsimp only
  (repeat' split) <;> simp
@[simp] theorem State.line_unnamePrimary (s : State) (sl : Option SlotNo) (l' : LineNo) : (s.unnamePrimary sl).line l' = s.line l' := by
  simp only [State.line, State.unnamePrimary_lines]
@[simp] theorem State.channel_unnamePrimary (s : State) (sl : Option SlotNo) (c' : ChanNo) : (s.unnamePrimary sl).channel c' = s.channel c' := by
  simp only [State.channel, State.unnamePrimary_channels]
@[simp] theorem State.bridge_unnamePrimary (s : State) (sl : Option SlotNo) (b' : BridgeNo) : (s.unnamePrimary sl).bridge b' = s.bridge b' := by
  simp only [State.bridge, State.unnamePrimary_bridges]
@[simp] theorem State.leg_unnamePrimary (s : State) (sl : Option SlotNo) (g' : LegNo) : (s.unnamePrimary sl).leg g' = s.leg g' := by
  simp only [State.leg, State.unnamePrimary_legs]
@[simp] theorem State.generator_unnamePrimary (s : State) (sl : Option SlotNo) (n' : GenNo) : (s.unnamePrimary sl).generator n' = s.generator n' := by
  simp only [State.generator, State.unnamePrimary_generators]
@[simp] theorem State.link_unnamePrimary (s : State) (sl : Option SlotNo) (p' : Pos) : (s.unnamePrimary sl).link p' = s.link p' := by
  simp only [State.link, State.unnamePrimary_links]
@[simp] theorem State.keyLine_unnamePrimary (s : State) (sl : Option SlotNo) (p' : Pos) (k' : Key) : (s.unnamePrimary sl).keyLine p' k' = s.keyLine p' k' := by
  simp only [State.keyLine, State.unnamePrimary_directories]
@[simp] theorem State.selection_unnamePrimary (s : State) (sl : Option SlotNo) (p' : Pos) (u' : UnitNo) : (s.unnamePrimary sl).selection p' u' = s.selection p' u' := by
  simp only [State.selection, State.unnamePrimary_selections]
@[simp] theorem State.resetting_unnamePrimary (s : State) (sl : Option SlotNo) : (s.unnamePrimary sl).resetting = s.resetting := by
  simp only [State.resetting, State.unnamePrimary_mp]

@[simp] theorem State.unnameAlternate_lines (s : State) (sl : Option SlotNo) (l : LineNo) : (s.unnameAlternate sl l).lines = s.lines := by
  unfold State.unnameAlternate; try dsimp only
  (repeat' split) <;> simp
@[simp] theorem State.unnameAlternate_directories (s : State) (sl : Option SlotNo) (l : LineNo) : (s.unnameAlternate sl l).directories = s.directories := by
  unfold State.unnameAlternate; try dsimp only
  (repeat' split) <;> simp
@[simp] theorem State.unnameAlternate_channels (s : State) (sl : Option SlotNo) (l : LineNo) : (s.unnameAlternate sl l).channels = s.channels := by
  unfold State.unnameAlternate; try dsimp only
  (repeat' split) <;> simp
@[simp] theorem State.unnameAlternate_selections (s : State) (sl : Option SlotNo) (l : LineNo) : (s.unnameAlternate sl l).selections = s.selections := by
  unfold State.unnameAlternate; try dsimp only
  (repeat' split) <;> simp
@[simp] theorem State.unnameAlternate_bridges (s : State) (sl : Option SlotNo) (l : LineNo) : (s.unnameAlternate sl l).bridges = s.bridges := by
  unfold State.unnameAlternate; try dsimp only
  (repeat' split) <;> simp
@[simp] theorem State.unnameAlternate_legs (s : State) (sl : Option SlotNo) (l : LineNo) : (s.unnameAlternate sl l).legs = s.legs := by
  unfold State.unnameAlternate; try dsimp only
  (repeat' split) <;> simp
@[simp] theorem State.unnameAlternate_generators (s : State) (sl : Option SlotNo) (l : LineNo) : (s.unnameAlternate sl l).generators = s.generators := by
  unfold State.unnameAlternate; try dsimp only
  (repeat' split) <;> simp
@[simp] theorem State.unnameAlternate_inFlight (s : State) (sl : Option SlotNo) (l : LineNo) : (s.unnameAlternate sl l).inFlight = s.inFlight := by
  unfold State.unnameAlternate; try dsimp only
  (repeat' split) <;> simp
@[simp] theorem State.unnameAlternate_reports (s : State) (sl : Option SlotNo) (l : LineNo) : (s.unnameAlternate sl l).reports = s.reports := by
  unfold State.unnameAlternate; try dsimp only
  (repeat' split) <;> simp
@[simp] theorem State.unnameAlternate_links (s : State) (sl : Option SlotNo) (l : LineNo) : (s.unnameAlternate sl l).links = s.links := by
  unfold State.unnameAlternate; try dsimp only
  (repeat' split) <;> simp
@[simp] theorem State.unnameAlternate_pointer (s : State) (sl : Option SlotNo) (l : LineNo) : (s.unnameAlternate sl l).pointer = s.pointer := by
  unfold State.unnameAlternate; try dsimp only
  (repeat' split) <;> simp
@[simp] theorem State.unnameAlternate_frameCount (s : State) (sl : Option SlotNo) (l : LineNo) : (s.unnameAlternate sl l).frameCount = s.frameCount := by
  unfold State.unnameAlternate; try dsimp only
  (repeat' split) <;> simp
@[simp] theorem State.unnameAlternate_mp (s : State) (sl : Option SlotNo) (l : LineNo) : (s.unnameAlternate sl l).mp = s.mp := by
  unfold State.unnameAlternate; try dsimp only
  (repeat' split) <;> simp
@[simp] theorem State.unnameAlternate_pending (s : State) (sl : Option SlotNo) (l : LineNo) : (s.unnameAlternate sl l).pending = s.pending := by
  unfold State.unnameAlternate; try dsimp only
  (repeat' split) <;> simp
@[simp] theorem State.line_unnameAlternate (s : State) (sl : Option SlotNo) (l : LineNo) (l' : LineNo) : (s.unnameAlternate sl l).line l' = s.line l' := by
  simp only [State.line, State.unnameAlternate_lines]
@[simp] theorem State.channel_unnameAlternate (s : State) (sl : Option SlotNo) (l : LineNo) (c' : ChanNo) : (s.unnameAlternate sl l).channel c' = s.channel c' := by
  simp only [State.channel, State.unnameAlternate_channels]
@[simp] theorem State.bridge_unnameAlternate (s : State) (sl : Option SlotNo) (l : LineNo) (b' : BridgeNo) : (s.unnameAlternate sl l).bridge b' = s.bridge b' := by
  simp only [State.bridge, State.unnameAlternate_bridges]
@[simp] theorem State.leg_unnameAlternate (s : State) (sl : Option SlotNo) (l : LineNo) (g' : LegNo) : (s.unnameAlternate sl l).leg g' = s.leg g' := by
  simp only [State.leg, State.unnameAlternate_legs]
@[simp] theorem State.generator_unnameAlternate (s : State) (sl : Option SlotNo) (l : LineNo) (n' : GenNo) : (s.unnameAlternate sl l).generator n' = s.generator n' := by
  simp only [State.generator, State.unnameAlternate_generators]
@[simp] theorem State.link_unnameAlternate (s : State) (sl : Option SlotNo) (l : LineNo) (p' : Pos) : (s.unnameAlternate sl l).link p' = s.link p' := by
  simp only [State.link, State.unnameAlternate_links]
@[simp] theorem State.keyLine_unnameAlternate (s : State) (sl : Option SlotNo) (l : LineNo) (p' : Pos) (k' : Key) : (s.unnameAlternate sl l).keyLine p' k' = s.keyLine p' k' := by
  simp only [State.keyLine, State.unnameAlternate_directories]
@[simp] theorem State.selection_unnameAlternate (s : State) (sl : Option SlotNo) (l : LineNo) (p' : Pos) (u' : UnitNo) : (s.unnameAlternate sl l).selection p' u' = s.selection p' u' := by
  simp only [State.selection, State.unnameAlternate_selections]
@[simp] theorem State.resetting_unnameAlternate (s : State) (sl : Option SlotNo) (l : LineNo) : (s.unnameAlternate sl l).resetting = s.resetting := by
  simp only [State.resetting, State.unnameAlternate_mp]

@[simp] theorem State.takeSlot_lines (s : State) (sl : SlotNo) (o : Owner) : (s.takeSlot sl o).lines = s.lines := by
  unfold State.takeSlot; try dsimp only
  (repeat' split) <;> simp
@[simp] theorem State.takeSlot_directories (s : State) (sl : SlotNo) (o : Owner) : (s.takeSlot sl o).directories = s.directories := by
  unfold State.takeSlot; try dsimp only
  (repeat' split) <;> simp
@[simp] theorem State.takeSlot_channels (s : State) (sl : SlotNo) (o : Owner) : (s.takeSlot sl o).channels = s.channels := by
  unfold State.takeSlot; try dsimp only
  (repeat' split) <;> simp
@[simp] theorem State.takeSlot_selections (s : State) (sl : SlotNo) (o : Owner) : (s.takeSlot sl o).selections = s.selections := by
  unfold State.takeSlot; try dsimp only
  (repeat' split) <;> simp
@[simp] theorem State.takeSlot_bridges (s : State) (sl : SlotNo) (o : Owner) : (s.takeSlot sl o).bridges = s.bridges := by
  unfold State.takeSlot; try dsimp only
  (repeat' split) <;> simp
@[simp] theorem State.takeSlot_legs (s : State) (sl : SlotNo) (o : Owner) : (s.takeSlot sl o).legs = s.legs := by
  unfold State.takeSlot; try dsimp only
  (repeat' split) <;> simp
@[simp] theorem State.takeSlot_generators (s : State) (sl : SlotNo) (o : Owner) : (s.takeSlot sl o).generators = s.generators := by
  unfold State.takeSlot; try dsimp only
  (repeat' split) <;> simp
@[simp] theorem State.takeSlot_timers (s : State) (sl : SlotNo) (o : Owner) : (s.takeSlot sl o).timers = s.timers := by
  unfold State.takeSlot; try dsimp only
  (repeat' split) <;> simp
@[simp] theorem State.takeSlot_inFlight (s : State) (sl : SlotNo) (o : Owner) : (s.takeSlot sl o).inFlight = s.inFlight := by
  unfold State.takeSlot; try dsimp only
  (repeat' split) <;> simp
@[simp] theorem State.takeSlot_reports (s : State) (sl : SlotNo) (o : Owner) : (s.takeSlot sl o).reports = s.reports := by
  unfold State.takeSlot; try dsimp only
  (repeat' split) <;> simp
@[simp] theorem State.takeSlot_links (s : State) (sl : SlotNo) (o : Owner) : (s.takeSlot sl o).links = s.links := by
  unfold State.takeSlot; try dsimp only
  (repeat' split) <;> simp
@[simp] theorem State.takeSlot_pointer (s : State) (sl : SlotNo) (o : Owner) : (s.takeSlot sl o).pointer = s.pointer := by
  unfold State.takeSlot; try dsimp only
  (repeat' split) <;> simp
@[simp] theorem State.takeSlot_frameCount (s : State) (sl : SlotNo) (o : Owner) : (s.takeSlot sl o).frameCount = s.frameCount := by
  unfold State.takeSlot; try dsimp only
  (repeat' split) <;> simp
@[simp] theorem State.takeSlot_mp (s : State) (sl : SlotNo) (o : Owner) : (s.takeSlot sl o).mp = s.mp := by
  unfold State.takeSlot; try dsimp only
  (repeat' split) <;> simp
@[simp] theorem State.takeSlot_pending (s : State) (sl : SlotNo) (o : Owner) : (s.takeSlot sl o).pending = s.pending := by
  unfold State.takeSlot; try dsimp only
  (repeat' split) <;> simp
@[simp] theorem State.line_takeSlot (s : State) (sl : SlotNo) (o : Owner) (l' : LineNo) : (s.takeSlot sl o).line l' = s.line l' := by
  simp only [State.line, State.takeSlot_lines]
@[simp] theorem State.channel_takeSlot (s : State) (sl : SlotNo) (o : Owner) (c' : ChanNo) : (s.takeSlot sl o).channel c' = s.channel c' := by
  simp only [State.channel, State.takeSlot_channels]
@[simp] theorem State.bridge_takeSlot (s : State) (sl : SlotNo) (o : Owner) (b' : BridgeNo) : (s.takeSlot sl o).bridge b' = s.bridge b' := by
  simp only [State.bridge, State.takeSlot_bridges]
@[simp] theorem State.leg_takeSlot (s : State) (sl : SlotNo) (o : Owner) (g' : LegNo) : (s.takeSlot sl o).leg g' = s.leg g' := by
  simp only [State.leg, State.takeSlot_legs]
@[simp] theorem State.generator_takeSlot (s : State) (sl : SlotNo) (o : Owner) (n' : GenNo) : (s.takeSlot sl o).generator n' = s.generator n' := by
  simp only [State.generator, State.takeSlot_generators]
@[simp] theorem State.link_takeSlot (s : State) (sl : SlotNo) (o : Owner) (p' : Pos) : (s.takeSlot sl o).link p' = s.link p' := by
  simp only [State.link, State.takeSlot_links]
@[simp] theorem State.keyLine_takeSlot (s : State) (sl : SlotNo) (o : Owner) (p' : Pos) (k' : Key) : (s.takeSlot sl o).keyLine p' k' = s.keyLine p' k' := by
  simp only [State.keyLine, State.takeSlot_directories]
@[simp] theorem State.selection_takeSlot (s : State) (sl : SlotNo) (o : Owner) (p' : Pos) (u' : UnitNo) : (s.takeSlot sl o).selection p' u' = s.selection p' u' := by
  simp only [State.selection, State.takeSlot_selections]
@[simp] theorem State.timer_takeSlot (s : State) (sl : SlotNo) (o : Owner) (t' : TimerId) : (s.takeSlot sl o).timer t' = s.timer t' := by
  simp only [State.timer, State.takeSlot_timers]
@[simp] theorem State.resetting_takeSlot (s : State) (sl : SlotNo) (o : Owner) : (s.takeSlot sl o).resetting = s.resetting := by
  simp only [State.resetting, State.takeSlot_mp]

@[simp] theorem State.dropSlot_lines (s : State) (sl : Option SlotNo) : (s.dropSlot sl).lines = s.lines := by
  unfold State.dropSlot; try dsimp only
  (repeat' split) <;> simp
@[simp] theorem State.dropSlot_directories (s : State) (sl : Option SlotNo) : (s.dropSlot sl).directories = s.directories := by
  unfold State.dropSlot; try dsimp only
  (repeat' split) <;> simp
@[simp] theorem State.dropSlot_channels (s : State) (sl : Option SlotNo) : (s.dropSlot sl).channels = s.channels := by
  unfold State.dropSlot; try dsimp only
  (repeat' split) <;> simp
@[simp] theorem State.dropSlot_selections (s : State) (sl : Option SlotNo) : (s.dropSlot sl).selections = s.selections := by
  unfold State.dropSlot; try dsimp only
  (repeat' split) <;> simp
@[simp] theorem State.dropSlot_bridges (s : State) (sl : Option SlotNo) : (s.dropSlot sl).bridges = s.bridges := by
  unfold State.dropSlot; try dsimp only
  (repeat' split) <;> simp
@[simp] theorem State.dropSlot_legs (s : State) (sl : Option SlotNo) : (s.dropSlot sl).legs = s.legs := by
  unfold State.dropSlot; try dsimp only
  (repeat' split) <;> simp
@[simp] theorem State.dropSlot_generators (s : State) (sl : Option SlotNo) : (s.dropSlot sl).generators = s.generators := by
  unfold State.dropSlot; try dsimp only
  (repeat' split) <;> simp
@[simp] theorem State.dropSlot_timers (s : State) (sl : Option SlotNo) : (s.dropSlot sl).timers = s.timers := by
  unfold State.dropSlot; try dsimp only
  (repeat' split) <;> simp
@[simp] theorem State.dropSlot_inFlight (s : State) (sl : Option SlotNo) : (s.dropSlot sl).inFlight = s.inFlight := by
  unfold State.dropSlot; try dsimp only
  (repeat' split) <;> simp
@[simp] theorem State.dropSlot_reports (s : State) (sl : Option SlotNo) : (s.dropSlot sl).reports = s.reports := by
  unfold State.dropSlot; try dsimp only
  (repeat' split) <;> simp
@[simp] theorem State.dropSlot_links (s : State) (sl : Option SlotNo) : (s.dropSlot sl).links = s.links := by
  unfold State.dropSlot; try dsimp only
  (repeat' split) <;> simp
@[simp] theorem State.dropSlot_pointer (s : State) (sl : Option SlotNo) : (s.dropSlot sl).pointer = s.pointer := by
  unfold State.dropSlot; try dsimp only
  (repeat' split) <;> simp
@[simp] theorem State.dropSlot_frameCount (s : State) (sl : Option SlotNo) : (s.dropSlot sl).frameCount = s.frameCount := by
  unfold State.dropSlot; try dsimp only
  (repeat' split) <;> simp
@[simp] theorem State.dropSlot_mp (s : State) (sl : Option SlotNo) : (s.dropSlot sl).mp = s.mp := by
  unfold State.dropSlot; try dsimp only
  (repeat' split) <;> simp
@[simp] theorem State.dropSlot_pending (s : State) (sl : Option SlotNo) : (s.dropSlot sl).pending = s.pending := by
  unfold State.dropSlot; try dsimp only
  (repeat' split) <;> simp
@[simp] theorem State.line_dropSlot (s : State) (sl : Option SlotNo) (l' : LineNo) : (s.dropSlot sl).line l' = s.line l' := by
  simp only [State.line, State.dropSlot_lines]
@[simp] theorem State.channel_dropSlot (s : State) (sl : Option SlotNo) (c' : ChanNo) : (s.dropSlot sl).channel c' = s.channel c' := by
  simp only [State.channel, State.dropSlot_channels]
@[simp] theorem State.bridge_dropSlot (s : State) (sl : Option SlotNo) (b' : BridgeNo) : (s.dropSlot sl).bridge b' = s.bridge b' := by
  simp only [State.bridge, State.dropSlot_bridges]
@[simp] theorem State.leg_dropSlot (s : State) (sl : Option SlotNo) (g' : LegNo) : (s.dropSlot sl).leg g' = s.leg g' := by
  simp only [State.leg, State.dropSlot_legs]
@[simp] theorem State.generator_dropSlot (s : State) (sl : Option SlotNo) (n' : GenNo) : (s.dropSlot sl).generator n' = s.generator n' := by
  simp only [State.generator, State.dropSlot_generators]
@[simp] theorem State.link_dropSlot (s : State) (sl : Option SlotNo) (p' : Pos) : (s.dropSlot sl).link p' = s.link p' := by
  simp only [State.link, State.dropSlot_links]
@[simp] theorem State.keyLine_dropSlot (s : State) (sl : Option SlotNo) (p' : Pos) (k' : Key) : (s.dropSlot sl).keyLine p' k' = s.keyLine p' k' := by
  simp only [State.keyLine, State.dropSlot_directories]
@[simp] theorem State.selection_dropSlot (s : State) (sl : Option SlotNo) (p' : Pos) (u' : UnitNo) : (s.dropSlot sl).selection p' u' = s.selection p' u' := by
  simp only [State.selection, State.dropSlot_selections]
@[simp] theorem State.timer_dropSlot (s : State) (sl : Option SlotNo) (t' : TimerId) : (s.dropSlot sl).timer t' = s.timer t' := by
  simp only [State.timer, State.dropSlot_timers]
@[simp] theorem State.resetting_dropSlot (s : State) (sl : Option SlotNo) : (s.dropSlot sl).resetting = s.resetting := by
  simp only [State.resetting, State.dropSlot_mp]

@[simp] theorem State.claimLine_directories (s : State) (l : LineNo) (sl : SlotNo) : (s.claimLine l sl).directories = s.directories := by
  unfold State.claimLine; try dsimp only
  (repeat' split) <;> simp
@[simp] theorem State.claimLine_channels (s : State) (l : LineNo) (sl : SlotNo) : (s.claimLine l sl).channels = s.channels := by
  unfold State.claimLine; try dsimp only
  (repeat' split) <;> simp
@[simp] theorem State.claimLine_selections (s : State) (l : LineNo) (sl : SlotNo) : (s.claimLine l sl).selections = s.selections := by
  unfold State.claimLine; try dsimp only
  (repeat' split) <;> simp
@[simp] theorem State.claimLine_bridges (s : State) (l : LineNo) (sl : SlotNo) : (s.claimLine l sl).bridges = s.bridges := by
  unfold State.claimLine; try dsimp only
  (repeat' split) <;> simp
@[simp] theorem State.claimLine_legs (s : State) (l : LineNo) (sl : SlotNo) : (s.claimLine l sl).legs = s.legs := by
  unfold State.claimLine; try dsimp only
  (repeat' split) <;> simp
@[simp] theorem State.claimLine_generators (s : State) (l : LineNo) (sl : SlotNo) : (s.claimLine l sl).generators = s.generators := by
  unfold State.claimLine; try dsimp only
  (repeat' split) <;> simp
@[simp] theorem State.claimLine_timers (s : State) (l : LineNo) (sl : SlotNo) : (s.claimLine l sl).timers = s.timers := by
  unfold State.claimLine; try dsimp only
  (repeat' split) <;> simp
@[simp] theorem State.claimLine_inFlight (s : State) (l : LineNo) (sl : SlotNo) : (s.claimLine l sl).inFlight = s.inFlight := by
  unfold State.claimLine; try dsimp only
  (repeat' split) <;> simp
@[simp] theorem State.claimLine_reports (s : State) (l : LineNo) (sl : SlotNo) : (s.claimLine l sl).reports = s.reports := by
  unfold State.claimLine; try dsimp only
  (repeat' split) <;> simp
@[simp] theorem State.claimLine_links (s : State) (l : LineNo) (sl : SlotNo) : (s.claimLine l sl).links = s.links := by
  unfold State.claimLine; try dsimp only
  (repeat' split) <;> simp
@[simp] theorem State.claimLine_pointer (s : State) (l : LineNo) (sl : SlotNo) : (s.claimLine l sl).pointer = s.pointer := by
  unfold State.claimLine; try dsimp only
  (repeat' split) <;> simp
@[simp] theorem State.claimLine_frameCount (s : State) (l : LineNo) (sl : SlotNo) : (s.claimLine l sl).frameCount = s.frameCount := by
  unfold State.claimLine; try dsimp only
  (repeat' split) <;> simp
@[simp] theorem State.claimLine_mp (s : State) (l : LineNo) (sl : SlotNo) : (s.claimLine l sl).mp = s.mp := by
  unfold State.claimLine; try dsimp only
  (repeat' split) <;> simp
@[simp] theorem State.claimLine_pending (s : State) (l : LineNo) (sl : SlotNo) : (s.claimLine l sl).pending = s.pending := by
  unfold State.claimLine; try dsimp only
  (repeat' split) <;> simp
@[simp] theorem State.channel_claimLine (s : State) (l : LineNo) (sl : SlotNo) (c' : ChanNo) : (s.claimLine l sl).channel c' = s.channel c' := by
  simp only [State.channel, State.claimLine_channels]
@[simp] theorem State.bridge_claimLine (s : State) (l : LineNo) (sl : SlotNo) (b' : BridgeNo) : (s.claimLine l sl).bridge b' = s.bridge b' := by
  simp only [State.bridge, State.claimLine_bridges]
@[simp] theorem State.leg_claimLine (s : State) (l : LineNo) (sl : SlotNo) (g' : LegNo) : (s.claimLine l sl).leg g' = s.leg g' := by
  simp only [State.leg, State.claimLine_legs]
@[simp] theorem State.generator_claimLine (s : State) (l : LineNo) (sl : SlotNo) (n' : GenNo) : (s.claimLine l sl).generator n' = s.generator n' := by
  simp only [State.generator, State.claimLine_generators]
@[simp] theorem State.link_claimLine (s : State) (l : LineNo) (sl : SlotNo) (p' : Pos) : (s.claimLine l sl).link p' = s.link p' := by
  simp only [State.link, State.claimLine_links]
@[simp] theorem State.keyLine_claimLine (s : State) (l : LineNo) (sl : SlotNo) (p' : Pos) (k' : Key) : (s.claimLine l sl).keyLine p' k' = s.keyLine p' k' := by
  simp only [State.keyLine, State.claimLine_directories]
@[simp] theorem State.selection_claimLine (s : State) (l : LineNo) (sl : SlotNo) (p' : Pos) (u' : UnitNo) : (s.claimLine l sl).selection p' u' = s.selection p' u' := by
  simp only [State.selection, State.claimLine_selections]
@[simp] theorem State.timer_claimLine (s : State) (l : LineNo) (sl : SlotNo) (t' : TimerId) : (s.claimLine l sl).timer t' = s.timer t' := by
  simp only [State.timer, State.claimLine_timers]
@[simp] theorem State.resetting_claimLine (s : State) (l : LineNo) (sl : SlotNo) : (s.claimLine l sl).resetting = s.resetting := by
  simp only [State.resetting, State.claimLine_mp]

@[simp] theorem State.claimChannel_lines (s : State) (c : ChanNo) (sl : SlotNo) : (s.claimChannel c sl).lines = s.lines := by
  unfold State.claimChannel; try dsimp only
  (repeat' split) <;> simp
@[simp] theorem State.claimChannel_directories (s : State) (c : ChanNo) (sl : SlotNo) : (s.claimChannel c sl).directories = s.directories := by
  unfold State.claimChannel; try dsimp only
  (repeat' split) <;> simp
@[simp] theorem State.claimChannel_selections (s : State) (c : ChanNo) (sl : SlotNo) : (s.claimChannel c sl).selections = s.selections := by
  unfold State.claimChannel; try dsimp only
  (repeat' split) <;> simp
@[simp] theorem State.claimChannel_generators (s : State) (c : ChanNo) (sl : SlotNo) : (s.claimChannel c sl).generators = s.generators := by
  unfold State.claimChannel; try dsimp only
  (repeat' split) <;> simp
@[simp] theorem State.claimChannel_timers (s : State) (c : ChanNo) (sl : SlotNo) : (s.claimChannel c sl).timers = s.timers := by
  unfold State.claimChannel; try dsimp only
  (repeat' split) <;> simp
@[simp] theorem State.claimChannel_inFlight (s : State) (c : ChanNo) (sl : SlotNo) : (s.claimChannel c sl).inFlight = s.inFlight := by
  unfold State.claimChannel; try dsimp only
  (repeat' split) <;> simp
@[simp] theorem State.claimChannel_reports (s : State) (c : ChanNo) (sl : SlotNo) : (s.claimChannel c sl).reports = s.reports := by
  unfold State.claimChannel; try dsimp only
  (repeat' split) <;> simp
@[simp] theorem State.claimChannel_links (s : State) (c : ChanNo) (sl : SlotNo) : (s.claimChannel c sl).links = s.links := by
  unfold State.claimChannel; try dsimp only
  (repeat' split) <;> simp
@[simp] theorem State.claimChannel_pointer (s : State) (c : ChanNo) (sl : SlotNo) : (s.claimChannel c sl).pointer = s.pointer := by
  unfold State.claimChannel; try dsimp only
  (repeat' split) <;> simp
@[simp] theorem State.claimChannel_frameCount (s : State) (c : ChanNo) (sl : SlotNo) : (s.claimChannel c sl).frameCount = s.frameCount := by
  unfold State.claimChannel; try dsimp only
  (repeat' split) <;> simp
@[simp] theorem State.claimChannel_mp (s : State) (c : ChanNo) (sl : SlotNo) : (s.claimChannel c sl).mp = s.mp := by
  unfold State.claimChannel; try dsimp only
  (repeat' split) <;> simp
@[simp] theorem State.claimChannel_pending (s : State) (c : ChanNo) (sl : SlotNo) : (s.claimChannel c sl).pending = s.pending := by
  unfold State.claimChannel; try dsimp only
  (repeat' split) <;> simp
@[simp] theorem State.line_claimChannel (s : State) (c : ChanNo) (sl : SlotNo) (l' : LineNo) : (s.claimChannel c sl).line l' = s.line l' := by
  simp only [State.line, State.claimChannel_lines]
@[simp] theorem State.generator_claimChannel (s : State) (c : ChanNo) (sl : SlotNo) (n' : GenNo) : (s.claimChannel c sl).generator n' = s.generator n' := by
  simp only [State.generator, State.claimChannel_generators]
@[simp] theorem State.link_claimChannel (s : State) (c : ChanNo) (sl : SlotNo) (p' : Pos) : (s.claimChannel c sl).link p' = s.link p' := by
  simp only [State.link, State.claimChannel_links]
@[simp] theorem State.keyLine_claimChannel (s : State) (c : ChanNo) (sl : SlotNo) (p' : Pos) (k' : Key) : (s.claimChannel c sl).keyLine p' k' = s.keyLine p' k' := by
  simp only [State.keyLine, State.claimChannel_directories]
@[simp] theorem State.selection_claimChannel (s : State) (c : ChanNo) (sl : SlotNo) (p' : Pos) (u' : UnitNo) : (s.claimChannel c sl).selection p' u' = s.selection p' u' := by
  simp only [State.selection, State.claimChannel_selections]
@[simp] theorem State.timer_claimChannel (s : State) (c : ChanNo) (sl : SlotNo) (t' : TimerId) : (s.claimChannel c sl).timer t' = s.timer t' := by
  simp only [State.timer, State.claimChannel_timers]
@[simp] theorem State.resetting_claimChannel (s : State) (c : ChanNo) (sl : SlotNo) : (s.claimChannel c sl).resetting = s.resetting := by
  simp only [State.resetting, State.claimChannel_mp]

@[simp] theorem State.claimTrunk_lines (s : State) (c : ChanNo) (sl : Option SlotNo) : (s.claimTrunk c sl).lines = s.lines := by
  unfold State.claimTrunk; try dsimp only
  (repeat' split) <;> simp
@[simp] theorem State.claimTrunk_directories (s : State) (c : ChanNo) (sl : Option SlotNo) : (s.claimTrunk c sl).directories = s.directories := by
  unfold State.claimTrunk; try dsimp only
  (repeat' split) <;> simp
@[simp] theorem State.claimTrunk_selections (s : State) (c : ChanNo) (sl : Option SlotNo) : (s.claimTrunk c sl).selections = s.selections := by
  unfold State.claimTrunk; try dsimp only
  (repeat' split) <;> simp
@[simp] theorem State.claimTrunk_generators (s : State) (c : ChanNo) (sl : Option SlotNo) : (s.claimTrunk c sl).generators = s.generators := by
  unfold State.claimTrunk; try dsimp only
  (repeat' split) <;> simp
@[simp] theorem State.claimTrunk_timers (s : State) (c : ChanNo) (sl : Option SlotNo) : (s.claimTrunk c sl).timers = s.timers := by
  unfold State.claimTrunk; try dsimp only
  (repeat' split) <;> simp
@[simp] theorem State.claimTrunk_inFlight (s : State) (c : ChanNo) (sl : Option SlotNo) : (s.claimTrunk c sl).inFlight = s.inFlight := by
  unfold State.claimTrunk; try dsimp only
  (repeat' split) <;> simp
@[simp] theorem State.claimTrunk_reports (s : State) (c : ChanNo) (sl : Option SlotNo) : (s.claimTrunk c sl).reports = s.reports := by
  unfold State.claimTrunk; try dsimp only
  (repeat' split) <;> simp
@[simp] theorem State.claimTrunk_links (s : State) (c : ChanNo) (sl : Option SlotNo) : (s.claimTrunk c sl).links = s.links := by
  unfold State.claimTrunk; try dsimp only
  (repeat' split) <;> simp
@[simp] theorem State.claimTrunk_pointer (s : State) (c : ChanNo) (sl : Option SlotNo) : (s.claimTrunk c sl).pointer = s.pointer := by
  unfold State.claimTrunk; try dsimp only
  (repeat' split) <;> simp
@[simp] theorem State.claimTrunk_frameCount (s : State) (c : ChanNo) (sl : Option SlotNo) : (s.claimTrunk c sl).frameCount = s.frameCount := by
  unfold State.claimTrunk; try dsimp only
  (repeat' split) <;> simp
@[simp] theorem State.claimTrunk_mp (s : State) (c : ChanNo) (sl : Option SlotNo) : (s.claimTrunk c sl).mp = s.mp := by
  unfold State.claimTrunk; try dsimp only
  (repeat' split) <;> simp
@[simp] theorem State.claimTrunk_pending (s : State) (c : ChanNo) (sl : Option SlotNo) : (s.claimTrunk c sl).pending = s.pending := by
  unfold State.claimTrunk; try dsimp only
  (repeat' split) <;> simp
@[simp] theorem State.line_claimTrunk (s : State) (c : ChanNo) (sl : Option SlotNo) (l' : LineNo) : (s.claimTrunk c sl).line l' = s.line l' := by
  simp only [State.line, State.claimTrunk_lines]
@[simp] theorem State.generator_claimTrunk (s : State) (c : ChanNo) (sl : Option SlotNo) (n' : GenNo) : (s.claimTrunk c sl).generator n' = s.generator n' := by
  simp only [State.generator, State.claimTrunk_generators]
@[simp] theorem State.link_claimTrunk (s : State) (c : ChanNo) (sl : Option SlotNo) (p' : Pos) : (s.claimTrunk c sl).link p' = s.link p' := by
  simp only [State.link, State.claimTrunk_links]
@[simp] theorem State.keyLine_claimTrunk (s : State) (c : ChanNo) (sl : Option SlotNo) (p' : Pos) (k' : Key) : (s.claimTrunk c sl).keyLine p' k' = s.keyLine p' k' := by
  simp only [State.keyLine, State.claimTrunk_directories]
@[simp] theorem State.selection_claimTrunk (s : State) (c : ChanNo) (sl : Option SlotNo) (p' : Pos) (u' : UnitNo) : (s.claimTrunk c sl).selection p' u' = s.selection p' u' := by
  simp only [State.selection, State.claimTrunk_selections]
@[simp] theorem State.timer_claimTrunk (s : State) (c : ChanNo) (sl : Option SlotNo) (t' : TimerId) : (s.claimTrunk c sl).timer t' = s.timer t' := by
  simp only [State.timer, State.claimTrunk_timers]
@[simp] theorem State.resetting_claimTrunk (s : State) (c : ChanNo) (sl : Option SlotNo) : (s.claimTrunk c sl).resetting = s.resetting := by
  simp only [State.resetting, State.claimTrunk_mp]

@[simp] theorem State.regainLine_directories (s : State) (l : LineNo) (sl : SlotNo) : (s.regainLine l sl).directories = s.directories := by
  unfold State.regainLine; try dsimp only
  (repeat' split) <;> simp
@[simp] theorem State.regainLine_channels (s : State) (l : LineNo) (sl : SlotNo) : (s.regainLine l sl).channels = s.channels := by
  unfold State.regainLine; try dsimp only
  (repeat' split) <;> simp
@[simp] theorem State.regainLine_selections (s : State) (l : LineNo) (sl : SlotNo) : (s.regainLine l sl).selections = s.selections := by
  unfold State.regainLine; try dsimp only
  (repeat' split) <;> simp
@[simp] theorem State.regainLine_generators (s : State) (l : LineNo) (sl : SlotNo) : (s.regainLine l sl).generators = s.generators := by
  unfold State.regainLine; try dsimp only
  (repeat' split) <;> simp
@[simp] theorem State.regainLine_timers (s : State) (l : LineNo) (sl : SlotNo) : (s.regainLine l sl).timers = s.timers := by
  unfold State.regainLine; try dsimp only
  (repeat' split) <;> simp
@[simp] theorem State.regainLine_inFlight (s : State) (l : LineNo) (sl : SlotNo) : (s.regainLine l sl).inFlight = s.inFlight := by
  unfold State.regainLine; try dsimp only
  (repeat' split) <;> simp
@[simp] theorem State.regainLine_reports (s : State) (l : LineNo) (sl : SlotNo) : (s.regainLine l sl).reports = s.reports := by
  unfold State.regainLine; try dsimp only
  (repeat' split) <;> simp
@[simp] theorem State.regainLine_links (s : State) (l : LineNo) (sl : SlotNo) : (s.regainLine l sl).links = s.links := by
  unfold State.regainLine; try dsimp only
  (repeat' split) <;> simp
@[simp] theorem State.regainLine_pointer (s : State) (l : LineNo) (sl : SlotNo) : (s.regainLine l sl).pointer = s.pointer := by
  unfold State.regainLine; try dsimp only
  (repeat' split) <;> simp
@[simp] theorem State.regainLine_frameCount (s : State) (l : LineNo) (sl : SlotNo) : (s.regainLine l sl).frameCount = s.frameCount := by
  unfold State.regainLine; try dsimp only
  (repeat' split) <;> simp
@[simp] theorem State.regainLine_mp (s : State) (l : LineNo) (sl : SlotNo) : (s.regainLine l sl).mp = s.mp := by
  unfold State.regainLine; try dsimp only
  (repeat' split) <;> simp
@[simp] theorem State.regainLine_pending (s : State) (l : LineNo) (sl : SlotNo) : (s.regainLine l sl).pending = s.pending := by
  unfold State.regainLine; try dsimp only
  (repeat' split) <;> simp
@[simp] theorem State.channel_regainLine (s : State) (l : LineNo) (sl : SlotNo) (c' : ChanNo) : (s.regainLine l sl).channel c' = s.channel c' := by
  simp only [State.channel, State.regainLine_channels]
@[simp] theorem State.generator_regainLine (s : State) (l : LineNo) (sl : SlotNo) (n' : GenNo) : (s.regainLine l sl).generator n' = s.generator n' := by
  simp only [State.generator, State.regainLine_generators]
@[simp] theorem State.link_regainLine (s : State) (l : LineNo) (sl : SlotNo) (p' : Pos) : (s.regainLine l sl).link p' = s.link p' := by
  simp only [State.link, State.regainLine_links]
@[simp] theorem State.keyLine_regainLine (s : State) (l : LineNo) (sl : SlotNo) (p' : Pos) (k' : Key) : (s.regainLine l sl).keyLine p' k' = s.keyLine p' k' := by
  simp only [State.keyLine, State.regainLine_directories]
@[simp] theorem State.selection_regainLine (s : State) (l : LineNo) (sl : SlotNo) (p' : Pos) (u' : UnitNo) : (s.regainLine l sl).selection p' u' = s.selection p' u' := by
  simp only [State.selection, State.regainLine_selections]
@[simp] theorem State.timer_regainLine (s : State) (l : LineNo) (sl : SlotNo) (t' : TimerId) : (s.regainLine l sl).timer t' = s.timer t' := by
  simp only [State.timer, State.regainLine_timers]
@[simp] theorem State.resetting_regainLine (s : State) (l : LineNo) (sl : SlotNo) : (s.regainLine l sl).resetting = s.resetting := by
  simp only [State.resetting, State.regainLine_mp]

@[simp] theorem State.endAlert_directories (s : State) (l : LineNo) : (s.endAlert l).directories = s.directories := by
  unfold State.endAlert; try dsimp only
  (repeat' split) <;> simp
@[simp] theorem State.endAlert_channels (s : State) (l : LineNo) : (s.endAlert l).channels = s.channels := by
  unfold State.endAlert; try dsimp only
  (repeat' split) <;> simp
@[simp] theorem State.endAlert_selections (s : State) (l : LineNo) : (s.endAlert l).selections = s.selections := by
  unfold State.endAlert; try dsimp only
  (repeat' split) <;> simp
@[simp] theorem State.endAlert_bridges (s : State) (l : LineNo) : (s.endAlert l).bridges = s.bridges := by
  unfold State.endAlert; try dsimp only
  (repeat' split) <;> simp
@[simp] theorem State.endAlert_legs (s : State) (l : LineNo) : (s.endAlert l).legs = s.legs := by
  unfold State.endAlert; try dsimp only
  (repeat' split) <;> simp
@[simp] theorem State.endAlert_slots (s : State) (l : LineNo) : (s.endAlert l).slots = s.slots := by
  unfold State.endAlert; try dsimp only
  (repeat' split) <;> simp
@[simp] theorem State.endAlert_inFlight (s : State) (l : LineNo) : (s.endAlert l).inFlight = s.inFlight := by
  unfold State.endAlert; try dsimp only
  (repeat' split) <;> simp
@[simp] theorem State.endAlert_reports (s : State) (l : LineNo) : (s.endAlert l).reports = s.reports := by
  unfold State.endAlert; try dsimp only
  (repeat' split) <;> simp
@[simp] theorem State.endAlert_links (s : State) (l : LineNo) : (s.endAlert l).links = s.links := by
  unfold State.endAlert; try dsimp only
  (repeat' split) <;> simp
@[simp] theorem State.endAlert_pointer (s : State) (l : LineNo) : (s.endAlert l).pointer = s.pointer := by
  unfold State.endAlert; try dsimp only
  (repeat' split) <;> simp
@[simp] theorem State.endAlert_frameCount (s : State) (l : LineNo) : (s.endAlert l).frameCount = s.frameCount := by
  unfold State.endAlert; try dsimp only
  (repeat' split) <;> simp
@[simp] theorem State.endAlert_mp (s : State) (l : LineNo) : (s.endAlert l).mp = s.mp := by
  unfold State.endAlert; try dsimp only
  (repeat' split) <;> simp
@[simp] theorem State.endAlert_pending (s : State) (l : LineNo) : (s.endAlert l).pending = s.pending := by
  unfold State.endAlert; try dsimp only
  (repeat' split) <;> simp
@[simp] theorem State.channel_endAlert (s : State) (l : LineNo) (c' : ChanNo) : (s.endAlert l).channel c' = s.channel c' := by
  simp only [State.channel, State.endAlert_channels]
@[simp] theorem State.bridge_endAlert (s : State) (l : LineNo) (b' : BridgeNo) : (s.endAlert l).bridge b' = s.bridge b' := by
  simp only [State.bridge, State.endAlert_bridges]
@[simp] theorem State.leg_endAlert (s : State) (l : LineNo) (g' : LegNo) : (s.endAlert l).leg g' = s.leg g' := by
  simp only [State.leg, State.endAlert_legs]
@[simp] theorem State.slot_endAlert (s : State) (l : LineNo) (sl' : SlotNo) : (s.endAlert l).slot sl' = s.slot sl' := by
  simp only [State.slot, State.endAlert_slots]
@[simp] theorem State.link_endAlert (s : State) (l : LineNo) (p' : Pos) : (s.endAlert l).link p' = s.link p' := by
  simp only [State.link, State.endAlert_links]
@[simp] theorem State.keyLine_endAlert (s : State) (l : LineNo) (p' : Pos) (k' : Key) : (s.endAlert l).keyLine p' k' = s.keyLine p' k' := by
  simp only [State.keyLine, State.endAlert_directories]
@[simp] theorem State.selection_endAlert (s : State) (l : LineNo) (p' : Pos) (u' : UnitNo) : (s.endAlert l).selection p' u' = s.selection p' u' := by
  simp only [State.selection, State.endAlert_selections]
@[simp] theorem State.resetting_endAlert (s : State) (l : LineNo) : (s.endAlert l).resetting = s.resetting := by
  simp only [State.resetting, State.endAlert_mp]

@[simp] theorem State.loseRoute_directories (s : State) (l : LineNo) (sl : SlotNo) : (s.loseRoute l sl).directories = s.directories := by
  unfold State.loseRoute; try dsimp only
  (repeat' split) <;> simp
@[simp] theorem State.loseRoute_channels (s : State) (l : LineNo) (sl : SlotNo) : (s.loseRoute l sl).channels = s.channels := by
  unfold State.loseRoute; try dsimp only
  (repeat' split) <;> simp
@[simp] theorem State.loseRoute_selections (s : State) (l : LineNo) (sl : SlotNo) : (s.loseRoute l sl).selections = s.selections := by
  unfold State.loseRoute; try dsimp only
  (repeat' split) <;> simp
@[simp] theorem State.loseRoute_slots (s : State) (l : LineNo) (sl : SlotNo) : (s.loseRoute l sl).slots = s.slots := by
  unfold State.loseRoute; try dsimp only
  (repeat' split) <;> simp
@[simp] theorem State.loseRoute_inFlight (s : State) (l : LineNo) (sl : SlotNo) : (s.loseRoute l sl).inFlight = s.inFlight := by
  unfold State.loseRoute; try dsimp only
  (repeat' split) <;> simp
@[simp] theorem State.loseRoute_reports (s : State) (l : LineNo) (sl : SlotNo) : (s.loseRoute l sl).reports = s.reports := by
  unfold State.loseRoute; try dsimp only
  (repeat' split) <;> simp
@[simp] theorem State.loseRoute_links (s : State) (l : LineNo) (sl : SlotNo) : (s.loseRoute l sl).links = s.links := by
  unfold State.loseRoute; try dsimp only
  (repeat' split) <;> simp
@[simp] theorem State.loseRoute_pointer (s : State) (l : LineNo) (sl : SlotNo) : (s.loseRoute l sl).pointer = s.pointer := by
  unfold State.loseRoute; try dsimp only
  (repeat' split) <;> simp
@[simp] theorem State.loseRoute_frameCount (s : State) (l : LineNo) (sl : SlotNo) : (s.loseRoute l sl).frameCount = s.frameCount := by
  unfold State.loseRoute; try dsimp only
  (repeat' split) <;> simp
@[simp] theorem State.loseRoute_mp (s : State) (l : LineNo) (sl : SlotNo) : (s.loseRoute l sl).mp = s.mp := by
  unfold State.loseRoute; try dsimp only
  (repeat' split) <;> simp
@[simp] theorem State.loseRoute_pending (s : State) (l : LineNo) (sl : SlotNo) : (s.loseRoute l sl).pending = s.pending := by
  unfold State.loseRoute; try dsimp only
  (repeat' split) <;> simp
@[simp] theorem State.channel_loseRoute (s : State) (l : LineNo) (sl : SlotNo) (c' : ChanNo) : (s.loseRoute l sl).channel c' = s.channel c' := by
  simp only [State.channel, State.loseRoute_channels]
@[simp] theorem State.slot_loseRoute (s : State) (l : LineNo) (sl : SlotNo) (sl' : SlotNo) : (s.loseRoute l sl).slot sl' = s.slot sl' := by
  simp only [State.slot, State.loseRoute_slots]
@[simp] theorem State.link_loseRoute (s : State) (l : LineNo) (sl : SlotNo) (p' : Pos) : (s.loseRoute l sl).link p' = s.link p' := by
  simp only [State.link, State.loseRoute_links]
@[simp] theorem State.keyLine_loseRoute (s : State) (l : LineNo) (sl : SlotNo) (p' : Pos) (k' : Key) : (s.loseRoute l sl).keyLine p' k' = s.keyLine p' k' := by
  simp only [State.keyLine, State.loseRoute_directories]
@[simp] theorem State.selection_loseRoute (s : State) (l : LineNo) (sl : SlotNo) (p' : Pos) (u' : UnitNo) : (s.loseRoute l sl).selection p' u' = s.selection p' u' := by
  simp only [State.selection, State.loseRoute_selections]
@[simp] theorem State.resetting_loseRoute (s : State) (l : LineNo) (sl : SlotNo) : (s.loseRoute l sl).resetting = s.resetting := by
  simp only [State.resetting, State.loseRoute_mp]

@[simp] theorem State.failover_directories (s : State) (l : LineNo) (sl n : SlotNo) : (s.failover l sl n).directories = s.directories := by
  unfold State.failover; try dsimp only
  (repeat' split) <;> simp
@[simp] theorem State.failover_channels (s : State) (l : LineNo) (sl n : SlotNo) : (s.failover l sl n).channels = s.channels := by
  unfold State.failover; try dsimp only
  (repeat' split) <;> simp
@[simp] theorem State.failover_selections (s : State) (l : LineNo) (sl n : SlotNo) : (s.failover l sl n).selections = s.selections := by
  unfold State.failover; try dsimp only
  (repeat' split) <;> simp
@[simp] theorem State.failover_generators (s : State) (l : LineNo) (sl n : SlotNo) : (s.failover l sl n).generators = s.generators := by
  unfold State.failover; try dsimp only
  (repeat' split) <;> simp
@[simp] theorem State.failover_timers (s : State) (l : LineNo) (sl n : SlotNo) : (s.failover l sl n).timers = s.timers := by
  unfold State.failover; try dsimp only
  (repeat' split) <;> simp
@[simp] theorem State.failover_inFlight (s : State) (l : LineNo) (sl n : SlotNo) : (s.failover l sl n).inFlight = s.inFlight := by
  unfold State.failover; try dsimp only
  (repeat' split) <;> simp
@[simp] theorem State.failover_reports (s : State) (l : LineNo) (sl n : SlotNo) : (s.failover l sl n).reports = s.reports := by
  unfold State.failover; try dsimp only
  (repeat' split) <;> simp
@[simp] theorem State.failover_links (s : State) (l : LineNo) (sl n : SlotNo) : (s.failover l sl n).links = s.links := by
  unfold State.failover; try dsimp only
  (repeat' split) <;> simp
@[simp] theorem State.failover_pointer (s : State) (l : LineNo) (sl n : SlotNo) : (s.failover l sl n).pointer = s.pointer := by
  unfold State.failover; try dsimp only
  (repeat' split) <;> simp
@[simp] theorem State.failover_frameCount (s : State) (l : LineNo) (sl n : SlotNo) : (s.failover l sl n).frameCount = s.frameCount := by
  unfold State.failover; try dsimp only
  (repeat' split) <;> simp
@[simp] theorem State.failover_mp (s : State) (l : LineNo) (sl n : SlotNo) : (s.failover l sl n).mp = s.mp := by
  unfold State.failover; try dsimp only
  (repeat' split) <;> simp
@[simp] theorem State.failover_pending (s : State) (l : LineNo) (sl n : SlotNo) : (s.failover l sl n).pending = s.pending := by
  unfold State.failover; try dsimp only
  (repeat' split) <;> simp
@[simp] theorem State.channel_failover (s : State) (l : LineNo) (sl n : SlotNo) (c' : ChanNo) : (s.failover l sl n).channel c' = s.channel c' := by
  simp only [State.channel, State.failover_channels]
@[simp] theorem State.generator_failover (s : State) (l : LineNo) (sl n : SlotNo) (n' : GenNo) : (s.failover l sl n).generator n' = s.generator n' := by
  simp only [State.generator, State.failover_generators]
@[simp] theorem State.link_failover (s : State) (l : LineNo) (sl n : SlotNo) (p' : Pos) : (s.failover l sl n).link p' = s.link p' := by
  simp only [State.link, State.failover_links]
@[simp] theorem State.keyLine_failover (s : State) (l : LineNo) (sl n : SlotNo) (p' : Pos) (k' : Key) : (s.failover l sl n).keyLine p' k' = s.keyLine p' k' := by
  simp only [State.keyLine, State.failover_directories]
@[simp] theorem State.selection_failover (s : State) (l : LineNo) (sl n : SlotNo) (p' : Pos) (u' : UnitNo) : (s.failover l sl n).selection p' u' = s.selection p' u' := by
  simp only [State.selection, State.failover_selections]
@[simp] theorem State.timer_failover (s : State) (l : LineNo) (sl n : SlotNo) (t' : TimerId) : (s.failover l sl n).timer t' = s.timer t' := by
  simp only [State.timer, State.failover_timers]
@[simp] theorem State.resetting_failover (s : State) (l : LineNo) (sl n : SlotNo) : (s.failover l sl n).resetting = s.resetting := by
  simp only [State.resetting, State.failover_mp]

@[simp] theorem State.lineFault_directories (s : State) (l : LineNo) (sl : SlotNo) : (s.lineFault l sl).directories = s.directories := by
  unfold State.lineFault; try dsimp only
  (repeat' split) <;> simp
@[simp] theorem State.lineFault_channels (s : State) (l : LineNo) (sl : SlotNo) : (s.lineFault l sl).channels = s.channels := by
  unfold State.lineFault; try dsimp only
  (repeat' split) <;> simp
@[simp] theorem State.lineFault_selections (s : State) (l : LineNo) (sl : SlotNo) : (s.lineFault l sl).selections = s.selections := by
  unfold State.lineFault; try dsimp only
  (repeat' split) <;> simp
@[simp] theorem State.lineFault_inFlight (s : State) (l : LineNo) (sl : SlotNo) : (s.lineFault l sl).inFlight = s.inFlight := by
  unfold State.lineFault; try dsimp only
  (repeat' split) <;> simp
@[simp] theorem State.lineFault_reports (s : State) (l : LineNo) (sl : SlotNo) : (s.lineFault l sl).reports = s.reports := by
  unfold State.lineFault; try dsimp only
  (repeat' split) <;> simp
@[simp] theorem State.lineFault_links (s : State) (l : LineNo) (sl : SlotNo) : (s.lineFault l sl).links = s.links := by
  unfold State.lineFault; try dsimp only
  (repeat' split) <;> simp
@[simp] theorem State.lineFault_pointer (s : State) (l : LineNo) (sl : SlotNo) : (s.lineFault l sl).pointer = s.pointer := by
  unfold State.lineFault; try dsimp only
  (repeat' split) <;> simp
@[simp] theorem State.lineFault_frameCount (s : State) (l : LineNo) (sl : SlotNo) : (s.lineFault l sl).frameCount = s.frameCount := by
  unfold State.lineFault; try dsimp only
  (repeat' split) <;> simp
@[simp] theorem State.lineFault_mp (s : State) (l : LineNo) (sl : SlotNo) : (s.lineFault l sl).mp = s.mp := by
  unfold State.lineFault; try dsimp only
  (repeat' split) <;> simp
@[simp] theorem State.lineFault_pending (s : State) (l : LineNo) (sl : SlotNo) : (s.lineFault l sl).pending = s.pending := by
  unfold State.lineFault; try dsimp only
  (repeat' split) <;> simp
@[simp] theorem State.channel_lineFault (s : State) (l : LineNo) (sl : SlotNo) (c' : ChanNo) : (s.lineFault l sl).channel c' = s.channel c' := by
  simp only [State.channel, State.lineFault_channels]
@[simp] theorem State.link_lineFault (s : State) (l : LineNo) (sl : SlotNo) (p' : Pos) : (s.lineFault l sl).link p' = s.link p' := by
  simp only [State.link, State.lineFault_links]
@[simp] theorem State.keyLine_lineFault (s : State) (l : LineNo) (sl : SlotNo) (p' : Pos) (k' : Key) : (s.lineFault l sl).keyLine p' k' = s.keyLine p' k' := by
  simp only [State.keyLine, State.lineFault_directories]
@[simp] theorem State.selection_lineFault (s : State) (l : LineNo) (sl : SlotNo) (p' : Pos) (u' : UnitNo) : (s.lineFault l sl).selection p' u' = s.selection p' u' := by
  simp only [State.selection, State.lineFault_selections]
@[simp] theorem State.resetting_lineFault (s : State) (l : LineNo) (sl : SlotNo) : (s.lineFault l sl).resetting = s.resetting := by
  simp only [State.resetting, State.lineFault_mp]

@[simp] theorem State.revert_directories (s : State) (l : LineNo) : (s.revert l).directories = s.directories := by
  unfold State.revert; try dsimp only
  (repeat' split) <;> simp
@[simp] theorem State.revert_channels (s : State) (l : LineNo) : (s.revert l).channels = s.channels := by
  unfold State.revert; try dsimp only
  (repeat' split) <;> simp
@[simp] theorem State.revert_selections (s : State) (l : LineNo) : (s.revert l).selections = s.selections := by
  unfold State.revert; try dsimp only
  (repeat' split) <;> simp
@[simp] theorem State.revert_bridges (s : State) (l : LineNo) : (s.revert l).bridges = s.bridges := by
  unfold State.revert; try dsimp only
  (repeat' split) <;> simp
@[simp] theorem State.revert_legs (s : State) (l : LineNo) : (s.revert l).legs = s.legs := by
  unfold State.revert; try dsimp only
  (repeat' split) <;> simp
@[simp] theorem State.revert_generators (s : State) (l : LineNo) : (s.revert l).generators = s.generators := by
  unfold State.revert; try dsimp only
  (repeat' split) <;> simp
@[simp] theorem State.revert_timers (s : State) (l : LineNo) : (s.revert l).timers = s.timers := by
  unfold State.revert; try dsimp only
  (repeat' split) <;> simp
@[simp] theorem State.revert_inFlight (s : State) (l : LineNo) : (s.revert l).inFlight = s.inFlight := by
  unfold State.revert; try dsimp only
  (repeat' split) <;> simp
@[simp] theorem State.revert_reports (s : State) (l : LineNo) : (s.revert l).reports = s.reports := by
  unfold State.revert; try dsimp only
  (repeat' split) <;> simp
@[simp] theorem State.revert_links (s : State) (l : LineNo) : (s.revert l).links = s.links := by
  unfold State.revert; try dsimp only
  (repeat' split) <;> simp
@[simp] theorem State.revert_pointer (s : State) (l : LineNo) : (s.revert l).pointer = s.pointer := by
  unfold State.revert; try dsimp only
  (repeat' split) <;> simp
@[simp] theorem State.revert_frameCount (s : State) (l : LineNo) : (s.revert l).frameCount = s.frameCount := by
  unfold State.revert; try dsimp only
  (repeat' split) <;> simp
@[simp] theorem State.revert_mp (s : State) (l : LineNo) : (s.revert l).mp = s.mp := by
  unfold State.revert; try dsimp only
  (repeat' split) <;> simp
@[simp] theorem State.revert_pending (s : State) (l : LineNo) : (s.revert l).pending = s.pending := by
  unfold State.revert; try dsimp only
  (repeat' split) <;> simp
@[simp] theorem State.channel_revert (s : State) (l : LineNo) (c' : ChanNo) : (s.revert l).channel c' = s.channel c' := by
  simp only [State.channel, State.revert_channels]
@[simp] theorem State.bridge_revert (s : State) (l : LineNo) (b' : BridgeNo) : (s.revert l).bridge b' = s.bridge b' := by
  simp only [State.bridge, State.revert_bridges]
@[simp] theorem State.leg_revert (s : State) (l : LineNo) (g' : LegNo) : (s.revert l).leg g' = s.leg g' := by
  simp only [State.leg, State.revert_legs]
@[simp] theorem State.generator_revert (s : State) (l : LineNo) (n' : GenNo) : (s.revert l).generator n' = s.generator n' := by
  simp only [State.generator, State.revert_generators]
@[simp] theorem State.link_revert (s : State) (l : LineNo) (p' : Pos) : (s.revert l).link p' = s.link p' := by
  simp only [State.link, State.revert_links]
@[simp] theorem State.keyLine_revert (s : State) (l : LineNo) (p' : Pos) (k' : Key) : (s.revert l).keyLine p' k' = s.keyLine p' k' := by
  simp only [State.keyLine, State.revert_directories]
@[simp] theorem State.selection_revert (s : State) (l : LineNo) (p' : Pos) (u' : UnitNo) : (s.revert l).selection p' u' = s.selection p' u' := by
  simp only [State.selection, State.revert_selections]
@[simp] theorem State.timer_revert (s : State) (l : LineNo) (t' : TimerId) : (s.revert l).timer t' = s.timer t' := by
  simp only [State.timer, State.revert_timers]
@[simp] theorem State.resetting_revert (s : State) (l : LineNo) : (s.revert l).resetting = s.resetting := by
  simp only [State.resetting, State.revert_mp]

@[simp] theorem State.serveOne_directories (s : State) (sl : SlotNo) : (s.serveOne sl).1.directories = s.directories := by
  unfold State.serveOne; try dsimp only
  (repeat' split) <;> simp
@[simp] theorem State.serveOne_selections (s : State) (sl : SlotNo) : (s.serveOne sl).1.selections = s.selections := by
  unfold State.serveOne; try dsimp only
  (repeat' split) <;> simp
@[simp] theorem State.serveOne_generators (s : State) (sl : SlotNo) : (s.serveOne sl).1.generators = s.generators := by
  unfold State.serveOne; try dsimp only
  (repeat' split) <;> simp
@[simp] theorem State.serveOne_timers (s : State) (sl : SlotNo) : (s.serveOne sl).1.timers = s.timers := by
  unfold State.serveOne; try dsimp only
  (repeat' split) <;> simp
@[simp] theorem State.serveOne_inFlight (s : State) (sl : SlotNo) : (s.serveOne sl).1.inFlight = s.inFlight := by
  unfold State.serveOne; try dsimp only
  (repeat' split) <;> simp
@[simp] theorem State.serveOne_reports (s : State) (sl : SlotNo) : (s.serveOne sl).1.reports = s.reports := by
  unfold State.serveOne; try dsimp only
  (repeat' split) <;> simp
@[simp] theorem State.serveOne_links (s : State) (sl : SlotNo) : (s.serveOne sl).1.links = s.links := by
  unfold State.serveOne; try dsimp only
  (repeat' split) <;> simp
@[simp] theorem State.serveOne_pointer (s : State) (sl : SlotNo) : (s.serveOne sl).1.pointer = s.pointer := by
  unfold State.serveOne; try dsimp only
  (repeat' split) <;> simp
@[simp] theorem State.serveOne_frameCount (s : State) (sl : SlotNo) : (s.serveOne sl).1.frameCount = s.frameCount := by
  unfold State.serveOne; try dsimp only
  (repeat' split) <;> simp
@[simp] theorem State.serveOne_mp (s : State) (sl : SlotNo) : (s.serveOne sl).1.mp = s.mp := by
  unfold State.serveOne; try dsimp only
  (repeat' split) <;> simp
@[simp] theorem State.serveOne_pending (s : State) (sl : SlotNo) : (s.serveOne sl).1.pending = s.pending := by
  unfold State.serveOne; try dsimp only
  (repeat' split) <;> simp
@[simp] theorem State.generator_serveOne (s : State) (sl : SlotNo) (n' : GenNo) : (s.serveOne sl).1.generator n' = s.generator n' := by
  simp only [State.generator, State.serveOne_generators]
@[simp] theorem State.link_serveOne (s : State) (sl : SlotNo) (p' : Pos) : (s.serveOne sl).1.link p' = s.link p' := by
  simp only [State.link, State.serveOne_links]
@[simp] theorem State.keyLine_serveOne (s : State) (sl : SlotNo) (p' : Pos) (k' : Key) : (s.serveOne sl).1.keyLine p' k' = s.keyLine p' k' := by
  simp only [State.keyLine, State.serveOne_directories]
@[simp] theorem State.selection_serveOne (s : State) (sl : SlotNo) (p' : Pos) (u' : UnitNo) : (s.serveOne sl).1.selection p' u' = s.selection p' u' := by
  simp only [State.selection, State.serveOne_selections]
@[simp] theorem State.timer_serveOne (s : State) (sl : SlotNo) (t' : TimerId) : (s.serveOne sl).1.timer t' = s.timer t' := by
  simp only [State.timer, State.serveOne_timers]
@[simp] theorem State.resetting_serveOne (s : State) (sl : SlotNo) : (s.serveOne sl).1.resetting = s.resetting := by
  simp only [State.resetting, State.serveOne_mp]

@[simp] theorem State.serve_directories (s : State) (fuel : Nat) (sl : SlotNo) : (State.serve fuel s sl).directories = s.directories := by
  induction fuel generalizing s sl with
  | zero => rfl
  | succ n ih =>
    have h := State.serveOne_directories s sl
    unfold State.serve; (repeat' split) <;> simp_all
@[simp] theorem State.serve_selections (s : State) (fuel : Nat) (sl : SlotNo) : (State.serve fuel s sl).selections = s.selections := by
  induction fuel generalizing s sl with
  | zero => rfl
  | succ n ih =>
    have h := State.serveOne_selections s sl
    unfold State.serve; (repeat' split) <;> simp_all
@[simp] theorem State.serve_generators (s : State) (fuel : Nat) (sl : SlotNo) : (State.serve fuel s sl).generators = s.generators := by
  induction fuel generalizing s sl with
  | zero => rfl
  | succ n ih =>
    have h := State.serveOne_generators s sl
    unfold State.serve; (repeat' split) <;> simp_all
@[simp] theorem State.serve_timers (s : State) (fuel : Nat) (sl : SlotNo) : (State.serve fuel s sl).timers = s.timers := by
  induction fuel generalizing s sl with
  | zero => rfl
  | succ n ih =>
    have h := State.serveOne_timers s sl
    unfold State.serve; (repeat' split) <;> simp_all
@[simp] theorem State.serve_inFlight (s : State) (fuel : Nat) (sl : SlotNo) : (State.serve fuel s sl).inFlight = s.inFlight := by
  induction fuel generalizing s sl with
  | zero => rfl
  | succ n ih =>
    have h := State.serveOne_inFlight s sl
    unfold State.serve; (repeat' split) <;> simp_all
@[simp] theorem State.serve_reports (s : State) (fuel : Nat) (sl : SlotNo) : (State.serve fuel s sl).reports = s.reports := by
  induction fuel generalizing s sl with
  | zero => rfl
  | succ n ih =>
    have h := State.serveOne_reports s sl
    unfold State.serve; (repeat' split) <;> simp_all
@[simp] theorem State.serve_links (s : State) (fuel : Nat) (sl : SlotNo) : (State.serve fuel s sl).links = s.links := by
  induction fuel generalizing s sl with
  | zero => rfl
  | succ n ih =>
    have h := State.serveOne_links s sl
    unfold State.serve; (repeat' split) <;> simp_all
@[simp] theorem State.serve_pointer (s : State) (fuel : Nat) (sl : SlotNo) : (State.serve fuel s sl).pointer = s.pointer := by
  induction fuel generalizing s sl with
  | zero => rfl
  | succ n ih =>
    have h := State.serveOne_pointer s sl
    unfold State.serve; (repeat' split) <;> simp_all
@[simp] theorem State.serve_frameCount (s : State) (fuel : Nat) (sl : SlotNo) : (State.serve fuel s sl).frameCount = s.frameCount := by
  induction fuel generalizing s sl with
  | zero => rfl
  | succ n ih =>
    have h := State.serveOne_frameCount s sl
    unfold State.serve; (repeat' split) <;> simp_all
@[simp] theorem State.serve_mp (s : State) (fuel : Nat) (sl : SlotNo) : (State.serve fuel s sl).mp = s.mp := by
  induction fuel generalizing s sl with
  | zero => rfl
  | succ n ih =>
    have h := State.serveOne_mp s sl
    unfold State.serve; (repeat' split) <;> simp_all
@[simp] theorem State.serve_pending (s : State) (fuel : Nat) (sl : SlotNo) : (State.serve fuel s sl).pending = s.pending := by
  induction fuel generalizing s sl with
  | zero => rfl
  | succ n ih =>
    have h := State.serveOne_pending s sl
    unfold State.serve; (repeat' split) <;> simp_all
@[simp] theorem State.generator_serve (s : State) (fuel : Nat) (sl : SlotNo) (n' : GenNo) : (State.serve fuel s sl).generator n' = s.generator n' := by
  simp only [State.generator, State.serve_generators]
@[simp] theorem State.link_serve (s : State) (fuel : Nat) (sl : SlotNo) (p' : Pos) : (State.serve fuel s sl).link p' = s.link p' := by
  simp only [State.link, State.serve_links]
@[simp] theorem State.keyLine_serve (s : State) (fuel : Nat) (sl : SlotNo) (p' : Pos) (k' : Key) : (State.serve fuel s sl).keyLine p' k' = s.keyLine p' k' := by
  simp only [State.keyLine, State.serve_directories]
@[simp] theorem State.selection_serve (s : State) (fuel : Nat) (sl : SlotNo) (p' : Pos) (u' : UnitNo) : (State.serve fuel s sl).selection p' u' = s.selection p' u' := by
  simp only [State.selection, State.serve_selections]
@[simp] theorem State.timer_serve (s : State) (fuel : Nat) (sl : SlotNo) (t' : TimerId) : (State.serve fuel s sl).timer t' = s.timer t' := by
  simp only [State.timer, State.serve_timers]
@[simp] theorem State.resetting_serve (s : State) (fuel : Nat) (sl : SlotNo) : (State.serve fuel s sl).resetting = s.resetting := by
  simp only [State.resetting, State.serve_mp]

@[simp] theorem State.serveFreed_directories (s : State) (sl : Option SlotNo) : (s.serveFreed sl).directories = s.directories := by
  unfold State.serveFreed; try dsimp only
  (repeat' split) <;> simp
@[simp] theorem State.serveFreed_selections (s : State) (sl : Option SlotNo) : (s.serveFreed sl).selections = s.selections := by
  unfold State.serveFreed; try dsimp only
  (repeat' split) <;> simp
@[simp] theorem State.serveFreed_generators (s : State) (sl : Option SlotNo) : (s.serveFreed sl).generators = s.generators := by
  unfold State.serveFreed; try dsimp only
  (repeat' split) <;> simp
@[simp] theorem State.serveFreed_timers (s : State) (sl : Option SlotNo) : (s.serveFreed sl).timers = s.timers := by
  unfold State.serveFreed; try dsimp only
  (repeat' split) <;> simp
@[simp] theorem State.serveFreed_inFlight (s : State) (sl : Option SlotNo) : (s.serveFreed sl).inFlight = s.inFlight := by
  unfold State.serveFreed; try dsimp only
  (repeat' split) <;> simp
@[simp] theorem State.serveFreed_reports (s : State) (sl : Option SlotNo) : (s.serveFreed sl).reports = s.reports := by
  unfold State.serveFreed; try dsimp only
  (repeat' split) <;> simp
@[simp] theorem State.serveFreed_links (s : State) (sl : Option SlotNo) : (s.serveFreed sl).links = s.links := by
  unfold State.serveFreed; try dsimp only
  (repeat' split) <;> simp
@[simp] theorem State.serveFreed_pointer (s : State) (sl : Option SlotNo) : (s.serveFreed sl).pointer = s.pointer := by
  unfold State.serveFreed; try dsimp only
  (repeat' split) <;> simp
@[simp] theorem State.serveFreed_frameCount (s : State) (sl : Option SlotNo) : (s.serveFreed sl).frameCount = s.frameCount := by
  unfold State.serveFreed; try dsimp only
  (repeat' split) <;> simp
@[simp] theorem State.serveFreed_mp (s : State) (sl : Option SlotNo) : (s.serveFreed sl).mp = s.mp := by
  unfold State.serveFreed; try dsimp only
  (repeat' split) <;> simp
@[simp] theorem State.serveFreed_pending (s : State) (sl : Option SlotNo) : (s.serveFreed sl).pending = s.pending := by
  unfold State.serveFreed; try dsimp only
  (repeat' split) <;> simp
@[simp] theorem State.generator_serveFreed (s : State) (sl : Option SlotNo) (n' : GenNo) : (s.serveFreed sl).generator n' = s.generator n' := by
  simp only [State.generator, State.serveFreed_generators]
@[simp] theorem State.link_serveFreed (s : State) (sl : Option SlotNo) (p' : Pos) : (s.serveFreed sl).link p' = s.link p' := by
  simp only [State.link, State.serveFreed_links]
@[simp] theorem State.keyLine_serveFreed (s : State) (sl : Option SlotNo) (p' : Pos) (k' : Key) : (s.serveFreed sl).keyLine p' k' = s.keyLine p' k' := by
  simp only [State.keyLine, State.serveFreed_directories]
@[simp] theorem State.selection_serveFreed (s : State) (sl : Option SlotNo) (p' : Pos) (u' : UnitNo) : (s.serveFreed sl).selection p' u' = s.selection p' u' := by
  simp only [State.selection, State.serveFreed_selections]
@[simp] theorem State.timer_serveFreed (s : State) (sl : Option SlotNo) (t' : TimerId) : (s.serveFreed sl).timer t' = s.timer t' := by
  simp only [State.timer, State.serveFreed_timers]
@[simp] theorem State.resetting_serveFreed (s : State) (sl : Option SlotNo) : (s.serveFreed sl).resetting = s.resetting := by
  simp only [State.resetting, State.serveFreed_mp]

@[simp] theorem State.atRestAll_directories (s : State) (ls : List LineNo) : (s.atRestAll ls).directories = s.directories := by
  unfold State.atRestAll; dsimp only
  rw [foldl_keeps State.directories _ (fun _ _ => by simp)]
  exact foldl_keeps (fun r : State × List SlotNo => r.1.directories) State.revertAtRest
    (fun r l => by unfold State.revertAtRest; split <;> simp) ls (s, [])
@[simp] theorem State.atRestAll_selections (s : State) (ls : List LineNo) : (s.atRestAll ls).selections = s.selections := by
  unfold State.atRestAll; dsimp only
  rw [foldl_keeps State.selections _ (fun _ _ => by simp)]
  exact foldl_keeps (fun r : State × List SlotNo => r.1.selections) State.revertAtRest
    (fun r l => by unfold State.revertAtRest; split <;> simp) ls (s, [])
@[simp] theorem State.atRestAll_generators (s : State) (ls : List LineNo) : (s.atRestAll ls).generators = s.generators := by
  unfold State.atRestAll; dsimp only
  rw [foldl_keeps State.generators _ (fun _ _ => by simp)]
  exact foldl_keeps (fun r : State × List SlotNo => r.1.generators) State.revertAtRest
    (fun r l => by unfold State.revertAtRest; split <;> simp) ls (s, [])
@[simp] theorem State.atRestAll_timers (s : State) (ls : List LineNo) : (s.atRestAll ls).timers = s.timers := by
  unfold State.atRestAll; dsimp only
  rw [foldl_keeps State.timers _ (fun _ _ => by simp)]
  exact foldl_keeps (fun r : State × List SlotNo => r.1.timers) State.revertAtRest
    (fun r l => by unfold State.revertAtRest; split <;> simp) ls (s, [])
@[simp] theorem State.atRestAll_inFlight (s : State) (ls : List LineNo) : (s.atRestAll ls).inFlight = s.inFlight := by
  unfold State.atRestAll; dsimp only
  rw [foldl_keeps State.inFlight _ (fun _ _ => by simp)]
  exact foldl_keeps (fun r : State × List SlotNo => r.1.inFlight) State.revertAtRest
    (fun r l => by unfold State.revertAtRest; split <;> simp) ls (s, [])
@[simp] theorem State.atRestAll_reports (s : State) (ls : List LineNo) : (s.atRestAll ls).reports = s.reports := by
  unfold State.atRestAll; dsimp only
  rw [foldl_keeps State.reports _ (fun _ _ => by simp)]
  exact foldl_keeps (fun r : State × List SlotNo => r.1.reports) State.revertAtRest
    (fun r l => by unfold State.revertAtRest; split <;> simp) ls (s, [])
@[simp] theorem State.atRestAll_links (s : State) (ls : List LineNo) : (s.atRestAll ls).links = s.links := by
  unfold State.atRestAll; dsimp only
  rw [foldl_keeps State.links _ (fun _ _ => by simp)]
  exact foldl_keeps (fun r : State × List SlotNo => r.1.links) State.revertAtRest
    (fun r l => by unfold State.revertAtRest; split <;> simp) ls (s, [])
@[simp] theorem State.atRestAll_pointer (s : State) (ls : List LineNo) : (s.atRestAll ls).pointer = s.pointer := by
  unfold State.atRestAll; dsimp only
  rw [foldl_keeps State.pointer _ (fun _ _ => by simp)]
  exact foldl_keeps (fun r : State × List SlotNo => r.1.pointer) State.revertAtRest
    (fun r l => by unfold State.revertAtRest; split <;> simp) ls (s, [])
@[simp] theorem State.atRestAll_frameCount (s : State) (ls : List LineNo) : (s.atRestAll ls).frameCount = s.frameCount := by
  unfold State.atRestAll; dsimp only
  rw [foldl_keeps State.frameCount _ (fun _ _ => by simp)]
  exact foldl_keeps (fun r : State × List SlotNo => r.1.frameCount) State.revertAtRest
    (fun r l => by unfold State.revertAtRest; split <;> simp) ls (s, [])
@[simp] theorem State.atRestAll_pending (s : State) (ls : List LineNo) : (s.atRestAll ls).pending = s.pending := by
  unfold State.atRestAll; dsimp only
  rw [foldl_keeps State.pending _ (fun _ _ => by simp)]
  exact foldl_keeps (fun r : State × List SlotNo => r.1.pending) State.revertAtRest
    (fun r l => by unfold State.revertAtRest; split <;> simp) ls (s, [])
@[simp] theorem State.generator_atRestAll (s : State) (ls : List LineNo) (n' : GenNo) : (s.atRestAll ls).generator n' = s.generator n' := by
  simp only [State.generator, State.atRestAll_generators]
@[simp] theorem State.link_atRestAll (s : State) (ls : List LineNo) (p' : Pos) : (s.atRestAll ls).link p' = s.link p' := by
  simp only [State.link, State.atRestAll_links]
@[simp] theorem State.keyLine_atRestAll (s : State) (ls : List LineNo) (p' : Pos) (k' : Key) : (s.atRestAll ls).keyLine p' k' = s.keyLine p' k' := by
  simp only [State.keyLine, State.atRestAll_directories]
@[simp] theorem State.selection_atRestAll (s : State) (ls : List LineNo) (p' : Pos) (u' : UnitNo) : (s.atRestAll ls).selection p' u' = s.selection p' u' := by
  simp only [State.selection, State.atRestAll_selections]
@[simp] theorem State.timer_atRestAll (s : State) (ls : List LineNo) (t' : TimerId) : (s.atRestAll ls).timer t' = s.timer t' := by
  simp only [State.timer, State.atRestAll_timers]

@[simp] theorem State.atRest_directories (s : State) (l : LineNo) : (s.atRest l).directories = s.directories := by
  unfold State.atRest; try dsimp only
  (repeat' split) <;> simp
@[simp] theorem State.atRest_selections (s : State) (l : LineNo) : (s.atRest l).selections = s.selections := by
  unfold State.atRest; try dsimp only
  (repeat' split) <;> simp
@[simp] theorem State.atRest_generators (s : State) (l : LineNo) : (s.atRest l).generators = s.generators := by
  unfold State.atRest; try dsimp only
  (repeat' split) <;> simp
@[simp] theorem State.atRest_timers (s : State) (l : LineNo) : (s.atRest l).timers = s.timers := by
  unfold State.atRest; try dsimp only
  (repeat' split) <;> simp
@[simp] theorem State.atRest_inFlight (s : State) (l : LineNo) : (s.atRest l).inFlight = s.inFlight := by
  unfold State.atRest; try dsimp only
  (repeat' split) <;> simp
@[simp] theorem State.atRest_reports (s : State) (l : LineNo) : (s.atRest l).reports = s.reports := by
  unfold State.atRest; try dsimp only
  (repeat' split) <;> simp
@[simp] theorem State.atRest_links (s : State) (l : LineNo) : (s.atRest l).links = s.links := by
  unfold State.atRest; try dsimp only
  (repeat' split) <;> simp
@[simp] theorem State.atRest_pointer (s : State) (l : LineNo) : (s.atRest l).pointer = s.pointer := by
  unfold State.atRest; try dsimp only
  (repeat' split) <;> simp
@[simp] theorem State.atRest_frameCount (s : State) (l : LineNo) : (s.atRest l).frameCount = s.frameCount := by
  unfold State.atRest; try dsimp only
  (repeat' split) <;> simp
@[simp] theorem State.atRest_pending (s : State) (l : LineNo) : (s.atRest l).pending = s.pending := by
  unfold State.atRest; try dsimp only
  (repeat' split) <;> simp
@[simp] theorem State.generator_atRest (s : State) (l : LineNo) (n' : GenNo) : (s.atRest l).generator n' = s.generator n' := by
  simp only [State.generator, State.atRest_generators]
@[simp] theorem State.link_atRest (s : State) (l : LineNo) (p' : Pos) : (s.atRest l).link p' = s.link p' := by
  simp only [State.link, State.atRest_links]
@[simp] theorem State.keyLine_atRest (s : State) (l : LineNo) (p' : Pos) (k' : Key) : (s.atRest l).keyLine p' k' = s.keyLine p' k' := by
  simp only [State.keyLine, State.atRest_directories]
@[simp] theorem State.selection_atRest (s : State) (l : LineNo) (p' : Pos) (u' : UnitNo) : (s.atRest l).selection p' u' = s.selection p' u' := by
  simp only [State.selection, State.atRest_selections]
@[simp] theorem State.timer_atRest (s : State) (l : LineNo) (t' : TimerId) : (s.atRest l).timer t' = s.timer t' := by
  simp only [State.timer, State.atRest_timers]

end Sys2Proof.Machine
end

