-- ==== Sys2Proof/Laws/FramesLines.lean ====
section
/-! SUPPORT. What the operations of the Line Controller leave unchanged: a lemma per operation and field. -/

namespace Sys2Proof.Machine

set_option linter.unusedTactic false
set_option linter.unnecessarySeqFocus false
set_option linter.unreachableTactic false
set_option Elab.async false

@[simp] theorem State.dropMonitor_directories (s : State) (l : LineNo) (m : Monitor) : (s.dropMonitor l m).directories = s.directories := by
  unfold State.dropMonitor; try dsimp only
  (repeat' split) <;> simp
@[simp] theorem State.dropMonitor_channels (s : State) (l : LineNo) (m : Monitor) : (s.dropMonitor l m).channels = s.channels := by
  unfold State.dropMonitor; try dsimp only
  (repeat' split) <;> simp
@[simp] theorem State.dropMonitor_slots (s : State) (l : LineNo) (m : Monitor) : (s.dropMonitor l m).slots = s.slots := by
  unfold State.dropMonitor; try dsimp only
  (repeat' split) <;> simp
@[simp] theorem State.dropMonitor_generators (s : State) (l : LineNo) (m : Monitor) : (s.dropMonitor l m).generators = s.generators := by
  unfold State.dropMonitor; try dsimp only
  (repeat' split) <;> simp
@[simp] theorem State.dropMonitor_timers (s : State) (l : LineNo) (m : Monitor) : (s.dropMonitor l m).timers = s.timers := by
  unfold State.dropMonitor; try dsimp only
  (repeat' split) <;> simp
@[simp] theorem State.dropMonitor_inFlight (s : State) (l : LineNo) (m : Monitor) : (s.dropMonitor l m).inFlight = s.inFlight := by
  unfold State.dropMonitor; try dsimp only
  (repeat' split) <;> simp
@[simp] theorem State.dropMonitor_reports (s : State) (l : LineNo) (m : Monitor) : (s.dropMonitor l m).reports = s.reports := by
  unfold State.dropMonitor; try dsimp only
  (repeat' split) <;> simp
@[simp] theorem State.dropMonitor_links (s : State) (l : LineNo) (m : Monitor) : (s.dropMonitor l m).links = s.links := by
  unfold State.dropMonitor; try dsimp only
  (repeat' split) <;> simp
@[simp] theorem State.dropMonitor_pointer (s : State) (l : LineNo) (m : Monitor) : (s.dropMonitor l m).pointer = s.pointer := by
  unfold State.dropMonitor; try dsimp only
  (repeat' split) <;> simp
@[simp] theorem State.dropMonitor_frameCount (s : State) (l : LineNo) (m : Monitor) : (s.dropMonitor l m).frameCount = s.frameCount := by
  unfold State.dropMonitor; try dsimp only
  (repeat' split) <;> simp
@[simp] theorem State.dropMonitor_mp (s : State) (l : LineNo) (m : Monitor) : (s.dropMonitor l m).mp = s.mp := by
  unfold State.dropMonitor; try dsimp only
  (repeat' split) <;> simp
@[simp] theorem State.dropMonitor_pending (s : State) (l : LineNo) (m : Monitor) : (s.dropMonitor l m).pending = s.pending := by
  unfold State.dropMonitor; try dsimp only
  (repeat' split) <;> simp
@[simp] theorem State.channel_dropMonitor (s : State) (l : LineNo) (m : Monitor) (c' : ChanNo) : (s.dropMonitor l m).channel c' = s.channel c' := by
  simp only [State.channel, State.dropMonitor_channels]
@[simp] theorem State.slot_dropMonitor (s : State) (l : LineNo) (m : Monitor) (sl' : SlotNo) : (s.dropMonitor l m).slot sl' = s.slot sl' := by
  simp only [State.slot, State.dropMonitor_slots]
@[simp] theorem State.generator_dropMonitor (s : State) (l : LineNo) (m : Monitor) (n' : GenNo) : (s.dropMonitor l m).generator n' = s.generator n' := by
  simp only [State.generator, State.dropMonitor_generators]
@[simp] theorem State.link_dropMonitor (s : State) (l : LineNo) (m : Monitor) (p' : Pos) : (s.dropMonitor l m).link p' = s.link p' := by
  simp only [State.link, State.dropMonitor_links]
@[simp] theorem State.keyLine_dropMonitor (s : State) (l : LineNo) (m : Monitor) (p' : Pos) (k' : Key) : (s.dropMonitor l m).keyLine p' k' = s.keyLine p' k' := by
  simp only [State.keyLine, State.dropMonitor_directories]
@[simp] theorem State.timer_dropMonitor (s : State) (l : LineNo) (m : Monitor) (t' : TimerId) : (s.dropMonitor l m).timer t' = s.timer t' := by
  simp only [State.timer, State.dropMonitor_timers]
@[simp] theorem State.resetting_dropMonitor (s : State) (l : LineNo) (m : Monitor) : (s.dropMonitor l m).resetting = s.resetting := by
  simp only [State.resetting, State.dropMonitor_mp]

@[simp] theorem State.dropMonitors_directories (s : State) (l : LineNo) (ms : List Monitor) : (s.dropMonitors l ms).directories = s.directories := by
  unfold State.dropMonitors; exact foldl_keeps State.directories _ (fun _ _ => by simp) _ _
@[simp] theorem State.dropMonitors_channels (s : State) (l : LineNo) (ms : List Monitor) : (s.dropMonitors l ms).channels = s.channels := by
  unfold State.dropMonitors; exact foldl_keeps State.channels _ (fun _ _ => by simp) _ _
@[simp] theorem State.dropMonitors_slots (s : State) (l : LineNo) (ms : List Monitor) : (s.dropMonitors l ms).slots = s.slots := by
  unfold State.dropMonitors; exact foldl_keeps State.slots _ (fun _ _ => by simp) _ _
@[simp] theorem State.dropMonitors_generators (s : State) (l : LineNo) (ms : List Monitor) : (s.dropMonitors l ms).generators = s.generators := by
  unfold State.dropMonitors; exact foldl_keeps State.generators _ (fun _ _ => by simp) _ _
@[simp] theorem State.dropMonitors_timers (s : State) (l : LineNo) (ms : List Monitor) : (s.dropMonitors l ms).timers = s.timers := by
  unfold State.dropMonitors; exact foldl_keeps State.timers _ (fun _ _ => by simp) _ _
@[simp] theorem State.dropMonitors_inFlight (s : State) (l : LineNo) (ms : List Monitor) : (s.dropMonitors l ms).inFlight = s.inFlight := by
  unfold State.dropMonitors; exact foldl_keeps State.inFlight _ (fun _ _ => by simp) _ _
@[simp] theorem State.dropMonitors_reports (s : State) (l : LineNo) (ms : List Monitor) : (s.dropMonitors l ms).reports = s.reports := by
  unfold State.dropMonitors; exact foldl_keeps State.reports _ (fun _ _ => by simp) _ _
@[simp] theorem State.dropMonitors_links (s : State) (l : LineNo) (ms : List Monitor) : (s.dropMonitors l ms).links = s.links := by
  unfold State.dropMonitors; exact foldl_keeps State.links _ (fun _ _ => by simp) _ _
@[simp] theorem State.dropMonitors_pointer (s : State) (l : LineNo) (ms : List Monitor) : (s.dropMonitors l ms).pointer = s.pointer := by
  unfold State.dropMonitors; exact foldl_keeps State.pointer _ (fun _ _ => by simp) _ _
@[simp] theorem State.dropMonitors_frameCount (s : State) (l : LineNo) (ms : List Monitor) : (s.dropMonitors l ms).frameCount = s.frameCount := by
  unfold State.dropMonitors; exact foldl_keeps State.frameCount _ (fun _ _ => by simp) _ _
@[simp] theorem State.dropMonitors_mp (s : State) (l : LineNo) (ms : List Monitor) : (s.dropMonitors l ms).mp = s.mp := by
  unfold State.dropMonitors; exact foldl_keeps State.mp _ (fun _ _ => by simp) _ _
@[simp] theorem State.dropMonitors_pending (s : State) (l : LineNo) (ms : List Monitor) : (s.dropMonitors l ms).pending = s.pending := by
  unfold State.dropMonitors; exact foldl_keeps State.pending _ (fun _ _ => by simp) _ _
@[simp] theorem State.channel_dropMonitors (s : State) (l : LineNo) (ms : List Monitor) (c' : ChanNo) : (s.dropMonitors l ms).channel c' = s.channel c' := by
  simp only [State.channel, State.dropMonitors_channels]
@[simp] theorem State.slot_dropMonitors (s : State) (l : LineNo) (ms : List Monitor) (sl' : SlotNo) : (s.dropMonitors l ms).slot sl' = s.slot sl' := by
  simp only [State.slot, State.dropMonitors_slots]
@[simp] theorem State.generator_dropMonitors (s : State) (l : LineNo) (ms : List Monitor) (n' : GenNo) : (s.dropMonitors l ms).generator n' = s.generator n' := by
  simp only [State.generator, State.dropMonitors_generators]
@[simp] theorem State.link_dropMonitors (s : State) (l : LineNo) (ms : List Monitor) (p' : Pos) : (s.dropMonitors l ms).link p' = s.link p' := by
  simp only [State.link, State.dropMonitors_links]
@[simp] theorem State.keyLine_dropMonitors (s : State) (l : LineNo) (ms : List Monitor) (p' : Pos) (k' : Key) : (s.dropMonitors l ms).keyLine p' k' = s.keyLine p' k' := by
  simp only [State.keyLine, State.dropMonitors_directories]
@[simp] theorem State.timer_dropMonitors (s : State) (l : LineNo) (ms : List Monitor) (t' : TimerId) : (s.dropMonitors l ms).timer t' = s.timer t' := by
  simp only [State.timer, State.dropMonitors_timers]
@[simp] theorem State.resetting_dropMonitors (s : State) (l : LineNo) (ms : List Monitor) : (s.dropMonitors l ms).resetting = s.resetting := by
  simp only [State.resetting, State.dropMonitors_mp]

@[simp] theorem State.leaveHandsets_lines (s : State) (b : Option BridgeNo) (os : List Occupant) : (s.leaveHandsets b os).lines = s.lines := by
  unfold State.leaveHandsets; exact foldl_keeps State.lines _ (fun _ _ => by simp) _ _
@[simp] theorem State.leaveHandsets_directories (s : State) (b : Option BridgeNo) (os : List Occupant) : (s.leaveHandsets b os).directories = s.directories := by
  unfold State.leaveHandsets; exact foldl_keeps State.directories _ (fun _ _ => by simp) _ _
@[simp] theorem State.leaveHandsets_channels (s : State) (b : Option BridgeNo) (os : List Occupant) : (s.leaveHandsets b os).channels = s.channels := by
  unfold State.leaveHandsets; exact foldl_keeps State.channels _ (fun _ _ => by simp) _ _
@[simp] theorem State.leaveHandsets_selections (s : State) (b : Option BridgeNo) (os : List Occupant) : (s.leaveHandsets b os).selections = s.selections := by
  unfold State.leaveHandsets; exact foldl_keeps State.selections _ (fun _ _ => by simp) _ _
@[simp] theorem State.leaveHandsets_slots (s : State) (b : Option BridgeNo) (os : List Occupant) : (s.leaveHandsets b os).slots = s.slots := by
  unfold State.leaveHandsets; exact foldl_keeps State.slots _ (fun _ _ => by simp) _ _
@[simp] theorem State.leaveHandsets_generators (s : State) (b : Option BridgeNo) (os : List Occupant) : (s.leaveHandsets b os).generators = s.generators := by
  unfold State.leaveHandsets; exact foldl_keeps State.generators _ (fun _ _ => by simp) _ _
@[simp] theorem State.leaveHandsets_timers (s : State) (b : Option BridgeNo) (os : List Occupant) : (s.leaveHandsets b os).timers = s.timers := by
  unfold State.leaveHandsets; exact foldl_keeps State.timers _ (fun _ _ => by simp) _ _
@[simp] theorem State.leaveHandsets_inFlight (s : State) (b : Option BridgeNo) (os : List Occupant) : (s.leaveHandsets b os).inFlight = s.inFlight := by
  unfold State.leaveHandsets; exact foldl_keeps State.inFlight _ (fun _ _ => by simp) _ _
@[simp] theorem State.leaveHandsets_reports (s : State) (b : Option BridgeNo) (os : List Occupant) : (s.leaveHandsets b os).reports = s.reports := by
  unfold State.leaveHandsets; exact foldl_keeps State.reports _ (fun _ _ => by simp) _ _
@[simp] theorem State.leaveHandsets_links (s : State) (b : Option BridgeNo) (os : List Occupant) : (s.leaveHandsets b os).links = s.links := by
  unfold State.leaveHandsets; exact foldl_keeps State.links _ (fun _ _ => by simp) _ _
@[simp] theorem State.leaveHandsets_pointer (s : State) (b : Option BridgeNo) (os : List Occupant) : (s.leaveHandsets b os).pointer = s.pointer := by
  unfold State.leaveHandsets; exact foldl_keeps State.pointer _ (fun _ _ => by simp) _ _
@[simp] theorem State.leaveHandsets_frameCount (s : State) (b : Option BridgeNo) (os : List Occupant) : (s.leaveHandsets b os).frameCount = s.frameCount := by
  unfold State.leaveHandsets; exact foldl_keeps State.frameCount _ (fun _ _ => by simp) _ _
@[simp] theorem State.leaveHandsets_mp (s : State) (b : Option BridgeNo) (os : List Occupant) : (s.leaveHandsets b os).mp = s.mp := by
  unfold State.leaveHandsets; exact foldl_keeps State.mp _ (fun _ _ => by simp) _ _
@[simp] theorem State.leaveHandsets_pending (s : State) (b : Option BridgeNo) (os : List Occupant) : (s.leaveHandsets b os).pending = s.pending := by
  unfold State.leaveHandsets; exact foldl_keeps State.pending _ (fun _ _ => by simp) _ _
@[simp] theorem State.line_leaveHandsets (s : State) (b : Option BridgeNo) (os : List Occupant) (l' : LineNo) : (s.leaveHandsets b os).line l' = s.line l' := by
  simp only [State.line, State.leaveHandsets_lines]
@[simp] theorem State.channel_leaveHandsets (s : State) (b : Option BridgeNo) (os : List Occupant) (c' : ChanNo) : (s.leaveHandsets b os).channel c' = s.channel c' := by
  simp only [State.channel, State.leaveHandsets_channels]
@[simp] theorem State.slot_leaveHandsets (s : State) (b : Option BridgeNo) (os : List Occupant) (sl' : SlotNo) : (s.leaveHandsets b os).slot sl' = s.slot sl' := by
  simp only [State.slot, State.leaveHandsets_slots]
@[simp] theorem State.generator_leaveHandsets (s : State) (b : Option BridgeNo) (os : List Occupant) (n' : GenNo) : (s.leaveHandsets b os).generator n' = s.generator n' := by
  simp only [State.generator, State.leaveHandsets_generators]
@[simp] theorem State.link_leaveHandsets (s : State) (b : Option BridgeNo) (os : List Occupant) (p' : Pos) : (s.leaveHandsets b os).link p' = s.link p' := by
  simp only [State.link, State.leaveHandsets_links]
@[simp] theorem State.keyLine_leaveHandsets (s : State) (b : Option BridgeNo) (os : List Occupant) (p' : Pos) (k' : Key) : (s.leaveHandsets b os).keyLine p' k' = s.keyLine p' k' := by
  simp only [State.keyLine, State.leaveHandsets_directories]
@[simp] theorem State.selection_leaveHandsets (s : State) (b : Option BridgeNo) (os : List Occupant) (p' : Pos) (u' : UnitNo) : (s.leaveHandsets b os).selection p' u' = s.selection p' u' := by
  simp only [State.selection, State.leaveHandsets_selections]
@[simp] theorem State.timer_leaveHandsets (s : State) (b : Option BridgeNo) (os : List Occupant) (t' : TimerId) : (s.leaveHandsets b os).timer t' = s.timer t' := by
  simp only [State.timer, State.leaveHandsets_timers]
@[simp] theorem State.resetting_leaveHandsets (s : State) (b : Option BridgeNo) (os : List Occupant) : (s.leaveHandsets b os).resetting = s.resetting := by
  simp only [State.resetting, State.leaveHandsets_mp]

@[simp] theorem State.takeDown_directories (s : State) (l : LineNo) : (s.takeDown l).directories = s.directories := by
  unfold State.takeDown; try dsimp only
  (repeat' split) <;> simp
@[simp] theorem State.takeDown_channels (s : State) (l : LineNo) : (s.takeDown l).channels = s.channels := by
  unfold State.takeDown; try dsimp only
  (repeat' split) <;> simp
@[simp] theorem State.takeDown_slots (s : State) (l : LineNo) : (s.takeDown l).slots = s.slots := by
  unfold State.takeDown; try dsimp only
  (repeat' split) <;> simp
@[simp] theorem State.takeDown_generators (s : State) (l : LineNo) : (s.takeDown l).generators = s.generators := by
  unfold State.takeDown; try dsimp only
  (repeat' split) <;> simp
@[simp] theorem State.takeDown_inFlight (s : State) (l : LineNo) : (s.takeDown l).inFlight = s.inFlight := by
  unfold State.takeDown; try dsimp only
  (repeat' split) <;> simp
@[simp] theorem State.takeDown_reports (s : State) (l : LineNo) : (s.takeDown l).reports = s.reports := by
  unfold State.takeDown; try dsimp only
  (repeat' split) <;> simp
@[simp] theorem State.takeDown_links (s : State) (l : LineNo) : (s.takeDown l).links = s.links := by
  unfold State.takeDown; try dsimp only
  (repeat' split) <;> simp
@[simp] theorem State.takeDown_pointer (s : State) (l : LineNo) : (s.takeDown l).pointer = s.pointer := by
  unfold State.takeDown; try dsimp only
  (repeat' split) <;> simp
@[simp] theorem State.takeDown_frameCount (s : State) (l : LineNo) : (s.takeDown l).frameCount = s.frameCount := by
  unfold State.takeDown; try dsimp only
  (repeat' split) <;> simp
@[simp] theorem State.takeDown_mp (s : State) (l : LineNo) : (s.takeDown l).mp = s.mp := by
  unfold State.takeDown; try dsimp only
  (repeat' split) <;> simp
@[simp] theorem State.takeDown_pending (s : State) (l : LineNo) : (s.takeDown l).pending = s.pending := by
  unfold State.takeDown; try dsimp only
  (repeat' split) <;> simp
@[simp] theorem State.channel_takeDown (s : State) (l : LineNo) (c' : ChanNo) : (s.takeDown l).channel c' = s.channel c' := by
  simp only [State.channel, State.takeDown_channels]
@[simp] theorem State.slot_takeDown (s : State) (l : LineNo) (sl' : SlotNo) : (s.takeDown l).slot sl' = s.slot sl' := by
  simp only [State.slot, State.takeDown_slots]
@[simp] theorem State.generator_takeDown (s : State) (l : LineNo) (n' : GenNo) : (s.takeDown l).generator n' = s.generator n' := by
  simp only [State.generator, State.takeDown_generators]
@[simp] theorem State.link_takeDown (s : State) (l : LineNo) (p' : Pos) : (s.takeDown l).link p' = s.link p' := by
  simp only [State.link, State.takeDown_links]
@[simp] theorem State.keyLine_takeDown (s : State) (l : LineNo) (p' : Pos) (k' : Key) : (s.takeDown l).keyLine p' k' = s.keyLine p' k' := by
  simp only [State.keyLine, State.takeDown_directories]
@[simp] theorem State.resetting_takeDown (s : State) (l : LineNo) : (s.takeDown l).resetting = s.resetting := by
  simp only [State.resetting, State.takeDown_mp]

@[simp] theorem State.rest_directories (s : State) (l : LineNo) : (s.rest l).directories = s.directories := by
  unfold State.rest; try dsimp only
  (repeat' split) <;> simp
@[simp] theorem State.rest_channels (s : State) (l : LineNo) : (s.rest l).channels = s.channels := by
  unfold State.rest; try dsimp only
  (repeat' split) <;> simp
@[simp] theorem State.rest_slots (s : State) (l : LineNo) : (s.rest l).slots = s.slots := by
  unfold State.rest; try dsimp only
  (repeat' split) <;> simp
@[simp] theorem State.rest_generators (s : State) (l : LineNo) : (s.rest l).generators = s.generators := by
  unfold State.rest; try dsimp only
  (repeat' split) <;> simp
@[simp] theorem State.rest_inFlight (s : State) (l : LineNo) : (s.rest l).inFlight = s.inFlight := by
  unfold State.rest; try dsimp only
  (repeat' split) <;> simp
@[simp] theorem State.rest_reports (s : State) (l : LineNo) : (s.rest l).reports = s.reports := by
  unfold State.rest; try dsimp only
  (repeat' split) <;> simp
@[simp] theorem State.rest_links (s : State) (l : LineNo) : (s.rest l).links = s.links := by
  unfold State.rest; try dsimp only
  (repeat' split) <;> simp
@[simp] theorem State.rest_pointer (s : State) (l : LineNo) : (s.rest l).pointer = s.pointer := by
  unfold State.rest; try dsimp only
  (repeat' split) <;> simp
@[simp] theorem State.rest_frameCount (s : State) (l : LineNo) : (s.rest l).frameCount = s.frameCount := by
  unfold State.rest; try dsimp only
  (repeat' split) <;> simp
@[simp] theorem State.rest_mp (s : State) (l : LineNo) : (s.rest l).mp = s.mp := by
  unfold State.rest; try dsimp only
  (repeat' split) <;> simp
@[simp] theorem State.rest_pending (s : State) (l : LineNo) : (s.rest l).pending = s.pending := by
  unfold State.rest; try dsimp only
  (repeat' split) <;> simp
@[simp] theorem State.channel_rest (s : State) (l : LineNo) (c' : ChanNo) : (s.rest l).channel c' = s.channel c' := by
  simp only [State.channel, State.rest_channels]
@[simp] theorem State.slot_rest (s : State) (l : LineNo) (sl' : SlotNo) : (s.rest l).slot sl' = s.slot sl' := by
  simp only [State.slot, State.rest_slots]
@[simp] theorem State.generator_rest (s : State) (l : LineNo) (n' : GenNo) : (s.rest l).generator n' = s.generator n' := by
  simp only [State.generator, State.rest_generators]
@[simp] theorem State.link_rest (s : State) (l : LineNo) (p' : Pos) : (s.rest l).link p' = s.link p' := by
  simp only [State.link, State.rest_links]
@[simp] theorem State.keyLine_rest (s : State) (l : LineNo) (p' : Pos) (k' : Key) : (s.rest l).keyLine p' k' = s.keyLine p' k' := by
  simp only [State.keyLine, State.rest_directories]
@[simp] theorem State.resetting_rest (s : State) (l : LineNo) : (s.rest l).resetting = s.resetting := by
  simp only [State.resetting, State.rest_mp]

@[simp] theorem State.returnToRest_directories (s : State) (l : LineNo) : (s.returnToRest l).directories = s.directories := by
  unfold State.returnToRest; try dsimp only
  (repeat' split) <;> simp
@[simp] theorem State.returnToRest_generators (s : State) (l : LineNo) : (s.returnToRest l).generators = s.generators := by
  unfold State.returnToRest; try dsimp only
  (repeat' split) <;> simp
@[simp] theorem State.returnToRest_inFlight (s : State) (l : LineNo) : (s.returnToRest l).inFlight = s.inFlight := by
  unfold State.returnToRest; try dsimp only
  (repeat' split) <;> simp
@[simp] theorem State.returnToRest_reports (s : State) (l : LineNo) : (s.returnToRest l).reports = s.reports := by
  unfold State.returnToRest; try dsimp only
  (repeat' split) <;> simp
@[simp] theorem State.returnToRest_links (s : State) (l : LineNo) : (s.returnToRest l).links = s.links := by
  unfold State.returnToRest; try dsimp only
  (repeat' split) <;> simp
@[simp] theorem State.returnToRest_pointer (s : State) (l : LineNo) : (s.returnToRest l).pointer = s.pointer := by
  unfold State.returnToRest; try dsimp only
  (repeat' split) <;> simp
@[simp] theorem State.returnToRest_frameCount (s : State) (l : LineNo) : (s.returnToRest l).frameCount = s.frameCount := by
  unfold State.returnToRest; try dsimp only
  (repeat' split) <;> simp
@[simp] theorem State.returnToRest_pending (s : State) (l : LineNo) : (s.returnToRest l).pending = s.pending := by
  unfold State.returnToRest; try dsimp only
  (repeat' split) <;> simp
@[simp] theorem State.generator_returnToRest (s : State) (l : LineNo) (n' : GenNo) : (s.returnToRest l).generator n' = s.generator n' := by
  simp only [State.generator, State.returnToRest_generators]
@[simp] theorem State.link_returnToRest (s : State) (l : LineNo) (p' : Pos) : (s.returnToRest l).link p' = s.link p' := by
  simp only [State.link, State.returnToRest_links]
@[simp] theorem State.keyLine_returnToRest (s : State) (l : LineNo) (p' : Pos) (k' : Key) : (s.returnToRest l).keyLine p' k' = s.keyLine p' k' := by
  simp only [State.keyLine, State.returnToRest_directories]

@[simp] theorem State.vacate_directories (s : State) (l : LineNo) (o : Occupant) : (s.vacate l o).directories = s.directories := by
  unfold State.vacate; try dsimp only
  (repeat' split) <;> simp
@[simp] theorem State.vacate_channels (s : State) (l : LineNo) (o : Occupant) : (s.vacate l o).channels = s.channels := by
  unfold State.vacate; try dsimp only
  (repeat' split) <;> simp
@[simp] theorem State.vacate_slots (s : State) (l : LineNo) (o : Occupant) : (s.vacate l o).slots = s.slots := by
  unfold State.vacate; try dsimp only
  (repeat' split) <;> simp
@[simp] theorem State.vacate_generators (s : State) (l : LineNo) (o : Occupant) : (s.vacate l o).generators = s.generators := by
  unfold State.vacate; try dsimp only
  (repeat' split) <;> simp
@[simp] theorem State.vacate_inFlight (s : State) (l : LineNo) (o : Occupant) : (s.vacate l o).inFlight = s.inFlight := by
  unfold State.vacate; try dsimp only
  (repeat' split) <;> simp
@[simp] theorem State.vacate_reports (s : State) (l : LineNo) (o : Occupant) : (s.vacate l o).reports = s.reports := by
  unfold State.vacate; try dsimp only
  (repeat' split) <;> simp
@[simp] theorem State.vacate_links (s : State) (l : LineNo) (o : Occupant) : (s.vacate l o).links = s.links := by
  unfold State.vacate; try dsimp only
  (repeat' split) <;> simp
@[simp] theorem State.vacate_pointer (s : State) (l : LineNo) (o : Occupant) : (s.vacate l o).pointer = s.pointer := by
  unfold State.vacate; try dsimp only
  (repeat' split) <;> simp
@[simp] theorem State.vacate_frameCount (s : State) (l : LineNo) (o : Occupant) : (s.vacate l o).frameCount = s.frameCount := by
  unfold State.vacate; try dsimp only
  (repeat' split) <;> simp
@[simp] theorem State.vacate_mp (s : State) (l : LineNo) (o : Occupant) : (s.vacate l o).mp = s.mp := by
  unfold State.vacate; try dsimp only
  (repeat' split) <;> simp
@[simp] theorem State.vacate_pending (s : State) (l : LineNo) (o : Occupant) : (s.vacate l o).pending = s.pending := by
  unfold State.vacate; try dsimp only
  (repeat' split) <;> simp
@[simp] theorem State.channel_vacate (s : State) (l : LineNo) (o : Occupant) (c' : ChanNo) : (s.vacate l o).channel c' = s.channel c' := by
  simp only [State.channel, State.vacate_channels]
@[simp] theorem State.slot_vacate (s : State) (l : LineNo) (o : Occupant) (sl' : SlotNo) : (s.vacate l o).slot sl' = s.slot sl' := by
  simp only [State.slot, State.vacate_slots]
@[simp] theorem State.generator_vacate (s : State) (l : LineNo) (o : Occupant) (n' : GenNo) : (s.vacate l o).generator n' = s.generator n' := by
  simp only [State.generator, State.vacate_generators]
@[simp] theorem State.link_vacate (s : State) (l : LineNo) (o : Occupant) (p' : Pos) : (s.vacate l o).link p' = s.link p' := by
  simp only [State.link, State.vacate_links]
@[simp] theorem State.keyLine_vacate (s : State) (l : LineNo) (o : Occupant) (p' : Pos) (k' : Key) : (s.vacate l o).keyLine p' k' = s.keyLine p' k' := by
  simp only [State.keyLine, State.vacate_directories]
@[simp] theorem State.resetting_vacate (s : State) (l : LineNo) (o : Occupant) : (s.vacate l o).resetting = s.resetting := by
  simp only [State.resetting, State.vacate_mp]

@[simp] theorem State.releaseOccupant_directories (s : State) (l : LineNo) (o : Occupant) : (s.releaseOccupant l o).directories = s.directories := by
  unfold State.releaseOccupant; try dsimp only
  (repeat' split) <;> simp
@[simp] theorem State.releaseOccupant_generators (s : State) (l : LineNo) (o : Occupant) : (s.releaseOccupant l o).generators = s.generators := by
  unfold State.releaseOccupant; try dsimp only
  (repeat' split) <;> simp
@[simp] theorem State.releaseOccupant_inFlight (s : State) (l : LineNo) (o : Occupant) : (s.releaseOccupant l o).inFlight = s.inFlight := by
  unfold State.releaseOccupant; try dsimp only
  (repeat' split) <;> simp
@[simp] theorem State.releaseOccupant_reports (s : State) (l : LineNo) (o : Occupant) : (s.releaseOccupant l o).reports = s.reports := by
  unfold State.releaseOccupant; try dsimp only
  (repeat' split) <;> simp
@[simp] theorem State.releaseOccupant_links (s : State) (l : LineNo) (o : Occupant) : (s.releaseOccupant l o).links = s.links := by
  unfold State.releaseOccupant; try dsimp only
  (repeat' split) <;> simp
@[simp] theorem State.releaseOccupant_pointer (s : State) (l : LineNo) (o : Occupant) : (s.releaseOccupant l o).pointer = s.pointer := by
  unfold State.releaseOccupant; try dsimp only
  (repeat' split) <;> simp
@[simp] theorem State.releaseOccupant_frameCount (s : State) (l : LineNo) (o : Occupant) : (s.releaseOccupant l o).frameCount = s.frameCount := by
  unfold State.releaseOccupant; try dsimp only
  (repeat' split) <;> simp
@[simp] theorem State.releaseOccupant_pending (s : State) (l : LineNo) (o : Occupant) : (s.releaseOccupant l o).pending = s.pending := by
  unfold State.releaseOccupant; try dsimp only
  (repeat' split) <;> simp
@[simp] theorem State.generator_releaseOccupant (s : State) (l : LineNo) (o : Occupant) (n' : GenNo) : (s.releaseOccupant l o).generator n' = s.generator n' := by
  simp only [State.generator, State.releaseOccupant_generators]
@[simp] theorem State.link_releaseOccupant (s : State) (l : LineNo) (o : Occupant) (p' : Pos) : (s.releaseOccupant l o).link p' = s.link p' := by
  simp only [State.link, State.releaseOccupant_links]
@[simp] theorem State.keyLine_releaseOccupant (s : State) (l : LineNo) (o : Occupant) (p' : Pos) (k' : Key) : (s.releaseOccupant l o).keyLine p' k' = s.keyLine p' k' := by
  simp only [State.keyLine, State.releaseOccupant_directories]

@[simp] theorem State.holdLine_directories (s : State) (l : LineNo) (p : Pos) : (s.holdLine l p).directories = s.directories := by
  unfold State.holdLine; try dsimp only
  (repeat' split) <;> simp
@[simp] theorem State.holdLine_channels (s : State) (l : LineNo) (p : Pos) : (s.holdLine l p).channels = s.channels := by
  unfold State.holdLine; try dsimp only
  (repeat' split) <;> simp
@[simp] theorem State.holdLine_slots (s : State) (l : LineNo) (p : Pos) : (s.holdLine l p).slots = s.slots := by
  unfold State.holdLine; try dsimp only
  (repeat' split) <;> simp
@[simp] theorem State.holdLine_generators (s : State) (l : LineNo) (p : Pos) : (s.holdLine l p).generators = s.generators := by
  unfold State.holdLine; try dsimp only
  (repeat' split) <;> simp
@[simp] theorem State.holdLine_inFlight (s : State) (l : LineNo) (p : Pos) : (s.holdLine l p).inFlight = s.inFlight := by
  unfold State.holdLine; try dsimp only
  (repeat' split) <;> simp
@[simp] theorem State.holdLine_reports (s : State) (l : LineNo) (p : Pos) : (s.holdLine l p).reports = s.reports := by
  unfold State.holdLine; try dsimp only
  (repeat' split) <;> simp
@[simp] theorem State.holdLine_links (s : State) (l : LineNo) (p : Pos) : (s.holdLine l p).links = s.links := by
  unfold State.holdLine; try dsimp only
  (repeat' split) <;> simp
@[simp] theorem State.holdLine_pointer (s : State) (l : LineNo) (p : Pos) : (s.holdLine l p).pointer = s.pointer := by
  unfold State.holdLine; try dsimp only
  (repeat' split) <;> simp
@[simp] theorem State.holdLine_frameCount (s : State) (l : LineNo) (p : Pos) : (s.holdLine l p).frameCount = s.frameCount := by
  unfold State.holdLine; try dsimp only
  (repeat' split) <;> simp
@[simp] theorem State.holdLine_mp (s : State) (l : LineNo) (p : Pos) : (s.holdLine l p).mp = s.mp := by
  unfold State.holdLine; try dsimp only
  (repeat' split) <;> simp
@[simp] theorem State.holdLine_pending (s : State) (l : LineNo) (p : Pos) : (s.holdLine l p).pending = s.pending := by
  unfold State.holdLine; try dsimp only
  (repeat' split) <;> simp
@[simp] theorem State.channel_holdLine (s : State) (l : LineNo) (p : Pos) (c' : ChanNo) : (s.holdLine l p).channel c' = s.channel c' := by
  simp only [State.channel, State.holdLine_channels]
@[simp] theorem State.slot_holdLine (s : State) (l : LineNo) (p : Pos) (sl' : SlotNo) : (s.holdLine l p).slot sl' = s.slot sl' := by
  simp only [State.slot, State.holdLine_slots]
@[simp] theorem State.generator_holdLine (s : State) (l : LineNo) (p : Pos) (n' : GenNo) : (s.holdLine l p).generator n' = s.generator n' := by
  simp only [State.generator, State.holdLine_generators]
@[simp] theorem State.link_holdLine (s : State) (l : LineNo) (p : Pos) (p' : Pos) : (s.holdLine l p).link p' = s.link p' := by
  simp only [State.link, State.holdLine_links]
@[simp] theorem State.keyLine_holdLine (s : State) (l : LineNo) (p : Pos) (p' : Pos) (k' : Key) : (s.holdLine l p).keyLine p' k' = s.keyLine p' k' := by
  simp only [State.keyLine, State.holdLine_directories]
@[simp] theorem State.resetting_holdLine (s : State) (l : LineNo) (p : Pos) : (s.holdLine l p).resetting = s.resetting := by
  simp only [State.resetting, State.holdLine_mp]

@[simp] theorem State.startBurst_directories (s : State) (l : LineNo) : (s.startBurst l).directories = s.directories := by
  unfold State.startBurst; try dsimp only
  (repeat' split) <;> simp
@[simp] theorem State.startBurst_channels (s : State) (l : LineNo) : (s.startBurst l).channels = s.channels := by
  unfold State.startBurst; try dsimp only
  (repeat' split) <;> simp
@[simp] theorem State.startBurst_selections (s : State) (l : LineNo) : (s.startBurst l).selections = s.selections := by
  unfold State.startBurst; try dsimp only
  (repeat' split) <;> simp
@[simp] theorem State.startBurst_bridges (s : State) (l : LineNo) : (s.startBurst l).bridges = s.bridges := by
  unfold State.startBurst; try dsimp only
  (repeat' split) <;> simp
@[simp] theorem State.startBurst_legs (s : State) (l : LineNo) : (s.startBurst l).legs = s.legs := by
  unfold State.startBurst; try dsimp only
  (repeat' split) <;> simp
@[simp] theorem State.startBurst_slots (s : State) (l : LineNo) : (s.startBurst l).slots = s.slots := by
  unfold State.startBurst; try dsimp only
  (repeat' split) <;> simp
@[simp] theorem State.startBurst_generators (s : State) (l : LineNo) : (s.startBurst l).generators = s.generators := by
  unfold State.startBurst; try dsimp only
  (repeat' split) <;> simp
@[simp] theorem State.startBurst_inFlight (s : State) (l : LineNo) : (s.startBurst l).inFlight = s.inFlight := by
  unfold State.startBurst; try dsimp only
  (repeat' split) <;> simp
@[simp] theorem State.startBurst_reports (s : State) (l : LineNo) : (s.startBurst l).reports = s.reports := by
  unfold State.startBurst; try dsimp only
  (repeat' split) <;> simp
@[simp] theorem State.startBurst_links (s : State) (l : LineNo) : (s.startBurst l).links = s.links := by
  unfold State.startBurst; try dsimp only
  (repeat' split) <;> simp
@[simp] theorem State.startBurst_pointer (s : State) (l : LineNo) : (s.startBurst l).pointer = s.pointer := by
  unfold State.startBurst; try dsimp only
  (repeat' split) <;> simp
@[simp] theorem State.startBurst_frameCount (s : State) (l : LineNo) : (s.startBurst l).frameCount = s.frameCount := by
  unfold State.startBurst; try dsimp only
  (repeat' split) <;> simp
@[simp] theorem State.startBurst_mp (s : State) (l : LineNo) : (s.startBurst l).mp = s.mp := by
  unfold State.startBurst; try dsimp only
  (repeat' split) <;> simp
@[simp] theorem State.startBurst_pending (s : State) (l : LineNo) : (s.startBurst l).pending = s.pending := by
  unfold State.startBurst; try dsimp only
  (repeat' split) <;> simp
@[simp] theorem State.channel_startBurst (s : State) (l : LineNo) (c' : ChanNo) : (s.startBurst l).channel c' = s.channel c' := by
  simp only [State.channel, State.startBurst_channels]
@[simp] theorem State.bridge_startBurst (s : State) (l : LineNo) (b' : BridgeNo) : (s.startBurst l).bridge b' = s.bridge b' := by
  simp only [State.bridge, State.startBurst_bridges]
@[simp] theorem State.leg_startBurst (s : State) (l : LineNo) (g' : LegNo) : (s.startBurst l).leg g' = s.leg g' := by
  simp only [State.leg, State.startBurst_legs]
@[simp] theorem State.slot_startBurst (s : State) (l : LineNo) (sl' : SlotNo) : (s.startBurst l).slot sl' = s.slot sl' := by
  simp only [State.slot, State.startBurst_slots]
@[simp] theorem State.generator_startBurst (s : State) (l : LineNo) (n' : GenNo) : (s.startBurst l).generator n' = s.generator n' := by
  simp only [State.generator, State.startBurst_generators]
@[simp] theorem State.link_startBurst (s : State) (l : LineNo) (p' : Pos) : (s.startBurst l).link p' = s.link p' := by
  simp only [State.link, State.startBurst_links]
@[simp] theorem State.keyLine_startBurst (s : State) (l : LineNo) (p' : Pos) (k' : Key) : (s.startBurst l).keyLine p' k' = s.keyLine p' k' := by
  simp only [State.keyLine, State.startBurst_directories]
@[simp] theorem State.selection_startBurst (s : State) (l : LineNo) (p' : Pos) (u' : UnitNo) : (s.startBurst l).selection p' u' = s.selection p' u' := by
  simp only [State.selection, State.startBurst_selections]
@[simp] theorem State.resetting_startBurst (s : State) (l : LineNo) : (s.startBurst l).resetting = s.resetting := by
  simp only [State.resetting, State.startBurst_mp]

@[simp] theorem State.dealWith_directories (s : State) (o : Occupant) (l : LineNo) : (s.dealWith o l).directories = s.directories := by
  unfold State.dealWith; try dsimp only
  (repeat' split) <;> simp
@[simp] theorem State.dealWith_generators (s : State) (o : Occupant) (l : LineNo) : (s.dealWith o l).generators = s.generators := by
  unfold State.dealWith; try dsimp only
  (repeat' split) <;> simp
@[simp] theorem State.dealWith_inFlight (s : State) (o : Occupant) (l : LineNo) : (s.dealWith o l).inFlight = s.inFlight := by
  unfold State.dealWith; try dsimp only
  (repeat' split) <;> simp
@[simp] theorem State.dealWith_reports (s : State) (o : Occupant) (l : LineNo) : (s.dealWith o l).reports = s.reports := by
  unfold State.dealWith; try dsimp only
  (repeat' split) <;> simp
@[simp] theorem State.dealWith_links (s : State) (o : Occupant) (l : LineNo) : (s.dealWith o l).links = s.links := by
  unfold State.dealWith; try dsimp only
  (repeat' split) <;> simp
@[simp] theorem State.dealWith_pointer (s : State) (o : Occupant) (l : LineNo) : (s.dealWith o l).pointer = s.pointer := by
  unfold State.dealWith; try dsimp only
  (repeat' split) <;> simp
@[simp] theorem State.dealWith_frameCount (s : State) (o : Occupant) (l : LineNo) : (s.dealWith o l).frameCount = s.frameCount := by
  unfold State.dealWith; try dsimp only
  (repeat' split) <;> simp
@[simp] theorem State.dealWith_pending (s : State) (o : Occupant) (l : LineNo) : (s.dealWith o l).pending = s.pending := by
  unfold State.dealWith; try dsimp only
  (repeat' split) <;> simp
@[simp] theorem State.generator_dealWith (s : State) (o : Occupant) (l : LineNo) (n' : GenNo) : (s.dealWith o l).generator n' = s.generator n' := by
  simp only [State.generator, State.dealWith_generators]
@[simp] theorem State.link_dealWith (s : State) (o : Occupant) (l : LineNo) (p' : Pos) : (s.dealWith o l).link p' = s.link p' := by
  simp only [State.link, State.dealWith_links]
@[simp] theorem State.keyLine_dealWith (s : State) (o : Occupant) (l : LineNo) (p' : Pos) (k' : Key) : (s.dealWith o l).keyLine p' k' = s.keyLine p' k' := by
  simp only [State.keyLine, State.dealWith_directories]

@[simp] theorem State.connect_directories (s : State) (l : LineNo) (b : BridgeNo) (o : Occupant) : (s.connect l b o).directories = s.directories := by
  unfold State.connect; try dsimp only
  (repeat' split) <;> simp
@[simp] theorem State.connect_channels (s : State) (l : LineNo) (b : BridgeNo) (o : Occupant) : (s.connect l b o).channels = s.channels := by
  unfold State.connect; try dsimp only
  (repeat' split) <;> simp
@[simp] theorem State.connect_selections (s : State) (l : LineNo) (b : BridgeNo) (o : Occupant) : (s.connect l b o).selections = s.selections := by
  unfold State.connect; try dsimp only
  (repeat' split) <;> simp
@[simp] theorem State.connect_slots (s : State) (l : LineNo) (b : BridgeNo) (o : Occupant) : (s.connect l b o).slots = s.slots := by
  unfold State.connect; try dsimp only
  (repeat' split) <;> simp
@[simp] theorem State.connect_generators (s : State) (l : LineNo) (b : BridgeNo) (o : Occupant) : (s.connect l b o).generators = s.generators := by
  unfold State.connect; try dsimp only
  (repeat' split) <;> simp
@[simp] theorem State.connect_timers (s : State) (l : LineNo) (b : BridgeNo) (o : Occupant) : (s.connect l b o).timers = s.timers := by
  unfold State.connect; try dsimp only
  (repeat' split) <;> simp
@[simp] theorem State.connect_inFlight (s : State) (l : LineNo) (b : BridgeNo) (o : Occupant) : (s.connect l b o).inFlight = s.inFlight := by
  unfold State.connect; try dsimp only
  (repeat' split) <;> simp
@[simp] theorem State.connect_reports (s : State) (l : LineNo) (b : BridgeNo) (o : Occupant) : (s.connect l b o).reports = s.reports := by
  unfold State.connect; try dsimp only
  (repeat' split) <;> simp
@[simp] theorem State.connect_links (s : State) (l : LineNo) (b : BridgeNo) (o : Occupant) : (s.connect l b o).links = s.links := by
  unfold State.connect; try dsimp only
  (repeat' split) <;> simp
@[simp] theorem State.connect_pointer (s : State) (l : LineNo) (b : BridgeNo) (o : Occupant) : (s.connect l b o).pointer = s.pointer := by
  unfold State.connect; try dsimp only
  (repeat' split) <;> simp
@[simp] theorem State.connect_frameCount (s : State) (l : LineNo) (b : BridgeNo) (o : Occupant) : (s.connect l b o).frameCount = s.frameCount := by
  unfold State.connect; try dsimp only
  (repeat' split) <;> simp
@[simp] theorem State.connect_mp (s : State) (l : LineNo) (b : BridgeNo) (o : Occupant) : (s.connect l b o).mp = s.mp := by
  unfold State.connect; try dsimp only
  (repeat' split) <;> simp
@[simp] theorem State.connect_pending (s : State) (l : LineNo) (b : BridgeNo) (o : Occupant) : (s.connect l b o).pending = s.pending := by
  unfold State.connect; try dsimp only
  (repeat' split) <;> simp
@[simp] theorem State.channel_connect (s : State) (l : LineNo) (b : BridgeNo) (o : Occupant) (c' : ChanNo) : (s.connect l b o).channel c' = s.channel c' := by
  simp only [State.channel, State.connect_channels]
@[simp] theorem State.slot_connect (s : State) (l : LineNo) (b : BridgeNo) (o : Occupant) (sl' : SlotNo) : (s.connect l b o).slot sl' = s.slot sl' := by
  simp only [State.slot, State.connect_slots]
@[simp] theorem State.generator_connect (s : State) (l : LineNo) (b : BridgeNo) (o : Occupant) (n' : GenNo) : (s.connect l b o).generator n' = s.generator n' := by
  simp only [State.generator, State.connect_generators]
@[simp] theorem State.link_connect (s : State) (l : LineNo) (b : BridgeNo) (o : Occupant) (p' : Pos) : (s.connect l b o).link p' = s.link p' := by
  simp only [State.link, State.connect_links]
@[simp] theorem State.keyLine_connect (s : State) (l : LineNo) (b : BridgeNo) (o : Occupant) (p' : Pos) (k' : Key) : (s.connect l b o).keyLine p' k' = s.keyLine p' k' := by
  simp only [State.keyLine, State.connect_directories]
@[simp] theorem State.selection_connect (s : State) (l : LineNo) (b : BridgeNo) (o : Occupant) (p' : Pos) (u' : UnitNo) : (s.connect l b o).selection p' u' = s.selection p' u' := by
  simp only [State.selection, State.connect_selections]
@[simp] theorem State.timer_connect (s : State) (l : LineNo) (b : BridgeNo) (o : Occupant) (t' : TimerId) : (s.connect l b o).timer t' = s.timer t' := by
  simp only [State.timer, State.connect_timers]
@[simp] theorem State.resetting_connect (s : State) (l : LineNo) (b : BridgeNo) (o : Occupant) : (s.connect l b o).resetting = s.resetting := by
  simp only [State.resetting, State.connect_mp]

@[simp] theorem State.moveHandset_directories (s : State) (l : LineNo) (old o : Occupant) : (s.moveHandset l old o).directories = s.directories := by
  unfold State.moveHandset; try dsimp only
  (repeat' split) <;> simp
@[simp] theorem State.moveHandset_channels (s : State) (l : LineNo) (old o : Occupant) : (s.moveHandset l old o).channels = s.channels := by
  unfold State.moveHandset; try dsimp only
  (repeat' split) <;> simp
@[simp] theorem State.moveHandset_selections (s : State) (l : LineNo) (old o : Occupant) : (s.moveHandset l old o).selections = s.selections := by
  unfold State.moveHandset; try dsimp only
  (repeat' split) <;> simp
@[simp] theorem State.moveHandset_slots (s : State) (l : LineNo) (old o : Occupant) : (s.moveHandset l old o).slots = s.slots := by
  unfold State.moveHandset; try dsimp only
  (repeat' split) <;> simp
@[simp] theorem State.moveHandset_generators (s : State) (l : LineNo) (old o : Occupant) : (s.moveHandset l old o).generators = s.generators := by
  unfold State.moveHandset; try dsimp only
  (repeat' split) <;> simp
@[simp] theorem State.moveHandset_timers (s : State) (l : LineNo) (old o : Occupant) : (s.moveHandset l old o).timers = s.timers := by
  unfold State.moveHandset; try dsimp only
  (repeat' split) <;> simp
@[simp] theorem State.moveHandset_inFlight (s : State) (l : LineNo) (old o : Occupant) : (s.moveHandset l old o).inFlight = s.inFlight := by
  unfold State.moveHandset; try dsimp only
  (repeat' split) <;> simp
@[simp] theorem State.moveHandset_reports (s : State) (l : LineNo) (old o : Occupant) : (s.moveHandset l old o).reports = s.reports := by
  unfold State.moveHandset; try dsimp only
  (repeat' split) <;> simp
@[simp] theorem State.moveHandset_links (s : State) (l : LineNo) (old o : Occupant) : (s.moveHandset l old o).links = s.links := by
  unfold State.moveHandset; try dsimp only
  (repeat' split) <;> simp
@[simp] theorem State.moveHandset_pointer (s : State) (l : LineNo) (old o : Occupant) : (s.moveHandset l old o).pointer = s.pointer := by
  unfold State.moveHandset; try dsimp only
  (repeat' split) <;> simp
@[simp] theorem State.moveHandset_frameCount (s : State) (l : LineNo) (old o : Occupant) : (s.moveHandset l old o).frameCount = s.frameCount := by
  unfold State.moveHandset; try dsimp only
  (repeat' split) <;> simp
@[simp] theorem State.moveHandset_mp (s : State) (l : LineNo) (old o : Occupant) : (s.moveHandset l old o).mp = s.mp := by
  unfold State.moveHandset; try dsimp only
  (repeat' split) <;> simp
@[simp] theorem State.moveHandset_pending (s : State) (l : LineNo) (old o : Occupant) : (s.moveHandset l old o).pending = s.pending := by
  unfold State.moveHandset; try dsimp only
  (repeat' split) <;> simp
@[simp] theorem State.channel_moveHandset (s : State) (l : LineNo) (old o : Occupant) (c' : ChanNo) : (s.moveHandset l old o).channel c' = s.channel c' := by
  simp only [State.channel, State.moveHandset_channels]
@[simp] theorem State.slot_moveHandset (s : State) (l : LineNo) (old o : Occupant) (sl' : SlotNo) : (s.moveHandset l old o).slot sl' = s.slot sl' := by
  simp only [State.slot, State.moveHandset_slots]
@[simp] theorem State.generator_moveHandset (s : State) (l : LineNo) (old o : Occupant) (n' : GenNo) : (s.moveHandset l old o).generator n' = s.generator n' := by
  simp only [State.generator, State.moveHandset_generators]
@[simp] theorem State.link_moveHandset (s : State) (l : LineNo) (old o : Occupant) (p' : Pos) : (s.moveHandset l old o).link p' = s.link p' := by
  simp only [State.link, State.moveHandset_links]
@[simp] theorem State.keyLine_moveHandset (s : State) (l : LineNo) (old o : Occupant) (p' : Pos) (k' : Key) : (s.moveHandset l old o).keyLine p' k' = s.keyLine p' k' := by
  simp only [State.keyLine, State.moveHandset_directories]
@[simp] theorem State.selection_moveHandset (s : State) (l : LineNo) (old o : Occupant) (p' : Pos) (u' : UnitNo) : (s.moveHandset l old o).selection p' u' = s.selection p' u' := by
  simp only [State.selection, State.moveHandset_selections]
@[simp] theorem State.timer_moveHandset (s : State) (l : LineNo) (old o : Occupant) (t' : TimerId) : (s.moveHandset l old o).timer t' = s.timer t' := by
  simp only [State.timer, State.moveHandset_timers]
@[simp] theorem State.resetting_moveHandset (s : State) (l : LineNo) (old o : Occupant) : (s.moveHandset l old o).resetting = s.resetting := by
  simp only [State.resetting, State.moveHandset_mp]

@[simp] theorem State.ringStart_directories (s : State) (l : LineNo) : (s.ringStart l).directories = s.directories := by
  unfold State.ringStart; try dsimp only
  (repeat' split) <;> simp
@[simp] theorem State.ringStart_channels (s : State) (l : LineNo) : (s.ringStart l).channels = s.channels := by
  unfold State.ringStart; try dsimp only
  (repeat' split) <;> simp
@[simp] theorem State.ringStart_selections (s : State) (l : LineNo) : (s.ringStart l).selections = s.selections := by
  unfold State.ringStart; try dsimp only
  (repeat' split) <;> simp
@[simp] theorem State.ringStart_bridges (s : State) (l : LineNo) : (s.ringStart l).bridges = s.bridges := by
  unfold State.ringStart; try dsimp only
  (repeat' split) <;> simp
@[simp] theorem State.ringStart_legs (s : State) (l : LineNo) : (s.ringStart l).legs = s.legs := by
  unfold State.ringStart; try dsimp only
  (repeat' split) <;> simp
@[simp] theorem State.ringStart_slots (s : State) (l : LineNo) : (s.ringStart l).slots = s.slots := by
  unfold State.ringStart; try dsimp only
  (repeat' split) <;> simp
@[simp] theorem State.ringStart_inFlight (s : State) (l : LineNo) : (s.ringStart l).inFlight = s.inFlight := by
  unfold State.ringStart; try dsimp only
  (repeat' split) <;> simp
@[simp] theorem State.ringStart_reports (s : State) (l : LineNo) : (s.ringStart l).reports = s.reports := by
  unfold State.ringStart; try dsimp only
  (repeat' split) <;> simp
@[simp] theorem State.ringStart_links (s : State) (l : LineNo) : (s.ringStart l).links = s.links := by
  unfold State.ringStart; try dsimp only
  (repeat' split) <;> simp
@[simp] theorem State.ringStart_pointer (s : State) (l : LineNo) : (s.ringStart l).pointer = s.pointer := by
  unfold State.ringStart; try dsimp only
  (repeat' split) <;> simp
@[simp] theorem State.ringStart_frameCount (s : State) (l : LineNo) : (s.ringStart l).frameCount = s.frameCount := by
  unfold State.ringStart; try dsimp only
  (repeat' split) <;> simp
@[simp] theorem State.ringStart_mp (s : State) (l : LineNo) : (s.ringStart l).mp = s.mp := by
  unfold State.ringStart; try dsimp only
  (repeat' split) <;> simp
@[simp] theorem State.ringStart_pending (s : State) (l : LineNo) : (s.ringStart l).pending = s.pending := by
  unfold State.ringStart; try dsimp only
  (repeat' split) <;> simp
@[simp] theorem State.channel_ringStart (s : State) (l : LineNo) (c' : ChanNo) : (s.ringStart l).channel c' = s.channel c' := by
  simp only [State.channel, State.ringStart_channels]
@[simp] theorem State.bridge_ringStart (s : State) (l : LineNo) (b' : BridgeNo) : (s.ringStart l).bridge b' = s.bridge b' := by
  simp only [State.bridge, State.ringStart_bridges]
@[simp] theorem State.leg_ringStart (s : State) (l : LineNo) (g' : LegNo) : (s.ringStart l).leg g' = s.leg g' := by
  simp only [State.leg, State.ringStart_legs]
@[simp] theorem State.slot_ringStart (s : State) (l : LineNo) (sl' : SlotNo) : (s.ringStart l).slot sl' = s.slot sl' := by
  simp only [State.slot, State.ringStart_slots]
@[simp] theorem State.link_ringStart (s : State) (l : LineNo) (p' : Pos) : (s.ringStart l).link p' = s.link p' := by
  simp only [State.link, State.ringStart_links]
@[simp] theorem State.keyLine_ringStart (s : State) (l : LineNo) (p' : Pos) (k' : Key) : (s.ringStart l).keyLine p' k' = s.keyLine p' k' := by
  simp only [State.keyLine, State.ringStart_directories]
@[simp] theorem State.selection_ringStart (s : State) (l : LineNo) (p' : Pos) (u' : UnitNo) : (s.ringStart l).selection p' u' = s.selection p' u' := by
  simp only [State.selection, State.ringStart_selections]
@[simp] theorem State.resetting_ringStart (s : State) (l : LineNo) : (s.ringStart l).resetting = s.resetting := by
  simp only [State.resetting, State.ringStart_mp]

@[simp] theorem State.alertToRest_directories (s : State) (l : LineNo) (missed : Bool) : (s.alertToRest l missed).directories = s.directories := by
  unfold State.alertToRest; try dsimp only
  (repeat' split) <;> simp
@[simp] theorem State.alertToRest_selections (s : State) (l : LineNo) (missed : Bool) : (s.alertToRest l missed).selections = s.selections := by
  unfold State.alertToRest; try dsimp only
  (repeat' split) <;> simp
@[simp] theorem State.alertToRest_inFlight (s : State) (l : LineNo) (missed : Bool) : (s.alertToRest l missed).inFlight = s.inFlight := by
  unfold State.alertToRest; try dsimp only
  (repeat' split) <;> simp
@[simp] theorem State.alertToRest_reports (s : State) (l : LineNo) (missed : Bool) : (s.alertToRest l missed).reports = s.reports := by
  unfold State.alertToRest; try dsimp only
  (repeat' split) <;> simp
@[simp] theorem State.alertToRest_links (s : State) (l : LineNo) (missed : Bool) : (s.alertToRest l missed).links = s.links := by
  unfold State.alertToRest; try dsimp only
  (repeat' split) <;> simp
@[simp] theorem State.alertToRest_pointer (s : State) (l : LineNo) (missed : Bool) : (s.alertToRest l missed).pointer = s.pointer := by
  unfold State.alertToRest; try dsimp only
  (repeat' split) <;> simp
@[simp] theorem State.alertToRest_frameCount (s : State) (l : LineNo) (missed : Bool) : (s.alertToRest l missed).frameCount = s.frameCount := by
  unfold State.alertToRest; try dsimp only
  (repeat' split) <;> simp
@[simp] theorem State.alertToRest_pending (s : State) (l : LineNo) (missed : Bool) : (s.alertToRest l missed).pending = s.pending := by
  unfold State.alertToRest; try dsimp only
  (repeat' split) <;> simp
@[simp] theorem State.link_alertToRest (s : State) (l : LineNo) (missed : Bool) (p' : Pos) : (s.alertToRest l missed).link p' = s.link p' := by
  simp only [State.link, State.alertToRest_links]
@[simp] theorem State.keyLine_alertToRest (s : State) (l : LineNo) (missed : Bool) (p' : Pos) (k' : Key) : (s.alertToRest l missed).keyLine p' k' = s.keyLine p' k' := by
  simp only [State.keyLine, State.alertToRest_directories]
@[simp] theorem State.selection_alertToRest (s : State) (l : LineNo) (missed : Bool) (p' : Pos) (u' : UnitNo) : (s.alertToRest l missed).selection p' u' = s.selection p' u' := by
  simp only [State.selection, State.alertToRest_selections]

@[simp] theorem State.releasePosition_directories (s : State) (l : LineNo) (p : Pos) : (s.releasePosition l p).directories = s.directories := by
  unfold State.releasePosition; try dsimp only
  (repeat' split) <;> simp
@[simp] theorem State.releasePosition_generators (s : State) (l : LineNo) (p : Pos) : (s.releasePosition l p).generators = s.generators := by
  unfold State.releasePosition; try dsimp only
  (repeat' split) <;> simp
@[simp] theorem State.releasePosition_inFlight (s : State) (l : LineNo) (p : Pos) : (s.releasePosition l p).inFlight = s.inFlight := by
  unfold State.releasePosition; try dsimp only
  (repeat' split) <;> simp
@[simp] theorem State.releasePosition_reports (s : State) (l : LineNo) (p : Pos) : (s.releasePosition l p).reports = s.reports := by
  unfold State.releasePosition; try dsimp only
  (repeat' split) <;> simp
@[simp] theorem State.releasePosition_links (s : State) (l : LineNo) (p : Pos) : (s.releasePosition l p).links = s.links := by
  unfold State.releasePosition; try dsimp only
  (repeat' split) <;> simp
@[simp] theorem State.releasePosition_pointer (s : State) (l : LineNo) (p : Pos) : (s.releasePosition l p).pointer = s.pointer := by
  unfold State.releasePosition; try dsimp only
  (repeat' split) <;> simp
@[simp] theorem State.releasePosition_frameCount (s : State) (l : LineNo) (p : Pos) : (s.releasePosition l p).frameCount = s.frameCount := by
  unfold State.releasePosition; try dsimp only
  (repeat' split) <;> simp
@[simp] theorem State.releasePosition_pending (s : State) (l : LineNo) (p : Pos) : (s.releasePosition l p).pending = s.pending := by
  unfold State.releasePosition; try dsimp only
  (repeat' split) <;> simp
@[simp] theorem State.generator_releasePosition (s : State) (l : LineNo) (p : Pos) (n' : GenNo) : (s.releasePosition l p).generator n' = s.generator n' := by
  simp only [State.generator, State.releasePosition_generators]
@[simp] theorem State.link_releasePosition (s : State) (l : LineNo) (p : Pos) (p' : Pos) : (s.releasePosition l p).link p' = s.link p' := by
  simp only [State.link, State.releasePosition_links]
@[simp] theorem State.keyLine_releasePosition (s : State) (l : LineNo) (p : Pos) (p' : Pos) (k' : Key) : (s.releasePosition l p).keyLine p' k' = s.keyLine p' k' := by
  simp only [State.keyLine, State.releasePosition_directories]

@[simp] theorem State.dropMonitorsOf_directories (s : State) (l : LineNo) (p : Pos) : (s.dropMonitorsOf l p).directories = s.directories := by
  unfold State.dropMonitorsOf; try dsimp only
  (repeat' split) <;> simp
@[simp] theorem State.dropMonitorsOf_channels (s : State) (l : LineNo) (p : Pos) : (s.dropMonitorsOf l p).channels = s.channels := by
  unfold State.dropMonitorsOf; try dsimp only
  (repeat' split) <;> simp
@[simp] theorem State.dropMonitorsOf_slots (s : State) (l : LineNo) (p : Pos) : (s.dropMonitorsOf l p).slots = s.slots := by
  unfold State.dropMonitorsOf; try dsimp only
  (repeat' split) <;> simp
@[simp] theorem State.dropMonitorsOf_generators (s : State) (l : LineNo) (p : Pos) : (s.dropMonitorsOf l p).generators = s.generators := by
  unfold State.dropMonitorsOf; try dsimp only
  (repeat' split) <;> simp
@[simp] theorem State.dropMonitorsOf_timers (s : State) (l : LineNo) (p : Pos) : (s.dropMonitorsOf l p).timers = s.timers := by
  unfold State.dropMonitorsOf; try dsimp only
  (repeat' split) <;> simp
@[simp] theorem State.dropMonitorsOf_inFlight (s : State) (l : LineNo) (p : Pos) : (s.dropMonitorsOf l p).inFlight = s.inFlight := by
  unfold State.dropMonitorsOf; try dsimp only
  (repeat' split) <;> simp
@[simp] theorem State.dropMonitorsOf_reports (s : State) (l : LineNo) (p : Pos) : (s.dropMonitorsOf l p).reports = s.reports := by
  unfold State.dropMonitorsOf; try dsimp only
  (repeat' split) <;> simp
@[simp] theorem State.dropMonitorsOf_links (s : State) (l : LineNo) (p : Pos) : (s.dropMonitorsOf l p).links = s.links := by
  unfold State.dropMonitorsOf; try dsimp only
  (repeat' split) <;> simp
@[simp] theorem State.dropMonitorsOf_pointer (s : State) (l : LineNo) (p : Pos) : (s.dropMonitorsOf l p).pointer = s.pointer := by
  unfold State.dropMonitorsOf; try dsimp only
  (repeat' split) <;> simp
@[simp] theorem State.dropMonitorsOf_frameCount (s : State) (l : LineNo) (p : Pos) : (s.dropMonitorsOf l p).frameCount = s.frameCount := by
  unfold State.dropMonitorsOf; try dsimp only
  (repeat' split) <;> simp
@[simp] theorem State.dropMonitorsOf_mp (s : State) (l : LineNo) (p : Pos) : (s.dropMonitorsOf l p).mp = s.mp := by
  unfold State.dropMonitorsOf; try dsimp only
  (repeat' split) <;> simp
@[simp] theorem State.dropMonitorsOf_pending (s : State) (l : LineNo) (p : Pos) : (s.dropMonitorsOf l p).pending = s.pending := by
  unfold State.dropMonitorsOf; try dsimp only
  (repeat' split) <;> simp
@[simp] theorem State.channel_dropMonitorsOf (s : State) (l : LineNo) (p : Pos) (c' : ChanNo) : (s.dropMonitorsOf l p).channel c' = s.channel c' := by
  simp only [State.channel, State.dropMonitorsOf_channels]
@[simp] theorem State.slot_dropMonitorsOf (s : State) (l : LineNo) (p : Pos) (sl' : SlotNo) : (s.dropMonitorsOf l p).slot sl' = s.slot sl' := by
  simp only [State.slot, State.dropMonitorsOf_slots]
@[simp] theorem State.generator_dropMonitorsOf (s : State) (l : LineNo) (p : Pos) (n' : GenNo) : (s.dropMonitorsOf l p).generator n' = s.generator n' := by
  simp only [State.generator, State.dropMonitorsOf_generators]
@[simp] theorem State.link_dropMonitorsOf (s : State) (l : LineNo) (p : Pos) (p' : Pos) : (s.dropMonitorsOf l p).link p' = s.link p' := by
  simp only [State.link, State.dropMonitorsOf_links]
@[simp] theorem State.keyLine_dropMonitorsOf (s : State) (l : LineNo) (p : Pos) (p' : Pos) (k' : Key) : (s.dropMonitorsOf l p).keyLine p' k' = s.keyLine p' k' := by
  simp only [State.keyLine, State.dropMonitorsOf_directories]
@[simp] theorem State.timer_dropMonitorsOf (s : State) (l : LineNo) (p : Pos) (t' : TimerId) : (s.dropMonitorsOf l p).timer t' = s.timer t' := by
  simp only [State.timer, State.dropMonitorsOf_timers]
@[simp] theorem State.resetting_dropMonitorsOf (s : State) (l : LineNo) (p : Pos) : (s.dropMonitorsOf l p).resetting = s.resetting := by
  simp only [State.resetting, State.dropMonitorsOf_mp]

end Sys2Proof.Machine
end

