-- ==== Sys2Proof/Laws/FramesChannels.lean ====
section
/-! SUPPORT. What the operations of the Channel Controller leave unchanged: a lemma per operation and field. -/

namespace Sys2Proof.Machine

set_option linter.unusedTactic false
set_option linter.unnecessarySeqFocus false
set_option linter.unreachableTactic false
set_option Elab.async false

@[simp] theorem State.openChannel_lines (s : State) (c : ChanNo) (b : BridgeNo) : (s.openChannel c b).lines = s.lines := by
  unfold State.openChannel; try dsimp only
  (repeat' split) <;> simp
@[simp] theorem State.openChannel_directories (s : State) (c : ChanNo) (b : BridgeNo) : (s.openChannel c b).directories = s.directories := by
  unfold State.openChannel; try dsimp only
  (repeat' split) <;> simp
@[simp] theorem State.openChannel_selections (s : State) (c : ChanNo) (b : BridgeNo) : (s.openChannel c b).selections = s.selections := by
  unfold State.openChannel; try dsimp only
  (repeat' split) <;> simp
@[simp] theorem State.openChannel_slots (s : State) (c : ChanNo) (b : BridgeNo) : (s.openChannel c b).slots = s.slots := by
  unfold State.openChannel; try dsimp only
  (repeat' split) <;> simp
@[simp] theorem State.openChannel_generators (s : State) (c : ChanNo) (b : BridgeNo) : (s.openChannel c b).generators = s.generators := by
  unfold State.openChannel; try dsimp only
  (repeat' split) <;> simp
@[simp] theorem State.openChannel_timers (s : State) (c : ChanNo) (b : BridgeNo) : (s.openChannel c b).timers = s.timers := by
  unfold State.openChannel; try dsimp only
  (repeat' split) <;> simp
@[simp] theorem State.openChannel_inFlight (s : State) (c : ChanNo) (b : BridgeNo) : (s.openChannel c b).inFlight = s.inFlight := by
  unfold State.openChannel; try dsimp only
  (repeat' split) <;> simp
@[simp] theorem State.openChannel_reports (s : State) (c : ChanNo) (b : BridgeNo) : (s.openChannel c b).reports = s.reports := by
  unfold State.openChannel; try dsimp only
  (repeat' split) <;> simp
@[simp] theorem State.openChannel_links (s : State) (c : ChanNo) (b : BridgeNo) : (s.openChannel c b).links = s.links := by
  unfold State.openChannel; try dsimp only
  (repeat' split) <;> simp
@[simp] theorem State.openChannel_pointer (s : State) (c : ChanNo) (b : BridgeNo) : (s.openChannel c b).pointer = s.pointer := by
  unfold State.openChannel; try dsimp only
  (repeat' split) <;> simp
@[simp] theorem State.openChannel_frameCount (s : State) (c : ChanNo) (b : BridgeNo) : (s.openChannel c b).frameCount = s.frameCount := by
  unfold State.openChannel; try dsimp only
  (repeat' split) <;> simp
@[simp] theorem State.openChannel_mp (s : State) (c : ChanNo) (b : BridgeNo) : (s.openChannel c b).mp = s.mp := by
  unfold State.openChannel; try dsimp only
  (repeat' split) <;> simp
@[simp] theorem State.openChannel_pending (s : State) (c : ChanNo) (b : BridgeNo) : (s.openChannel c b).pending = s.pending := by
  unfold State.openChannel; try dsimp only
  (repeat' split) <;> simp
@[simp] theorem State.line_openChannel (s : State) (c : ChanNo) (b : BridgeNo) (l' : LineNo) : (s.openChannel c b).line l' = s.line l' := by
  simp only [State.line, State.openChannel_lines]
@[simp] theorem State.slot_openChannel (s : State) (c : ChanNo) (b : BridgeNo) (sl' : SlotNo) : (s.openChannel c b).slot sl' = s.slot sl' := by
  simp only [State.slot, State.openChannel_slots]
@[simp] theorem State.generator_openChannel (s : State) (c : ChanNo) (b : BridgeNo) (n' : GenNo) : (s.openChannel c b).generator n' = s.generator n' := by
  simp only [State.generator, State.openChannel_generators]
@[simp] theorem State.link_openChannel (s : State) (c : ChanNo) (b : BridgeNo) (p' : Pos) : (s.openChannel c b).link p' = s.link p' := by
  simp only [State.link, State.openChannel_links]
@[simp] theorem State.keyLine_openChannel (s : State) (c : ChanNo) (b : BridgeNo) (p' : Pos) (k' : Key) : (s.openChannel c b).keyLine p' k' = s.keyLine p' k' := by
  simp only [State.keyLine, State.openChannel_directories]
@[simp] theorem State.selection_openChannel (s : State) (c : ChanNo) (b : BridgeNo) (p' : Pos) (u' : UnitNo) : (s.openChannel c b).selection p' u' = s.selection p' u' := by
  simp only [State.selection, State.openChannel_selections]
@[simp] theorem State.timer_openChannel (s : State) (c : ChanNo) (b : BridgeNo) (t' : TimerId) : (s.openChannel c b).timer t' = s.timer t' := by
  simp only [State.timer, State.openChannel_timers]
@[simp] theorem State.resetting_openChannel (s : State) (c : ChanNo) (b : BridgeNo) : (s.openChannel c b).resetting = s.resetting := by
  simp only [State.resetting, State.openChannel_mp]

@[simp] theorem State.closeChannel_lines (s : State) (c : ChanNo) : (s.closeChannel c).lines = s.lines := by
  unfold State.closeChannel; try dsimp only
  (repeat' split) <;> simp
@[simp] theorem State.closeChannel_directories (s : State) (c : ChanNo) : (s.closeChannel c).directories = s.directories := by
  unfold State.closeChannel; try dsimp only
  (repeat' split) <;> simp
@[simp] theorem State.closeChannel_selections (s : State) (c : ChanNo) : (s.closeChannel c).selections = s.selections := by
  unfold State.closeChannel; try dsimp only
  (repeat' split) <;> simp
@[simp] theorem State.closeChannel_slots (s : State) (c : ChanNo) : (s.closeChannel c).slots = s.slots := by
  unfold State.closeChannel; try dsimp only
  (repeat' split) <;> simp
@[simp] theorem State.closeChannel_generators (s : State) (c : ChanNo) : (s.closeChannel c).generators = s.generators := by
  unfold State.closeChannel; try dsimp only
  (repeat' split) <;> simp
@[simp] theorem State.closeChannel_timers (s : State) (c : ChanNo) : (s.closeChannel c).timers = s.timers := by
  unfold State.closeChannel; try dsimp only
  (repeat' split) <;> simp
@[simp] theorem State.closeChannel_inFlight (s : State) (c : ChanNo) : (s.closeChannel c).inFlight = s.inFlight := by
  unfold State.closeChannel; try dsimp only
  (repeat' split) <;> simp
@[simp] theorem State.closeChannel_reports (s : State) (c : ChanNo) : (s.closeChannel c).reports = s.reports := by
  unfold State.closeChannel; try dsimp only
  (repeat' split) <;> simp
@[simp] theorem State.closeChannel_links (s : State) (c : ChanNo) : (s.closeChannel c).links = s.links := by
  unfold State.closeChannel; try dsimp only
  (repeat' split) <;> simp
@[simp] theorem State.closeChannel_pointer (s : State) (c : ChanNo) : (s.closeChannel c).pointer = s.pointer := by
  unfold State.closeChannel; try dsimp only
  (repeat' split) <;> simp
@[simp] theorem State.closeChannel_frameCount (s : State) (c : ChanNo) : (s.closeChannel c).frameCount = s.frameCount := by
  unfold State.closeChannel; try dsimp only
  (repeat' split) <;> simp
@[simp] theorem State.closeChannel_mp (s : State) (c : ChanNo) : (s.closeChannel c).mp = s.mp := by
  unfold State.closeChannel; try dsimp only
  (repeat' split) <;> simp
@[simp] theorem State.closeChannel_pending (s : State) (c : ChanNo) : (s.closeChannel c).pending = s.pending := by
  unfold State.closeChannel; try dsimp only
  (repeat' split) <;> simp
@[simp] theorem State.line_closeChannel (s : State) (c : ChanNo) (l' : LineNo) : (s.closeChannel c).line l' = s.line l' := by
  simp only [State.line, State.closeChannel_lines]
@[simp] theorem State.slot_closeChannel (s : State) (c : ChanNo) (sl' : SlotNo) : (s.closeChannel c).slot sl' = s.slot sl' := by
  simp only [State.slot, State.closeChannel_slots]
@[simp] theorem State.generator_closeChannel (s : State) (c : ChanNo) (n' : GenNo) : (s.closeChannel c).generator n' = s.generator n' := by
  simp only [State.generator, State.closeChannel_generators]
@[simp] theorem State.link_closeChannel (s : State) (c : ChanNo) (p' : Pos) : (s.closeChannel c).link p' = s.link p' := by
  simp only [State.link, State.closeChannel_links]
@[simp] theorem State.keyLine_closeChannel (s : State) (c : ChanNo) (p' : Pos) (k' : Key) : (s.closeChannel c).keyLine p' k' = s.keyLine p' k' := by
  simp only [State.keyLine, State.closeChannel_directories]
@[simp] theorem State.selection_closeChannel (s : State) (c : ChanNo) (p' : Pos) (u' : UnitNo) : (s.closeChannel c).selection p' u' = s.selection p' u' := by
  simp only [State.selection, State.closeChannel_selections]
@[simp] theorem State.timer_closeChannel (s : State) (c : ChanNo) (t' : TimerId) : (s.closeChannel c).timer t' = s.timer t' := by
  simp only [State.timer, State.closeChannel_timers]
@[simp] theorem State.resetting_closeChannel (s : State) (c : ChanNo) : (s.closeChannel c).resetting = s.resetting := by
  simp only [State.resetting, State.closeChannel_mp]

@[simp] theorem State.closeIfUnused_lines (s : State) (c : ChanNo) : (s.closeIfUnused c).lines = s.lines := by
  unfold State.closeIfUnused; try dsimp only
  (repeat' split) <;> simp
@[simp] theorem State.closeIfUnused_directories (s : State) (c : ChanNo) : (s.closeIfUnused c).directories = s.directories := by
  unfold State.closeIfUnused; try dsimp only
  (repeat' split) <;> simp
@[simp] theorem State.closeIfUnused_selections (s : State) (c : ChanNo) : (s.closeIfUnused c).selections = s.selections := by
  unfold State.closeIfUnused; try dsimp only
  (repeat' split) <;> simp
@[simp] theorem State.closeIfUnused_slots (s : State) (c : ChanNo) : (s.closeIfUnused c).slots = s.slots := by
  unfold State.closeIfUnused; try dsimp only
  (repeat' split) <;> simp
@[simp] theorem State.closeIfUnused_generators (s : State) (c : ChanNo) : (s.closeIfUnused c).generators = s.generators := by
  unfold State.closeIfUnused; try dsimp only
  (repeat' split) <;> simp
@[simp] theorem State.closeIfUnused_timers (s : State) (c : ChanNo) : (s.closeIfUnused c).timers = s.timers := by
  unfold State.closeIfUnused; try dsimp only
  (repeat' split) <;> simp
@[simp] theorem State.closeIfUnused_inFlight (s : State) (c : ChanNo) : (s.closeIfUnused c).inFlight = s.inFlight := by
  unfold State.closeIfUnused; try dsimp only
  (repeat' split) <;> simp
@[simp] theorem State.closeIfUnused_reports (s : State) (c : ChanNo) : (s.closeIfUnused c).reports = s.reports := by
  unfold State.closeIfUnused; try dsimp only
  (repeat' split) <;> simp
@[simp] theorem State.closeIfUnused_links (s : State) (c : ChanNo) : (s.closeIfUnused c).links = s.links := by
  unfold State.closeIfUnused; try dsimp only
  (repeat' split) <;> simp
@[simp] theorem State.closeIfUnused_pointer (s : State) (c : ChanNo) : (s.closeIfUnused c).pointer = s.pointer := by
  unfold State.closeIfUnused; try dsimp only
  (repeat' split) <;> simp
@[simp] theorem State.closeIfUnused_frameCount (s : State) (c : ChanNo) : (s.closeIfUnused c).frameCount = s.frameCount := by
  unfold State.closeIfUnused; try dsimp only
  (repeat' split) <;> simp
@[simp] theorem State.closeIfUnused_mp (s : State) (c : ChanNo) : (s.closeIfUnused c).mp = s.mp := by
  unfold State.closeIfUnused; try dsimp only
  (repeat' split) <;> simp
@[simp] theorem State.closeIfUnused_pending (s : State) (c : ChanNo) : (s.closeIfUnused c).pending = s.pending := by
  unfold State.closeIfUnused; try dsimp only
  (repeat' split) <;> simp
@[simp] theorem State.line_closeIfUnused (s : State) (c : ChanNo) (l' : LineNo) : (s.closeIfUnused c).line l' = s.line l' := by
  simp only [State.line, State.closeIfUnused_lines]
@[simp] theorem State.slot_closeIfUnused (s : State) (c : ChanNo) (sl' : SlotNo) : (s.closeIfUnused c).slot sl' = s.slot sl' := by
  simp only [State.slot, State.closeIfUnused_slots]
@[simp] theorem State.generator_closeIfUnused (s : State) (c : ChanNo) (n' : GenNo) : (s.closeIfUnused c).generator n' = s.generator n' := by
  simp only [State.generator, State.closeIfUnused_generators]
@[simp] theorem State.link_closeIfUnused (s : State) (c : ChanNo) (p' : Pos) : (s.closeIfUnused c).link p' = s.link p' := by
  simp only [State.link, State.closeIfUnused_links]
@[simp] theorem State.keyLine_closeIfUnused (s : State) (c : ChanNo) (p' : Pos) (k' : Key) : (s.closeIfUnused c).keyLine p' k' = s.keyLine p' k' := by
  simp only [State.keyLine, State.closeIfUnused_directories]
@[simp] theorem State.selection_closeIfUnused (s : State) (c : ChanNo) (p' : Pos) (u' : UnitNo) : (s.closeIfUnused c).selection p' u' = s.selection p' u' := by
  simp only [State.selection, State.closeIfUnused_selections]
@[simp] theorem State.timer_closeIfUnused (s : State) (c : ChanNo) (t' : TimerId) : (s.closeIfUnused c).timer t' = s.timer t' := by
  simp only [State.timer, State.closeIfUnused_timers]
@[simp] theorem State.resetting_closeIfUnused (s : State) (c : ChanNo) : (s.closeIfUnused c).resetting = s.resetting := by
  simp only [State.resetting, State.closeIfUnused_mp]

@[simp] theorem State.releaseSelection_directories (s : State) (p : Pos) (u : UnitNo) : (s.releaseSelection p u).directories = s.directories := by
  unfold State.releaseSelection; try dsimp only
  (repeat' split) <;> simp
@[simp] theorem State.releaseSelection_slots (s : State) (p : Pos) (u : UnitNo) : (s.releaseSelection p u).slots = s.slots := by
  unfold State.releaseSelection; try dsimp only
  (repeat' split) <;> simp
@[simp] theorem State.releaseSelection_generators (s : State) (p : Pos) (u : UnitNo) : (s.releaseSelection p u).generators = s.generators := by
  unfold State.releaseSelection; try dsimp only
  (repeat' split) <;> simp
@[simp] theorem State.releaseSelection_timers (s : State) (p : Pos) (u : UnitNo) : (s.releaseSelection p u).timers = s.timers := by
  unfold State.releaseSelection; try dsimp only
  (repeat' split) <;> simp
@[simp] theorem State.releaseSelection_inFlight (s : State) (p : Pos) (u : UnitNo) : (s.releaseSelection p u).inFlight = s.inFlight := by
  unfold State.releaseSelection; try dsimp only
  (repeat' split) <;> simp
@[simp] theorem State.releaseSelection_reports (s : State) (p : Pos) (u : UnitNo) : (s.releaseSelection p u).reports = s.reports := by
  unfold State.releaseSelection; try dsimp only
  (repeat' split) <;> simp
@[simp] theorem State.releaseSelection_links (s : State) (p : Pos) (u : UnitNo) : (s.releaseSelection p u).links = s.links := by
  unfold State.releaseSelection; try dsimp only
  (repeat' split) <;> simp
@[simp] theorem State.releaseSelection_pointer (s : State) (p : Pos) (u : UnitNo) : (s.releaseSelection p u).pointer = s.pointer := by
  unfold State.releaseSelection; try dsimp only
  (repeat' split) <;> simp
@[simp] theorem State.releaseSelection_frameCount (s : State) (p : Pos) (u : UnitNo) : (s.releaseSelection p u).frameCount = s.frameCount := by
  unfold State.releaseSelection; try dsimp only
  (repeat' split) <;> simp
@[simp] theorem State.releaseSelection_mp (s : State) (p : Pos) (u : UnitNo) : (s.releaseSelection p u).mp = s.mp := by
  unfold State.releaseSelection; try dsimp only
  (repeat' split) <;> simp
@[simp] theorem State.releaseSelection_pending (s : State) (p : Pos) (u : UnitNo) : (s.releaseSelection p u).pending = s.pending := by
  unfold State.releaseSelection; try dsimp only
  (repeat' split) <;> simp
@[simp] theorem State.slot_releaseSelection (s : State) (p : Pos) (u : UnitNo) (sl' : SlotNo) : (s.releaseSelection p u).slot sl' = s.slot sl' := by
  simp only [State.slot, State.releaseSelection_slots]
@[simp] theorem State.generator_releaseSelection (s : State) (p : Pos) (u : UnitNo) (n' : GenNo) : (s.releaseSelection p u).generator n' = s.generator n' := by
  simp only [State.generator, State.releaseSelection_generators]
@[simp] theorem State.link_releaseSelection (s : State) (p : Pos) (u : UnitNo) (p' : Pos) : (s.releaseSelection p u).link p' = s.link p' := by
  simp only [State.link, State.releaseSelection_links]
@[simp] theorem State.keyLine_releaseSelection (s : State) (p : Pos) (u : UnitNo) (p' : Pos) (k' : Key) : (s.releaseSelection p u).keyLine p' k' = s.keyLine p' k' := by
  simp only [State.keyLine, State.releaseSelection_directories]
@[simp] theorem State.timer_releaseSelection (s : State) (p : Pos) (u : UnitNo) (t' : TimerId) : (s.releaseSelection p u).timer t' = s.timer t' := by
  simp only [State.timer, State.releaseSelection_timers]
@[simp] theorem State.resetting_releaseSelection (s : State) (p : Pos) (u : UnitNo) : (s.releaseSelection p u).resetting = s.resetting := by
  simp only [State.resetting, State.releaseSelection_mp]

@[simp] theorem State.selectChannel_directories (s : State) (p : Pos) (u : UnitNo) (c : ChanNo) : (s.selectChannel p u c).directories = s.directories := by
  unfold State.selectChannel; try dsimp only
  (repeat' split) <;> simp
@[simp] theorem State.selectChannel_slots (s : State) (p : Pos) (u : UnitNo) (c : ChanNo) : (s.selectChannel p u c).slots = s.slots := by
  unfold State.selectChannel; try dsimp only
  (repeat' split) <;> simp
@[simp] theorem State.selectChannel_generators (s : State) (p : Pos) (u : UnitNo) (c : ChanNo) : (s.selectChannel p u c).generators = s.generators := by
  unfold State.selectChannel; try dsimp only
  (repeat' split) <;> simp
@[simp] theorem State.selectChannel_timers (s : State) (p : Pos) (u : UnitNo) (c : ChanNo) : (s.selectChannel p u c).timers = s.timers := by
  unfold State.selectChannel; try dsimp only
  (repeat' split) <;> simp
@[simp] theorem State.selectChannel_inFlight (s : State) (p : Pos) (u : UnitNo) (c : ChanNo) : (s.selectChannel p u c).inFlight = s.inFlight := by
  unfold State.selectChannel; try dsimp only
  (repeat' split) <;> simp
@[simp] theorem State.selectChannel_reports (s : State) (p : Pos) (u : UnitNo) (c : ChanNo) : (s.selectChannel p u c).reports = s.reports := by
  unfold State.selectChannel; try dsimp only
  (repeat' split) <;> simp
@[simp] theorem State.selectChannel_links (s : State) (p : Pos) (u : UnitNo) (c : ChanNo) : (s.selectChannel p u c).links = s.links := by
  unfold State.selectChannel; try dsimp only
  (repeat' split) <;> simp
@[simp] theorem State.selectChannel_pointer (s : State) (p : Pos) (u : UnitNo) (c : ChanNo) : (s.selectChannel p u c).pointer = s.pointer := by
  unfold State.selectChannel; try dsimp only
  (repeat' split) <;> simp
@[simp] theorem State.selectChannel_frameCount (s : State) (p : Pos) (u : UnitNo) (c : ChanNo) : (s.selectChannel p u c).frameCount = s.frameCount := by
  unfold State.selectChannel; try dsimp only
  (repeat' split) <;> simp
@[simp] theorem State.selectChannel_mp (s : State) (p : Pos) (u : UnitNo) (c : ChanNo) : (s.selectChannel p u c).mp = s.mp := by
  unfold State.selectChannel; try dsimp only
  (repeat' split) <;> simp
@[simp] theorem State.selectChannel_pending (s : State) (p : Pos) (u : UnitNo) (c : ChanNo) : (s.selectChannel p u c).pending = s.pending := by
  unfold State.selectChannel; try dsimp only
  (repeat' split) <;> simp
@[simp] theorem State.slot_selectChannel (s : State) (p : Pos) (u : UnitNo) (c : ChanNo) (sl' : SlotNo) : (s.selectChannel p u c).slot sl' = s.slot sl' := by
  simp only [State.slot, State.selectChannel_slots]
@[simp] theorem State.generator_selectChannel (s : State) (p : Pos) (u : UnitNo) (c : ChanNo) (n' : GenNo) : (s.selectChannel p u c).generator n' = s.generator n' := by
  simp only [State.generator, State.selectChannel_generators]
@[simp] theorem State.link_selectChannel (s : State) (p : Pos) (u : UnitNo) (c : ChanNo) (p' : Pos) : (s.selectChannel p u c).link p' = s.link p' := by
  simp only [State.link, State.selectChannel_links]
@[simp] theorem State.keyLine_selectChannel (s : State) (p : Pos) (u : UnitNo) (c : ChanNo) (p' : Pos) (k' : Key) : (s.selectChannel p u c).keyLine p' k' = s.keyLine p' k' := by
  simp only [State.keyLine, State.selectChannel_directories]
@[simp] theorem State.timer_selectChannel (s : State) (p : Pos) (u : UnitNo) (c : ChanNo) (t' : TimerId) : (s.selectChannel p u c).timer t' = s.timer t' := by
  simp only [State.timer, State.selectChannel_timers]
@[simp] theorem State.resetting_selectChannel (s : State) (p : Pos) (u : UnitNo) (c : ChanNo) : (s.selectChannel p u c).resetting = s.resetting := by
  simp only [State.resetting, State.selectChannel_mp]

@[simp] theorem State.monitorLine_directories (s : State) (p : Pos) (u : UnitNo) (l : LineNo) : (s.monitorLine p u l).directories = s.directories := by
  unfold State.monitorLine; try dsimp only
  (repeat' split) <;> simp
@[simp] theorem State.monitorLine_slots (s : State) (p : Pos) (u : UnitNo) (l : LineNo) : (s.monitorLine p u l).slots = s.slots := by
  unfold State.monitorLine; try dsimp only
  (repeat' split) <;> simp
@[simp] theorem State.monitorLine_generators (s : State) (p : Pos) (u : UnitNo) (l : LineNo) : (s.monitorLine p u l).generators = s.generators := by
  unfold State.monitorLine; try dsimp only
  (repeat' split) <;> simp
@[simp] theorem State.monitorLine_timers (s : State) (p : Pos) (u : UnitNo) (l : LineNo) : (s.monitorLine p u l).timers = s.timers := by
  unfold State.monitorLine; try dsimp only
  (repeat' split) <;> simp
@[simp] theorem State.monitorLine_inFlight (s : State) (p : Pos) (u : UnitNo) (l : LineNo) : (s.monitorLine p u l).inFlight = s.inFlight := by
  unfold State.monitorLine; try dsimp only
  (repeat' split) <;> simp
@[simp] theorem State.monitorLine_reports (s : State) (p : Pos) (u : UnitNo) (l : LineNo) : (s.monitorLine p u l).reports = s.reports := by
  unfold State.monitorLine; try dsimp only
  (repeat' split) <;> simp
@[simp] theorem State.monitorLine_links (s : State) (p : Pos) (u : UnitNo) (l : LineNo) : (s.monitorLine p u l).links = s.links := by
  unfold State.monitorLine; try dsimp only
  (repeat' split) <;> simp
@[simp] theorem State.monitorLine_pointer (s : State) (p : Pos) (u : UnitNo) (l : LineNo) : (s.monitorLine p u l).pointer = s.pointer := by
  unfold State.monitorLine; try dsimp only
  (repeat' split) <;> simp
@[simp] theorem State.monitorLine_frameCount (s : State) (p : Pos) (u : UnitNo) (l : LineNo) : (s.monitorLine p u l).frameCount = s.frameCount := by
  unfold State.monitorLine; try dsimp only
  (repeat' split) <;> simp
@[simp] theorem State.monitorLine_mp (s : State) (p : Pos) (u : UnitNo) (l : LineNo) : (s.monitorLine p u l).mp = s.mp := by
  unfold State.monitorLine; try dsimp only
  (repeat' split) <;> simp
@[simp] theorem State.monitorLine_pending (s : State) (p : Pos) (u : UnitNo) (l : LineNo) : (s.monitorLine p u l).pending = s.pending := by
  unfold State.monitorLine; try dsimp only
  (repeat' split) <;> simp
@[simp] theorem State.slot_monitorLine (s : State) (p : Pos) (u : UnitNo) (l : LineNo) (sl' : SlotNo) : (s.monitorLine p u l).slot sl' = s.slot sl' := by
  simp only [State.slot, State.monitorLine_slots]
@[simp] theorem State.generator_monitorLine (s : State) (p : Pos) (u : UnitNo) (l : LineNo) (n' : GenNo) : (s.monitorLine p u l).generator n' = s.generator n' := by
  simp only [State.generator, State.monitorLine_generators]
@[simp] theorem State.link_monitorLine (s : State) (p : Pos) (u : UnitNo) (l : LineNo) (p' : Pos) : (s.monitorLine p u l).link p' = s.link p' := by
  simp only [State.link, State.monitorLine_links]
@[simp] theorem State.keyLine_monitorLine (s : State) (p : Pos) (u : UnitNo) (l : LineNo) (p' : Pos) (k' : Key) : (s.monitorLine p u l).keyLine p' k' = s.keyLine p' k' := by
  simp only [State.keyLine, State.monitorLine_directories]
@[simp] theorem State.timer_monitorLine (s : State) (p : Pos) (u : UnitNo) (l : LineNo) (t' : TimerId) : (s.monitorLine p u l).timer t' = s.timer t' := by
  simp only [State.timer, State.monitorLine_timers]
@[simp] theorem State.resetting_monitorLine (s : State) (p : Pos) (u : UnitNo) (l : LineNo) : (s.monitorLine p u l).resetting = s.resetting := by
  simp only [State.resetting, State.monitorLine_mp]

@[simp] theorem State.startSilence_lines (s : State) (c : ChanNo) (e : FloorEntry) : (s.startSilence c e).lines = s.lines := by
  unfold State.startSilence; try dsimp only
  (repeat' split) <;> simp
@[simp] theorem State.startSilence_directories (s : State) (c : ChanNo) (e : FloorEntry) : (s.startSilence c e).directories = s.directories := by
  unfold State.startSilence; try dsimp only
  (repeat' split) <;> simp
@[simp] theorem State.startSilence_channels (s : State) (c : ChanNo) (e : FloorEntry) : (s.startSilence c e).channels = s.channels := by
  unfold State.startSilence; try dsimp only
  (repeat' split) <;> simp
@[simp] theorem State.startSilence_selections (s : State) (c : ChanNo) (e : FloorEntry) : (s.startSilence c e).selections = s.selections := by
  unfold State.startSilence; try dsimp only
  (repeat' split) <;> simp
@[simp] theorem State.startSilence_bridges (s : State) (c : ChanNo) (e : FloorEntry) : (s.startSilence c e).bridges = s.bridges := by
  unfold State.startSilence; try dsimp only
  (repeat' split) <;> simp
@[simp] theorem State.startSilence_legs (s : State) (c : ChanNo) (e : FloorEntry) : (s.startSilence c e).legs = s.legs := by
  unfold State.startSilence; try dsimp only
  (repeat' split) <;> simp
@[simp] theorem State.startSilence_slots (s : State) (c : ChanNo) (e : FloorEntry) : (s.startSilence c e).slots = s.slots := by
  unfold State.startSilence; try dsimp only
  (repeat' split) <;> simp
@[simp] theorem State.startSilence_generators (s : State) (c : ChanNo) (e : FloorEntry) : (s.startSilence c e).generators = s.generators := by
  unfold State.startSilence; try dsimp only
  (repeat' split) <;> simp
@[simp] theorem State.startSilence_inFlight (s : State) (c : ChanNo) (e : FloorEntry) : (s.startSilence c e).inFlight = s.inFlight := by
  unfold State.startSilence; try dsimp only
  (repeat' split) <;> simp
@[simp] theorem State.startSilence_reports (s : State) (c : ChanNo) (e : FloorEntry) : (s.startSilence c e).reports = s.reports := by
  unfold State.startSilence; try dsimp only
  (repeat' split) <;> simp
@[simp] theorem State.startSilence_links (s : State) (c : ChanNo) (e : FloorEntry) : (s.startSilence c e).links = s.links := by
  unfold State.startSilence; try dsimp only
  (repeat' split) <;> simp
@[simp] theorem State.startSilence_pointer (s : State) (c : ChanNo) (e : FloorEntry) : (s.startSilence c e).pointer = s.pointer := by
  unfold State.startSilence; try dsimp only
  (repeat' split) <;> simp
@[simp] theorem State.startSilence_frameCount (s : State) (c : ChanNo) (e : FloorEntry) : (s.startSilence c e).frameCount = s.frameCount := by
  unfold State.startSilence; try dsimp only
  (repeat' split) <;> simp
@[simp] theorem State.startSilence_mp (s : State) (c : ChanNo) (e : FloorEntry) : (s.startSilence c e).mp = s.mp := by
  unfold State.startSilence; try dsimp only
  (repeat' split) <;> simp
@[simp] theorem State.startSilence_pending (s : State) (c : ChanNo) (e : FloorEntry) : (s.startSilence c e).pending = s.pending := by
  unfold State.startSilence; try dsimp only
  (repeat' split) <;> simp
@[simp] theorem State.line_startSilence (s : State) (c : ChanNo) (e : FloorEntry) (l' : LineNo) : (s.startSilence c e).line l' = s.line l' := by
  simp only [State.line, State.startSilence_lines]
@[simp] theorem State.channel_startSilence (s : State) (c : ChanNo) (e : FloorEntry) (c' : ChanNo) : (s.startSilence c e).channel c' = s.channel c' := by
  simp only [State.channel, State.startSilence_channels]
@[simp] theorem State.bridge_startSilence (s : State) (c : ChanNo) (e : FloorEntry) (b' : BridgeNo) : (s.startSilence c e).bridge b' = s.bridge b' := by
  simp only [State.bridge, State.startSilence_bridges]
@[simp] theorem State.leg_startSilence (s : State) (c : ChanNo) (e : FloorEntry) (g' : LegNo) : (s.startSilence c e).leg g' = s.leg g' := by
  simp only [State.leg, State.startSilence_legs]
@[simp] theorem State.slot_startSilence (s : State) (c : ChanNo) (e : FloorEntry) (sl' : SlotNo) : (s.startSilence c e).slot sl' = s.slot sl' := by
  simp only [State.slot, State.startSilence_slots]
@[simp] theorem State.generator_startSilence (s : State) (c : ChanNo) (e : FloorEntry) (n' : GenNo) : (s.startSilence c e).generator n' = s.generator n' := by
  simp only [State.generator, State.startSilence_generators]
@[simp] theorem State.link_startSilence (s : State) (c : ChanNo) (e : FloorEntry) (p' : Pos) : (s.startSilence c e).link p' = s.link p' := by
  simp only [State.link, State.startSilence_links]
@[simp] theorem State.keyLine_startSilence (s : State) (c : ChanNo) (e : FloorEntry) (p' : Pos) (k' : Key) : (s.startSilence c e).keyLine p' k' = s.keyLine p' k' := by
  simp only [State.keyLine, State.startSilence_directories]
@[simp] theorem State.selection_startSilence (s : State) (c : ChanNo) (e : FloorEntry) (p' : Pos) (u' : UnitNo) : (s.startSilence c e).selection p' u' = s.selection p' u' := by
  simp only [State.selection, State.startSilence_selections]
@[simp] theorem State.resetting_startSilence (s : State) (c : ChanNo) (e : FloorEntry) : (s.startSilence c e).resetting = s.resetting := by
  simp only [State.resetting, State.startSilence_mp]

@[simp] theorem State.speakOn_lines (s : State) (c : ChanNo) (p : Pos) : (s.speakOn c p).lines = s.lines := by
  unfold State.speakOn; try dsimp only
  (repeat' split) <;> simp
@[simp] theorem State.speakOn_directories (s : State) (c : ChanNo) (p : Pos) : (s.speakOn c p).directories = s.directories := by
  unfold State.speakOn; try dsimp only
  (repeat' split) <;> simp
@[simp] theorem State.speakOn_channels (s : State) (c : ChanNo) (p : Pos) : (s.speakOn c p).channels = s.channels := by
  unfold State.speakOn; try dsimp only
  (repeat' split) <;> simp
@[simp] theorem State.speakOn_selections (s : State) (c : ChanNo) (p : Pos) : (s.speakOn c p).selections = s.selections := by
  unfold State.speakOn; try dsimp only
  (repeat' split) <;> simp
@[simp] theorem State.speakOn_legs (s : State) (c : ChanNo) (p : Pos) : (s.speakOn c p).legs = s.legs := by
  unfold State.speakOn; try dsimp only
  (repeat' split) <;> simp
@[simp] theorem State.speakOn_slots (s : State) (c : ChanNo) (p : Pos) : (s.speakOn c p).slots = s.slots := by
  unfold State.speakOn; try dsimp only
  (repeat' split) <;> simp
@[simp] theorem State.speakOn_generators (s : State) (c : ChanNo) (p : Pos) : (s.speakOn c p).generators = s.generators := by
  unfold State.speakOn; try dsimp only
  (repeat' split) <;> simp
@[simp] theorem State.speakOn_timers (s : State) (c : ChanNo) (p : Pos) : (s.speakOn c p).timers = s.timers := by
  unfold State.speakOn; try dsimp only
  (repeat' split) <;> simp
@[simp] theorem State.speakOn_inFlight (s : State) (c : ChanNo) (p : Pos) : (s.speakOn c p).inFlight = s.inFlight := by
  unfold State.speakOn; try dsimp only
  (repeat' split) <;> simp
@[simp] theorem State.speakOn_reports (s : State) (c : ChanNo) (p : Pos) : (s.speakOn c p).reports = s.reports := by
  unfold State.speakOn; try dsimp only
  (repeat' split) <;> simp
@[simp] theorem State.speakOn_links (s : State) (c : ChanNo) (p : Pos) : (s.speakOn c p).links = s.links := by
  unfold State.speakOn; try dsimp only
  (repeat' split) <;> simp
@[simp] theorem State.speakOn_pointer (s : State) (c : ChanNo) (p : Pos) : (s.speakOn c p).pointer = s.pointer := by
  unfold State.speakOn; try dsimp only
  (repeat' split) <;> simp
@[simp] theorem State.speakOn_frameCount (s : State) (c : ChanNo) (p : Pos) : (s.speakOn c p).frameCount = s.frameCount := by
  unfold State.speakOn; try dsimp only
  (repeat' split) <;> simp
@[simp] theorem State.speakOn_mp (s : State) (c : ChanNo) (p : Pos) : (s.speakOn c p).mp = s.mp := by
  unfold State.speakOn; try dsimp only
  (repeat' split) <;> simp
@[simp] theorem State.speakOn_pending (s : State) (c : ChanNo) (p : Pos) : (s.speakOn c p).pending = s.pending := by
  unfold State.speakOn; try dsimp only
  (repeat' split) <;> simp
@[simp] theorem State.line_speakOn (s : State) (c : ChanNo) (p : Pos) (l' : LineNo) : (s.speakOn c p).line l' = s.line l' := by
  simp only [State.line, State.speakOn_lines]
@[simp] theorem State.channel_speakOn (s : State) (c : ChanNo) (p : Pos) (c' : ChanNo) : (s.speakOn c p).channel c' = s.channel c' := by
  simp only [State.channel, State.speakOn_channels]
@[simp] theorem State.leg_speakOn (s : State) (c : ChanNo) (p : Pos) (g' : LegNo) : (s.speakOn c p).leg g' = s.leg g' := by
  simp only [State.leg, State.speakOn_legs]
@[simp] theorem State.slot_speakOn (s : State) (c : ChanNo) (p : Pos) (sl' : SlotNo) : (s.speakOn c p).slot sl' = s.slot sl' := by
  simp only [State.slot, State.speakOn_slots]
@[simp] theorem State.generator_speakOn (s : State) (c : ChanNo) (p : Pos) (n' : GenNo) : (s.speakOn c p).generator n' = s.generator n' := by
  simp only [State.generator, State.speakOn_generators]
@[simp] theorem State.link_speakOn (s : State) (c : ChanNo) (p : Pos) (p' : Pos) : (s.speakOn c p).link p' = s.link p' := by
  simp only [State.link, State.speakOn_links]
@[simp] theorem State.keyLine_speakOn (s : State) (c : ChanNo) (p : Pos) (p' : Pos) (k' : Key) : (s.speakOn c p).keyLine p' k' = s.keyLine p' k' := by
  simp only [State.keyLine, State.speakOn_directories]
@[simp] theorem State.selection_speakOn (s : State) (c : ChanNo) (p : Pos) (p' : Pos) (u' : UnitNo) : (s.speakOn c p).selection p' u' = s.selection p' u' := by
  simp only [State.selection, State.speakOn_selections]
@[simp] theorem State.timer_speakOn (s : State) (c : ChanNo) (p : Pos) (t' : TimerId) : (s.speakOn c p).timer t' = s.timer t' := by
  simp only [State.timer, State.speakOn_timers]
@[simp] theorem State.resetting_speakOn (s : State) (c : ChanNo) (p : Pos) : (s.speakOn c p).resetting = s.resetting := by
  simp only [State.resetting, State.speakOn_mp]

@[simp] theorem State.addTalker_lines (s : State) (c : ChanNo) (e : FloorEntry) : (s.addTalker c e).lines = s.lines := by
  unfold State.addTalker; try dsimp only
  (repeat' split) <;> simp
@[simp] theorem State.addTalker_directories (s : State) (c : ChanNo) (e : FloorEntry) : (s.addTalker c e).directories = s.directories := by
  unfold State.addTalker; try dsimp only
  (repeat' split) <;> simp
@[simp] theorem State.addTalker_selections (s : State) (c : ChanNo) (e : FloorEntry) : (s.addTalker c e).selections = s.selections := by
  unfold State.addTalker; try dsimp only
  (repeat' split) <;> simp
@[simp] theorem State.addTalker_legs (s : State) (c : ChanNo) (e : FloorEntry) : (s.addTalker c e).legs = s.legs := by
  unfold State.addTalker; try dsimp only
  (repeat' split) <;> simp
@[simp] theorem State.addTalker_slots (s : State) (c : ChanNo) (e : FloorEntry) : (s.addTalker c e).slots = s.slots := by
  unfold State.addTalker; try dsimp only
  (repeat' split) <;> simp
@[simp] theorem State.addTalker_generators (s : State) (c : ChanNo) (e : FloorEntry) : (s.addTalker c e).generators = s.generators := by
  unfold State.addTalker; try dsimp only
  (repeat' split) <;> simp
@[simp] theorem State.addTalker_inFlight (s : State) (c : ChanNo) (e : FloorEntry) : (s.addTalker c e).inFlight = s.inFlight := by
  unfold State.addTalker; try dsimp only
  (repeat' split) <;> simp
@[simp] theorem State.addTalker_reports (s : State) (c : ChanNo) (e : FloorEntry) : (s.addTalker c e).reports = s.reports := by
  unfold State.addTalker; try dsimp only
  (repeat' split) <;> simp
@[simp] theorem State.addTalker_links (s : State) (c : ChanNo) (e : FloorEntry) : (s.addTalker c e).links = s.links := by
  unfold State.addTalker; try dsimp only
  (repeat' split) <;> simp
@[simp] theorem State.addTalker_pointer (s : State) (c : ChanNo) (e : FloorEntry) : (s.addTalker c e).pointer = s.pointer := by
  unfold State.addTalker; try dsimp only
  (repeat' split) <;> simp
@[simp] theorem State.addTalker_frameCount (s : State) (c : ChanNo) (e : FloorEntry) : (s.addTalker c e).frameCount = s.frameCount := by
  unfold State.addTalker; try dsimp only
  (repeat' split) <;> simp
@[simp] theorem State.addTalker_mp (s : State) (c : ChanNo) (e : FloorEntry) : (s.addTalker c e).mp = s.mp := by
  unfold State.addTalker; try dsimp only
  (repeat' split) <;> simp
@[simp] theorem State.addTalker_pending (s : State) (c : ChanNo) (e : FloorEntry) : (s.addTalker c e).pending = s.pending := by
  unfold State.addTalker; try dsimp only
  (repeat' split) <;> simp
@[simp] theorem State.line_addTalker (s : State) (c : ChanNo) (e : FloorEntry) (l' : LineNo) : (s.addTalker c e).line l' = s.line l' := by
  simp only [State.line, State.addTalker_lines]
@[simp] theorem State.leg_addTalker (s : State) (c : ChanNo) (e : FloorEntry) (g' : LegNo) : (s.addTalker c e).leg g' = s.leg g' := by
  simp only [State.leg, State.addTalker_legs]
@[simp] theorem State.slot_addTalker (s : State) (c : ChanNo) (e : FloorEntry) (sl' : SlotNo) : (s.addTalker c e).slot sl' = s.slot sl' := by
  simp only [State.slot, State.addTalker_slots]
@[simp] theorem State.generator_addTalker (s : State) (c : ChanNo) (e : FloorEntry) (n' : GenNo) : (s.addTalker c e).generator n' = s.generator n' := by
  simp only [State.generator, State.addTalker_generators]
@[simp] theorem State.link_addTalker (s : State) (c : ChanNo) (e : FloorEntry) (p' : Pos) : (s.addTalker c e).link p' = s.link p' := by
  simp only [State.link, State.addTalker_links]
@[simp] theorem State.keyLine_addTalker (s : State) (c : ChanNo) (e : FloorEntry) (p' : Pos) (k' : Key) : (s.addTalker c e).keyLine p' k' = s.keyLine p' k' := by
  simp only [State.keyLine, State.addTalker_directories]
@[simp] theorem State.selection_addTalker (s : State) (c : ChanNo) (e : FloorEntry) (p' : Pos) (u' : UnitNo) : (s.addTalker c e).selection p' u' = s.selection p' u' := by
  simp only [State.selection, State.addTalker_selections]
@[simp] theorem State.resetting_addTalker (s : State) (c : ChanNo) (e : FloorEntry) : (s.addTalker c e).resetting = s.resetting := by
  simp only [State.resetting, State.addTalker_mp]

@[simp] theorem State.grantHead_lines (s : State) (c : ChanNo) : (s.grantHead c).lines = s.lines := by
  unfold State.grantHead; try dsimp only
  (repeat' split) <;> simp
@[simp] theorem State.grantHead_directories (s : State) (c : ChanNo) : (s.grantHead c).directories = s.directories := by
  unfold State.grantHead; try dsimp only
  (repeat' split) <;> simp
@[simp] theorem State.grantHead_selections (s : State) (c : ChanNo) : (s.grantHead c).selections = s.selections := by
  unfold State.grantHead; try dsimp only
  (repeat' split) <;> simp
@[simp] theorem State.grantHead_legs (s : State) (c : ChanNo) : (s.grantHead c).legs = s.legs := by
  unfold State.grantHead; try dsimp only
  (repeat' split) <;> simp
@[simp] theorem State.grantHead_slots (s : State) (c : ChanNo) : (s.grantHead c).slots = s.slots := by
  unfold State.grantHead; try dsimp only
  (repeat' split) <;> simp
@[simp] theorem State.grantHead_generators (s : State) (c : ChanNo) : (s.grantHead c).generators = s.generators := by
  unfold State.grantHead; try dsimp only
  (repeat' split) <;> simp
@[simp] theorem State.grantHead_inFlight (s : State) (c : ChanNo) : (s.grantHead c).inFlight = s.inFlight := by
  unfold State.grantHead; try dsimp only
  (repeat' split) <;> simp
@[simp] theorem State.grantHead_reports (s : State) (c : ChanNo) : (s.grantHead c).reports = s.reports := by
  unfold State.grantHead; try dsimp only
  (repeat' split) <;> simp
@[simp] theorem State.grantHead_links (s : State) (c : ChanNo) : (s.grantHead c).links = s.links := by
  unfold State.grantHead; try dsimp only
  (repeat' split) <;> simp
@[simp] theorem State.grantHead_pointer (s : State) (c : ChanNo) : (s.grantHead c).pointer = s.pointer := by
  unfold State.grantHead; try dsimp only
  (repeat' split) <;> simp
@[simp] theorem State.grantHead_frameCount (s : State) (c : ChanNo) : (s.grantHead c).frameCount = s.frameCount := by
  unfold State.grantHead; try dsimp only
  (repeat' split) <;> simp
@[simp] theorem State.grantHead_mp (s : State) (c : ChanNo) : (s.grantHead c).mp = s.mp := by
  unfold State.grantHead; try dsimp only
  (repeat' split) <;> simp
@[simp] theorem State.grantHead_pending (s : State) (c : ChanNo) : (s.grantHead c).pending = s.pending := by
  unfold State.grantHead; try dsimp only
  (repeat' split) <;> simp
@[simp] theorem State.line_grantHead (s : State) (c : ChanNo) (l' : LineNo) : (s.grantHead c).line l' = s.line l' := by
  simp only [State.line, State.grantHead_lines]
@[simp] theorem State.leg_grantHead (s : State) (c : ChanNo) (g' : LegNo) : (s.grantHead c).leg g' = s.leg g' := by
  simp only [State.leg, State.grantHead_legs]
@[simp] theorem State.slot_grantHead (s : State) (c : ChanNo) (sl' : SlotNo) : (s.grantHead c).slot sl' = s.slot sl' := by
  simp only [State.slot, State.grantHead_slots]
@[simp] theorem State.generator_grantHead (s : State) (c : ChanNo) (n' : GenNo) : (s.grantHead c).generator n' = s.generator n' := by
  simp only [State.generator, State.grantHead_generators]
@[simp] theorem State.link_grantHead (s : State) (c : ChanNo) (p' : Pos) : (s.grantHead c).link p' = s.link p' := by
  simp only [State.link, State.grantHead_links]
@[simp] theorem State.keyLine_grantHead (s : State) (c : ChanNo) (p' : Pos) (k' : Key) : (s.grantHead c).keyLine p' k' = s.keyLine p' k' := by
  simp only [State.keyLine, State.grantHead_directories]
@[simp] theorem State.selection_grantHead (s : State) (c : ChanNo) (p' : Pos) (u' : UnitNo) : (s.grantHead c).selection p' u' = s.selection p' u' := by
  simp only [State.selection, State.grantHead_selections]
@[simp] theorem State.resetting_grantHead (s : State) (c : ChanNo) : (s.grantHead c).resetting = s.resetting := by
  simp only [State.resetting, State.grantHead_mp]

@[simp] theorem State.grantAll_lines (s : State) (n : Nat) (c : ChanNo) : (State.grantAll n s c).lines = s.lines := by
  induction n generalizing s with
  | zero => rfl
  | succ n ih => simp [State.grantAll, ih]
@[simp] theorem State.grantAll_directories (s : State) (n : Nat) (c : ChanNo) : (State.grantAll n s c).directories = s.directories := by
  induction n generalizing s with
  | zero => rfl
  | succ n ih => simp [State.grantAll, ih]
@[simp] theorem State.grantAll_selections (s : State) (n : Nat) (c : ChanNo) : (State.grantAll n s c).selections = s.selections := by
  induction n generalizing s with
  | zero => rfl
  | succ n ih => simp [State.grantAll, ih]
@[simp] theorem State.grantAll_legs (s : State) (n : Nat) (c : ChanNo) : (State.grantAll n s c).legs = s.legs := by
  induction n generalizing s with
  | zero => rfl
  | succ n ih => simp [State.grantAll, ih]
@[simp] theorem State.grantAll_slots (s : State) (n : Nat) (c : ChanNo) : (State.grantAll n s c).slots = s.slots := by
  induction n generalizing s with
  | zero => rfl
  | succ n ih => simp [State.grantAll, ih]
@[simp] theorem State.grantAll_generators (s : State) (n : Nat) (c : ChanNo) : (State.grantAll n s c).generators = s.generators := by
  induction n generalizing s with
  | zero => rfl
  | succ n ih => simp [State.grantAll, ih]
@[simp] theorem State.grantAll_inFlight (s : State) (n : Nat) (c : ChanNo) : (State.grantAll n s c).inFlight = s.inFlight := by
  induction n generalizing s with
  | zero => rfl
  | succ n ih => simp [State.grantAll, ih]
@[simp] theorem State.grantAll_reports (s : State) (n : Nat) (c : ChanNo) : (State.grantAll n s c).reports = s.reports := by
  induction n generalizing s with
  | zero => rfl
  | succ n ih => simp [State.grantAll, ih]
@[simp] theorem State.grantAll_links (s : State) (n : Nat) (c : ChanNo) : (State.grantAll n s c).links = s.links := by
  induction n generalizing s with
  | zero => rfl
  | succ n ih => simp [State.grantAll, ih]
@[simp] theorem State.grantAll_pointer (s : State) (n : Nat) (c : ChanNo) : (State.grantAll n s c).pointer = s.pointer := by
  induction n generalizing s with
  | zero => rfl
  | succ n ih => simp [State.grantAll, ih]
@[simp] theorem State.grantAll_frameCount (s : State) (n : Nat) (c : ChanNo) : (State.grantAll n s c).frameCount = s.frameCount := by
  induction n generalizing s with
  | zero => rfl
  | succ n ih => simp [State.grantAll, ih]
@[simp] theorem State.grantAll_mp (s : State) (n : Nat) (c : ChanNo) : (State.grantAll n s c).mp = s.mp := by
  induction n generalizing s with
  | zero => rfl
  | succ n ih => simp [State.grantAll, ih]
@[simp] theorem State.grantAll_pending (s : State) (n : Nat) (c : ChanNo) : (State.grantAll n s c).pending = s.pending := by
  induction n generalizing s with
  | zero => rfl
  | succ n ih => simp [State.grantAll, ih]
@[simp] theorem State.line_grantAll (s : State) (n : Nat) (c : ChanNo) (l' : LineNo) : (State.grantAll n s c).line l' = s.line l' := by
  simp only [State.line, State.grantAll_lines]
@[simp] theorem State.leg_grantAll (s : State) (n : Nat) (c : ChanNo) (g' : LegNo) : (State.grantAll n s c).leg g' = s.leg g' := by
  simp only [State.leg, State.grantAll_legs]
@[simp] theorem State.slot_grantAll (s : State) (n : Nat) (c : ChanNo) (sl' : SlotNo) : (State.grantAll n s c).slot sl' = s.slot sl' := by
  simp only [State.slot, State.grantAll_slots]
@[simp] theorem State.generator_grantAll (s : State) (n : Nat) (c : ChanNo) (n' : GenNo) : (State.grantAll n s c).generator n' = s.generator n' := by
  simp only [State.generator, State.grantAll_generators]
@[simp] theorem State.link_grantAll (s : State) (n : Nat) (c : ChanNo) (p' : Pos) : (State.grantAll n s c).link p' = s.link p' := by
  simp only [State.link, State.grantAll_links]
@[simp] theorem State.keyLine_grantAll (s : State) (n : Nat) (c : ChanNo) (p' : Pos) (k' : Key) : (State.grantAll n s c).keyLine p' k' = s.keyLine p' k' := by
  simp only [State.keyLine, State.grantAll_directories]
@[simp] theorem State.selection_grantAll (s : State) (n : Nat) (c : ChanNo) (p' : Pos) (u' : UnitNo) : (State.grantAll n s c).selection p' u' = s.selection p' u' := by
  simp only [State.selection, State.grantAll_selections]
@[simp] theorem State.resetting_grantAll (s : State) (n : Nat) (c : ChanNo) : (State.grantAll n s c).resetting = s.resetting := by
  simp only [State.resetting, State.grantAll_mp]

@[simp] theorem State.silenceMic_lines (s : State) (c : ChanNo) (p : Pos) : (s.silenceMic c p).lines = s.lines := by
  unfold State.silenceMic; try dsimp only
  (repeat' split) <;> simp
@[simp] theorem State.silenceMic_directories (s : State) (c : ChanNo) (p : Pos) : (s.silenceMic c p).directories = s.directories := by
  unfold State.silenceMic; try dsimp only
  (repeat' split) <;> simp
@[simp] theorem State.silenceMic_channels (s : State) (c : ChanNo) (p : Pos) : (s.silenceMic c p).channels = s.channels := by
  unfold State.silenceMic; try dsimp only
  (repeat' split) <;> simp
@[simp] theorem State.silenceMic_selections (s : State) (c : ChanNo) (p : Pos) : (s.silenceMic c p).selections = s.selections := by
  unfold State.silenceMic; try dsimp only
  (repeat' split) <;> simp
@[simp] theorem State.silenceMic_slots (s : State) (c : ChanNo) (p : Pos) : (s.silenceMic c p).slots = s.slots := by
  unfold State.silenceMic; try dsimp only
  (repeat' split) <;> simp
@[simp] theorem State.silenceMic_generators (s : State) (c : ChanNo) (p : Pos) : (s.silenceMic c p).generators = s.generators := by
  unfold State.silenceMic; try dsimp only
  (repeat' split) <;> simp
@[simp] theorem State.silenceMic_inFlight (s : State) (c : ChanNo) (p : Pos) : (s.silenceMic c p).inFlight = s.inFlight := by
  unfold State.silenceMic; try dsimp only
  (repeat' split) <;> simp
@[simp] theorem State.silenceMic_reports (s : State) (c : ChanNo) (p : Pos) : (s.silenceMic c p).reports = s.reports := by
  unfold State.silenceMic; try dsimp only
  (repeat' split) <;> simp
@[simp] theorem State.silenceMic_links (s : State) (c : ChanNo) (p : Pos) : (s.silenceMic c p).links = s.links := by
  unfold State.silenceMic; try dsimp only
  (repeat' split) <;> simp
@[simp] theorem State.silenceMic_pointer (s : State) (c : ChanNo) (p : Pos) : (s.silenceMic c p).pointer = s.pointer := by
  unfold State.silenceMic; try dsimp only
  (repeat' split) <;> simp
@[simp] theorem State.silenceMic_frameCount (s : State) (c : ChanNo) (p : Pos) : (s.silenceMic c p).frameCount = s.frameCount := by
  unfold State.silenceMic; try dsimp only
  (repeat' split) <;> simp
@[simp] theorem State.silenceMic_mp (s : State) (c : ChanNo) (p : Pos) : (s.silenceMic c p).mp = s.mp := by
  unfold State.silenceMic; try dsimp only
  (repeat' split) <;> simp
@[simp] theorem State.silenceMic_pending (s : State) (c : ChanNo) (p : Pos) : (s.silenceMic c p).pending = s.pending := by
  unfold State.silenceMic; try dsimp only
  (repeat' split) <;> simp
@[simp] theorem State.line_silenceMic (s : State) (c : ChanNo) (p : Pos) (l' : LineNo) : (s.silenceMic c p).line l' = s.line l' := by
  simp only [State.line, State.silenceMic_lines]
@[simp] theorem State.channel_silenceMic (s : State) (c : ChanNo) (p : Pos) (c' : ChanNo) : (s.silenceMic c p).channel c' = s.channel c' := by
  simp only [State.channel, State.silenceMic_channels]
@[simp] theorem State.slot_silenceMic (s : State) (c : ChanNo) (p : Pos) (sl' : SlotNo) : (s.silenceMic c p).slot sl' = s.slot sl' := by
  simp only [State.slot, State.silenceMic_slots]
@[simp] theorem State.generator_silenceMic (s : State) (c : ChanNo) (p : Pos) (n' : GenNo) : (s.silenceMic c p).generator n' = s.generator n' := by
  simp only [State.generator, State.silenceMic_generators]
@[simp] theorem State.link_silenceMic (s : State) (c : ChanNo) (p : Pos) (p' : Pos) : (s.silenceMic c p).link p' = s.link p' := by
  simp only [State.link, State.silenceMic_links]
@[simp] theorem State.keyLine_silenceMic (s : State) (c : ChanNo) (p : Pos) (p' : Pos) (k' : Key) : (s.silenceMic c p).keyLine p' k' = s.keyLine p' k' := by
  simp only [State.keyLine, State.silenceMic_directories]
@[simp] theorem State.selection_silenceMic (s : State) (c : ChanNo) (p : Pos) (p' : Pos) (u' : UnitNo) : (s.silenceMic c p).selection p' u' = s.selection p' u' := by
  simp only [State.selection, State.silenceMic_selections]
@[simp] theorem State.resetting_silenceMic (s : State) (c : ChanNo) (p : Pos) : (s.silenceMic c p).resetting = s.resetting := by
  simp only [State.resetting, State.silenceMic_mp]

@[simp] theorem State.removeTalker_lines (s : State) (c : ChanNo) (p : Pos) : (s.removeTalker c p).lines = s.lines := by
  unfold State.removeTalker; try dsimp only
  (repeat' split) <;> simp
@[simp] theorem State.removeTalker_directories (s : State) (c : ChanNo) (p : Pos) : (s.removeTalker c p).directories = s.directories := by
  unfold State.removeTalker; try dsimp only
  (repeat' split) <;> simp
@[simp] theorem State.removeTalker_selections (s : State) (c : ChanNo) (p : Pos) : (s.removeTalker c p).selections = s.selections := by
  unfold State.removeTalker; try dsimp only
  (repeat' split) <;> simp
@[simp] theorem State.removeTalker_slots (s : State) (c : ChanNo) (p : Pos) : (s.removeTalker c p).slots = s.slots := by
  unfold State.removeTalker; try dsimp only
  (repeat' split) <;> simp
@[simp] theorem State.removeTalker_generators (s : State) (c : ChanNo) (p : Pos) : (s.removeTalker c p).generators = s.generators := by
  unfold State.removeTalker; try dsimp only
  (repeat' split) <;> simp
@[simp] theorem State.removeTalker_inFlight (s : State) (c : ChanNo) (p : Pos) : (s.removeTalker c p).inFlight = s.inFlight := by
  unfold State.removeTalker; try dsimp only
  (repeat' split) <;> simp
@[simp] theorem State.removeTalker_reports (s : State) (c : ChanNo) (p : Pos) : (s.removeTalker c p).reports = s.reports := by
  unfold State.removeTalker; try dsimp only
  (repeat' split) <;> simp
@[simp] theorem State.removeTalker_links (s : State) (c : ChanNo) (p : Pos) : (s.removeTalker c p).links = s.links := by
  unfold State.removeTalker; try dsimp only
  (repeat' split) <;> simp
@[simp] theorem State.removeTalker_pointer (s : State) (c : ChanNo) (p : Pos) : (s.removeTalker c p).pointer = s.pointer := by
  unfold State.removeTalker; try dsimp only
  (repeat' split) <;> simp
@[simp] theorem State.removeTalker_frameCount (s : State) (c : ChanNo) (p : Pos) : (s.removeTalker c p).frameCount = s.frameCount := by
  unfold State.removeTalker; try dsimp only
  (repeat' split) <;> simp
@[simp] theorem State.removeTalker_mp (s : State) (c : ChanNo) (p : Pos) : (s.removeTalker c p).mp = s.mp := by
  unfold State.removeTalker; try dsimp only
  (repeat' split) <;> simp
@[simp] theorem State.removeTalker_pending (s : State) (c : ChanNo) (p : Pos) : (s.removeTalker c p).pending = s.pending := by
  unfold State.removeTalker; try dsimp only
  (repeat' split) <;> simp
@[simp] theorem State.line_removeTalker (s : State) (c : ChanNo) (p : Pos) (l' : LineNo) : (s.removeTalker c p).line l' = s.line l' := by
  simp only [State.line, State.removeTalker_lines]
@[simp] theorem State.slot_removeTalker (s : State) (c : ChanNo) (p : Pos) (sl' : SlotNo) : (s.removeTalker c p).slot sl' = s.slot sl' := by
  simp only [State.slot, State.removeTalker_slots]
@[simp] theorem State.generator_removeTalker (s : State) (c : ChanNo) (p : Pos) (n' : GenNo) : (s.removeTalker c p).generator n' = s.generator n' := by
  simp only [State.generator, State.removeTalker_generators]
@[simp] theorem State.link_removeTalker (s : State) (c : ChanNo) (p : Pos) (p' : Pos) : (s.removeTalker c p).link p' = s.link p' := by
  simp only [State.link, State.removeTalker_links]
@[simp] theorem State.keyLine_removeTalker (s : State) (c : ChanNo) (p : Pos) (p' : Pos) (k' : Key) : (s.removeTalker c p).keyLine p' k' = s.keyLine p' k' := by
  simp only [State.keyLine, State.removeTalker_directories]
@[simp] theorem State.selection_removeTalker (s : State) (c : ChanNo) (p : Pos) (p' : Pos) (u' : UnitNo) : (s.removeTalker c p).selection p' u' = s.selection p' u' := by
  simp only [State.selection, State.removeTalker_selections]
@[simp] theorem State.resetting_removeTalker (s : State) (c : ChanNo) (p : Pos) : (s.removeTalker c p).resetting = s.resetting := by
  simp only [State.resetting, State.removeTalker_mp]

@[simp] theorem State.removeEntry_lines (s : State) (c : ChanNo) (p : Pos) : (s.removeEntry c p).lines = s.lines := by
  unfold State.removeEntry; try dsimp only
  (repeat' split) <;> simp
@[simp] theorem State.removeEntry_directories (s : State) (c : ChanNo) (p : Pos) : (s.removeEntry c p).directories = s.directories := by
  unfold State.removeEntry; try dsimp only
  (repeat' split) <;> simp
@[simp] theorem State.removeEntry_selections (s : State) (c : ChanNo) (p : Pos) : (s.removeEntry c p).selections = s.selections := by
  unfold State.removeEntry; try dsimp only
  (repeat' split) <;> simp
@[simp] theorem State.removeEntry_slots (s : State) (c : ChanNo) (p : Pos) : (s.removeEntry c p).slots = s.slots := by
  unfold State.removeEntry; try dsimp only
  (repeat' split) <;> simp
@[simp] theorem State.removeEntry_generators (s : State) (c : ChanNo) (p : Pos) : (s.removeEntry c p).generators = s.generators := by
  unfold State.removeEntry; try dsimp only
  (repeat' split) <;> simp
@[simp] theorem State.removeEntry_inFlight (s : State) (c : ChanNo) (p : Pos) : (s.removeEntry c p).inFlight = s.inFlight := by
  unfold State.removeEntry; try dsimp only
  (repeat' split) <;> simp
@[simp] theorem State.removeEntry_reports (s : State) (c : ChanNo) (p : Pos) : (s.removeEntry c p).reports = s.reports := by
  unfold State.removeEntry; try dsimp only
  (repeat' split) <;> simp
@[simp] theorem State.removeEntry_links (s : State) (c : ChanNo) (p : Pos) : (s.removeEntry c p).links = s.links := by
  unfold State.removeEntry; try dsimp only
  (repeat' split) <;> simp
@[simp] theorem State.removeEntry_pointer (s : State) (c : ChanNo) (p : Pos) : (s.removeEntry c p).pointer = s.pointer := by
  unfold State.removeEntry; try dsimp only
  (repeat' split) <;> simp
@[simp] theorem State.removeEntry_frameCount (s : State) (c : ChanNo) (p : Pos) : (s.removeEntry c p).frameCount = s.frameCount := by
  unfold State.removeEntry; try dsimp only
  (repeat' split) <;> simp
@[simp] theorem State.removeEntry_mp (s : State) (c : ChanNo) (p : Pos) : (s.removeEntry c p).mp = s.mp := by
  unfold State.removeEntry; try dsimp only
  (repeat' split) <;> simp
@[simp] theorem State.removeEntry_pending (s : State) (c : ChanNo) (p : Pos) : (s.removeEntry c p).pending = s.pending := by
  unfold State.removeEntry; try dsimp only
  (repeat' split) <;> simp
@[simp] theorem State.line_removeEntry (s : State) (c : ChanNo) (p : Pos) (l' : LineNo) : (s.removeEntry c p).line l' = s.line l' := by
  simp only [State.line, State.removeEntry_lines]
@[simp] theorem State.slot_removeEntry (s : State) (c : ChanNo) (p : Pos) (sl' : SlotNo) : (s.removeEntry c p).slot sl' = s.slot sl' := by
  simp only [State.slot, State.removeEntry_slots]
@[simp] theorem State.generator_removeEntry (s : State) (c : ChanNo) (p : Pos) (n' : GenNo) : (s.removeEntry c p).generator n' = s.generator n' := by
  simp only [State.generator, State.removeEntry_generators]
@[simp] theorem State.link_removeEntry (s : State) (c : ChanNo) (p : Pos) (p' : Pos) : (s.removeEntry c p).link p' = s.link p' := by
  simp only [State.link, State.removeEntry_links]
@[simp] theorem State.keyLine_removeEntry (s : State) (c : ChanNo) (p : Pos) (p' : Pos) (k' : Key) : (s.removeEntry c p).keyLine p' k' = s.keyLine p' k' := by
  simp only [State.keyLine, State.removeEntry_directories]
@[simp] theorem State.selection_removeEntry (s : State) (c : ChanNo) (p : Pos) (p' : Pos) (u' : UnitNo) : (s.removeEntry c p).selection p' u' = s.selection p' u' := by
  simp only [State.selection, State.removeEntry_selections]
@[simp] theorem State.resetting_removeEntry (s : State) (c : ChanNo) (p : Pos) : (s.removeEntry c p).resetting = s.resetting := by
  simp only [State.resetting, State.removeEntry_mp]

@[simp] theorem State.takeActivity_lines (s : State) (c : ChanNo) (p : Pos) : (s.takeActivity c p).lines = s.lines := by
  unfold State.takeActivity; try dsimp only
  (repeat' split) <;> simp
@[simp] theorem State.takeActivity_directories (s : State) (c : ChanNo) (p : Pos) : (s.takeActivity c p).directories = s.directories := by
  unfold State.takeActivity; try dsimp only
  (repeat' split) <;> simp
@[simp] theorem State.takeActivity_channels (s : State) (c : ChanNo) (p : Pos) : (s.takeActivity c p).channels = s.channels := by
  unfold State.takeActivity; try dsimp only
  (repeat' split) <;> simp
@[simp] theorem State.takeActivity_selections (s : State) (c : ChanNo) (p : Pos) : (s.takeActivity c p).selections = s.selections := by
  unfold State.takeActivity; try dsimp only
  (repeat' split) <;> simp
@[simp] theorem State.takeActivity_bridges (s : State) (c : ChanNo) (p : Pos) : (s.takeActivity c p).bridges = s.bridges := by
  unfold State.takeActivity; try dsimp only
  (repeat' split) <;> simp
@[simp] theorem State.takeActivity_legs (s : State) (c : ChanNo) (p : Pos) : (s.takeActivity c p).legs = s.legs := by
  unfold State.takeActivity; try dsimp only
  (repeat' split) <;> simp
@[simp] theorem State.takeActivity_slots (s : State) (c : ChanNo) (p : Pos) : (s.takeActivity c p).slots = s.slots := by
  unfold State.takeActivity; try dsimp only
  (repeat' split) <;> simp
@[simp] theorem State.takeActivity_generators (s : State) (c : ChanNo) (p : Pos) : (s.takeActivity c p).generators = s.generators := by
  unfold State.takeActivity; try dsimp only
  (repeat' split) <;> simp
@[simp] theorem State.takeActivity_inFlight (s : State) (c : ChanNo) (p : Pos) : (s.takeActivity c p).inFlight = s.inFlight := by
  unfold State.takeActivity; try dsimp only
  (repeat' split) <;> simp
@[simp] theorem State.takeActivity_reports (s : State) (c : ChanNo) (p : Pos) : (s.takeActivity c p).reports = s.reports := by
  unfold State.takeActivity; try dsimp only
  (repeat' split) <;> simp
@[simp] theorem State.takeActivity_links (s : State) (c : ChanNo) (p : Pos) : (s.takeActivity c p).links = s.links := by
  unfold State.takeActivity; try dsimp only
  (repeat' split) <;> simp
@[simp] theorem State.takeActivity_pointer (s : State) (c : ChanNo) (p : Pos) : (s.takeActivity c p).pointer = s.pointer := by
  unfold State.takeActivity; try dsimp only
  (repeat' split) <;> simp
@[simp] theorem State.takeActivity_frameCount (s : State) (c : ChanNo) (p : Pos) : (s.takeActivity c p).frameCount = s.frameCount := by
  unfold State.takeActivity; try dsimp only
  (repeat' split) <;> simp
@[simp] theorem State.takeActivity_mp (s : State) (c : ChanNo) (p : Pos) : (s.takeActivity c p).mp = s.mp := by
  unfold State.takeActivity; try dsimp only
  (repeat' split) <;> simp
@[simp] theorem State.takeActivity_pending (s : State) (c : ChanNo) (p : Pos) : (s.takeActivity c p).pending = s.pending := by
  unfold State.takeActivity; try dsimp only
  (repeat' split) <;> simp
@[simp] theorem State.line_takeActivity (s : State) (c : ChanNo) (p : Pos) (l' : LineNo) : (s.takeActivity c p).line l' = s.line l' := by
  simp only [State.line, State.takeActivity_lines]
@[simp] theorem State.channel_takeActivity (s : State) (c : ChanNo) (p : Pos) (c' : ChanNo) : (s.takeActivity c p).channel c' = s.channel c' := by
  simp only [State.channel, State.takeActivity_channels]
@[simp] theorem State.bridge_takeActivity (s : State) (c : ChanNo) (p : Pos) (b' : BridgeNo) : (s.takeActivity c p).bridge b' = s.bridge b' := by
  simp only [State.bridge, State.takeActivity_bridges]
@[simp] theorem State.leg_takeActivity (s : State) (c : ChanNo) (p : Pos) (g' : LegNo) : (s.takeActivity c p).leg g' = s.leg g' := by
  simp only [State.leg, State.takeActivity_legs]
@[simp] theorem State.slot_takeActivity (s : State) (c : ChanNo) (p : Pos) (sl' : SlotNo) : (s.takeActivity c p).slot sl' = s.slot sl' := by
  simp only [State.slot, State.takeActivity_slots]
@[simp] theorem State.generator_takeActivity (s : State) (c : ChanNo) (p : Pos) (n' : GenNo) : (s.takeActivity c p).generator n' = s.generator n' := by
  simp only [State.generator, State.takeActivity_generators]
@[simp] theorem State.link_takeActivity (s : State) (c : ChanNo) (p : Pos) (p' : Pos) : (s.takeActivity c p).link p' = s.link p' := by
  simp only [State.link, State.takeActivity_links]
@[simp] theorem State.keyLine_takeActivity (s : State) (c : ChanNo) (p : Pos) (p' : Pos) (k' : Key) : (s.takeActivity c p).keyLine p' k' = s.keyLine p' k' := by
  simp only [State.keyLine, State.takeActivity_directories]
@[simp] theorem State.selection_takeActivity (s : State) (c : ChanNo) (p : Pos) (p' : Pos) (u' : UnitNo) : (s.takeActivity c p).selection p' u' = s.selection p' u' := by
  simp only [State.selection, State.takeActivity_selections]
@[simp] theorem State.resetting_takeActivity (s : State) (c : ChanNo) (p : Pos) : (s.takeActivity c p).resetting = s.resetting := by
  simp only [State.resetting, State.takeActivity_mp]

@[simp] theorem State.lowerMaximum_lines (s : State) (c : ChanNo) (n : Nat) : (s.lowerMaximum c n).lines = s.lines := by
  unfold State.lowerMaximum; simp only [State.modChannel_eq, State.setChannel_lines]
  exact foldl_keeps State.lines _ (fun _ _ => by simp) _ _
@[simp] theorem State.lowerMaximum_directories (s : State) (c : ChanNo) (n : Nat) : (s.lowerMaximum c n).directories = s.directories := by
  unfold State.lowerMaximum; simp only [State.modChannel_eq, State.setChannel_directories]
  exact foldl_keeps State.directories _ (fun _ _ => by simp) _ _
@[simp] theorem State.lowerMaximum_selections (s : State) (c : ChanNo) (n : Nat) : (s.lowerMaximum c n).selections = s.selections := by
  unfold State.lowerMaximum; simp only [State.modChannel_eq, State.setChannel_selections]
  exact foldl_keeps State.selections _ (fun _ _ => by simp) _ _
@[simp] theorem State.lowerMaximum_slots (s : State) (c : ChanNo) (n : Nat) : (s.lowerMaximum c n).slots = s.slots := by
  unfold State.lowerMaximum; simp only [State.modChannel_eq, State.setChannel_slots]
  exact foldl_keeps State.slots _ (fun _ _ => by simp) _ _
@[simp] theorem State.lowerMaximum_generators (s : State) (c : ChanNo) (n : Nat) : (s.lowerMaximum c n).generators = s.generators := by
  unfold State.lowerMaximum; simp only [State.modChannel_eq, State.setChannel_generators]
  exact foldl_keeps State.generators _ (fun _ _ => by simp) _ _
@[simp] theorem State.lowerMaximum_inFlight (s : State) (c : ChanNo) (n : Nat) : (s.lowerMaximum c n).inFlight = s.inFlight := by
  unfold State.lowerMaximum; simp only [State.modChannel_eq, State.setChannel_inFlight]
  exact foldl_keeps State.inFlight _ (fun _ _ => by simp) _ _
@[simp] theorem State.lowerMaximum_reports (s : State) (c : ChanNo) (n : Nat) : (s.lowerMaximum c n).reports = s.reports := by
  unfold State.lowerMaximum; simp only [State.modChannel_eq, State.setChannel_reports]
  exact foldl_keeps State.reports _ (fun _ _ => by simp) _ _
@[simp] theorem State.lowerMaximum_links (s : State) (c : ChanNo) (n : Nat) : (s.lowerMaximum c n).links = s.links := by
  unfold State.lowerMaximum; simp only [State.modChannel_eq, State.setChannel_links]
  exact foldl_keeps State.links _ (fun _ _ => by simp) _ _
@[simp] theorem State.lowerMaximum_pointer (s : State) (c : ChanNo) (n : Nat) : (s.lowerMaximum c n).pointer = s.pointer := by
  unfold State.lowerMaximum; simp only [State.modChannel_eq, State.setChannel_pointer]
  exact foldl_keeps State.pointer _ (fun _ _ => by simp) _ _
@[simp] theorem State.lowerMaximum_frameCount (s : State) (c : ChanNo) (n : Nat) : (s.lowerMaximum c n).frameCount = s.frameCount := by
  unfold State.lowerMaximum; simp only [State.modChannel_eq, State.setChannel_frameCount]
  exact foldl_keeps State.frameCount _ (fun _ _ => by simp) _ _
@[simp] theorem State.lowerMaximum_mp (s : State) (c : ChanNo) (n : Nat) : (s.lowerMaximum c n).mp = s.mp := by
  unfold State.lowerMaximum; simp only [State.modChannel_eq, State.setChannel_mp]
  exact foldl_keeps State.mp _ (fun _ _ => by simp) _ _
@[simp] theorem State.lowerMaximum_pending (s : State) (c : ChanNo) (n : Nat) : (s.lowerMaximum c n).pending = s.pending := by
  unfold State.lowerMaximum; simp only [State.modChannel_eq, State.setChannel_pending]
  exact foldl_keeps State.pending _ (fun _ _ => by simp) _ _
@[simp] theorem State.line_lowerMaximum (s : State) (c : ChanNo) (n : Nat) (l' : LineNo) : (s.lowerMaximum c n).line l' = s.line l' := by
  simp only [State.line, State.lowerMaximum_lines]
@[simp] theorem State.slot_lowerMaximum (s : State) (c : ChanNo) (n : Nat) (sl' : SlotNo) : (s.lowerMaximum c n).slot sl' = s.slot sl' := by
  simp only [State.slot, State.lowerMaximum_slots]
@[simp] theorem State.generator_lowerMaximum (s : State) (c : ChanNo) (n : Nat) (n' : GenNo) : (s.lowerMaximum c n).generator n' = s.generator n' := by
  simp only [State.generator, State.lowerMaximum_generators]
@[simp] theorem State.link_lowerMaximum (s : State) (c : ChanNo) (n : Nat) (p' : Pos) : (s.lowerMaximum c n).link p' = s.link p' := by
  simp only [State.link, State.lowerMaximum_links]
@[simp] theorem State.keyLine_lowerMaximum (s : State) (c : ChanNo) (n : Nat) (p' : Pos) (k' : Key) : (s.lowerMaximum c n).keyLine p' k' = s.keyLine p' k' := by
  simp only [State.keyLine, State.lowerMaximum_directories]
@[simp] theorem State.selection_lowerMaximum (s : State) (c : ChanNo) (n : Nat) (p' : Pos) (u' : UnitNo) : (s.lowerMaximum c n).selection p' u' = s.selection p' u' := by
  simp only [State.selection, State.lowerMaximum_selections]
@[simp] theorem State.resetting_lowerMaximum (s : State) (c : ChanNo) (n : Nat) : (s.lowerMaximum c n).resetting = s.resetting := by
  simp only [State.resetting, State.lowerMaximum_mp]

@[simp] theorem State.writeMaximum_lines (s : State) (c : ChanNo) (n : Nat) : (s.writeMaximum c n).lines = s.lines := by
  unfold State.writeMaximum; try dsimp only
  (repeat' split) <;> simp
@[simp] theorem State.writeMaximum_directories (s : State) (c : ChanNo) (n : Nat) : (s.writeMaximum c n).directories = s.directories := by
  unfold State.writeMaximum; try dsimp only
  (repeat' split) <;> simp
@[simp] theorem State.writeMaximum_selections (s : State) (c : ChanNo) (n : Nat) : (s.writeMaximum c n).selections = s.selections := by
  unfold State.writeMaximum; try dsimp only
  (repeat' split) <;> simp
@[simp] theorem State.writeMaximum_slots (s : State) (c : ChanNo) (n : Nat) : (s.writeMaximum c n).slots = s.slots := by
  unfold State.writeMaximum; try dsimp only
  (repeat' split) <;> simp
@[simp] theorem State.writeMaximum_generators (s : State) (c : ChanNo) (n : Nat) : (s.writeMaximum c n).generators = s.generators := by
  unfold State.writeMaximum; try dsimp only
  (repeat' split) <;> simp
@[simp] theorem State.writeMaximum_inFlight (s : State) (c : ChanNo) (n : Nat) : (s.writeMaximum c n).inFlight = s.inFlight := by
  unfold State.writeMaximum; try dsimp only
  (repeat' split) <;> simp
@[simp] theorem State.writeMaximum_reports (s : State) (c : ChanNo) (n : Nat) : (s.writeMaximum c n).reports = s.reports := by
  unfold State.writeMaximum; try dsimp only
  (repeat' split) <;> simp
@[simp] theorem State.writeMaximum_links (s : State) (c : ChanNo) (n : Nat) : (s.writeMaximum c n).links = s.links := by
  unfold State.writeMaximum; try dsimp only
  (repeat' split) <;> simp
@[simp] theorem State.writeMaximum_pointer (s : State) (c : ChanNo) (n : Nat) : (s.writeMaximum c n).pointer = s.pointer := by
  unfold State.writeMaximum; try dsimp only
  (repeat' split) <;> simp
@[simp] theorem State.writeMaximum_frameCount (s : State) (c : ChanNo) (n : Nat) : (s.writeMaximum c n).frameCount = s.frameCount := by
  unfold State.writeMaximum; try dsimp only
  (repeat' split) <;> simp
@[simp] theorem State.writeMaximum_mp (s : State) (c : ChanNo) (n : Nat) : (s.writeMaximum c n).mp = s.mp := by
  unfold State.writeMaximum; try dsimp only
  (repeat' split) <;> simp
@[simp] theorem State.writeMaximum_pending (s : State) (c : ChanNo) (n : Nat) : (s.writeMaximum c n).pending = s.pending := by
  unfold State.writeMaximum; try dsimp only
  (repeat' split) <;> simp
@[simp] theorem State.line_writeMaximum (s : State) (c : ChanNo) (n : Nat) (l' : LineNo) : (s.writeMaximum c n).line l' = s.line l' := by
  simp only [State.line, State.writeMaximum_lines]
@[simp] theorem State.slot_writeMaximum (s : State) (c : ChanNo) (n : Nat) (sl' : SlotNo) : (s.writeMaximum c n).slot sl' = s.slot sl' := by
  simp only [State.slot, State.writeMaximum_slots]
@[simp] theorem State.generator_writeMaximum (s : State) (c : ChanNo) (n : Nat) (n' : GenNo) : (s.writeMaximum c n).generator n' = s.generator n' := by
  simp only [State.generator, State.writeMaximum_generators]
@[simp] theorem State.link_writeMaximum (s : State) (c : ChanNo) (n : Nat) (p' : Pos) : (s.writeMaximum c n).link p' = s.link p' := by
  simp only [State.link, State.writeMaximum_links]
@[simp] theorem State.keyLine_writeMaximum (s : State) (c : ChanNo) (n : Nat) (p' : Pos) (k' : Key) : (s.writeMaximum c n).keyLine p' k' = s.keyLine p' k' := by
  simp only [State.keyLine, State.writeMaximum_directories]
@[simp] theorem State.selection_writeMaximum (s : State) (c : ChanNo) (n : Nat) (p' : Pos) (u' : UnitNo) : (s.writeMaximum c n).selection p' u' = s.selection p' u' := by
  simp only [State.selection, State.writeMaximum_selections]
@[simp] theorem State.resetting_writeMaximum (s : State) (c : ChanNo) (n : Nat) : (s.writeMaximum c n).resetting = s.resetting := by
  simp only [State.resetting, State.writeMaximum_mp]

@[simp] theorem State.channelFault_lines (s : State) (c : ChanNo) (sl : SlotNo) : (s.channelFault c sl).lines = s.lines := by
  unfold State.channelFault; try dsimp only
  (repeat' split) <;> simp
@[simp] theorem State.channelFault_directories (s : State) (c : ChanNo) (sl : SlotNo) : (s.channelFault c sl).directories = s.directories := by
  unfold State.channelFault; try dsimp only
  (repeat' split) <;> simp
@[simp] theorem State.channelFault_selections (s : State) (c : ChanNo) (sl : SlotNo) : (s.channelFault c sl).selections = s.selections := by
  unfold State.channelFault; try dsimp only
  (repeat' split) <;> simp
@[simp] theorem State.channelFault_slots (s : State) (c : ChanNo) (sl : SlotNo) : (s.channelFault c sl).slots = s.slots := by
  unfold State.channelFault; try dsimp only
  (repeat' split) <;> simp
@[simp] theorem State.channelFault_generators (s : State) (c : ChanNo) (sl : SlotNo) : (s.channelFault c sl).generators = s.generators := by
  unfold State.channelFault; try dsimp only
  (repeat' split) <;> simp
@[simp] theorem State.channelFault_timers (s : State) (c : ChanNo) (sl : SlotNo) : (s.channelFault c sl).timers = s.timers := by
  unfold State.channelFault; try dsimp only
  (repeat' split) <;> simp
@[simp] theorem State.channelFault_inFlight (s : State) (c : ChanNo) (sl : SlotNo) : (s.channelFault c sl).inFlight = s.inFlight := by
  unfold State.channelFault; try dsimp only
  (repeat' split) <;> simp
@[simp] theorem State.channelFault_reports (s : State) (c : ChanNo) (sl : SlotNo) : (s.channelFault c sl).reports = s.reports := by
  unfold State.channelFault; try dsimp only
  (repeat' split) <;> simp
@[simp] theorem State.channelFault_links (s : State) (c : ChanNo) (sl : SlotNo) : (s.channelFault c sl).links = s.links := by
  unfold State.channelFault; try dsimp only
  (repeat' split) <;> simp
@[simp] theorem State.channelFault_pointer (s : State) (c : ChanNo) (sl : SlotNo) : (s.channelFault c sl).pointer = s.pointer := by
  unfold State.channelFault; try dsimp only
  (repeat' split) <;> simp
@[simp] theorem State.channelFault_frameCount (s : State) (c : ChanNo) (sl : SlotNo) : (s.channelFault c sl).frameCount = s.frameCount := by
  unfold State.channelFault; try dsimp only
  (repeat' split) <;> simp
@[simp] theorem State.channelFault_mp (s : State) (c : ChanNo) (sl : SlotNo) : (s.channelFault c sl).mp = s.mp := by
  unfold State.channelFault; try dsimp only
  (repeat' split) <;> simp
@[simp] theorem State.channelFault_pending (s : State) (c : ChanNo) (sl : SlotNo) : (s.channelFault c sl).pending = s.pending := by
  unfold State.channelFault; try dsimp only
  (repeat' split) <;> simp
@[simp] theorem State.line_channelFault (s : State) (c : ChanNo) (sl : SlotNo) (l' : LineNo) : (s.channelFault c sl).line l' = s.line l' := by
  simp only [State.line, State.channelFault_lines]
@[simp] theorem State.slot_channelFault (s : State) (c : ChanNo) (sl : SlotNo) (sl' : SlotNo) : (s.channelFault c sl).slot sl' = s.slot sl' := by
  simp only [State.slot, State.channelFault_slots]
@[simp] theorem State.generator_channelFault (s : State) (c : ChanNo) (sl : SlotNo) (n' : GenNo) : (s.channelFault c sl).generator n' = s.generator n' := by
  simp only [State.generator, State.channelFault_generators]
@[simp] theorem State.link_channelFault (s : State) (c : ChanNo) (sl : SlotNo) (p' : Pos) : (s.channelFault c sl).link p' = s.link p' := by
  simp only [State.link, State.channelFault_links]
@[simp] theorem State.keyLine_channelFault (s : State) (c : ChanNo) (sl : SlotNo) (p' : Pos) (k' : Key) : (s.channelFault c sl).keyLine p' k' = s.keyLine p' k' := by
  simp only [State.keyLine, State.channelFault_directories]
@[simp] theorem State.selection_channelFault (s : State) (c : ChanNo) (sl : SlotNo) (p' : Pos) (u' : UnitNo) : (s.channelFault c sl).selection p' u' = s.selection p' u' := by
  simp only [State.selection, State.channelFault_selections]
@[simp] theorem State.timer_channelFault (s : State) (c : ChanNo) (sl : SlotNo) (t' : TimerId) : (s.channelFault c sl).timer t' = s.timer t' := by
  simp only [State.timer, State.channelFault_timers]
@[simp] theorem State.resetting_channelFault (s : State) (c : ChanNo) (sl : SlotNo) : (s.channelFault c sl).resetting = s.resetting := by
  simp only [State.resetting, State.channelFault_mp]

@[simp] theorem State.releaseUnits_directories (s : State) (p : Pos) (c : ChanNo) : (s.releaseUnits p c).directories = s.directories := by
  unfold State.releaseUnits; exact foldl_keeps State.directories _ (fun _ _ => by simp) _ _
@[simp] theorem State.releaseUnits_slots (s : State) (p : Pos) (c : ChanNo) : (s.releaseUnits p c).slots = s.slots := by
  unfold State.releaseUnits; exact foldl_keeps State.slots _ (fun _ _ => by simp) _ _
@[simp] theorem State.releaseUnits_generators (s : State) (p : Pos) (c : ChanNo) : (s.releaseUnits p c).generators = s.generators := by
  unfold State.releaseUnits; exact foldl_keeps State.generators _ (fun _ _ => by simp) _ _
@[simp] theorem State.releaseUnits_timers (s : State) (p : Pos) (c : ChanNo) : (s.releaseUnits p c).timers = s.timers := by
  unfold State.releaseUnits; exact foldl_keeps State.timers _ (fun _ _ => by simp) _ _
@[simp] theorem State.releaseUnits_inFlight (s : State) (p : Pos) (c : ChanNo) : (s.releaseUnits p c).inFlight = s.inFlight := by
  unfold State.releaseUnits; exact foldl_keeps State.inFlight _ (fun _ _ => by simp) _ _
@[simp] theorem State.releaseUnits_reports (s : State) (p : Pos) (c : ChanNo) : (s.releaseUnits p c).reports = s.reports := by
  unfold State.releaseUnits; exact foldl_keeps State.reports _ (fun _ _ => by simp) _ _
@[simp] theorem State.releaseUnits_links (s : State) (p : Pos) (c : ChanNo) : (s.releaseUnits p c).links = s.links := by
  unfold State.releaseUnits; exact foldl_keeps State.links _ (fun _ _ => by simp) _ _
@[simp] theorem State.releaseUnits_pointer (s : State) (p : Pos) (c : ChanNo) : (s.releaseUnits p c).pointer = s.pointer := by
  unfold State.releaseUnits; exact foldl_keeps State.pointer _ (fun _ _ => by simp) _ _
@[simp] theorem State.releaseUnits_frameCount (s : State) (p : Pos) (c : ChanNo) : (s.releaseUnits p c).frameCount = s.frameCount := by
  unfold State.releaseUnits; exact foldl_keeps State.frameCount _ (fun _ _ => by simp) _ _
@[simp] theorem State.releaseUnits_mp (s : State) (p : Pos) (c : ChanNo) : (s.releaseUnits p c).mp = s.mp := by
  unfold State.releaseUnits; exact foldl_keeps State.mp _ (fun _ _ => by simp) _ _
@[simp] theorem State.releaseUnits_pending (s : State) (p : Pos) (c : ChanNo) : (s.releaseUnits p c).pending = s.pending := by
  unfold State.releaseUnits; exact foldl_keeps State.pending _ (fun _ _ => by simp) _ _
@[simp] theorem State.slot_releaseUnits (s : State) (p : Pos) (c : ChanNo) (sl' : SlotNo) : (s.releaseUnits p c).slot sl' = s.slot sl' := by
  simp only [State.slot, State.releaseUnits_slots]
@[simp] theorem State.generator_releaseUnits (s : State) (p : Pos) (c : ChanNo) (n' : GenNo) : (s.releaseUnits p c).generator n' = s.generator n' := by
  simp only [State.generator, State.releaseUnits_generators]
@[simp] theorem State.link_releaseUnits (s : State) (p : Pos) (c : ChanNo) (p' : Pos) : (s.releaseUnits p c).link p' = s.link p' := by
  simp only [State.link, State.releaseUnits_links]
@[simp] theorem State.keyLine_releaseUnits (s : State) (p : Pos) (c : ChanNo) (p' : Pos) (k' : Key) : (s.releaseUnits p c).keyLine p' k' = s.keyLine p' k' := by
  simp only [State.keyLine, State.releaseUnits_directories]
@[simp] theorem State.timer_releaseUnits (s : State) (p : Pos) (c : ChanNo) (t' : TimerId) : (s.releaseUnits p c).timer t' = s.timer t' := by
  simp only [State.timer, State.releaseUnits_timers]
@[simp] theorem State.resetting_releaseUnits (s : State) (p : Pos) (c : ChanNo) : (s.releaseUnits p c).resetting = s.resetting := by
  simp only [State.resetting, State.releaseUnits_mp]

@[simp] theorem State.releaseHandset_directories (s : State) (p : Pos) (h : Handset) : (s.releaseHandset p h).2.directories = s.directories := by
  unfold State.releaseHandset; try dsimp only
  (repeat' split) <;> simp
@[simp] theorem State.releaseHandset_generators (s : State) (p : Pos) (h : Handset) : (s.releaseHandset p h).2.generators = s.generators := by
  unfold State.releaseHandset; try dsimp only
  (repeat' split) <;> simp
@[simp] theorem State.releaseHandset_inFlight (s : State) (p : Pos) (h : Handset) : (s.releaseHandset p h).2.inFlight = s.inFlight := by
  unfold State.releaseHandset; try dsimp only
  (repeat' split) <;> simp
@[simp] theorem State.releaseHandset_reports (s : State) (p : Pos) (h : Handset) : (s.releaseHandset p h).2.reports = s.reports := by
  unfold State.releaseHandset; try dsimp only
  (repeat' split) <;> simp
@[simp] theorem State.releaseHandset_links (s : State) (p : Pos) (h : Handset) : (s.releaseHandset p h).2.links = s.links := by
  unfold State.releaseHandset; try dsimp only
  (repeat' split) <;> simp
@[simp] theorem State.releaseHandset_pointer (s : State) (p : Pos) (h : Handset) : (s.releaseHandset p h).2.pointer = s.pointer := by
  unfold State.releaseHandset; try dsimp only
  (repeat' split) <;> simp
@[simp] theorem State.releaseHandset_frameCount (s : State) (p : Pos) (h : Handset) : (s.releaseHandset p h).2.frameCount = s.frameCount := by
  unfold State.releaseHandset; try dsimp only
  (repeat' split) <;> simp
@[simp] theorem State.releaseHandset_pending (s : State) (p : Pos) (h : Handset) : (s.releaseHandset p h).2.pending = s.pending := by
  unfold State.releaseHandset; try dsimp only
  (repeat' split) <;> simp
@[simp] theorem State.generator_releaseHandset (s : State) (p : Pos) (h : Handset) (n' : GenNo) : (s.releaseHandset p h).2.generator n' = s.generator n' := by
  simp only [State.generator, State.releaseHandset_generators]
@[simp] theorem State.link_releaseHandset (s : State) (p : Pos) (h : Handset) (p' : Pos) : (s.releaseHandset p h).2.link p' = s.link p' := by
  simp only [State.link, State.releaseHandset_links]
@[simp] theorem State.keyLine_releaseHandset (s : State) (p : Pos) (h : Handset) (p' : Pos) (k' : Key) : (s.releaseHandset p h).2.keyLine p' k' = s.keyLine p' k' := by
  simp only [State.keyLine, State.releaseHandset_directories]

@[simp] theorem State.vacateHandset_directories (s : State) (o : Occupant) : (s.vacateHandset o).directories = s.directories := by
  unfold State.vacateHandset; try dsimp only
  (repeat' split) <;> simp
@[simp] theorem State.vacateHandset_channels (s : State) (o : Occupant) : (s.vacateHandset o).channels = s.channels := by
  unfold State.vacateHandset; try dsimp only
  (repeat' split) <;> simp
@[simp] theorem State.vacateHandset_slots (s : State) (o : Occupant) : (s.vacateHandset o).slots = s.slots := by
  unfold State.vacateHandset; try dsimp only
  (repeat' split) <;> simp
@[simp] theorem State.vacateHandset_generators (s : State) (o : Occupant) : (s.vacateHandset o).generators = s.generators := by
  unfold State.vacateHandset; try dsimp only
  (repeat' split) <;> simp
@[simp] theorem State.vacateHandset_inFlight (s : State) (o : Occupant) : (s.vacateHandset o).inFlight = s.inFlight := by
  unfold State.vacateHandset; try dsimp only
  (repeat' split) <;> simp
@[simp] theorem State.vacateHandset_reports (s : State) (o : Occupant) : (s.vacateHandset o).reports = s.reports := by
  unfold State.vacateHandset; try dsimp only
  (repeat' split) <;> simp
@[simp] theorem State.vacateHandset_links (s : State) (o : Occupant) : (s.vacateHandset o).links = s.links := by
  unfold State.vacateHandset; try dsimp only
  (repeat' split) <;> simp
@[simp] theorem State.vacateHandset_pointer (s : State) (o : Occupant) : (s.vacateHandset o).pointer = s.pointer := by
  unfold State.vacateHandset; try dsimp only
  (repeat' split) <;> simp
@[simp] theorem State.vacateHandset_frameCount (s : State) (o : Occupant) : (s.vacateHandset o).frameCount = s.frameCount := by
  unfold State.vacateHandset; try dsimp only
  (repeat' split) <;> simp
@[simp] theorem State.vacateHandset_mp (s : State) (o : Occupant) : (s.vacateHandset o).mp = s.mp := by
  unfold State.vacateHandset; try dsimp only
  (repeat' split) <;> simp
@[simp] theorem State.vacateHandset_pending (s : State) (o : Occupant) : (s.vacateHandset o).pending = s.pending := by
  unfold State.vacateHandset; try dsimp only
  (repeat' split) <;> simp
@[simp] theorem State.channel_vacateHandset (s : State) (o : Occupant) (c' : ChanNo) : (s.vacateHandset o).channel c' = s.channel c' := by
  simp only [State.channel, State.vacateHandset_channels]
@[simp] theorem State.slot_vacateHandset (s : State) (o : Occupant) (sl' : SlotNo) : (s.vacateHandset o).slot sl' = s.slot sl' := by
  simp only [State.slot, State.vacateHandset_slots]
@[simp] theorem State.generator_vacateHandset (s : State) (o : Occupant) (n' : GenNo) : (s.vacateHandset o).generator n' = s.generator n' := by
  simp only [State.generator, State.vacateHandset_generators]
@[simp] theorem State.link_vacateHandset (s : State) (o : Occupant) (p' : Pos) : (s.vacateHandset o).link p' = s.link p' := by
  simp only [State.link, State.vacateHandset_links]
@[simp] theorem State.keyLine_vacateHandset (s : State) (o : Occupant) (p' : Pos) (k' : Key) : (s.vacateHandset o).keyLine p' k' = s.keyLine p' k' := by
  simp only [State.keyLine, State.vacateHandset_directories]
@[simp] theorem State.resetting_vacateHandset (s : State) (o : Occupant) : (s.vacateHandset o).resetting = s.resetting := by
  simp only [State.resetting, State.vacateHandset_mp]

@[simp] theorem State.releaseHandsets_directories (s : State) (p : Pos) : (s.releaseHandsets p).directories = s.directories := by
  unfold State.releaseHandsets; dsimp only
  rw [State.atRestAll_directories]; exact foldl_keeps State.directories _ (fun _ _ => by simp) _ _
@[simp] theorem State.releaseHandsets_generators (s : State) (p : Pos) : (s.releaseHandsets p).generators = s.generators := by
  unfold State.releaseHandsets; dsimp only
  rw [State.atRestAll_generators]; exact foldl_keeps State.generators _ (fun _ _ => by simp) _ _
@[simp] theorem State.releaseHandsets_inFlight (s : State) (p : Pos) : (s.releaseHandsets p).inFlight = s.inFlight := by
  unfold State.releaseHandsets; dsimp only
  rw [State.atRestAll_inFlight]; exact foldl_keeps State.inFlight _ (fun _ _ => by simp) _ _
@[simp] theorem State.releaseHandsets_reports (s : State) (p : Pos) : (s.releaseHandsets p).reports = s.reports := by
  unfold State.releaseHandsets; dsimp only
  rw [State.atRestAll_reports]; exact foldl_keeps State.reports _ (fun _ _ => by simp) _ _
@[simp] theorem State.releaseHandsets_links (s : State) (p : Pos) : (s.releaseHandsets p).links = s.links := by
  unfold State.releaseHandsets; dsimp only
  rw [State.atRestAll_links]; exact foldl_keeps State.links _ (fun _ _ => by simp) _ _
@[simp] theorem State.releaseHandsets_pointer (s : State) (p : Pos) : (s.releaseHandsets p).pointer = s.pointer := by
  unfold State.releaseHandsets; dsimp only
  rw [State.atRestAll_pointer]; exact foldl_keeps State.pointer _ (fun _ _ => by simp) _ _
@[simp] theorem State.releaseHandsets_frameCount (s : State) (p : Pos) : (s.releaseHandsets p).frameCount = s.frameCount := by
  unfold State.releaseHandsets; dsimp only
  rw [State.atRestAll_frameCount]; exact foldl_keeps State.frameCount _ (fun _ _ => by simp) _ _
@[simp] theorem State.releaseHandsets_pending (s : State) (p : Pos) : (s.releaseHandsets p).pending = s.pending := by
  unfold State.releaseHandsets; dsimp only
  rw [State.atRestAll_pending]; exact foldl_keeps State.pending _ (fun _ _ => by simp) _ _
@[simp] theorem State.generator_releaseHandsets (s : State) (p : Pos) (n' : GenNo) : (s.releaseHandsets p).generator n' = s.generator n' := by
  simp only [State.generator, State.releaseHandsets_generators]
@[simp] theorem State.link_releaseHandsets (s : State) (p : Pos) (p' : Pos) : (s.releaseHandsets p).link p' = s.link p' := by
  simp only [State.link, State.releaseHandsets_links]
@[simp] theorem State.keyLine_releaseHandsets (s : State) (p : Pos) (p' : Pos) (k' : Key) : (s.releaseHandsets p).keyLine p' k' = s.keyLine p' k' := by
  simp only [State.keyLine, State.releaseHandsets_directories]

@[simp] theorem State.dropAllMonitors_directories (s : State) (p : Pos) : (s.dropAllMonitors p).directories = s.directories := by
  unfold State.dropAllMonitors; exact foldl_keeps State.directories _ (fun _ _ => by split <;> simp) _ _
@[simp] theorem State.dropAllMonitors_channels (s : State) (p : Pos) : (s.dropAllMonitors p).channels = s.channels := by
  unfold State.dropAllMonitors; exact foldl_keeps State.channels _ (fun _ _ => by split <;> simp) _ _
@[simp] theorem State.dropAllMonitors_slots (s : State) (p : Pos) : (s.dropAllMonitors p).slots = s.slots := by
  unfold State.dropAllMonitors; exact foldl_keeps State.slots _ (fun _ _ => by split <;> simp) _ _
@[simp] theorem State.dropAllMonitors_generators (s : State) (p : Pos) : (s.dropAllMonitors p).generators = s.generators := by
  unfold State.dropAllMonitors; exact foldl_keeps State.generators _ (fun _ _ => by split <;> simp) _ _
@[simp] theorem State.dropAllMonitors_timers (s : State) (p : Pos) : (s.dropAllMonitors p).timers = s.timers := by
  unfold State.dropAllMonitors; exact foldl_keeps State.timers _ (fun _ _ => by split <;> simp) _ _
@[simp] theorem State.dropAllMonitors_inFlight (s : State) (p : Pos) : (s.dropAllMonitors p).inFlight = s.inFlight := by
  unfold State.dropAllMonitors; exact foldl_keeps State.inFlight _ (fun _ _ => by split <;> simp) _ _
@[simp] theorem State.dropAllMonitors_reports (s : State) (p : Pos) : (s.dropAllMonitors p).reports = s.reports := by
  unfold State.dropAllMonitors; exact foldl_keeps State.reports _ (fun _ _ => by split <;> simp) _ _
@[simp] theorem State.dropAllMonitors_links (s : State) (p : Pos) : (s.dropAllMonitors p).links = s.links := by
  unfold State.dropAllMonitors; exact foldl_keeps State.links _ (fun _ _ => by split <;> simp) _ _
@[simp] theorem State.dropAllMonitors_pointer (s : State) (p : Pos) : (s.dropAllMonitors p).pointer = s.pointer := by
  unfold State.dropAllMonitors; exact foldl_keeps State.pointer _ (fun _ _ => by split <;> simp) _ _
@[simp] theorem State.dropAllMonitors_frameCount (s : State) (p : Pos) : (s.dropAllMonitors p).frameCount = s.frameCount := by
  unfold State.dropAllMonitors; exact foldl_keeps State.frameCount _ (fun _ _ => by split <;> simp) _ _
@[simp] theorem State.dropAllMonitors_mp (s : State) (p : Pos) : (s.dropAllMonitors p).mp = s.mp := by
  unfold State.dropAllMonitors; exact foldl_keeps State.mp _ (fun _ _ => by split <;> simp) _ _
@[simp] theorem State.dropAllMonitors_pending (s : State) (p : Pos) : (s.dropAllMonitors p).pending = s.pending := by
  unfold State.dropAllMonitors; exact foldl_keeps State.pending _ (fun _ _ => by split <;> simp) _ _
@[simp] theorem State.channel_dropAllMonitors (s : State) (p : Pos) (c' : ChanNo) : (s.dropAllMonitors p).channel c' = s.channel c' := by
  simp only [State.channel, State.dropAllMonitors_channels]
@[simp] theorem State.slot_dropAllMonitors (s : State) (p : Pos) (sl' : SlotNo) : (s.dropAllMonitors p).slot sl' = s.slot sl' := by
  simp only [State.slot, State.dropAllMonitors_slots]
@[simp] theorem State.generator_dropAllMonitors (s : State) (p : Pos) (n' : GenNo) : (s.dropAllMonitors p).generator n' = s.generator n' := by
  simp only [State.generator, State.dropAllMonitors_generators]
@[simp] theorem State.link_dropAllMonitors (s : State) (p : Pos) (p' : Pos) : (s.dropAllMonitors p).link p' = s.link p' := by
  simp only [State.link, State.dropAllMonitors_links]
@[simp] theorem State.keyLine_dropAllMonitors (s : State) (p : Pos) (p' : Pos) (k' : Key) : (s.dropAllMonitors p).keyLine p' k' = s.keyLine p' k' := by
  simp only [State.keyLine, State.dropAllMonitors_directories]
@[simp] theorem State.timer_dropAllMonitors (s : State) (p : Pos) (t' : TimerId) : (s.dropAllMonitors p).timer t' = s.timer t' := by
  simp only [State.timer, State.dropAllMonitors_timers]
@[simp] theorem State.resetting_dropAllMonitors (s : State) (p : Pos) : (s.dropAllMonitors p).resetting = s.resetting := by
  simp only [State.resetting, State.dropAllMonitors_mp]

@[simp] theorem State.dropEntries_lines (s : State) (p : Pos) : (s.dropEntries p).lines = s.lines := by
  unfold State.dropEntries; exact foldl_keeps State.lines _ (fun _ _ => by simp) _ _
@[simp] theorem State.dropEntries_directories (s : State) (p : Pos) : (s.dropEntries p).directories = s.directories := by
  unfold State.dropEntries; exact foldl_keeps State.directories _ (fun _ _ => by simp) _ _
@[simp] theorem State.dropEntries_selections (s : State) (p : Pos) : (s.dropEntries p).selections = s.selections := by
  unfold State.dropEntries; exact foldl_keeps State.selections _ (fun _ _ => by simp) _ _
@[simp] theorem State.dropEntries_slots (s : State) (p : Pos) : (s.dropEntries p).slots = s.slots := by
  unfold State.dropEntries; exact foldl_keeps State.slots _ (fun _ _ => by simp) _ _
@[simp] theorem State.dropEntries_generators (s : State) (p : Pos) : (s.dropEntries p).generators = s.generators := by
  unfold State.dropEntries; exact foldl_keeps State.generators _ (fun _ _ => by simp) _ _
@[simp] theorem State.dropEntries_inFlight (s : State) (p : Pos) : (s.dropEntries p).inFlight = s.inFlight := by
  unfold State.dropEntries; exact foldl_keeps State.inFlight _ (fun _ _ => by simp) _ _
@[simp] theorem State.dropEntries_reports (s : State) (p : Pos) : (s.dropEntries p).reports = s.reports := by
  unfold State.dropEntries; exact foldl_keeps State.reports _ (fun _ _ => by simp) _ _
@[simp] theorem State.dropEntries_links (s : State) (p : Pos) : (s.dropEntries p).links = s.links := by
  unfold State.dropEntries; exact foldl_keeps State.links _ (fun _ _ => by simp) _ _
@[simp] theorem State.dropEntries_pointer (s : State) (p : Pos) : (s.dropEntries p).pointer = s.pointer := by
  unfold State.dropEntries; exact foldl_keeps State.pointer _ (fun _ _ => by simp) _ _
@[simp] theorem State.dropEntries_frameCount (s : State) (p : Pos) : (s.dropEntries p).frameCount = s.frameCount := by
  unfold State.dropEntries; exact foldl_keeps State.frameCount _ (fun _ _ => by simp) _ _
@[simp] theorem State.dropEntries_mp (s : State) (p : Pos) : (s.dropEntries p).mp = s.mp := by
  unfold State.dropEntries; exact foldl_keeps State.mp _ (fun _ _ => by simp) _ _
@[simp] theorem State.dropEntries_pending (s : State) (p : Pos) : (s.dropEntries p).pending = s.pending := by
  unfold State.dropEntries; exact foldl_keeps State.pending _ (fun _ _ => by simp) _ _
@[simp] theorem State.line_dropEntries (s : State) (p : Pos) (l' : LineNo) : (s.dropEntries p).line l' = s.line l' := by
  simp only [State.line, State.dropEntries_lines]
@[simp] theorem State.slot_dropEntries (s : State) (p : Pos) (sl' : SlotNo) : (s.dropEntries p).slot sl' = s.slot sl' := by
  simp only [State.slot, State.dropEntries_slots]
@[simp] theorem State.generator_dropEntries (s : State) (p : Pos) (n' : GenNo) : (s.dropEntries p).generator n' = s.generator n' := by
  simp only [State.generator, State.dropEntries_generators]
@[simp] theorem State.link_dropEntries (s : State) (p : Pos) (p' : Pos) : (s.dropEntries p).link p' = s.link p' := by
  simp only [State.link, State.dropEntries_links]
@[simp] theorem State.keyLine_dropEntries (s : State) (p : Pos) (p' : Pos) (k' : Key) : (s.dropEntries p).keyLine p' k' = s.keyLine p' k' := by
  simp only [State.keyLine, State.dropEntries_directories]
@[simp] theorem State.selection_dropEntries (s : State) (p : Pos) (p' : Pos) (u' : UnitNo) : (s.dropEntries p).selection p' u' = s.selection p' u' := by
  simp only [State.selection, State.dropEntries_selections]
@[simp] theorem State.resetting_dropEntries (s : State) (p : Pos) : (s.dropEntries p).resetting = s.resetting := by
  simp only [State.resetting, State.dropEntries_mp]

end Sys2Proof.Machine
end

