-- ==== Sys2Proof/Laws/Requests.lean ====
section
/-! SUPPORT. What the Request Engine does with a request it serves (R171–R173). -/

namespace Sys2Proof.Machine

open Safety

/-- A link with a waiting request has nothing arrive by the command itself (log entry 2). -/
theorem State.arrive_of_waiting (s : State) (p : Pos) (r q : Request) (h : (s.link p).requests.head? = some q) :
    s.arrive p r = s := by
  have : (s.link p).requests ≠ [] := by intro e; simp [e] at h
  simp [State.arrive, this]

/-- RE takes the request at the head of the link it serves next (R171). -/
theorem State.takeRequest_ready (s : State) (p : Pos) (r : Request) (h : Ready s p r) :
    s.takeRequest p r = some (taken s p) := by
  simp [State.takeRequest, s.arrive_of_waiting p r r h.2, h.1, h.2, taken]

/-- A request that RE serves is decided on the state without it, and its answer is queued (R171, R173). -/
theorem State.serveRequest_ready (s : State) (p : Pos) (r : Request) (h : Ready s p r) :
    s.serveRequest p r =
      ((taken s p).decide p r).2.answer p ⟨r.code, ((taken s p).decide p r).1⟩ := by
  simp [State.serveRequest, s.takeRequest_ready p r h]

/-- A request with its fields in range is decided by its owner, with the indications of the act (R172). -/
theorem State.decide_owner (s : State) (p : Pos) (r : Request) (t : TurretRequest) (hr : s.resetting = false)
    (hd : decodeRequest r = some t) :
    s.decide p r =
      ((s.decideOwner p t).1, finishAct (t.ownOff p) (s.requestChannels p t) s (s.decideOwner p t).2) := by
  simp [State.decide, hr, hd]

/-! ### The state in which a request is decided -/

@[simp] theorem taken_lines (s : State) (p : Pos) : (taken s p).lines = s.lines := rfl
@[simp] theorem taken_directories (s : State) (p : Pos) : (taken s p).directories = s.directories := rfl
@[simp] theorem taken_channels (s : State) (p : Pos) : (taken s p).channels = s.channels := rfl
@[simp] theorem taken_selections (s : State) (p : Pos) : (taken s p).selections = s.selections := rfl
@[simp] theorem taken_bridges (s : State) (p : Pos) : (taken s p).bridges = s.bridges := rfl
@[simp] theorem taken_legs (s : State) (p : Pos) : (taken s p).legs = s.legs := rfl
@[simp] theorem taken_slots (s : State) (p : Pos) : (taken s p).slots = s.slots := rfl
@[simp] theorem taken_generators (s : State) (p : Pos) : (taken s p).generators = s.generators := rfl
@[simp] theorem taken_timers (s : State) (p : Pos) : (taken s p).timers = s.timers := rfl
@[simp] theorem taken_inFlight (s : State) (p : Pos) : (taken s p).inFlight = s.inFlight := rfl
@[simp] theorem taken_reports (s : State) (p : Pos) : (taken s p).reports = s.reports := rfl
@[simp] theorem taken_pointer (s : State) (p : Pos) : (taken s p).pointer = p + 1 := rfl
@[simp] theorem taken_frameCount (s : State) (p : Pos) : (taken s p).frameCount = s.frameCount := rfl
@[simp] theorem taken_mp (s : State) (p : Pos) : (taken s p).mp = s.mp := rfl
@[simp] theorem taken_pending (s : State) (p : Pos) : (taken s p).pending = s.pending := rfl
@[simp] theorem taken_line (s : State) (p : Pos) (l : LineNo) : (taken s p).line l = s.line l := rfl
@[simp] theorem taken_channel (s : State) (p : Pos) (c : ChanNo) : (taken s p).channel c = s.channel c := rfl
@[simp] theorem taken_bridge (s : State) (p : Pos) (b : BridgeNo) : (taken s p).bridge b = s.bridge b := rfl
@[simp] theorem taken_leg (s : State) (p : Pos) (g : LegNo) : (taken s p).leg g = s.leg g := rfl
@[simp] theorem taken_slot (s : State) (p : Pos) (sl : SlotNo) : (taken s p).slot sl = s.slot sl := rfl
@[simp] theorem taken_generator (s : State) (p : Pos) (g : GenNo) : (taken s p).generator g = s.generator g := rfl
@[simp] theorem taken_timer (s : State) (p : Pos) (t : TimerId) : (taken s p).timer t = s.timer t := rfl
@[simp] theorem taken_keyLine (s : State) (p q : Pos) (k : Key) : (taken s p).keyLine q k = s.keyLine q k := rfl
@[simp] theorem taken_selection (s : State) (p q : Pos) (u : UnitNo) : (taken s p).selection q u = s.selection q u := rfl
@[simp] theorem taken_resetting (s : State) (p : Pos) : (taken s p).resetting = s.resetting := rfl
@[simp] theorem taken_lowestFree (s : State) (p : Pos) : (taken s p).lowestFree = s.lowestFree := rfl
@[simp] theorem taken_currentLine (s : State) (p : Pos) (o : Occupant) : (taken s p).currentLine o = s.currentLine o := rfl
theorem taken_link (s : State) (p q : Pos) :
    (taken s p).link q = if q = p then { s.link p with requests := (s.link p).requests.tail } else s.link q :=
  State.link_setLink s p q _

/-! ### The end of an act on the links -/

/-- Two states agree on the links but for the indications. -/
abbrev SameButIndications (s t : State) : Prop :=
  ∀ q : Pos, { t.link q with indications := [] } = { s.link q with indications := [] }

/-- An indication changes nothing of a link but its indication queue (R175). -/
theorem Link.indicate_frame (x : Link) (i : Indication) : { x.indicate i with indications := [] } = { x with indications := [] } := by
  unfold Link.indicate; split <;> rfl

/-- An indication at one position keeps the links but for the indications. -/
theorem State.enqueueAt_same (s : State) (p : Pos) (i : Indication) : SameButIndications s (s.enqueueAt p i) := by
  intro q
  simp only [State.enqueueAt_eq, State.link_setLink]
  split
  · rename_i h; rw [h]; exact Link.indicate_frame _ _
  · rfl

/-- A fold of operations that keep the links but for the indications keeps them. -/
theorem SameButIndications.foldl {β : Type} (op : State → β → State) (h : ∀ s b, SameButIndications s (op s b))
    (l : List β) (s : State) : SameButIndications s (l.foldl op s) :=
  fun q => foldl_keeps (fun t => { t.link q with indications := [] }) op (fun t b => h t b q) l s

/-- The indications of lines. -/
theorem notifyLines_same (before s : State) : SameButIndications s (notifyLines before s) :=
  SameButIndications.foldl _ (fun t _l => SameButIndications.foldl _ (fun _ _ => State.enqueueAt_same _ _ _) _ t) _ _

/-- The indications of one channel. -/
theorem notifyChannel_same (own : Option Pos) (all : Bool) (before after s : State) (c : ChanNo) :
    SameButIndications s (notifyChannel own all before after s c) :=
  SameButIndications.foldl _ (fun _ _ => State.enqueueAt_same _ _ _) _ _

/-- The end of an act keeps the links but for the indications. -/
theorem finishAct_same (own : Option Pos) (cs : List ChanNo) (before s : State) :
    SameButIndications s (finishAct own cs before s) := by
  intro q
  refine (SameButIndications.foldl _ (fun t c => notifyChannel_same own false before s.settleBridges t c) cs _ q).trans ?_
  exact notifyLines_same before s.settleBridges q

/-- The bridges at the end of an act: the headroom floor applied to each (R116). -/
theorem finishAct_bridges (own : Option Pos) (cs : List ChanNo) (before s : State) :
    (finishAct own cs before s).bridges = tabMap Bridge.settle s.bridges := by
  unfold finishAct
  rw [foldl_keeps State.bridges _ (fun _ _ => by simp)]
  simp [State.settleBridges]

/-- A read of a table that one function has changed. -/
@[simp] theorem getElem_tabMap {α β : Type} {n : Nat} (f : α → β) (v : Vector α n) (i : Nat) (h : i < n) :
    (tabMap f v)[i] = f v[i] := by
  simp [tabMap, Vector.getElem_mk, Vector.getElem_toList]

/-- A bridge at the end of an act. -/
theorem finishAct_bridge (own : Option Pos) (cs : List ChanNo) (before s : State) (b : BridgeNo) :
    (finishAct own cs before s).bridge b = (s.bridge b).settle := by
  simp only [State.bridge, finishAct_bridges, Fin.getElem_fin, getElem_tabMap]

/-- An answer is the last of its link's queue, and nothing else changes (R173). -/
theorem State.link_answer (s : State) (p q : Pos) (a : Answer) :
    (s.answer p a).link q = if q = p then { s.link p with answers := (s.link p).answers ++ [a] } else s.link q := by
  simp [State.answer, State.link_setLink]

/-- An act that keeps the links but for the indications, closed by an answer, has answered the request (R171, R173). -/
theorem answered_of_same (s x : State) (p : Pos) (a : Answer) (hp : x.pointer = p + 1)
    (hs : SameButIndications (taken s p) x) : Answered s (x.answer p a) p a := by
  have hself := hs p
  simp only [taken_link, if_true] at hself
  have hr : (x.link p).requests = (s.link p).requests.tail := by
    have e := congrArg Link.requests hself; simpa using e
  have ha : (x.link p).answers = (s.link p).answers := by
    have e := congrArg Link.answers hself; simpa using e
  refine ⟨hp, ?_, ?_, ?_, ?_⟩
  · simp [State.link_answer, hr]
  · simp [State.link_answer, ha]
  · intro q hq
    have h := hs q
    simp only [taken_link, if_neg hq] at h
    simp only [State.link_answer, if_neg hq]
    have e1 := congrArg Link.requests h
    have e2 := congrArg Link.answers h
    exact ⟨by simpa using e1, by simpa using e2⟩
  · intro q
    have h := hs q
    simp only [State.link_answer, linkCore]
    by_cases hq : q = p
    · subst hq
      simp only [if_true]
      have := congrArg (fun y : Link => { y with requests := [], answers := [] }) hself
      simpa using this
    · simp only [if_neg hq]
      simp only [taken_link, if_neg hq] at h
      have := congrArg (fun y : Link => { y with requests := [], answers := [] }) h
      simpa using this

@[simp] theorem State.answer_lines (s : State) (p : Pos) (a : Answer) : (s.answer p a).lines = s.lines := rfl
@[simp] theorem State.answer_directories (s : State) (p : Pos) (a : Answer) : (s.answer p a).directories = s.directories := rfl
@[simp] theorem State.answer_channels (s : State) (p : Pos) (a : Answer) : (s.answer p a).channels = s.channels := rfl
@[simp] theorem State.answer_selections (s : State) (p : Pos) (a : Answer) : (s.answer p a).selections = s.selections := rfl
@[simp] theorem State.answer_bridges (s : State) (p : Pos) (a : Answer) : (s.answer p a).bridges = s.bridges := rfl
@[simp] theorem State.answer_legs (s : State) (p : Pos) (a : Answer) : (s.answer p a).legs = s.legs := rfl
@[simp] theorem State.answer_slots (s : State) (p : Pos) (a : Answer) : (s.answer p a).slots = s.slots := rfl
@[simp] theorem State.answer_generators (s : State) (p : Pos) (a : Answer) : (s.answer p a).generators = s.generators := rfl
@[simp] theorem State.answer_timers (s : State) (p : Pos) (a : Answer) : (s.answer p a).timers = s.timers := rfl
@[simp] theorem State.answer_inFlight (s : State) (p : Pos) (a : Answer) : (s.answer p a).inFlight = s.inFlight := rfl
@[simp] theorem State.answer_reports (s : State) (p : Pos) (a : Answer) : (s.answer p a).reports = s.reports := rfl
@[simp] theorem State.answer_pointer (s : State) (p : Pos) (a : Answer) : (s.answer p a).pointer = s.pointer := rfl
@[simp] theorem State.answer_frameCount (s : State) (p : Pos) (a : Answer) : (s.answer p a).frameCount = s.frameCount := rfl
@[simp] theorem State.answer_mp (s : State) (p : Pos) (a : Answer) : (s.answer p a).mp = s.mp := rfl
@[simp] theorem State.answer_pending (s : State) (p : Pos) (a : Answer) : (s.answer p a).pending = s.pending := rfl
@[simp] theorem State.line_answer (s : State) (p : Pos) (a : Answer) (l : LineNo) : (s.answer p a).line l = s.line l := rfl
@[simp] theorem State.channel_answer (s : State) (p : Pos) (a : Answer) (c : ChanNo) : (s.answer p a).channel c = s.channel c := rfl
@[simp] theorem State.bridge_answer (s : State) (p : Pos) (a : Answer) (b : BridgeNo) : (s.answer p a).bridge b = s.bridge b := rfl
@[simp] theorem State.leg_answer (s : State) (p : Pos) (a : Answer) (g : LegNo) : (s.answer p a).leg g = s.leg g := rfl
@[simp] theorem State.timer_answer (s : State) (p : Pos) (a : Answer) (t : TimerId) : (s.answer p a).timer t = s.timer t := rfl
@[simp] theorem State.selection_answer (s : State) (p q : Pos) (a : Answer) (u : UnitNo) :
    (s.answer p a).selection q u = s.selection q u := rfl

end Sys2Proof.Machine
end

