-- ==== Sys2Proof/Laws/Acts.lean ====
section
/-! SUPPORT. What the end of an act leaves of a position's link, in the words of the statements (R7, R61, R80): the provers cite these
lemmas and unfold no indication. -/

namespace Sys2Proof.Machine

open Safety

/-- A read of a table that a function of number and content has changed. -/
@[simp] theorem getElem_tabMapIdx {α β : Type} {n : Nat} (f : Fin n → α → β) (v : Vector α n) (i : Nat) (h : i < n) :
    (tabMapIdx f v)[i] = f ⟨i, h⟩ v[i] := by
  simp [tabMapIdx, Vector.getElem_mk, Vector.getElem_toList]

/-- A series of indications, on one position's link: those at that position, in order. -/
theorem foldl_enqueueAt_link {β : Type} (pos : β → Pos) (ind : β → Indication) (bs : List β) (s : State) (q : Pos) :
    (bs.foldl (fun t b => t.enqueueAt (pos b) (ind b)) s).link q =
      (bs.filter fun b => pos b == q).foldl (fun x b => x.indicate (ind b)) (s.link q) := by
  induction bs generalizing s with
  | nil => rfl
  | cons b rest ih =>
    simp only [List.foldl_cons, ih, List.filter_cons]
    by_cases h : pos b = q
    · simp [h, State.enqueueAt_eq]
    · have h' : ¬q = pos b := fun e => h e.symm
      simp [h, h', State.enqueueAt_eq, State.link_setLink]

/-- The indications of one line, on one position's link (R7). -/
theorem State.notifyLine_link (s : State) (l : LineNo) (q : Pos) :
    (s.notifyLine l).link q = toldLine s q (s.link q) l :=
  foldl_enqueueAt_link Appearance.pos (fun a => ⟨.key a.key, .lineState, (s.line l).content⟩) _ s q

/-- What a line's indications are depends on the line alone. -/
theorem toldLine_congr {s t : State} (h : ∀ l, t.line l = s.line l) (q : Pos) (x : Link) (l : LineNo) :
    toldLine t q x l = toldLine s q x l := by
  unfold toldLine; rw [h]

/-- The indications of an act on lines, on one position's link (R7). -/
theorem notifyLines_link (s t : State) (q : Pos) :
    (notifyLines s t).link q =
      ((List.finRange 192).filter fun l => (s.line l).view != (t.line l).view).foldl (toldLine t q) (t.link q) := by
  unfold notifyLines changedLines
  generalize (List.finRange 192).filter _ = ls
  suffices h : ∀ u : State, (∀ l, u.line l = t.line l) → (ls.foldl State.notifyLine u).link q = ls.foldl (toldLine t q) (u.link q) from
    h t fun _ => rfl
  induction ls with
  | nil => intro u _; rfl
  | cons l rest ih =>
    intro u hu
    rw [List.foldl_cons, List.foldl_cons, ih (u.notifyLine l) (fun k => by simp [hu]), State.notifyLine_link, toldLine_congr hu]

/-- The floor status of a position, from its entries (R80). -/
theorem Channel.floorStatus_cases (x : Channel) (q : Pos) :
    (x.talking q = true ∧ ∃ b, x.floorStatus q = .talking b) ∨
      (x.talking q = false ∧ x.queued q = true ∧ ∃ b n, x.floorStatus q = .queued b n) ∨
        (x.talking q = false ∧ x.queued q = false ∧ x.floorStatus q = .none) := by
  have has : ∀ es : List FloorEntry, (es.any fun e => e.pos == q) = (es.find? fun e => e.pos == q).isSome := fun es => by
    rw [Bool.eq_iff_iff]; simp
  have place : ∀ es : List FloorEntry, (es.findIdx? fun e => e.pos == q).isSome = (es.find? fun e => e.pos == q).isSome :=
    fun es => by rw [Bool.eq_iff_iff]; simp [List.findIdx?_isSome]
  unfold Channel.talking Channel.queued Channel.floorStatus placeIn
  rw [has, has]
  cases x.talkers.find? (fun e => e.pos == q) with
  | some e => exact .inl ⟨rfl, e.latched, rfl⟩
  | none =>
    have hp := place x.queue
    cases hi : x.queue.findIdx? (fun e => e.pos == q) <;> cases hf : x.queue.find? (fun e => e.pos == q) <;>
      simp_all

/-- The kind of a channel indication, from what the records hold of the position (R80). -/
theorem floorKind_eq (own : Option Pos) (q : Pos) (x y : Channel) :
    floorKind own q (x.floorStatus q) (y.floorStatus q) = toldKind own q x y := by
  rcases x.floorStatus_cases q with ⟨h, b, e⟩ | ⟨h, h', b, n, e⟩ | ⟨h, h', e⟩ <;>
    rcases y.floorStatus_cases q with ⟨k, c, f⟩ | ⟨k, k', c, m, f⟩ | ⟨k, k', f⟩ <;>
      simp_all [floorKind, toldKind]

/-- The indications of one channel, on one position's link (R61, R80). -/
theorem notifyChannel_link (own : Option Pos) (all : Bool) (a b s : State) (c : ChanNo) (q : Pos) :
    (notifyChannel own all a b s c).link q = toldChannel own all a b q (s.link q) c := by
  unfold notifyChannel
  rw [foldl_enqueueAt_link (fun p => p)]
  rw [List.filter_filter]
  have one : ((List.finRange 48).filter fun p => (p == q) && tellsChannel all a b c p) =
      if tellsChannel all a b c q then [q] else [] := by
    by_cases h : tellsChannel all a b c q = true
    · rw [if_pos h, List.filter_congr (q := (· == q)) fun p _ => by by_cases e : p = q <;> simp_all, List.filter_beq,
        List.count_eq_one_of_mem (List.nodup_finRange 48) (List.mem_finRange q), List.replicate_one]
    · rw [if_neg h]
      exact List.filter_eq_nil_iff.2 fun p _ => by by_cases e : p = q <;> simp_all
  have tells : tellsChannel all a b c q = true ↔
      (a.channel c).live ∧ (b.channel c).live ∧
        (((all ∨ (a.channel c).view ≠ (b.channel c).view) ∧ (a.qualifies c q ∨ b.qualifies c q)) ∨
          a.positionView c q ≠ b.positionView c q) := by
    simp [tellsChannel, and_assoc]
  rw [one]
  unfold toldChannel
  by_cases h : tellsChannel all a b c q = true
  · rw [if_pos h, if_pos (tells.1 h)]; simp [floorKind_eq]
  · rw [if_neg h, if_neg (mt tells.2 h)]; rfl

/-- What a channel's indications are depends on the channel and the position's selections alone. -/
theorem toldChannel_congr {a s t : State} {own : Option Pos} {all : Bool} (hc : ∀ c, t.channel c = s.channel c)
    (hs : ∀ p n, t.selection p n = s.selection p n) (q : Pos) (x : Link) (c : ChanNo) :
    toldChannel own all a t q x c = toldChannel own all a s q x c := by
  have hq : t.qualifies c q = s.qualifies c q := by simp only [State.qualifies, State.anySelects, State.selects, hc, hs]
  have hv : t.positionView c q = s.positionView c q := by simp only [State.positionView, State.selects, hc, hs]
  unfold toldChannel State.channelContent
  rw [hc, hq, hv]

/-- The link of a position after an act that has changed no link itself: its indications, lines first (R7, R61). -/
theorem finishAct_link (own : Option Pos) (cs : List ChanNo) (s t : State) (q : Pos) (h : t.link q = s.link q) :
    (finishAct own cs s t).link q = told own cs s t q := by
  unfold finishAct told
  suffices h' : ∀ u : State,
      (cs.foldl (notifyChannel own false s t.settleBridges) u).link q = cs.foldl (toldChannel own false s t q) (u.link q) by
    rw [h', notifyLines_link]
    congr 1
    unfold toldLines
    simp only [State.line_settleBridges, State.link_settleBridges, h]
    congr 1
  induction cs with
  | nil => intro u; rfl
  | cons c rest ih =>
    intro u
    rw [List.foldl_cons, List.foldl_cons, ih, notifyChannel_link, toldChannel_congr (s := t) (by simp) (by simp)]

/-- The link of a position after an act on a group's members (R68, R69). -/
theorem finishMembers_link (c : ChanNo) (cs : List ChanNo) (s t : State) (q : Pos) (h : t.link q = s.link q) :
    (finishMembers c cs s t).link q = toldChannel none true s t q (told none cs s t q) c := by
  rw [finishMembers, notifyChannel_link, finishAct_link _ _ _ _ _ h]
  exact toldChannel_congr (by simp) (by simp) _ _ _

end Sys2Proof.Machine
end

