-- ==== Sys2Proof/Laws/Bridges.lean ====
section
/-! SUPPORT. What the four membership requests, an allocation and a freeing do to the bridges and the legs (R95, R99, R101). -/

namespace Sys2Proof.Machine

/-- The leg numbers of a handset and of a trunk slot differ (R91). -/
theorem trunkLeg_ne_handsetLeg (sl : SlotNo) (p : Pos) (h : Handset) : trunkLeg sl ≠ handsetLeg p h := by
  intro e; have := congrArg Fin.val e; cases h <;> simp [trunkLeg, handsetLeg] at this <;> omega

/-- Listen, on a bridge: one more receiver, unless the leg already listens to it. -/
theorem State.bridge_listen (s : State) (b b' : BridgeNo) (g : LegNo) :
    (s.listen b g).bridge b' =
      if b' = b ∧ (s.leg g).attach ≠ some b then { s.bridge b with receivers := (s.bridge b).receivers + 1 }
      else s.bridge b' := by
  unfold State.listen
  split
  · simp_all
  · simp [State.bridge_setBridge, *]

/-- Listen, on a leg: its receive attachment. -/
theorem State.leg_listen (s : State) (b : BridgeNo) (g g' : LegNo) :
    (s.listen b g).leg g' = if g' = g then { s.leg g with attach := some b } else s.leg g' := by
  unfold State.listen
  split
  · rename_i h
    split
    · rename_i e; subst e; rw [← h]
    · rfl
  · simp [State.leg_setLeg]

/-- Join, on a leg. -/
theorem State.leg_join (s : State) (b : BridgeNo) (g g' : LegNo) :
    (s.join b g).leg g' = if g' = g then { s.leg g with attach := some b } else s.leg g' := by
  simp [State.join, State.leg_listen]

/-- Join, on another bridge. -/
theorem State.bridge_join_ne (s : State) {b b' : BridgeNo} (g : LegNo) (h : b' ≠ b) :
    (s.join b g).bridge b' = s.bridge b' := by
  simp [State.join, State.bridge_listen, h, State.bridge_setBridge]

/-- Join, on its bridge: the leg is a contributor, and the receiver count may have risen. -/
theorem State.bridge_join (s : State) (b : BridgeNo) (g : LegNo) :
    ∃ r, (s.join b g).bridge b = { (s.bridge b).addContributor g with receivers := r } := by
  simp only [State.join, State.bridge_listen]
  split
  · exact ⟨_, by simp; rfl⟩
  · exact ⟨((s.bridge b).addContributor g).receivers, by simp⟩

/-- Leave, on another bridge. -/
theorem State.bridge_leave_ne (s : State) {b b' : BridgeNo} (g : LegNo) (h : b' ≠ b) :
    (s.leave b g).bridge b' = s.bridge b' := by
  unfold State.leave; dsimp only
  split <;> simp [h, State.bridge_setBridge]

/-- Leave, on its bridge: the leg is no contributor, and the receiver count may have fallen. -/
theorem State.bridge_leave (s : State) (b : BridgeNo) (g : LegNo) :
    ∃ r, (s.leave b g).bridge b = { (s.bridge b).dropContributor g with receivers := r } := by
  unfold State.leave; dsimp only
  split
  · exact ⟨_, by simp; rfl⟩
  · exact ⟨((s.bridge b).dropContributor g).receivers, by simp⟩

/-- Leave, on a leg: a leg that listened to the bridge is detached. -/
theorem State.leg_leave (s : State) (b : BridgeNo) (g g' : LegNo) :
    (s.leave b g).leg g' =
      if g' = g ∧ (s.leg g).attach = some b then { s.leg g with attach := none } else s.leg g' := by
  unfold State.leave; dsimp only
  split <;> simp_all [State.leg_setLeg]

/-- Speak, on the bridges. -/
theorem State.bridge_speak (s : State) (b b' : BridgeNo) (g : LegNo) :
    (s.speak b g).bridge b' =
      if b' = b ∧ g ∉ (s.bridge b).contributors then
        { s.bridge b with
          contributors := (s.bridge b).contributors ++ [g], micPeaks := (s.bridge b).micPeaks ++ [(g, 0)] }
      else s.bridge b' := by
  simp only [State.speak, State.modBridge_eq, State.bridge_setBridge]
  by_cases h : b' = b
  · subst h; simp only [true_and, if_true]; split <;> split <;> simp_all
  · simp [h]

/-- Freeing, on the bridges: the FREE values (R101). -/
theorem State.bridge_freeBridge (s : State) (b b' : BridgeNo) :
    (s.freeBridge b).bridge b' = if b' = b then Bridge.free else s.bridge b' :=
  State.bridge_setBridge s b b' Bridge.free

end Sys2Proof.Machine
end

