-- ==== Sys2Proof/Laws/Commands.lean ====
section
/-! SUPPORT. What the command slot and the taking of an expiry can do, each said once: the buffer holds the words of a command as they
were written, a GO on a BUSY slot posts CMD-OVERRUN alone, and a command that its owner refuses leaves every record as it was (R188,
R189); an expiry acts only when it is current and its state stands (R159); an enqueue keeps one entry per subject (R175). -/

namespace Sys2Proof.Laws

open Machine Safety

/-! ### The command slot -/

@[simp] theorem bufferCode_toBuffer (code : Byte) (w : CmdWords) : bufferCode (w.toBuffer code) = code := by
  simp only [bufferCode, CmdWords.toBuffer, Vector.getElem_mk, List.getElem_toArray, List.getElem_cons_zero]
  refine BitVec.eq_of_toNat_eq ?_
  have hl := code.isLt
  rw [BitVec.toNat_setWidth, BitVec.toNat_append, ← Nat.shiftLeft_add_eq_or_of_lt hl, Nat.shiftLeft_eq]
  omega

@[simp] theorem bufferWords_toBuffer (code : Byte) (w : CmdWords) : bufferWords (w.toBuffer code) = w := by
  have h : ((w.hi ++ code) >>> 8).setWidth 8 = w.hi := by
    refine BitVec.eq_of_toNat_eq ?_
    have hl := code.isLt
    have hh := w.hi.isLt
    rw [BitVec.toNat_setWidth, BitVec.toNat_ushiftRight, BitVec.toNat_append, ← Nat.shiftLeft_add_eq_or_of_lt hl,
      Nat.shiftLeft_eq, Nat.shiftRight_eq_div_pow]
    omega
  cases w
  simpa [bufferWords, CmdWords.toBuffer] using h

/-- The state on which the owner decides a command: its words stand in the buffer, the slot is BUSY and the result NONE. -/
def loaded (s : State) (code : Byte) (w : CmdWords) : State := (s.loadCommand code w).startSlot

/-- A GO on a BUSY slot posts CMD-OVERRUN and nothing else; the words stand in the buffer (R188). -/
theorem command_busy (s : State) (code : Byte) (w : CmdWords) (h : s.mp.slot = .busy) :
    s.command code w =
      { s with
        mp :=
          { s.mp with buffer := w.toBuffer code, port := Port.quiet, flags := s.mp.flags ||| Event.cmdOverrun.mask } } := by
  simp [State.command, State.go, State.loadCommand, State.modMp, State.post, h]

/-- A command on a slot that is not BUSY is decided by its owner on the loaded state (R188). -/
theorem command_ready (s : State) (code : Byte) (w : CmdWords) (h : s.mp.slot ≠ .busy) :
    s.command code w =
      match (loaded s code w).decideCommand code w with
      | (some r, t) => t.complete r
      | (none, t) => t := by
  have hb : (s.loadCommand code w).mp.slot = s.mp.slot := rfl
  have hc : bufferCode (s.loadCommand code w).mp.buffer = code := bufferCode_toBuffer code w
  have hw : bufferWords (s.loadCommand code w).mp.buffer = w := bufferWords_toBuffer code w
  unfold State.command State.go
  cases hs : s.mp.slot with
  | busy => exact absurd hs h
  | idle | done => rw [hb, hs, hc, hw]; rfl

/-- A command completed with result `r` in the state `t`. -/
theorem command_done (s t : State) (code : Byte) (w : CmdWords) (r : Result) (h : s.mp.slot ≠ .busy)
    (hd : (loaded s code w).decideCommand code w = (some r, t)) : s.command code w = t.complete r := by
  rw [command_ready s code w h, hd]

/-- A command that its owner refuses, or completes without a change: only MP changes (R188, R189). -/
theorem command_refused (s : State) (code : Byte) (w : CmdWords) (r : Result) (h : s.mp.slot ≠ .busy)
    (hd : (loaded s code w).decideCommand code w = refuse r (loaded s code w)) :
    s.command code w = { s with mp := mpDone s.mp code w r } := by
  rw [command_done s _ code w r h hd]
  simp [loaded, State.complete, State.post, State.modMp, State.startSlot, State.loadCommand, mpDone]

/-- A command that goes on over later acts. -/
theorem command_runs (s t : State) (code : Byte) (w : CmdWords) (h : s.mp.slot ≠ .busy)
    (hd : (loaded s code w).decideCommand code w = (none, t)) : s.command code w = t := by
  rw [command_ready s code w h, hd]

/-! ### Expiries (R159) -/

/-- With no expiry of the timer in flight there is nothing to take. -/
theorem takeExpiry_none (s : State) (t : TimerId) (stands : Bool) (act : State → State)
    (h : s.inFlight.find? (fun e => e.timer == t) = none) : s.takeExpiry t stands act = s := by
  simp [State.takeExpiry, h]

/-- A current expiry whose state stands acts, once it has left. -/
theorem takeExpiry_acts (s : State) (t : TimerId) (act : State → State) (h : Current s t) :
    s.takeExpiry t true act = act { s with inFlight := s.inFlight.erase ⟨t, (s.timer t).run⟩ } := by
  have h' : s.inFlight.find? (fun e => e.timer == t) = some ⟨t, (s.timer t).run⟩ := h
  simp [State.takeExpiry, h']

/-- An expiry of an old run, or one whose state does not stand, only leaves. -/
theorem takeExpiry_discards (s : State) (t : TimerId) (n : Nat) (stands : Bool) (act : State → State)
    (h : s.inFlight.find? (fun e => e.timer == t) = some ⟨t, n⟩) (hd : n ≠ (s.timer t).run ∨ stands = false) :
    s.takeExpiry t stands act = { s with inFlight := s.inFlight.erase ⟨t, n⟩ } := by
  rcases hd with hd | hd <;> simp [State.takeExpiry, h, hd]

/-! ### Indications (R175) -/

/-- An enqueue leaves the subjects as they were, or adds the new one at the tail. -/
theorem enqueue_subjects (q : List Indication) (i : Indication) :
    (enqueue q i).map Indication.subject =
      if i.subject ∈ q.map Indication.subject then q.map Indication.subject
      else q.map Indication.subject ++ [i.subject] := by
  by_cases h : q.any (fun j => j.subject == i.subject) = true
  · have hm : i.subject ∈ q.map Indication.subject := by
      obtain ⟨j, hj, hs⟩ := List.any_eq_true.mp h
      exact List.mem_map.mpr ⟨j, hj, by simpa using hs⟩
    rw [if_pos hm, enqueue, if_pos h, List.map_map]
    refine List.map_congr_left fun j _ => ?_
    by_cases hj : j.subject = i.subject <;> simp [hj]
  · have hm : i.subject ∉ q.map Indication.subject := by
      intro hm
      obtain ⟨j, hj, hs⟩ := List.mem_map.mp hm
      exact h (List.any_eq_true.mpr ⟨j, hj, by simpa using hs⟩)
    rw [if_neg hm, enqueue, if_neg h]
    simp

/-- An enqueue keeps at most one entry per subject. -/
theorem enqueue_nodup (q : List Indication) (i : Indication) (h : (q.map Indication.subject).Nodup) :
    ((enqueue q i).map Indication.subject).Nodup := by
  rw [enqueue_subjects]
  split
  · exact h
  · rename_i hm
    exact List.Nodup.append h (List.nodup_singleton _) (by simpa using hm)

end Sys2Proof.Laws
end

