-- ==== Sys2Proof/Laws/Naming.lean ====
section
/-! SUPPORT. The agreement of the slots with the records that name them (R131): what an operation may do without touching it, one lemma
per operation that names no slot, and what adding or removing one naming does to the two sides. -/

namespace Sys2Proof.Machine

open Safety

set_option Elab.async false

/-- No naming differs: every line and channel names the slots it named, every slot has the namers it had, no record has become VACANT, and
the command in progress is the same. -/
structure KeepsNaming (s t : State) : Prop where
  primary : ∀ l, (t.line l).primary = (s.line l).primary
  alternate : ∀ l, (t.line l).alternate = (s.line l).alternate
  trunk : ∀ c, (t.channel c).trunk = (s.channel c).trunk
  namer : ∀ n, (t.slot n).primaryNamer = (s.slot n).primaryNamer
  altLines : ∀ n, (t.slot n).altLines = (s.slot n).altLines
  lineLive : ∀ l, (t.line l).state = .vacant → (s.line l).state = .vacant
  channelLive : ∀ c, (t.channel c).state = .vacant → (s.channel c).state = .vacant
  job : t.mp.job = s.mp.job

/-- The agreement stands where no naming differs. -/
theorem KeepsNaming.agree {s t : State} (h : KeepsNaming s t) (ha : NamesAgree s) : NamesAgree t := by
  obtain ⟨a, b, c, d, e, f, g⟩ := ha
  refine ⟨fun n l => ?_, fun n l => ?_, fun n k => ?_, fun l hl => ?_, fun k hk => ?_, fun l p hp => ?_, fun k p hp => ?_⟩
  · rw [h.altLines, h.alternate]; exact a n l
  · rw [h.namer, h.primary]; exact b n l
  · rw [h.namer, h.trunk]; exact c n k
  · rw [h.primary, h.alternate]; exact d l (h.lineLive l hl)
  · rw [h.trunk]; exact e k (h.channelLive k hk)
  · rw [h.primary, h.alternate]; exact f l p (h.job ▸ hp)
  · rw [h.trunk]; exact g k p (h.job ▸ hp)

theorem KeepsNaming.refl (s : State) : KeepsNaming s s :=
  ⟨fun _ => rfl, fun _ => rfl, fun _ => rfl, fun _ => rfl, fun _ => rfl, fun _ h => h, fun _ h => h, rfl⟩

theorem KeepsNaming.trans {s t u : State} (h : KeepsNaming s t) (k : KeepsNaming t u) : KeepsNaming s u where
  primary l := (k.primary l).trans (h.primary l)
  alternate l := (k.alternate l).trans (h.alternate l)
  trunk c := (k.trunk c).trans (h.trunk c)
  namer n := (k.namer n).trans (h.namer n)
  altLines n := (k.altLines n).trans (h.altLines n)
  lineLive l hl := h.lineLive l (k.lineLive l hl)
  channelLive c hc := h.channelLive c (k.channelLive c hc)
  job := k.job.trans h.job

/-- A state with the same lines, channels, slots and command in progress. -/
theorem KeepsNaming.same {s t : State} (hl : t.lines = s.lines := by simp) (hc : t.channels = s.channels := by simp)
    (hs : t.slots = s.slots := by simp) (hj : t.mp.job = s.mp.job := by simp) : KeepsNaming s t where
  primary l := by simp only [State.line, hl]
  alternate l := by simp only [State.line, hl]
  trunk c := by simp only [State.channel, hc]
  namer n := by simp only [State.slot, hs]
  altLines n := by simp only [State.slot, hs]
  lineLive l h := by simpa only [State.line, hl] using h
  channelLive c h := by simpa only [State.channel, hc] using h
  job := hj

/-- A step of a series keeps it, so the series does. -/
theorem KeepsNaming.foldl {ι : Type} (act : State → ι → State) (keeps : ∀ s i, KeepsNaming s (act s i)) (items : List ι) (s : State) :
    KeepsNaming s (items.foldl act s) := by
  induction items generalizing s with
  | nil => exact KeepsNaming.refl s
  | cons i rest ih => exact (keeps s i).trans (ih _)

/-- A line record written with the slots it named, and not made VACANT. -/
theorem KeepsNaming.setLine (s : State) (l : LineNo) (x : Line) (hp : x.primary = (s.line l).primary)
    (ha : x.alternate = (s.line l).alternate) (hv : x.state = .vacant → (s.line l).state = .vacant) :
    KeepsNaming s (s.setLine l x) where
  primary k := by rw [State.line_setLine]; split <;> simp_all
  alternate k := by rw [State.line_setLine]; split <;> simp_all
  trunk c := by simp
  namer n := by simp
  altLines n := by simp
  lineLive k h := by rw [State.line_setLine] at h; split at h <;> simp_all
  channelLive c h := by simpa using h
  job := by simp

/-- A channel record written with the trunk it named, and not made VACANT. -/
theorem KeepsNaming.setChannel (s : State) (c : ChanNo) (x : Channel) (ht : x.trunk = (s.channel c).trunk)
    (hv : x.state = .vacant → (s.channel c).state = .vacant) : KeepsNaming s (s.setChannel c x) where
  primary l := by simp
  alternate l := by simp
  trunk k := by rw [State.channel_setChannel]; split <;> simp_all
  namer n := by simp
  altLines n := by simp
  lineLive l h := by simpa using h
  channelLive k h := by rw [State.channel_setChannel] at h; split at h <;> simp_all
  job := by simp

/-- A slot record written with the namers it had. -/
theorem KeepsNaming.setSlot (s : State) (sl : SlotNo) (x : Slot) (hp : x.primaryNamer = (s.slot sl).primaryNamer)
    (ha : x.altLines = (s.slot sl).altLines) : KeepsNaming s (s.setSlot sl x) where
  primary l := by simp
  alternate l := by simp
  trunk c := by simp
  namer n := by rw [State.slot_setSlot]; split <;> simp_all
  altLines n := by rw [State.slot_setSlot]; split <;> simp_all
  lineLive l h := by simpa using h
  channelLive c h := by simpa using h
  job := by simp

/-- A line record changed, after another act, by a function that keeps its slots and makes nothing VACANT. -/
theorem KeepsNaming.modLine {s t : State} {l : LineNo} {f : Line → Line} (h : KeepsNaming s t)
    (hf : ∀ x, (f x).primary = x.primary ∧ (f x).alternate = x.alternate ∧ ((f x).state = .vacant → x.state = .vacant) := by
      first | exact fun _ => ⟨rfl, rfl, id⟩ | exact fun _ => ⟨rfl, rfl, nofun⟩) :
    KeepsNaming s (t.modLine l f) :=
  h.trans (.setLine t l _ (hf _).1 (hf _).2.1 (hf _).2.2)

/-- A channel record changed so, after another act. -/
theorem KeepsNaming.modChannel {s t : State} {c : ChanNo} {f : Channel → Channel} (h : KeepsNaming s t)
    (hf : ∀ x, (f x).trunk = x.trunk ∧ ((f x).state = .vacant → x.state = .vacant) := by
      first | exact fun _ => ⟨rfl, id⟩ | exact fun _ => ⟨rfl, nofun⟩) : KeepsNaming s (t.modChannel c f) :=
  h.trans (.setChannel t c _ (hf _).1 (hf _).2)

/-- A slot record changed so, after another act. -/
theorem KeepsNaming.modSlot {s t : State} {sl : SlotNo} {f : Slot → Slot} (h : KeepsNaming s t)
    (hf : ∀ x, (f x).primaryNamer = x.primaryNamer ∧ (f x).altLines = x.altLines := by exact fun _ => ⟨rfl, rfl⟩) :
    KeepsNaming s (t.modSlot sl f) :=
  h.trans (.setSlot t sl _ (hf _).1 (hf _).2)

theorem KeepsNaming.joinOwn {s t : State} {b : Option BridgeNo} {g : LegNo} (h : KeepsNaming s t) : KeepsNaming s (t.joinOwn b g) :=
  h.trans .same

theorem KeepsNaming.leaveOwn {s t : State} {b : Option BridgeNo} {g : LegNo} (h : KeepsNaming s t) : KeepsNaming s (t.leaveOwn b g) :=
  h.trans .same

theorem KeepsNaming.listen {s t : State} {b : BridgeNo} {g : LegNo} (h : KeepsNaming s t) : KeepsNaming s (t.listen b g) := h.trans .same

theorem KeepsNaming.modLink {s t : State} {p : Pos} {f : Link → Link} (h : KeepsNaming s t) : KeepsNaming s (t.modLink p f) :=
  h.trans .same

theorem KeepsNaming.freeOwn {s t : State} {b : Option BridgeNo} (h : KeepsNaming s t) : KeepsNaming s (t.freeOwn b) := h.trans .same

theorem KeepsNaming.cancelTimers {s t : State} {ids : List TimerId} (h : KeepsNaming s t) : KeepsNaming s (t.cancelTimers ids) :=
  h.trans .same

theorem KeepsNaming.cancelTimer {s t : State} {id : TimerId} (h : KeepsNaming s t) : KeepsNaming s (t.cancelTimer id) := h.trans .same

theorem KeepsNaming.startTimer {s t : State} {id : TimerId} {ms : Nat} (h : KeepsNaming s t) : KeepsNaming s (t.startTimer id ms) :=
  h.trans .same

theorem KeepsNaming.setSelection {s t : State} {p : Pos} {u : UnitNo} {x : Selection} (h : KeepsNaming s t) :
    KeepsNaming s (t.setSelection p u x) := h.trans .same

theorem KeepsNaming.post {s t : State} {e : Event} (h : KeepsNaming s t) : KeepsNaming s (t.post e) := h.trans (.same rfl rfl rfl rfl)

/-- The end of an act, after it. -/
theorem KeepsNaming.finishAct {s t before : State} {own : Option Pos} {cs : List ChanNo} (h : KeepsNaming s t) :
    KeepsNaming s (finishAct own cs before t) := h.trans .same

/-! ### Trunk slots -/

theorem State.dropSlot_naming (s : State) (sl : Option SlotNo) : KeepsNaming s (s.dropSlot sl) := by
  unfold State.dropSlot
  split
  · exact .refl s
  · exact .modSlot (.refl s)

theorem State.claimLine_naming (s : State) (l : LineNo) (sl : SlotNo) : KeepsNaming s (s.claimLine l sl) :=
  .modLine (.modSlot (.refl s))

theorem State.claimChannel_naming (s : State) (c : ChanNo) (sl : SlotNo) : KeepsNaming s (s.claimChannel c sl) :=
  .joinOwn (.modChannel (.modSlot (.refl s)))

theorem State.claimTrunk_naming (s : State) (c : ChanNo) (sl : Option SlotNo) : KeepsNaming s (s.claimTrunk c sl) := by
  unfold State.claimTrunk
  split
  · exact .refl s
  · split
    · exact s.claimChannel_naming c _
    · exact .refl s

theorem State.endAlert_naming (s : State) (l : LineNo) : KeepsNaming s (s.endAlert l) := by
  unfold State.endAlert
  dsimp only
  split
  · exact .same
  · exact .modLine .same

theorem State.regainLine_naming (s : State) (l : LineNo) (sl : SlotNo) : KeepsNaming s (s.regainLine l sl) := by
  unfold State.regainLine
  dsimp only
  split
  · exact .modLine (s.claimLine_naming l sl)
  · exact .joinOwn (.modLine (s.claimLine_naming l sl))

theorem State.loseRoute_naming (s : State) (l : LineNo) (sl : SlotNo) : KeepsNaming s (s.loseRoute l sl) := by
  unfold State.loseRoute
  split
  · exact .leaveOwn (.modLine (.refl s))
  · exact .leaveOwn (.modLine (.refl s))
  · exact .modLine (s.endAlert_naming l)

theorem State.lineFault_naming (s : State) (l : LineNo) (sl : SlotNo) : KeepsNaming s (s.lineFault l sl) := by
  unfold State.lineFault
  split
  · split
    · exact .joinOwn (.leaveOwn (s.claimLine_naming l _))
    · exact s.loseRoute_naming l sl
  · exact s.loseRoute_naming l sl

theorem State.revert_naming (s : State) (l : LineNo) : KeepsNaming s (s.revert l) := by
  unfold State.revert
  dsimp only
  split
  · exact s.dropSlot_naming _
  · exact (s.dropSlot_naming _).trans (State.claimLine_naming _ l _)

theorem State.serveOne_naming (s : State) (sl : SlotNo) : KeepsNaming s (s.serveOne sl).1 := by
  unfold State.serveOne
  repeat' split
  all_goals first
    | exact .refl s
    | exact s.claimChannel_naming _ _
    | exact s.regainLine_naming _ _

theorem State.serve_naming (fuel : Nat) (s : State) (sl : SlotNo) : KeepsNaming s (State.serve fuel s sl) := by
  induction fuel generalizing s sl with
  | zero => exact .refl s
  | succ n ih =>
    have h := s.serveOne_naming sl
    unfold State.serve
    split
    · simp_all
    · rename_i s1 l he
      rw [he] at h
      repeat' split
      · exact h.trans (s1.revert_naming l)
      · exact (h.trans (s1.revert_naming l)).trans (ih _ _)
      · exact h

theorem State.serveFreed_naming (s : State) (sl : Option SlotNo) : KeepsNaming s (s.serveFreed sl) := by
  cases sl with
  | none => exact .refl s
  | some n => exact State.serve_naming _ s n

theorem State.atRestAll_naming (s : State) (ls : List LineNo) : KeepsNaming s (s.atRestAll ls) := by
  have reverts : ∀ (r : State × List SlotNo), KeepsNaming r.1 (ls.foldl State.revertAtRest r).1 := by
    induction ls with
    | nil => exact fun r => .refl r.1
    | cons l rest ih =>
      intro r
      refine KeepsNaming.trans ?_ (ih _)
      unfold State.revertAtRest
      split
      · exact .post (r.1.revert_naming l)
      · exact .refl r.1
  exact (reverts (s, [])).trans (.foldl _ (fun t n => State.serve_naming _ t n) _ _)

theorem State.routeFromPrimary_naming (s : State) (l : LineNo) (sl : Option SlotNo) : KeepsNaming s (s.routeFromPrimary l sl) := by
  unfold State.routeFromPrimary
  repeat' split
  · exact .modLine (.refl s)
  · exact .modLine (s.claimLine_naming l _)
  · exact .modLine (.refl s)

/-! ### Lines -/

theorem State.dropMonitor_naming (s : State) (l : LineNo) (m : Monitor) : KeepsNaming s (s.dropMonitor l m) :=
  .setSelection (.leaveOwn (.modLine (.refl s)))

theorem State.dropMonitors_naming (s : State) (l : LineNo) (ms : List Monitor) : KeepsNaming s (s.dropMonitors l ms) :=
  .foldl _ (fun t m => t.dropMonitor_naming l m) _ _

theorem State.leaveHandsets_naming (s : State) (b : Option BridgeNo) (os : List Occupant) : KeepsNaming s (s.leaveHandsets b os) :=
  .foldl _ (fun t _ => .leaveOwn (.refl t)) _ _

theorem State.takeDown_naming (s : State) (l : LineNo) : KeepsNaming s (s.takeDown l) := by
  unfold State.takeDown
  exact .modLine (.freeOwn (.cancelTimers ((s.leaveHandsets_naming _ _).trans (State.dropMonitors_naming _ _ _))))

theorem State.rest_naming (s : State) (l : LineNo) : KeepsNaming s (s.rest l) := by
  unfold State.rest
  split <;> exact .modLine (s.takeDown_naming l)

theorem State.returnToRest_naming (s : State) (l : LineNo) : KeepsNaming s (s.returnToRest l) :=
  (s.rest_naming l).trans (State.atRestAll_naming _ _)

theorem State.vacate_naming (s : State) (l : LineNo) (o : Occupant) : KeepsNaming s (s.vacate l o) := by
  unfold State.vacate
  dsimp only
  split
  · exact (KeepsNaming.leaveOwn (.modLine (.refl s))).trans (State.rest_naming _ l)
  · exact .leaveOwn (.modLine (.refl s))

theorem State.releaseOccupant_naming (s : State) (l : LineNo) (o : Occupant) : KeepsNaming s (s.releaseOccupant l o) := by
  unfold State.releaseOccupant
  dsimp only
  split
  · exact (s.vacate_naming l o).trans (State.atRestAll_naming _ _)
  · exact s.vacate_naming l o

theorem State.holdLine_naming (s : State) (l : LineNo) (p : Pos) : KeepsNaming s (s.holdLine l p) := by
  unfold State.holdLine
  dsimp only
  split
  · exact .modLine ((s.leaveHandsets_naming _ _).trans (State.dropMonitors_naming _ _ _))
  · exact .startTimer (.modLine ((s.leaveHandsets_naming _ _).trans (State.dropMonitors_naming _ _ _)))

theorem State.startBurst_naming (s : State) (l : LineNo) : KeepsNaming s (s.startBurst l) := .startTimer (.modLine (.refl s))

theorem State.dealWith_naming (s : State) (o : Occupant) (l : LineNo) : KeepsNaming s (s.dealWith o l) := by
  unfold State.dealWith
  repeat' split
  · exact .refl s
  · exact .refl s
  · exact s.holdLine_naming _ _
  · exact s.releaseOccupant_naming _ _

theorem State.connect_naming (s : State) (l : LineNo) (b : BridgeNo) (o : Occupant) : KeepsNaming s (s.connect l b o) := by
  unfold State.connect
  exact .modLine .same

theorem State.seizeAtRest_naming (s : State) (l : LineNo) (o : Occupant) : KeepsNaming s (s.seizeAtRest l o).2 := by
  have connected : ∀ b, KeepsNaming s ((s.dealWith o l).connect l b o) := fun b =>
    (s.dealWith_naming o l).trans (State.connect_naming _ l b o)
  unfold State.seizeAtRest
  split
  · dsimp only
    split
    · exact .post (.refl s)
    · split
      · exact (connected _).trans (State.endAlert_naming _ l)
      · dsimp only
        split
        · exact (connected _).trans (State.startBurst_naming _ l)
        · exact connected _
  · exact .post (.refl s)

theorem State.seizeConnected_naming (s : State) (l : LineNo) (o : Occupant) : KeepsNaming s (s.seizeConnected l o).2 := by
  unfold State.seizeConnected
  split
  · exact .refl s
  · split
    · dsimp only [State.moveHandset]
      exact .modLine (.joinOwn (.leaveOwn (s.dealWith_naming o l)))
    · split
      · exact .refl s
      · split
        · exact .refl s
        · dsimp only
          exact .modLine (.joinOwn (s.dealWith_naming o l))

theorem State.seizeHeld_naming (s : State) (l : LineNo) (o : Occupant) : KeepsNaming s (s.seizeHeld l o).2 := by
  unfold State.seizeHeld
  split
  · dsimp only
    exact .modLine (.joinOwn (.cancelTimer (s.dealWith_naming o l)))
  · exact .refl s

theorem State.seizeKey_naming (s : State) (p : Pos) (k : Key) (h : Handset) : KeepsNaming s (s.seizeKey p k h).2 := by
  unfold State.seizeKey
  split
  · exact .refl s
  · split
    · exact s.seizeConnected_naming _ _
    · exact s.seizeHeld_naming _ _
    · exact s.seizeAtRest_naming _ _

theorem State.makePrivate_naming (s : State) (l : LineNo) : KeepsNaming s (s.makePrivate l) := .modLine (s.dropMonitors_naming l _)

theorem State.ringStart_naming (s : State) (l : LineNo) : KeepsNaming s (s.ringStart l) := by
  unfold State.ringStart
  dsimp only
  repeat' split
  all_goals first
    | exact .refl s
    | exact .modLine (.refl s)
    | exact .startTimer (.modLine .same)
    | exact .modLine .same
    | exact .same

theorem State.alertToRest_naming (s : State) (l : LineNo) (missed : Bool) : KeepsNaming s (s.alertToRest l missed) :=
  (KeepsNaming.modLine (s.endAlert_naming l)).trans (State.atRestAll_naming _ _)

/-! ### Channels -/

theorem State.openChannel_naming (s : State) (c : ChanNo) (b : BridgeNo) : KeepsNaming s (s.openChannel c b) := .modChannel .same

theorem State.closeIfUnused_naming (s : State) (c : ChanNo) : KeepsNaming s (s.closeIfUnused c) := by
  unfold State.closeIfUnused
  split
  · exact .modChannel (.freeOwn (.refl s))
  · exact .refl s

theorem State.releaseSelection_naming (s : State) (p : Pos) (u : UnitNo) : KeepsNaming s (s.releaseSelection p u) := by
  unfold State.releaseSelection
  split
  · exact .refl s
  · exact s.dropMonitor_naming _ _
  · exact (KeepsNaming.setSelection (.leaveOwn (.refl s))).trans (State.closeIfUnused_naming _ _)

theorem State.selectChannel_naming (s : State) (p : Pos) (u : UnitNo) (c : ChanNo) : KeepsNaming s (s.selectChannel p u c) := by
  have h : KeepsNaming s ((s.releaseSelection p u).setSelection p u (.channel c)) := .setSelection (s.releaseSelection_naming p u)
  unfold State.selectChannel
  dsimp only
  repeat' split
  · exact .listen (h.trans (State.openChannel_naming _ _ _))
  · exact .listen h
  · exact h

theorem State.monitorLine_naming (s : State) (p : Pos) (u : UnitNo) (l : LineNo) : KeepsNaming s (s.monitorLine p u l) := by
  have h : KeepsNaming s ((s.releaseSelection p u).modLine l fun x => { x with monitors := x.monitors ++ [⟨p, u⟩] }) :=
    .modLine (s.releaseSelection_naming p u)
  unfold State.monitorLine
  dsimp only
  split
  · exact .setSelection (.listen h)
  · exact .setSelection h

theorem State.addTalker_naming (s : State) (c : ChanNo) (e : FloorEntry) : KeepsNaming s (s.addTalker c e) := by
  refine (KeepsNaming.modChannel (t := s) (c := c) (f := fun x => { x with talkers := x.talkers ++ [e] }) (.refl s)).trans ?_
  exact .same (by simp [State.addTalker]) (by simp [State.addTalker]) (by simp [State.addTalker]) (by simp [State.addTalker])

theorem State.grantHead_naming (s : State) (c : ChanNo) : KeepsNaming s (s.grantHead c) := by
  unfold State.grantHead
  repeat' split
  · exact .refl s
  · exact (KeepsNaming.modChannel (.refl s)).trans (State.addTalker_naming _ _ _)
  · exact .refl s

theorem State.grantAll_naming (n : Nat) (s : State) (c : ChanNo) : KeepsNaming s (State.grantAll n s c) := by
  induction n generalizing s with
  | zero => exact .refl s
  | succ n ih => exact (s.grantHead_naming c).trans (ih _)

theorem State.silenceMic_naming (s : State) (c : ChanNo) (p : Pos) : KeepsNaming s (s.silenceMic c p) := .leaveOwn (.cancelTimer (.refl s))

theorem State.removeEntry_naming (s : State) (c : ChanNo) (p : Pos) : KeepsNaming s (s.removeEntry c p) := by
  unfold State.removeEntry
  split
  · exact (((KeepsNaming.modChannel (.refl s)).trans (State.silenceMic_naming _ _ _)).trans (State.grantHead_naming _ _)).trans
      (State.closeIfUnused_naming _ _)
  · exact .modChannel (.refl s)

theorem State.writeMaximum_naming (s : State) (c : ChanNo) (n : Nat) : KeepsNaming s (s.writeMaximum c n) := by
  unfold State.writeMaximum State.lowerMaximum
  split
  · exact .modChannel (.foldl _ (fun t _ => t.silenceMic_naming c _) _ _)
  · exact (KeepsNaming.modChannel (.refl s)).trans (State.grantAll_naming _ _ _)

theorem State.channelFault_naming (s : State) (c : ChanNo) (sl : SlotNo) : KeepsNaming s (s.channelFault c sl) :=
  .leaveOwn (.modChannel (.refl s))

theorem State.releaseUnits_naming (s : State) (p : Pos) (c : ChanNo) : KeepsNaming s (s.releaseUnits p c) :=
  .foldl _ (fun t u => t.releaseSelection_naming p u) _ _

theorem State.teardown_naming (s : State) (p : Pos) : KeepsNaming s (s.teardown p) := by
  have left : KeepsNaming s (s.releaseHandsets p) := by
    refine KeepsNaming.trans (.foldl _ (fun t o => ?_) _ _) (State.atRestAll_naming _ _)
    unfold State.vacateHandset
    split
    · exact .refl t
    · exact t.vacate_naming _ o
  have silent : KeepsNaming s ((s.releaseHandsets p).dropAllMonitors p) := by
    refine left.trans (.foldl _ (fun t u => ?_) _ _)
    split
    · exact t.dropMonitor_naming _ _
    · exact .refl t
  exact .modLink (.finishAct (silent.trans (.foldl _ (fun t c => t.removeEntry_naming c p) _ _)))

/-! ### One naming added or removed (R131) -/

theorem State.nameSlot_slot (s : State) (sl n : SlotNo) (f : Slot → Slot) :
    ((s.nameSlot sl f).slot n).primaryNamer = (if n = sl then (f (s.slot sl)).primaryNamer else (s.slot n).primaryNamer) ∧
      ((s.nameSlot sl f).slot n).altLines = (if n = sl then (f (s.slot sl)).altLines else (s.slot n).altLines) := by
  unfold State.nameSlot
  split
  · dsimp only
    split <;> by_cases h : n = sl <;> simp [State.slot_setSlot, h]
  · by_cases h : n = sl <;> simp [State.slot_setSlot, h]

theorem State.unnameSlot_slot (s : State) (sl n : SlotNo) (f : Slot → Slot) :
    ((s.unnameSlot sl f).slot n).primaryNamer = (if n = sl then (f (s.slot sl)).primaryNamer else (s.slot n).primaryNamer) ∧
      ((s.unnameSlot sl f).slot n).altLines = (if n = sl then (f (s.slot sl)).altLines else (s.slot n).altLines) := by
  unfold State.unnameSlot
  dsimp only
  split <;> by_cases h : n = sl <;> simp [State.slot_setSlot, h]

/-- A record that comes to name a slot as primary or trunk is its primary namer, and nothing else is named otherwise. -/
theorem State.namePrimary_slot (s : State) (sl : Option SlotNo) (o : Owner) (n : SlotNo) :
    ((s.namePrimary sl o).slot n).primaryNamer = (if sl = some n then some o else (s.slot n).primaryNamer) ∧
      ((s.namePrimary sl o).slot n).altLines = (s.slot n).altLines := by
  cases sl with
  | none => simp [State.namePrimary]
  | some m => by_cases h : n = m <;> simp [State.namePrimary, State.nameSlot_slot, h, eq_comm]

/-- A line that comes to name a slot as alternate is one of its alternate namers. -/
theorem State.nameAlternate_slot (s : State) (sl : Option SlotNo) (l : LineNo) (n : SlotNo) :
    ((s.nameAlternate sl l).slot n).primaryNamer = (s.slot n).primaryNamer ∧
      ((s.nameAlternate sl l).slot n).altLines = (if sl = some n then insertAsc l (s.slot n).altLines else (s.slot n).altLines) := by
  cases sl with
  | none => simp [State.nameAlternate]
  | some m => by_cases h : n = m <;> simp [State.nameAlternate, State.nameSlot_slot, h, eq_comm]

/-- A slot that a record ceases to name as primary or trunk has no primary namer. -/
theorem State.unnamePrimary_slot (s : State) (sl : Option SlotNo) (n : SlotNo) :
    ((s.unnamePrimary sl).slot n).primaryNamer = (if sl = some n then none else (s.slot n).primaryNamer) ∧
      ((s.unnamePrimary sl).slot n).altLines = (s.slot n).altLines := by
  cases sl with
  | none => simp [State.unnamePrimary]
  | some m => by_cases h : n = m <;> simp [State.unnamePrimary, State.unnameSlot_slot, h, eq_comm]

/-- A slot that a line ceases to name as alternate has lost it among its alternate namers. -/
theorem State.unnameAlternate_slot (s : State) (sl : Option SlotNo) (l : LineNo) (n : SlotNo) :
    ((s.unnameAlternate sl l).slot n).primaryNamer = (s.slot n).primaryNamer ∧
      ((s.unnameAlternate sl l).slot n).altLines =
        (if sl = some n then (s.slot n).altLines.filter (fun m => m != l) else (s.slot n).altLines) := by
  cases sl with
  | none => simp [State.unnameAlternate]
  | some m => by_cases h : n = m <;> simp [State.unnameAlternate, State.unnameSlot_slot, h, eq_comm]

/-- The members of an ascending list with one inserted. -/
theorem mem_insertAsc {n : Nat} (new x : Fin n) (set : List (Fin n)) : x ∈ insertAsc new set ↔ x = new ∨ x ∈ set := by
  simp only [insertAsc, List.mem_append, List.mem_filter, List.mem_cons, decide_eq_true_eq]
  rcases lt_trichotomy x new with h | h | h
  · simp [h, h.ne, h.le]
  · simp [h]
  · simp [h, h.ne', h.le]

end Sys2Proof.Machine
end

