-- ==== Sys2Proof/WellFormed.lean ====
section
/-! DEFINITION. Which terms of `Instr` stand for a command of their row. Each check names the rule that bounds the operand.
The meanings are total all the same: a term that fails a check is carried out as what its words or bytes say. -/

namespace Sys2Proof.WellFormed

open Machine

/-- The assembly takes at most five field bytes (R168). -/
def fieldsOk (fields : List Byte) : Bool := fields.length ≤ Config.maxFields

/-- Code 00h between messages is fill and starts no message (R168); a code of Table 7 belongs to its own row. -/
def unknownRequestOk (code : Byte) (fields : List Byte) : Bool :=
  fieldsOk fields && code != 0x00#8 && !isRequestCode code

/-- The code names none of the commands (R189). -/
def unknownCommandOk (code : Byte) : Bool := !isCommandCode code

/-- One sample per trunk slot and sample frame (scope section 5, "Sample frame"). -/
def trunkOk (trunk : List (SlotNo × Sample)) : Bool := (trunk.map Prod.fst).Nodup

/-- A READ transaction (R181): of a record (R182, R183), or of a control word, for which the table has no row of its own (R184,
log entry 16). -/
def recordReadOk (w0 : Word) : Bool := !isWrite w0

/-- A WRITE transaction with no effect (R184). -/
def ignoredWriteOk (w0 w2 d : Word) : Bool :=
  isWrite w0 && (!isControl w0 || !controlWriteActs w2.toNat d)

end Sys2Proof.WellFormed

namespace Sys2Proof

open Machine

/-- The well-formed commands. -/
def wellFormed (i : Instr) : Bool :=
  match i with
  | .seize _ f | .retrieve _ f | .release _ f | .hold _ f | .privacy _ f | .signal _ f | .acknowledge _ f
  | .queryLine _ f | .queryChannel _ f | .speakerLine _ f | .speakerChannel _ f | .speakerClear _ f
  | .talkOn _ f | .talkOff _ f => WellFormed.fieldsOk f
  | .unknownRequest _ code f => WellFormed.unknownRequestOk code f
  | .createLine _ | .setLine _ | .retireLine _ | .addAppearance _ | .dropAppearance _ | .forceRelease _
  | .createChannel _ | .setChannel _ | .retireChannel _ | .addMember _ | .dropMember _ | .permit _ | .unpermit _
  | .forceUntalk _ | .setLeg _ | .setSlot _ | .setCadence _ | .setPosition _ | .setTiming _ | .clearMarks _
  | .floorReset _ | .cmdOverrun => true
  | .unknownCommand code _ => WellFormed.unknownCommandOk code
  | .floorResetLines | .floorResetChannels | .floorResetRoutes | .floorResetGroups | .floorResetCompletion
  | .lineSweepVisit | .channelSweepVisit => true
  | .deadlineExpiry _ | .ringTimeoutExpiry _ | .holdRecallExpiry _ | .burstExpiry _ | .silenceExpiry _ _
  | .graceExpiry _ | .qualifyExpiry _ | .faultConfirmExpiry _ | .restoreExpiry _ | .cadencePhaseEnd _
  | .mixBlockEnd | .activityReport _ => true
  | .sampleFrame trunk => WellFormed.trunkOk trunk
  | .huntFrame _ bytes => bytes.length ≤ Config.upstreamBytes
  | .goodFrame _ bytes => isGoodFrame bytes
  | .badFrame _ bytes => bytes.length ≤ Config.upstreamBytes && !isGoodFrame bytes
  | .downstreamFrame _ | .ringDetectChange _ _ | .aliveChange _ _ | .resetInput => true
  | .recordRead w0 _ _ _ _ => WellFormed.recordReadOk w0
  | .linearCrossing _ | .eventFlagsClear _ | .eventEnablesWrite _ | .commandBufferWrite _ _ => true
  | .ignoredWrite w0 _ w2 d => WellFormed.ignoredWriteOk w0 w2 d

end Sys2Proof
end

