-- ==== Sys2Proof/Laws/PerInstr.lean ====
section
/-! SUPPORT. What being well formed says of the operands of each command: the messages and frames fit what carries them, the commands
of the unknown rows are no command of another row, and reads and writes are told apart. One lemma per row of the table. -/

namespace Sys2Proof.Laws

open Machine

/-- The operands of a command fit their carrier: a message has at most five field bytes (R168), an unknown request is none of Table 7
(R172), an unknown command none of Table 5 (R189), a frame has at most ten bytes (R165), a sample frame at most one sample per slot,
and a transaction has the direction of its row (R181, R184). -/
def operandsFit (i : Instr) : Prop :=
  match i with
  | .seize _ f | .retrieve _ f | .release _ f | .hold _ f | .privacy _ f | .signal _ f | .acknowledge _ f
  | .queryLine _ f | .queryChannel _ f | .speakerLine _ f | .speakerChannel _ f | .speakerClear _ f
  | .talkOn _ f | .talkOff _ f => f.length ≤ 5
  | .unknownRequest _ code f => f.length ≤ 5 ∧ decodeRequest ⟨code, f⟩ = none
  | .unknownCommand code _ => code.toNat = 0 ∨ 0x15 < code.toNat
  | .sampleFrame trunk => trunk.length ≤ 256
  | .huntFrame _ bytes => bytes.length ≤ 10
  | .goodFrame _ bytes => bytes.length = 10 ∧ byteSum bytes = 255
  | .badFrame _ bytes => bytes.length ≤ 10 ∧ isGoodFrame bytes = false
  | .recordRead w0 _ _ _ _ => w0.getLsbD 0 = false
  | .ignoredWrite w0 _ w2 d => w0.getLsbD 0 = true ∧ (w0.getLsbD 1 = false ∨ controlWriteActs w2.toNat d = false)
  | _ => True

/-- A code outside Table 7 decodes to no request, whatever its fields. -/
theorem decodeRequest_unknown (code : Byte) (f : List Byte) (h : isRequestCode code = false) :
    decodeRequest ⟨code, f⟩ = none := by
  unfold decodeRequest
  split <;> first | rfl | (rename_i heq _; simp [isRequestCode, heq] at h)

/-- A message whose fields are in order has at most five of them. -/
theorem fields_le (f : List Byte) (h : WellFormed.fieldsOk f = true) : f.length ≤ 5 := of_decide_eq_true h

/-- A list that names each slot at most once has at most 256 entries. -/
theorem trunk_length (trunk : List (SlotNo × Sample)) (h : WellFormed.trunkOk trunk = true) : trunk.length ≤ 256 := by
  have hn : (trunk.map Prod.fst).Nodup := by simpa [WellFormed.trunkOk] using h
  simpa using hn.length_le_card

end Sys2Proof.Laws

namespace Sys2Proof.Laws.WellFormedOperands

open Machine

/-- The operands of a well-formed command fit their carrier. -/
def Statement (i : Instr) : Prop := wellFormed i = true → operandsFit i

theorem seize (p : Pos) (f : List Byte) : Statement (.seize p f) :=
  fun h => fields_le f h

theorem retrieve (p : Pos) (f : List Byte) : Statement (.retrieve p f) :=
  fun h => fields_le f h

theorem release (p : Pos) (f : List Byte) : Statement (.release p f) :=
  fun h => fields_le f h

theorem hold (p : Pos) (f : List Byte) : Statement (.hold p f) :=
  fun h => fields_le f h

theorem privacy (p : Pos) (f : List Byte) : Statement (.privacy p f) :=
  fun h => fields_le f h

theorem signal (p : Pos) (f : List Byte) : Statement (.signal p f) :=
  fun h => fields_le f h

theorem acknowledge (p : Pos) (f : List Byte) : Statement (.acknowledge p f) :=
  fun h => fields_le f h

theorem queryLine (p : Pos) (f : List Byte) : Statement (.queryLine p f) :=
  fun h => fields_le f h

theorem queryChannel (p : Pos) (f : List Byte) : Statement (.queryChannel p f) :=
  fun h => fields_le f h

theorem speakerLine (p : Pos) (f : List Byte) : Statement (.speakerLine p f) :=
  fun h => fields_le f h

theorem speakerChannel (p : Pos) (f : List Byte) : Statement (.speakerChannel p f) :=
  fun h => fields_le f h

theorem speakerClear (p : Pos) (f : List Byte) : Statement (.speakerClear p f) :=
  fun h => fields_le f h

theorem talkOn (p : Pos) (f : List Byte) : Statement (.talkOn p f) :=
  fun h => fields_le f h

theorem talkOff (p : Pos) (f : List Byte) : Statement (.talkOff p f) :=
  fun h => fields_le f h

theorem unknownRequest (p : Pos) (code : Byte) (f : List Byte) : Statement (.unknownRequest p code f) := by
  intro h
  simp only [wellFormed, WellFormed.unknownRequestOk, Bool.and_eq_true] at h
  exact ⟨fields_le f h.1.1, decodeRequest_unknown code f (by simpa using h.2)⟩

theorem createLine (w : CmdWords) : Statement (.createLine w) := fun _ => trivial

theorem setLine (w : CmdWords) : Statement (.setLine w) := fun _ => trivial

theorem retireLine (w : CmdWords) : Statement (.retireLine w) := fun _ => trivial

theorem addAppearance (w : CmdWords) : Statement (.addAppearance w) := fun _ => trivial

theorem dropAppearance (w : CmdWords) : Statement (.dropAppearance w) := fun _ => trivial

theorem forceRelease (w : CmdWords) : Statement (.forceRelease w) := fun _ => trivial

theorem createChannel (w : CmdWords) : Statement (.createChannel w) := fun _ => trivial

theorem setChannel (w : CmdWords) : Statement (.setChannel w) := fun _ => trivial

theorem retireChannel (w : CmdWords) : Statement (.retireChannel w) := fun _ => trivial

theorem addMember (w : CmdWords) : Statement (.addMember w) := fun _ => trivial

theorem dropMember (w : CmdWords) : Statement (.dropMember w) := fun _ => trivial

theorem permit (w : CmdWords) : Statement (.permit w) := fun _ => trivial

theorem unpermit (w : CmdWords) : Statement (.unpermit w) := fun _ => trivial

theorem forceUntalk (w : CmdWords) : Statement (.forceUntalk w) := fun _ => trivial

theorem setLeg (w : CmdWords) : Statement (.setLeg w) := fun _ => trivial

theorem setSlot (w : CmdWords) : Statement (.setSlot w) := fun _ => trivial

theorem setCadence (w : CmdWords) : Statement (.setCadence w) := fun _ => trivial

theorem setPosition (w : CmdWords) : Statement (.setPosition w) := fun _ => trivial

theorem setTiming (w : CmdWords) : Statement (.setTiming w) := fun _ => trivial

theorem clearMarks (w : CmdWords) : Statement (.clearMarks w) := fun _ => trivial

theorem floorReset (w : CmdWords) : Statement (.floorReset w) := fun _ => trivial

theorem unknownCommand (code : Byte) (w : CmdWords) : Statement (.unknownCommand code w) := by
  intro h
  have hc : isCommandCode code = false := by simpa [wellFormed, WellFormed.unknownCommandOk] using h
  simp only [isCommandCode, Bool.and_eq_false_iff, decide_eq_false_iff_not, not_le] at hc
  simp only [operandsFit]
  omega

theorem cmdOverrun : Statement .cmdOverrun := fun _ => trivial

theorem floorResetLines : Statement .floorResetLines := fun _ => trivial

theorem floorResetChannels : Statement .floorResetChannels := fun _ => trivial

theorem floorResetRoutes : Statement .floorResetRoutes := fun _ => trivial

theorem floorResetGroups : Statement .floorResetGroups := fun _ => trivial

theorem floorResetCompletion : Statement .floorResetCompletion := fun _ => trivial

theorem lineSweepVisit : Statement .lineSweepVisit := fun _ => trivial

theorem channelSweepVisit : Statement .channelSweepVisit := fun _ => trivial

theorem deadlineExpiry (t : TimerId) : Statement (.deadlineExpiry t) := fun _ => trivial

theorem ringTimeoutExpiry (l : LineNo) : Statement (.ringTimeoutExpiry l) := fun _ => trivial

theorem holdRecallExpiry (l : LineNo) : Statement (.holdRecallExpiry l) := fun _ => trivial

theorem burstExpiry (l : LineNo) : Statement (.burstExpiry l) := fun _ => trivial

theorem silenceExpiry (c : ChanNo) (p : Pos) : Statement (.silenceExpiry c p) := fun _ => trivial

theorem graceExpiry (p : Pos) : Statement (.graceExpiry p) := fun _ => trivial

theorem qualifyExpiry (sl : SlotNo) : Statement (.qualifyExpiry sl) := fun _ => trivial

theorem faultConfirmExpiry (sl : SlotNo) : Statement (.faultConfirmExpiry sl) := fun _ => trivial

theorem restoreExpiry (sl : SlotNo) : Statement (.restoreExpiry sl) := fun _ => trivial

theorem cadencePhaseEnd (g : GenNo) : Statement (.cadencePhaseEnd g) := fun _ => trivial

theorem mixBlockEnd : Statement .mixBlockEnd := fun _ => trivial

theorem activityReport (c : ChanNo) : Statement (.activityReport c) := fun _ => trivial

theorem sampleFrame (trunk : List (SlotNo × Sample)) : Statement (.sampleFrame trunk) :=
  fun h => trunk_length trunk h

theorem huntFrame (p : Pos) (bytes : List Byte) : Statement (.huntFrame p bytes) :=
  fun h => of_decide_eq_true (p := bytes.length ≤ 10) h

theorem goodFrame (p : Pos) (bytes : List Byte) : Statement (.goodFrame p bytes) := by
  intro h
  simp only [wellFormed, isGoodFrame, Config.upstreamBytes, Bool.and_eq_true, beq_iff_eq] at h
  exact ⟨h.1.1, h.2⟩

theorem badFrame (p : Pos) (bytes : List Byte) : Statement (.badFrame p bytes) := by
  intro h
  simp only [wellFormed, Bool.and_eq_true, Bool.not_eq_true'] at h
  exact ⟨of_decide_eq_true (p := bytes.length ≤ 10) h.1, h.2⟩

theorem downstreamFrame (p : Pos) : Statement (.downstreamFrame p) := fun _ => trivial

theorem ringDetectChange (sl : SlotNo) (high : Bool) : Statement (.ringDetectChange sl high) := fun _ => trivial

theorem aliveChange (sl : SlotNo) (present : Bool) : Statement (.aliveChange sl present) := fun _ => trivial

theorem resetInput : Statement .resetInput := fun _ => trivial

theorem recordRead (w0 w1 w2 : Word) (words : Nat) (waited : Bool) : Statement (.recordRead w0 w1 w2 words waited) := by
  intro h; simpa [operandsFit, wellFormed, WellFormed.recordReadOk, isWrite, bit] using h

theorem linearCrossing (words : Nat) : Statement (.linearCrossing words) := fun _ => trivial

theorem eventFlagsClear (d : Word) : Statement (.eventFlagsClear d) := fun _ => trivial

theorem eventEnablesWrite (d : Word) : Statement (.eventEnablesWrite d) := fun _ => trivial

theorem commandBufferWrite (i : Fin 8) (d : Word) : Statement (.commandBufferWrite i d) := fun _ => trivial

theorem ignoredWrite (w0 w1 w2 d : Word) : Statement (.ignoredWrite w0 w1 w2 d) := by
  intro h; simpa [operandsFit, wellFormed, WellFormed.ignoredWriteOk, isWrite, isControl, bit] using h

end Sys2Proof.Laws.WellFormedOperands
end

