-- ==== Sys2Proof/Tests/Slice0.lean ====
section
/-! SUPPORT. Small tests: ill-formed terms that WellFormed refuses, single steps whose results the spec states, and for each statement
with hypotheses a concrete state and operands that meet them together. -/

namespace Sys2Proof.Tests

open Machine Safety

set_option Elab.async false

/-! ### WellFormed refuses an ill-formed term of each check -/

theorem test_fields_too_long : wellFormed (.seize 0 [0, 0, 0, 0, 0, 0]) = false := by decide
theorem test_unknown_request_of_table : wellFormed (.unknownRequest 0 0x0E#8 [0]) = false := by decide
theorem test_unknown_request_fill : wellFormed (.unknownRequest 0 0x00#8 []) = false := by decide
theorem test_unknown_request_long : wellFormed (.unknownRequest 0 0x7F#8 [0, 0, 0, 0, 0, 0]) = false := by decide
theorem test_unknown_command_of_table : wellFormed (.unknownCommand 0x15#8 ⟨0, 0, 0, 0, 0, 0, 0, 0⟩) = false := by
  decide
theorem test_slot_sampled_twice : wellFormed (.sampleFrame [(3, 1), (3, 2)]) = false := by decide
theorem test_hunt_frame_long : wellFormed (.huntFrame 0 [0, 0, 0, 0, 0, 0, 0, 0, 0, 0, 0]) = false := by decide
theorem test_good_frame_bad_check : wellFormed (.goodFrame 0 [0xC3, 0x5A, 0, 0, 0, 0, 0, 0, 0, 0]) = false := by decide
theorem test_good_frame_short : wellFormed (.goodFrame 0 [0xC3, 0x5A, 0xE2]) = false := by decide
theorem test_bad_frame_good : wellFormed (.badFrame 0 [0xC3, 0x5A, 0, 0, 0, 0, 0, 0, 0, 0xE2]) = false := by decide
theorem test_record_read_is_write : wellFormed (.recordRead 0x0001#16 0 0 1 false) = false := by decide
theorem test_ignored_write_acts : wellFormed (.ignoredWrite 0x0003#16 0 6 0) = false := by decide
theorem test_ignored_write_go : wellFormed (.ignoredWrite 0x0003#16 0 16 0x8000#16) = false := by decide
theorem test_no_row_has_bits : decodeTableWord 16 0x1234 = none := by decide

/-! ### Numbers that the spec states -/

/-- R111: with h = 0, R = −64 gives 0 and R = −65 gives −1. -/
theorem test_shift_rounds_half_up : shiftDown (-64) 0 = 0 ∧ shiftDown (-65) 0 = -1 ∧ shiftDown 64 0 = 1 := by decide +kernel
/-- R112: a volume of 128 leaves the value, 0 silences it. -/
theorem test_volume : scale (-300) 128 = -300 ∧ scale (-300) 0 = 0 := by decide +kernel
/-- R113. -/
theorem test_saturation : saturate 32768 = 32767 ∧ saturate (-32769) = -32768 ∧ saturate 32767 = 32767 := by decide +kernel
/-- R115, Table 5. -/
theorem test_floor : [0, 2, 3, 4, 5, 8].map headroomFloor = [0, 0, 1, 1, 2, 2] := by decide
/-- R160: a recall of 60 s read 200 ms after its start is 59800; a ring timeout of 255 s read at once is 65535. -/
theorem test_remaining :
    Timer.remaining ⟨true, 60000, 16 * 59800, 1⟩ = 59800 ∧ (Timer.start Timer.stopped 255000).remaining = 65535 := by decide
/-- R165: the sync pair and a sum of FFh make a good frame. -/
theorem test_good_frame : isGoodFrame [0xC3, 0x5A, 0, 0, 0, 0, 0, 0, 0, 0xE2] = true := by decide
/-- Chapter 11, Table 7: SEIZE of key 4 with handset R is 01h, then fields 04h 01h. -/
theorem test_seize_message : decodeRequest ⟨0x01#8, [0x04#8, 0x01#8]⟩ = some (.seize 4 .right) := by decide
/-- R172: a handset field of 2 names no code. -/
theorem test_handset_field : decodeRequest ⟨0x03#8, [0x02#8]⟩ = none := by decide

/-! ### States of the witnesses -/

/-- A line IDLE on its primary, slot 10, with appearances at positions 0 and 1. -/
def lineAtRest : Line :=
  { Line.vacant with
    state := .idle, primary := some 10, route := .primary, appearances := [⟨0, 3, true⟩, ⟨1, 3, false⟩] }

/-- Line 5 at rest under key 3 of positions 0 and 1, whose links are LOCKED. -/
def base : State :=
  (((((State.reset.setLine 5 lineAtRest).setKey 0 3 (some 5)).setKey 1 3 (some 5)).setSlot 10
    { Slot.initial with state := .active, claimant := some (.line 5), primaryNamer := some (.line 5) }).setLink 0
    { Link.initial with state := .locked }).setLink 1 { Link.initial with state := .locked }

/-- The link of position 0 has one complete request. -/
def asking (s : State) (t : TurretRequest) : State := s.modLink 0 fun x => { x with requests := [t.message] }

/-- Line 5 changed. -/
def withLine (f : Line → Line) : State := base.modLine 5 f

/-- Line 5 CONNECTED on bridge 0 with the occupants given. -/
def connected (os : List Occupant) : State :=
  (withLine fun x => { x with state := .connected, occupants := os, bridge := some 0 }).setBridge 0
    { Bridge.free with
      state := .inUse, owner := some (.line 5), contributors := trunkLeg 10 :: os.map fun o => handsetLeg o.pos o.handset
      receivers := 1 + os.length }

/-- Line 5 HELD by position 0 on bridge 0. -/
def held : State :=
  (withLine fun x => { x with state := .held, holdOwner := some 0, bridge := some 0 }).setBridge 0
    { Bridge.free with state := .inUse, owner := some (.line 5), contributors := [trunkLeg 10], receivers := 1 }

/-- Channel 2, a hoot that positions 0 and 1 may hear and talk on. -/
def hoot : Channel := { Channel.vacant with state := .closed, listen := [0, 1], talk := [0, 1] }

/-- Channel 2 OPEN on bridge 1 with unit 0 of position 1 listening and the floor given. -/
def opened (talkers queue : List FloorEntry) : State :=
  ((base.setChannel 2 { hoot with state := .opened, bridge := some 1, talkers := talkers, queue := queue }).setBridge 1
    { Bridge.free with
      state := .inUse, owner := some (.channel 2), contributors := talkers.map fun e => micLeg e.pos
      receivers := 1 }).setSelection 1 0 (.channel 2)

/-- Channel 2 is a group with position 0 as member on unit 4. -/
def grouped : State :=
  (base.setChannel 2
    { Channel.vacant with
      kind := .group, state := .opened, members := [⟨0, 4⟩], bridge := some 1 }).setSelection 0 4 (.channel 2)

/-- Every bridge is IN-USE. -/
def noBridgeFree (s : State) : State :=
  { s with bridges := Vector.replicate 96 (Bridge.allocated (.channel 9) ⟨.fixed, 0⟩) }

/-- A command is in progress. -/
def during (s : State) (j : Job) : State := { s with mp := { s.mp with slot := .busy, job := some j } }

/-- An expiry of the timer's current run is in flight. -/
def expiring (s : State) (t : TimerId) : State := { s with inFlight := [⟨t, (s.timer t).run⟩] }

/-- Command words 1 to 7 with bits 8–15 of word 0. -/
def words (hi : Byte) (w1 w2 w3 w4 w5 w6 w7 : Word) : CmdWords := ⟨hi, w1, w2, w3, w4, w5, w6, w7⟩

/-- Position 0 has asked `t` and RE serves it next. -/
abbrev Asked (s : State) (t : TurretRequest) : Prop := Ready s 0 t.message ∧ s.resetting = false

/-- A command can be taken. -/
abbrev Open (s : State) : Prop := s.mp.slot ≠ .busy

/-- Line 6 beside line 5, under key 4 of position 0 and ACTIVE on slot 20. -/
def beside (f : Line → Line) (s : State) : State :=
  ((s.setLine 6 (f { lineAtRest with primary := some 20, appearances := [⟨0, 4, true⟩] })).setKey 0 4 (some 6)).setSlot 20
    { Slot.initial with state := .active, claimant := some (.line 6), primaryNamer := some (.line 6) }

/-- Handset L of position 0 is in use on line 5 under switch action `a`, and line 6 stands beside it. -/
def switching (a : SwitchAction) (f : Line → Line) : State :=
  beside f ((connected [⟨0, .left⟩]).modLink 0 fun x => { x with switchAction := a })

/-- Line `l` on its alternate `sl`, with its primary STANDBY. -/
def onAlternate (l : LineNo) (p sl : SlotNo) (s : State) : State :=
  ((s.modLine l fun x => { x with route := .alternate, primary := some p, alternate := some sl }).modSlot p fun x =>
    { x with state := .standby, claimant := none, primaryNamer := some (.line l) }).setSlot sl
    { Slot.initial with state := .active, claimant := some (.line l), altLines := [l] }

/-- Both handsets of position 0 are last on lines that would revert, and a HELD line 7 waits for the slots that they give up. -/
def twoRevert : State :=
  ((onAlternate 6 20 11 (onAlternate 5 10 21 (switching .release fun x =>
      { x with state := .connected, occupants := [⟨0, .right⟩], bridge := some 1 }))).modSlot 21 fun x =>
    { x with primaryNamer := some (.line 7) }).setLine 7
    { lineAtRest with
      state := .held, holdOwner := some 2, bridge := some 2, primary := some 21, alternate := some 11, route := .none
      marks := { lineAtRest.marks with noRoute := true }, appearances := [] }

/-- A good upstream frame with the message byte given. -/
def frame (m : Byte) : List Byte :=
  let others := [0xC3#8, 0x5A#8, 0, 1, 0, 2, 0, 3, m]
  others ++ [checkByte others]

/-- A step on `s` answers a next state of which `f` holds. -/
def after (i : Instr) (s : State) (f : State → Bool) : Bool :=
  match exec i s with
  | .next u => f u
  | _ => false

/-! ### Single steps -/

/-- R26: the trunk leg, then the handset, are the contributors; the other position is told. -/
theorem test_seize_connects : 
    after (.seize 0 [3, 0]) (asking base (.seize 3 .left)) (fun u =>
      (u.line 5).state == .connected && (u.bridge 0).contributors == [538, 0] &&
        (u.link 1).indications.map Indication.subject == [.key 3]) = true := by decide +kernel

/-- R36: the trunk leg stays the sole contributor. -/
theorem test_hold_keeps_bridge : 
    after (.hold 0 [0]) (asking (connected [⟨0, .left⟩]) (.hold .left)) (fun u =>
      (u.line 5).state == .held && (u.bridge 0).contributors == [538] &&
        (u.timer (.holdRecall 5)).framesLeft == 960000) = true := by decide +kernel

/-- R33: the last release frees the bridge. -/
theorem test_release_rests : 
    after (.release 0 [0]) (asking (connected [⟨0, .left⟩]) (.release .left)) (fun u =>
      (u.line 5).state == .idle && (u.bridge 0) == Bridge.free) = true := by decide +kernel

/-- R24: an empty key is refused NOT-APPEARING. -/
theorem test_empty_key_not_appearing : 
    after (.seize 0 [4, 0]) (asking base (.seize 4 .left)) (fun u =>
      (u.link 0).answers == [⟨0x01#8, .refused .notAppearing⟩]) = true := by decide +kernel

/-- R77: with the talker list full the entry is queued. -/
theorem test_talk_on_queued : 
    after (.talkOn 0 [2, 1]) (asking (opened [⟨5, false⟩, ⟨6, true⟩] []) (.talkOn 2 true)) (fun u =>
      (u.link 0).answers == [⟨0x0D#8, .queued⟩] && (u.channel 2).queue == [⟨0, true⟩]) = true := by decide +kernel

/-- R12: CREATE-LINE of a record that is not VACANT gives EXISTS. -/
theorem test_create_line_in_use : 
    after (.createLine (words 0 5 0 20 0xFFFF 30 60 2000)) base (fun u => u.mp.result == .exists) = true := by decide +kernel

/-- R22: the visit of position 47 makes the record VACANT and posts DONE. -/
theorem test_retire_sweep_ends : 
    after .lineSweepVisit (during base (.retireLine 5 47)) (fun u =>
      u.line 5 == Line.vacant && u.mp.slot == .done && u.flagged .done) = true := by decide +kernel

/-- R166: the fourth bad frame in a row loses the lock. -/
theorem test_fourth_bad_frame_loses_lock : 
    after (.badFrame 0 []) (base.modLink 0 fun x => { x with badCount := 3 }) (fun u =>
      (u.link 0).state == .hunt && (u.timer (.grace 0)).framesLeft == 32000) = true := by decide +kernel

/-- R187: an enable set while its flag is set makes the interrupt active at once. -/
theorem test_interrupt_of_enabled_flag : 
    after (.eventEnablesWrite 0x0020#16) (base.post .done) (fun u => u.interrupt) = true := by decide +kernel

/-! ### Witnesses: for each statement with hypotheses, states and operands that meet them together, clause by clause -/

theorem witness_StepTakesFrontCommand :
    base.pending = [] := rfl

theorem witness_StepKeepsBounds :
    (LinksBounded base ∧ HeadroomKept (connected [⟨0, .left⟩]) ∧ ListsBounded (opened [⟨0, true⟩] [])) ∧
        step base = .next base := ⟨by decide +kernel, rfl⟩

/-- The slots of `base`: line 5 names slot 10 and no other is named. -/
theorem base_slot : ∀ n : SlotNo, base.slot n =
    if n = 10 then { Slot.initial with state := .active, claimant := some (.line 5), primaryNamer := some (.line 5) }
    else Slot.initial := by decide +kernel

/-- The lines of `base`. -/
theorem base_line : ∀ l : LineNo, base.line l = if l = 5 then lineAtRest else Line.vacant := by decide +kernel

theorem witness_NamesAgree : NamesAgree base ∧ step base = .next base := by
  have vacant : ∀ c : ChanNo, base.channel c = Channel.vacant := by decide +kernel
  refine ⟨⟨fun n l => ?_, fun n l => ?_, fun n c => ?_, fun l h => ?_, fun c h => ?_, fun l p h => ?_, fun c p h => ?_⟩, rfl⟩
  · rw [base_slot, base_line]; split <;> split <;> simp [Slot.initial, lineAtRest, Line.vacant]
  · rw [base_slot, base_line]; split <;> split <;> simp_all [Slot.initial, lineAtRest, Line.vacant, eq_comm]
  · rw [base_slot, vacant]; split <;> simp [Slot.initial, Channel.vacant]
  · rw [base_line] at h ⊢; split at h <;> simp_all [lineAtRest, Line.vacant]
  · rw [vacant]; rfl
  · cases h
  · cases h

theorem witness_MessagesHaveTheirBytes :
    let v : LineView := { lineAtRest.view with occupants := List.replicate 4 ⟨47, .right⟩ };
      let x : ChannelView := { hoot.view with maxTalkers := 3, talkers := List.replicate 3 ⟨47, true⟩, queue := List.replicate 8 ⟨0, false⟩ };
      let y : PositionView := ⟨List.replicate 8 true, true, true, some 7, .queued true 8⟩;
      v.occupants.length = 4 ∧
        x.maxTalkers = 3 ∧ x.talkers.length = 3 ∧ x.queue.length = 8 ∧ y.units.length = 8 ∧
        ∀ (latched : Bool) (place : Nat), y.floor = .queued latched place → place ≤ 8 := 
  ⟨by decide, by decide, by decide, by decide, by decide, fun _ _ h => by injection h with _ h; exact h ▸ Nat.le_refl 8⟩

theorem witness_EngineRefuses_resetting :
    let s := during (base.modLink 0 fun x => { x with requests := [⟨0x0F#8, []⟩] }) (.floorReset .lines);
      Ready s 0 ⟨0x0F#8, []⟩ ∧
        s.resetting = true := by decide +kernel

theorem witness_EngineRefuses_unknown :
    let s := base.modLink 0 fun x => { x with requests := [⟨0x0F#8, []⟩] };
      Ready s 0 ⟨0x0F#8, []⟩ ∧
        s.resetting = false ∧ ∀ t : TurretRequest, t.message ≠ ⟨0x0F#8, []⟩ := 
  ⟨by decide +kernel, by decide +kernel, by intro t h; cases t <;> simp [TurretRequest.message, TurretRequest.code] at h⟩

theorem witness_EngineHandsOn :
    let s := asking (base) (.release .left);
      Asked s (.release .left) ∧ True := by decide +kernel

theorem witness_SeizeConnectsLine :
    (let s := asking (base) (.seize 3 .left);
      Asked s (.seize 3 .left) ∧ s.keyLine 0 3 = some 5 ∧
        (s.line 5).state = .idle ∧ (s.line 5).activeSlot = some 10 ∧ s.currentLine ⟨0, .left⟩ = none ∧
        s.lowestFree = some 0) ∧
    (let s := asking ((withLine fun x => { x with state := .alerting, refGen := some 7 }).modBridge 0 fun b => { b with state := .inUse }) (.retrieve 3 .left);
      Asked s (.retrieve 3 .left) ∧
        s.keyLine 0 3 = some 5 ∧ (s.line 5).state = .alerting ∧ (s.line 5).refGen = some 7 ∧
        s.currentLine ⟨0, .left⟩ = none ∧ s.lowestFree = some 1) := 
  ⟨by decide +kernel, by decide +kernel⟩

theorem witness_SeizeConnectsLine_noBridge :
    let s := asking (noBridgeFree base) (.seize 3 .left);
      Asked s (.seize 3 .left) ∧ s.keyLine 0 3 = some 5 ∧
        (s.line 5).state = .idle ∧ s.currentLine ⟨0, .left⟩ = none ∧ s.lowestFree = none := by decide +kernel

theorem witness_HandsetSwitch_accepted :
    (let s := asking (switching .release id) (.seize 4 .left);
      Asked s (.seize 4 .left) ∧
        s.keyLine 0 4 = some 6 ∧ s.currentLine ⟨0, .left⟩ = some 5 ∧ ⟨0, .left⟩ ∉ (s.line 6).occupants ∧
        Stays s 5 ∧ (s.line 6).state = .idle ∧ (HadBySeize s ⟨0, .left⟩ 5 0 ∧
        ∀ b : BridgeNo, b < 0 → ¬HadBySeize s ⟨0, .left⟩ 5 b) ∧ (s.line 5).occupants = [⟨0, .left⟩]) ∧
    (let s := asking (switching .hold fun x => { x with state := .alerting, refGen := some 7 }) (.seize 4 .left);
      Asked s (.seize 4 .left) ∧
        s.keyLine 0 4 = some 6 ∧ s.currentLine ⟨0, .left⟩ = some 5 ∧ ⟨0, .left⟩ ∉ (s.line 6).occupants ∧
        Stays s 5 ∧ (s.line 6).state = .alerting ∧ (HadBySeize s ⟨0, .left⟩ 5 1 ∧
        ∀ b : BridgeNo, b < 1 → ¬HadBySeize s ⟨0, .left⟩ 5 b)) ∧
    (let s := asking (switching .release fun x => { x with state := .connected, bridge := some 1, occupants := [⟨1, .left⟩, ⟨2, .left⟩, ⟨3, .left⟩] }) (.seize 4 .left);
      Asked s (.seize 4 .left) ∧
        s.keyLine 0 4 = some 6 ∧ s.currentLine ⟨0, .left⟩ = some 5 ∧ ⟨0, .left⟩ ∉ (s.line 6).occupants ∧
        Stays s 5 ∧ (s.line 6).state = .connected ∧ (s.line 6).currentPrivacy = .shared ∧
        (s.line 6).occupants.length = 3) ∧
    (let s := asking (switching .release fun x => { x with state := .connected, bridge := some 1, occupants := [⟨0, .right⟩] }) (.seize 4 .left);
      Asked s (.seize 4 .left) ∧
        s.keyLine 0 4 = some 6 ∧ s.currentLine ⟨0, .left⟩ = some 5 ∧ ⟨0, .left⟩ ∉ (s.line 6).occupants ∧
        Stays s 5 ∧ (s.line 6).state = .connected ∧ (s.line 6).bridge = some 1 ∧ (s.line 6).occupiedBy 0 = true) ∧
    (let s := asking (switching .hold fun x => { x with state := .held, bridge := some 1, holdOwner := some 0 }) (.retrieve 4 .left);
      Asked s (.retrieve 4 .left) ∧
        s.keyLine 0 4 = some 6 ∧ s.currentLine ⟨0, .left⟩ = some 5 ∧ ⟨0, .left⟩ ∉ (s.line 6).occupants ∧
        Stays s 5 ∧ (s.line 6).state = .held ∧ (s.line 6).holdOwner = some 0) ∧
    (let s := asking (beside id (connected [⟨0, .left⟩, ⟨1, .left⟩])) (.seize 4 .left);
      Asked s (.seize 4 .left) ∧
        s.keyLine 0 4 = some 6 ∧ s.currentLine ⟨0, .left⟩ = some 5 ∧ ⟨0, .left⟩ ∉ (s.line 6).occupants ∧
        (s.line 5).occupants ≠ [⟨0, .left⟩] ∧ (HadBySeize s ⟨0, .left⟩ 5 1 ∧
        ∀ b : BridgeNo, b < 1 → ¬HadBySeize s ⟨0, .left⟩ 5 b)) ∧
    (let s := asking (onAlternate 5 10 11 (switching .release id)) (.seize 4 .left);
      Asked s (.seize 4 .left) ∧
        s.keyLine 0 4 = some 6 ∧ s.currentLine ⟨0, .left⟩ = some 5 ∧ ⟨0, .left⟩ ∉ (s.line 6).occupants ∧
        (s.line 6).state = .idle ∧ (HadBySeize s ⟨0, .left⟩ 5 0 ∧
        ∀ b : BridgeNo, b < 0 → ¬HadBySeize s ⟨0, .left⟩ 5 b) ∧ LeftToRest s ⟨0, .left⟩ 5 ∧ ¬Stays s 5 ∧
        (s.line 5).alternate = some 11 ∧ Unsought s 11 ∧ (s.line 5).primary = some 10) := 
  ⟨by decide +kernel, by decide +kernel, by decide +kernel, by decide +kernel, by decide +kernel, by decide +kernel, by decide +kernel⟩

theorem witness_HandsetSwitch_refused :
    (let s := asking (noBridgeFree (switching .hold id)) (.seize 4 .left);
      Asked s (.seize 4 .left) ∧
        s.keyLine 0 4 = some 6 ∧ s.currentLine ⟨0, .left⟩ = some 5 ∧ ⟨0, .left⟩ ∉ (s.line 6).occupants ∧
        (s.line 6).state = .idle ∧ ∀ b : BridgeNo, ¬HadBySeize s ⟨0, .left⟩ 5 b) ∧
    (let s := asking (switching .release fun x => { x with state := .connected, bridge := some 1, occupants := [⟨1, .left⟩], currentPrivacy := .secluded }) (.seize 4 .left);
      Asked s (.seize 4 .left) ∧
        s.keyLine 0 4 = some 6 ∧ s.currentLine ⟨0, .left⟩ = some 5 ∧ ⟨0, .left⟩ ∉ (s.line 6).occupants ∧
        Stays s 5 ∧ (s.line 6).occupiedBy 0 = false ∧ (s.line 6).currentPrivacy = .secluded) ∧
    (let s := asking (switching .release fun x => { x with state := .connected, bridge := some 1, occupants := List.replicate 4 ⟨1, .left⟩ }) (.seize 4 .left);
      Asked s (.seize 4 .left) ∧
        s.keyLine 0 4 = some 6 ∧ s.currentLine ⟨0, .left⟩ = some 5 ∧ ⟨0, .left⟩ ∉ (s.line 6).occupants ∧
        Stays s 5 ∧ (s.line 6).occupiedBy 0 = false ∧ (s.line 6).occupants.length = 4) ∧
    (let s := asking (switching .release fun x => { x with state := .held, bridge := some 1, holdOwner := some 1 }) (.seize 4 .left);
      Asked s (.seize 4 .left) ∧
        s.keyLine 0 4 = some 6 ∧ s.currentLine ⟨0, .left⟩ = some 5 ∧ ⟨0, .left⟩ ∉ (s.line 6).occupants ∧
        Stays s 5 ∧ (s.line 6).state = .held ∧
        ¬((s.line 6).holdOwner = some 0 ∨ (s.line 6).holdMode = .common ∨ (s.line 6).marks.recalled = true)) := 
  ⟨by decide +kernel, by decide +kernel, by decide +kernel, by decide +kernel⟩

theorem witness_SeizeJoins :
    (let s := asking (connected [⟨0, .left⟩]) (.seize 3 .left);
      Asked s (.seize 3 .left) ∧
        s.keyLine 0 3 = some 5 ∧ (s.line 5).state = .connected ∧ (s.line 5).bridge = some 0 ∧
        ⟨0, .left⟩ ∈ (s.line 5).occupants) ∧
    (let s := asking (connected [⟨0, .left⟩]) (.seize 3 .right);
      Asked s (.seize 3 .right) ∧
        s.keyLine 0 3 = some 5 ∧ (s.line 5).state = .connected ∧ (s.line 5).bridge = some 0 ∧
        ⟨0, .right⟩ ∉ (s.line 5).occupants ∧ ⟨0, .left⟩ ∈ (s.line 5).occupants ∧
        s.currentLine ⟨0, .right⟩ = none) ∧
    (let s := asking (connected [⟨1, .left⟩, ⟨2, .left⟩, ⟨3, .left⟩]) (.seize 3 .left);
      Asked s (.seize 3 .left) ∧
        s.keyLine 0 3 = some 5 ∧ (s.line 5).state = .connected ∧ (s.line 5).bridge = some 0 ∧
        (s.line 5).occupiedBy 0 = false ∧ (s.line 5).currentPrivacy = .shared ∧ (s.line 5).occupants.length = 3 ∧
        s.currentLine ⟨0, .left⟩ = none) := 
  ⟨by decide +kernel, by decide +kernel, by decide +kernel⟩

theorem witness_SeizeIsRefused :
    (let s := asking ((connected [⟨1, .left⟩]).modLine 5 fun x => { x with currentPrivacy := .secluded }) (.seize 3 .left);
      Asked s (.seize 3 .left) ∧
        s.keyLine 0 3 = some 5 ∧ (s.line 5).state = .connected ∧ (s.line 5).bridge = some 0 ∧
        (s.line 5).occupiedBy 0 = false ∧ (s.line 5).currentPrivacy = .secluded) ∧
    (let s := asking (connected [⟨1, .left⟩, ⟨2, .left⟩, ⟨3, .left⟩, ⟨4, .left⟩]) (.seize 3 .left);
      Asked s (.seize 3 .left) ∧
        s.keyLine 0 3 = some 5 ∧ (s.line 5).state = .connected ∧ (s.line 5).bridge = some 0 ∧
        (s.line 5).occupiedBy 0 = false ∧ (s.line 5).currentPrivacy = .shared ∧ (s.line 5).occupants.length = 4) := 
  ⟨by decide +kernel, by decide +kernel⟩

theorem witness_HeldLineIsRetrieved :
    (let s := asking (held) (.retrieve 3 .left);
      Asked s (.retrieve 3 .left) ∧ s.keyLine 0 3 = some 5 ∧
        (s.line 5).state = .held ∧ (s.line 5).bridge = some 0 ∧ s.currentLine ⟨0, .left⟩ = none ∧
        (s.line 5).holdOwner = some 0) ∧
    (let s := asking ((held).modLine 5 fun x => { x with holdOwner := some 1, holdMode := .common }) (.seize 3 .left);
      Asked s (.seize 3 .left) ∧
        s.keyLine 0 3 = some 5 ∧ (s.line 5).state = .held ∧ (s.line 5).bridge = some 0 ∧
        s.currentLine ⟨0, .left⟩ = none ∧ (s.line 5).holdMode = .common) ∧
    (let s := asking ((held).modLine 5 fun x => { x with holdOwner := some 1, marks := { x.marks with recalled := true } }) (.retrieve 3 .left);
      Asked s (.retrieve 3 .left) ∧
        s.keyLine 0 3 = some 5 ∧ (s.line 5).state = .held ∧ (s.line 5).bridge = some 0 ∧
        s.currentLine ⟨0, .left⟩ = none ∧ (s.line 5).marks.recalled = true) ∧
    (let s := asking ((held).modLine 5 fun x => { x with holdOwner := some 1 }) (.retrieve 3 .left);
      Asked s (.retrieve 3 .left) ∧
        s.keyLine 0 3 = some 5 ∧ (s.line 5).state = .held ∧ (s.line 5).bridge = some 0 ∧
        s.currentLine ⟨0, .left⟩ = none ∧
        ¬((s.line 5).holdOwner = some 0 ∨ (s.line 5).holdMode = .common ∨ (s.line 5).marks.recalled = true)) := 
  ⟨by decide +kernel, by decide +kernel, by decide +kernel, by decide +kernel⟩

theorem witness_ReleaseFreesHandset :
    (let s := asking (base) (.release .left);
      Asked s (.release .left) ∧ s.currentLine ⟨0, .left⟩ = none) ∧
    (let s := asking (connected [⟨0, .left⟩, ⟨1, .left⟩]) (.release .left);
      Asked s (.release .left) ∧
        s.currentLine ⟨0, .left⟩ = some 5 ∧ (s.line 5).bridge = some 0 ∧ (s.line 5).occupants ≠ [⟨0, .left⟩]) ∧
    (let s := asking ((connected [⟨0, .left⟩]).modLine 5 fun x => { x with monitors := [⟨1, 2⟩], route := .none, marks := { x.marks with noRoute := true } }) (.release .left);
      Asked s (.release .left) ∧
        s.currentLine ⟨0, .left⟩ = some 5 ∧ (s.line 5).bridge = some 0 ∧ (s.line 5).occupants = [⟨0, .left⟩] ∧
        Stays s 5) ∧
    (let s := asking (onAlternate 5 10 11 (connected [⟨0, .left⟩])) (.release .left);
      Asked s (.release .left) ∧
        s.currentLine ⟨0, .left⟩ = some 5 ∧ (s.line 5).bridge = some 0 ∧ (s.line 5).occupants = [⟨0, .left⟩] ∧
        ¬Stays s 5 ∧ (s.line 5).primary = some 10 ∧ (s.line 5).alternate = some 11 ∧ Unsought s 11) := 
  ⟨by decide +kernel, by decide +kernel, by decide +kernel, by decide +kernel⟩

theorem witness_HoldKeepsBridge :
    (let s := asking (base) (.hold .left);
      Asked s (.hold .left) ∧ s.currentLine ⟨0, .left⟩ = none) ∧
    (let s := asking (connected [⟨0, .left⟩, ⟨1, .left⟩]) (.hold .left);
      Asked s (.hold .left) ∧
        s.currentLine ⟨0, .left⟩ = some 5 ∧ (s.line 5).occupants ≠ [⟨0, .left⟩]) ∧
    (let s := asking ((connected [⟨0, .left⟩]).modLine 5 fun x => { x with monitors := [⟨1, 2⟩] }) (.hold .left);
      Asked s (.hold .left) ∧
        s.currentLine ⟨0, .left⟩ = some 5 ∧ (s.line 5).bridge = some 0 ∧ (s.line 5).occupants = [⟨0, .left⟩] ∧
        (s.line 5).holdRecall ≠ 0) := 
  ⟨by decide +kernel, by decide +kernel, by decide +kernel⟩

theorem witness_PrivacySetByOwner :
    (let s := asking ((connected [⟨0, .left⟩]).modLine 5 fun x => { x with monitors := [⟨1, 2⟩] }) (.privacy 3 true);
      Asked s (.privacy 3 true) ∧
        s.keyLine 0 3 = some 5 ∧ (s.line 5).state = .connected ∧ (s.line 5).owner = some 0 ∧
        (s.line 5).occupants.length = 1 ∧ (s.line 5).currentPrivacy = .shared) ∧
    (let s := asking ((connected [⟨0, .left⟩]).modLine 5 fun x => { x with currentPrivacy := .secluded }) (.privacy 3 true);
      Asked s (.privacy 3 true) ∧
        s.keyLine 0 3 = some 5 ∧ (s.line 5).state = .connected ∧ (s.line 5).owner = some 0 ∧
        (s.line 5).occupants.length = 1 ∧ (s.line 5).currentPrivacy = .secluded) ∧
    (let s := asking (connected [⟨0, .left⟩]) (.privacy 3 false);
      Asked s (.privacy 3 false) ∧
        s.keyLine 0 3 = some 5 ∧ (s.line 5).state = .connected ∧ (s.line 5).owner = some 0 ∧
        (s.line 5).currentPrivacy = .shared) ∧
    (let s := asking ((connected [⟨0, .left⟩]).modLine 5 fun x => { x with currentPrivacy := .secluded }) (.privacy 3 false);
      Asked s (.privacy 3 false) ∧
        s.keyLine 0 3 = some 5 ∧ (s.line 5).state = .connected ∧ (s.line 5).owner = some 0 ∧
        (s.line 5).currentPrivacy = .secluded) := 
  ⟨by decide +kernel, by decide +kernel, by decide +kernel, by decide +kernel⟩

theorem witness_PrivacySetByOwner_refused :
    (let s := asking (connected [⟨1, .left⟩]) (.privacy 3 true);
      Asked s (.privacy 3 true) ∧
        s.keyLine 0 3 = some 5 ∧ (s.line 5).state = .connected ∧ (s.line 5).occupiedBy 0 = false) ∧
    (let s := asking (connected [⟨1, .left⟩, ⟨0, .left⟩]) (.privacy 3 false);
      Asked s (.privacy 3 false) ∧
        s.keyLine 0 3 = some 5 ∧ (s.line 5).state = .connected ∧ (s.line 5).occupiedBy 0 = true ∧
        (s.line 5).owner ≠ some 0) ∧
    (let s := asking (connected [⟨0, .left⟩, ⟨1, .left⟩]) (.privacy 3 true);
      Asked s (.privacy 3 true) ∧
        s.keyLine 0 3 = some 5 ∧ (s.line 5).state = .connected ∧ (s.line 5).owner = some 0 ∧
        1 < (s.line 5).occupants.length) := 
  ⟨by decide +kernel, by decide +kernel, by decide +kernel⟩

theorem witness_SignalRings :
    (let s := asking (connected [⟨0, .left⟩]) (.signal 3);
      Asked s (.signal 3) ∧ s.keyLine 0 3 = some 5 ∧
        (s.line 5).state = .connected ∧ (s.line 5).kind ≠ .nailed ∧ (s.line 5).occupiedBy 0 = true ∧
        (s.line 5).marks.ringOut = false) ∧
    (let s := asking ((connected [⟨0, .left⟩]).modLine 5 fun x => { x with marks := { x.marks with ringOut := true } }) (.signal 3);
      Asked s (.signal 3) ∧
        s.keyLine 0 3 = some 5 ∧ (s.line 5).state = .connected ∧ (s.line 5).kind ≠ .nailed ∧
        (s.line 5).occupiedBy 0 = true ∧ (s.line 5).marks.ringOut = true) ∧
    (let s := asking ((held).modLine 5 fun x => { x with kind := .nailed }) (.signal 3);
      Asked s (.signal 3) ∧
        s.keyLine 0 3 = some 5 ∧ (s.line 5).state = .held ∧ (s.line 5).kind = .nailed) ∧
    (let s := asking (base) (.signal 3);
      Asked s (.signal 3) ∧ s.keyLine 0 3 = some 5 ∧
        (s.line 5).state = .idle ∧ (s.line 5).kind ≠ .nailed ∧ (s.line 5).occupiedBy 0 = false) := 
  ⟨by decide +kernel, by decide +kernel, by decide +kernel, by decide +kernel⟩

theorem witness_AcknowledgeClears :
    (let s := asking (withLine fun x => { x with marks := { x.marks with missed := true } }) (.acknowledge 3);
      Asked s (.acknowledge 3) ∧
        s.keyLine 0 3 = some 5 ∧ (s.line 5).state = .idle ∧ (s.line 5).marks.missed = true) ∧
    (let s := asking (base) (.acknowledge 3);
      Asked s (.acknowledge 3) ∧ s.keyLine 0 3 = some 5 ∧
        (s.line 5).state = .idle ∧ (s.line 5).marks.missed = false) := 
  ⟨by decide +kernel, by decide +kernel⟩

theorem witness_KeysAreLookedUp :
    (let s := asking (base) (.privacy 63 true);
      Asked s (.privacy 63 true) ∧ s.keyLine 0 63 = none) ∧
    (let s := asking (withLine fun x => { x with state := .retiring }) (.seize 3 .right);
      Asked s (.seize 3 .right) ∧
        s.keyLine 0 3 = some 5 ∧ (s.line 5).state = .retiring) ∧
    (let s := asking (withLine fun x => { x with state := .lockout }) (.retrieve 3 .left);
      Asked s (.retrieve 3 .left) ∧
        s.keyLine 0 3 = some 5 ∧ (s.line 5).state = .lockout) ∧
    (let s := asking (base) (.queryLine 3);
      Asked s (.queryLine 3) ∧ s.keyLine 0 3 = some 5 ∧
        (s.line 5).state = .idle) := 
  ⟨by decide +kernel, by decide +kernel, by decide +kernel, by decide +kernel⟩

theorem witness_ChannelIsQueried :
    (let s := asking (base) (.queryChannel 2);
      Asked s (.queryChannel 2) ∧ (s.channel 2).live = false) ∧
    (let s := asking (base.setChannel 2 { hoot with listen := [1], talk := [] }) (.queryChannel 2);
      Asked s (.queryChannel 2) ∧
        (s.channel 2).live = true ∧ (0 : Pos) ∉ (s.channel 2).listen ∧ (0 : Pos) ∉ (s.channel 2).talk ∧
        (s.channel 2).memberUnit 0 = none) ∧
    (let s := asking (opened [] []) (.queryChannel 2);
      Asked s (.queryChannel 2) ∧ (s.channel 2).live = true ∧
        (0 : Pos) ∈ (s.channel 2).listen) ∧
    (let s := asking (grouped) (.queryChannel 2);
      Asked s (.queryChannel 2) ∧ (s.channel 2).live = true ∧
        (s.channel 2).memberUnit 0 = some 4) := 
  ⟨by decide +kernel, by decide +kernel, by decide +kernel, by decide +kernel⟩

theorem witness_SpeakerMonitorsLine :
    (let s := asking (((connected [⟨1, .left⟩]).modLine 5 fun x => { x with monitors := List.replicate 7 ⟨9, 1⟩ }).setSelection 0 7 (.line 6)) (.speakerLine 7 3);
      Asked s (.speakerLine 7 3) ∧
        s.designated 0 7 = none ∧ s.keyLine 0 3 = some 5 ∧ (s.line 5).state = .connected ∧
        (s.line 5).bridge = some 0 ∧ (s.line 5).currentPrivacy = .shared ∧ ⟨0, 7⟩ ∉ (s.line 5).monitors ∧
        (s.line 5).monitors.length = 7 ∧ s.selection 0 7 = .line 6) ∧
    (let s := asking ((connected [⟨1, .left⟩])) (.speakerLine 7 3);
      Asked s (.speakerLine 7 3) ∧
        s.designated 0 7 = none ∧ s.keyLine 0 3 = some 5 ∧ (s.line 5).state = .connected ∧
        (s.line 5).bridge = some 0 ∧ (s.line 5).currentPrivacy = .shared ∧ ⟨0, 7⟩ ∉ (s.line 5).monitors ∧
        s.selection 0 7 = .none) ∧
    (let s := asking ((connected [⟨1, .left⟩]).modLine 5 fun x => { x with monitors := [⟨0, 7⟩] }) (.speakerLine 7 3);
      Asked s (.speakerLine 7 3) ∧
        s.designated 0 7 = none ∧ s.keyLine 0 3 = some 5 ∧ (s.line 5).state = .connected ∧
        ⟨0, 7⟩ ∈ (s.line 5).monitors) := 
  ⟨by decide +kernel, by decide +kernel, by decide +kernel⟩

theorem witness_SpeakerMonitorsLine_refused :
    (let s := asking (grouped) (.speakerLine 4 3);
      Asked s (.speakerLine 4 3) ∧
        (s.designated 0 4).isSome = true) ∧
    (let s := asking (base) (.speakerLine 7 0);
      Asked s (.speakerLine 7 0) ∧ s.designated 0 7 = none ∧
        s.keyLine 0 0 = none) ∧
    (let s := asking (withLine fun x => { x with state := .vacant }) (.speakerLine 7 3);
      Asked s (.speakerLine 7 3) ∧
        s.designated 0 7 = none ∧ s.keyLine 0 3 = some 5 ∧ (s.line 5).state = .vacant) ∧
    (let s := asking (withLine fun x => { x with state := .lockout }) (.speakerLine 7 3);
      Asked s (.speakerLine 7 3) ∧
        s.designated 0 7 = none ∧ s.keyLine 0 3 = some 5 ∧ (s.line 5).state = .lockout) ∧
    (let s := asking (held) (.speakerLine 7 3);
      Asked s (.speakerLine 7 3) ∧ s.designated 0 7 = none ∧
        s.keyLine 0 3 = some 5 ∧ (s.line 5).state = .held ∧ ⟨0, 7⟩ ∉ (s.line 5).monitors) ∧
    (let s := asking ((connected [⟨1, .left⟩]).modLine 5 fun x => { x with currentPrivacy := .secluded }) (.speakerLine 7 3);
      Asked s (.speakerLine 7 3) ∧
        s.designated 0 7 = none ∧ s.keyLine 0 3 = some 5 ∧ (s.line 5).state = .connected ∧
        ⟨0, 7⟩ ∉ (s.line 5).monitors ∧ (s.line 5).currentPrivacy = .secluded) ∧
    (let s := asking ((connected [⟨1, .left⟩]).modLine 5 fun x => { x with monitors := List.replicate 8 ⟨9, 1⟩ }) (.speakerLine 7 3);
      Asked s (.speakerLine 7 3) ∧
        s.designated 0 7 = none ∧ s.keyLine 0 3 = some 5 ∧ (s.line 5).state = .connected ∧
        ⟨0, 7⟩ ∉ (s.line 5).monitors ∧ (s.line 5).currentPrivacy = .shared ∧ (s.line 5).monitors.length = 8) := 
  ⟨by decide +kernel, by decide +kernel, by decide +kernel, by decide +kernel, by decide +kernel, by decide +kernel, by decide +kernel⟩

theorem witness_SpeakerSelectsChannel :
    (let s := asking (opened [] []) (.speakerChannel 0 2);
      Asked s (.speakerChannel 0 2) ∧
        s.designated 0 0 = none ∧ (s.channel 2).live = true ∧ s.selection 0 0 ≠ .channel 2 ∧
        (s.channel 2).mayListen 0 = true ∧ (s.channel 2).state = .opened ∧ (s.channel 2).bridge = some 1 ∧
        s.selection 0 0 = .none) ∧
    (let s := asking ((base.setChannel 2 { hoot with trunk := some 30 }).setSlot 30 { Slot.initial with state := .active, claimant := some (.channel 2) }) (.speakerChannel 0 2);
      Asked s (.speakerChannel 0 2) ∧
        s.designated 0 0 = none ∧ (s.channel 2).live = true ∧ s.selection 0 0 ≠ .channel 2 ∧
        (s.channel 2).mayListen 0 = true ∧ (s.channel 2).state = .closed ∧ s.liveTrunk 2 = some 30 ∧
        (HadBySelect s 0 0 2 0 ∧ ∀ b : BridgeNo, b < 0 → ¬HadBySelect s 0 0 2 b)) ∧
    (let s := asking (noBridgeFree (((base.setChannel 2 hoot).setChannel 3 { hoot with state := .opened, bridge := some 0 }).setSelection 0 0 (.channel 3))) (.speakerChannel 0 2);
      Asked s (.speakerChannel 0 2) ∧
        s.designated 0 0 = none ∧ (s.channel 2).live = true ∧ s.selection 0 0 ≠ .channel 2 ∧
        (s.channel 2).mayListen 0 = true ∧ (s.channel 2).state = .closed ∧ Unheard s 3 0 0 ∧
        (HadBySelect s 0 0 2 0 ∧ ∀ b : BridgeNo, b < 0 → ¬HadBySelect s 0 0 2 b)) ∧
    (let s := asking (((base.setChannel 2 hoot).modLine 5 fun x => { x with monitors := [⟨0, 0⟩], state := .connected }).setSelection 0 0 (.line 5)) (.speakerChannel 0 2);
      Asked s (.speakerChannel 0 2) ∧
        s.designated 0 0 = none ∧ (s.channel 2).live = true ∧ s.selection 0 0 ≠ .channel 2 ∧
        (s.channel 2).mayListen 0 = true ∧ s.selection 0 0 = .line 5 ∧ (HadBySelect s 0 0 2 0 ∧
        ∀ b : BridgeNo, b < 0 → ¬HadBySelect s 0 0 2 b)) := 
  ⟨by decide +kernel, by decide +kernel, by decide +kernel, by decide +kernel⟩

theorem witness_SpeakerSelectsChannel_else :
    (let s := asking (grouped) (.speakerChannel 4 2);
      Asked s (.speakerChannel 4 2) ∧
        (s.designated 0 4).isSome = true) ∧
    (let s := asking (base) (.speakerChannel 0 2);
      Asked s (.speakerChannel 0 2) ∧ s.designated 0 0 = none ∧
        (s.channel 2).live = false) ∧
    (let s := asking (((opened [] []).setSelection 1 0 .none).setSelection 0 0 (.channel 2)) (.speakerChannel 0 2);
      Asked s (.speakerChannel 0 2) ∧
        s.designated 0 0 = none ∧ (s.channel 2).live = true ∧ s.selection 0 0 = .channel 2) ∧
    (let s := asking (base.setChannel 2 { hoot with listen := [] }) (.speakerChannel 0 2);
      Asked s (.speakerChannel 0 2) ∧
        s.designated 0 0 = none ∧ (s.channel 2).live = true ∧ s.selection 0 0 ≠ .channel 2 ∧
        (s.channel 2).mayListen 0 = false) ∧
    (let s := asking (noBridgeFree (base.setChannel 2 hoot)) (.speakerChannel 0 2);
      Asked s (.speakerChannel 0 2) ∧
        s.designated 0 0 = none ∧ (s.channel 2).live = true ∧ s.selection 0 0 ≠ .channel 2 ∧
        (s.channel 2).mayListen 0 = true ∧ (s.channel 2).state = .closed ∧
        (∀ b : BridgeNo, (s.bridge b).state ≠ .free) ∧
        ∀ y : ChanNo, s.selection 0 0 = .channel y → ¬Unheard s y 0 0) := 
  ⟨by decide +kernel, by decide +kernel, by decide +kernel, by decide +kernel, by decide +kernel⟩

theorem witness_SpeakerClearReleasesUnit :
    (let s := asking (grouped) (.speakerClear 4);
      Asked s (.speakerClear 4) ∧ (s.designated 0 4).isSome = true) ∧
    (let s := asking (base) (.speakerClear 0);
      Asked s (.speakerClear 0) ∧ s.designated 0 0 = none ∧
        s.selection 0 0 = .none) ∧
    (let s := asking (((opened [] []).setSelection 1 0 .none).setSelection 0 0 (.channel 2)) (.speakerClear 0);
      Asked s (.speakerClear 0) ∧
        s.designated 0 0 = none ∧ s.selection 0 0 = .channel 2 ∧ Unheard s 2 0 0 ∧ (s.channel 2).bridge = some 1) ∧
    (let s := asking ((opened [⟨1, false⟩] []).setSelection 0 0 (.channel 2)) (.speakerClear 0);
      Asked s (.speakerClear 0) ∧
        s.designated 0 0 = none ∧ s.selection 0 0 = .channel 2 ∧ ¬Unheard s 2 0 0) ∧
    (let s := asking (((connected [⟨0, .left⟩]).modLine 5 fun x => { x with monitors := [⟨0, 7⟩] }).setSelection 0 7 (.line 5)) (.speakerClear 7);
      Asked s (.speakerClear 7) ∧
        s.designated 0 7 = none ∧ s.selection 0 7 = .line 5 ∧ (s.line 5).bridge = some 0) := 
  ⟨by decide +kernel, by decide +kernel, by decide +kernel, by decide +kernel, by decide +kernel⟩

theorem witness_TalkOn_granted :
    (let s := asking ((((opened [⟨1, false⟩] []).setChannel 7 { hoot with queue := [⟨0, false⟩] }).setChannel 8 { hoot with queue := [⟨0, false⟩] }).setChannel 9 { hoot with queue := [⟨0, false⟩] }) (.talkOn 2 true);
      Asked s (.talkOn 2 true) ∧
        (s.channel 2).live = true ∧ (s.channel 2).mayTalk 0 = true ∧ (s.channel 2).talking 0 = false ∧
        (s.channel 2).queued 0 = false ∧ s.entryCount 0 = 3 ∧
        (s.channel 2).talkers.length < (s.channel 2).maxTalkers ∧ (s.channel 2).state = .opened ∧
        (s.channel 2).bridge = some 1 ∧ (s.channel 2).silence ≠ 0) ∧
    (let s := asking (base.setChannel 2 hoot) (.talkOn 2 false);
      Asked s (.talkOn 2 false) ∧
        (s.channel 2).live = true ∧ (s.channel 2).mayTalk 0 = true ∧ (s.channel 2).talking 0 = false ∧
        (s.channel 2).queued 0 = false ∧ s.entryCount 0 < 4 ∧
        (s.channel 2).talkers.length < (s.channel 2).maxTalkers ∧ (s.channel 2).state = .closed ∧
        s.lowestFree = some 0) ∧
    (let s := asking (opened [⟨1, false⟩, ⟨5, false⟩] (List.replicate 7 ⟨6, false⟩)) (.talkOn 2 true);
      Asked s (.talkOn 2 true) ∧
        (s.channel 2).live = true ∧ (s.channel 2).mayTalk 0 = true ∧ (s.channel 2).talking 0 = false ∧
        (s.channel 2).queued 0 = false ∧ s.entryCount 0 < 4 ∧
        (s.channel 2).maxTalkers = (s.channel 2).talkers.length ∧ (s.channel 2).queue.length = 7) := 
  ⟨by decide +kernel, by decide +kernel, by decide +kernel⟩

theorem witness_TalkOn_else :
    (let s := asking (base) (.talkOn 2 true);
      Asked s (.talkOn 2 true) ∧ (s.channel 2).live = false) ∧
    (let s := asking (base.setChannel 2 { hoot with talk := [] }) (.talkOn 2 true);
      Asked s (.talkOn 2 true) ∧
        (s.channel 2).live = true ∧ (s.channel 2).mayTalk 0 = false) ∧
    (let s := asking (opened [⟨0, true⟩] []) (.talkOn 2 true);
      Asked s (.talkOn 2 true) ∧
        (s.channel 2).live = true ∧ (s.channel 2).mayTalk 0 = true ∧ (s.channel 2).talking 0 = true) ∧
    (let s := asking (opened [⟨1, false⟩, ⟨5, false⟩] [⟨0, true⟩]) (.talkOn 2 true);
      Asked s (.talkOn 2 true) ∧
        (s.channel 2).live = true ∧ (s.channel 2).mayTalk 0 = true ∧ (s.channel 2).talking 0 = false ∧
        (s.channel 2).queued 0 = true) ∧
    (let s := asking (((((opened [] []).setChannel 7 { hoot with queue := [⟨0, false⟩] }).setChannel 8 { hoot with queue := [⟨0, false⟩] }).setChannel 9 { hoot with queue := [⟨0, false⟩] }).setChannel 10 { hoot with queue := [⟨0, false⟩] }) (.talkOn 2 true);
      Asked s (.talkOn 2 true) ∧
        (s.channel 2).live = true ∧ (s.channel 2).mayTalk 0 = true ∧ (s.channel 2).talking 0 = false ∧
        (s.channel 2).queued 0 = false ∧ s.entryCount 0 = 4) ∧
    (let s := asking (opened [⟨1, false⟩, ⟨5, false⟩] (List.replicate 8 ⟨6, false⟩)) (.talkOn 2 true);
      Asked s (.talkOn 2 true) ∧
        (s.channel 2).live = true ∧ (s.channel 2).mayTalk 0 = true ∧ (s.channel 2).talking 0 = false ∧
        (s.channel 2).queued 0 = false ∧ s.entryCount 0 < 4 ∧
        (s.channel 2).maxTalkers = (s.channel 2).talkers.length ∧ (s.channel 2).queue.length = 8) ∧
    (let s := asking (noBridgeFree (base.setChannel 2 hoot)) (.talkOn 2 true);
      Asked s (.talkOn 2 true) ∧
        (s.channel 2).live = true ∧ (s.channel 2).mayTalk 0 = true ∧ (s.channel 2).talking 0 = false ∧
        (s.channel 2).queued 0 = false ∧ s.entryCount 0 < 4 ∧
        (s.channel 2).talkers.length < (s.channel 2).maxTalkers ∧ (s.channel 2).state = .closed ∧
        s.lowestFree = none) := 
  ⟨by decide +kernel, by decide +kernel, by decide +kernel, by decide +kernel, by decide +kernel, by decide +kernel, by decide +kernel⟩

theorem witness_TalkOff :
    (let s := asking (opened [⟨0, true⟩, ⟨1, false⟩] [⟨5, true⟩]) (.talkOff 2);
      Asked s (.talkOff 2) ∧
        (s.channel 2).live = true ∧ (s.channel 2).talking 0 = true ∧ granted (s.channel 2) 0 = [⟨5, true⟩] ∧
        ¬Closes (s.channel 2) 0 (s.hasReceiver 2)) ∧
    (let s := asking ((opened [⟨0, true⟩] []).setSelection 1 0 .none) (.talkOff 2);
      Asked s (.talkOff 2) ∧
        (s.channel 2).live = true ∧ (s.channel 2).talking 0 = true ∧ Closes (s.channel 2) 0 (s.hasReceiver 2) ∧
        (s.channel 2).bridge = some 1) ∧
    (let s := asking (opened [⟨1, false⟩, ⟨5, false⟩] [⟨0, true⟩]) (.talkOff 2);
      Asked s (.talkOff 2) ∧
        (s.channel 2).live = true ∧ (s.channel 2).queued 0 = true) ∧
    (let s := asking (opened [] []) (.talkOff 2);
      Asked s (.talkOff 2) ∧ (s.channel 2).live = true ∧
        (s.channel 2).talking 0 = false ∧ (s.channel 2).queued 0 = false) ∧
    (let s := asking (base) (.talkOff 2);
      Asked s (.talkOff 2) ∧ (s.channel 2).live = false) := 
  ⟨by decide +kernel, by decide +kernel, by decide +kernel, by decide +kernel, by decide +kernel⟩

theorem witness_ForceUntalk :
    (let s := opened [⟨0, true⟩, ⟨1, false⟩] [⟨5, true⟩]; let w := words 0 2 0 0 0 0 0 0;
      Open s ∧
        w.w1 = word (2 : ChanNo).val ∧ w.w2 = word (0 : Pos).val ∧ (s.channel 2).state ≠ .vacant ∧
        (s.channel 2).talking 0 = true) ∧
    (let s := opened [] []; let w := words 0 2 0 0 0 0 0 0;
      Open s ∧ w.w1 = word (2 : ChanNo).val ∧
        w.w2 = word (0 : Pos).val ∧ (s.channel 2).state ≠ .vacant ∧ (s.channel 2).talking 0 = false ∧
        (s.channel 2).queued 0 = false) ∧
    (let s := base; let w := words 0 2 0 0 0 0 0 0;
      Open s ∧ w.w1 = word (2 : ChanNo).val ∧
        w.w2 = word (0 : Pos).val ∧ (s.channel 2).state = .vacant) ∧
    (let s := base; let w := words 0 31 48 0 0 0 0 0;
      Open s ∧ 47 < w.w2.toNat) := 
  ⟨by decide +kernel, by decide +kernel, by decide +kernel, by decide +kernel⟩

theorem witness_BusyOrUnknown :
    (during base (.retireLine 5 0)).mp.slot = .busy ∧ Open base ∧ isCommandCode 0x16#8 = false := by decide +kernel

theorem witness_CreateLineTakesPrimary :
    (let s := base; let w := words 0 6 0x0201#16 20 255 255 900 10000;
      Open s ∧ w.w1 = word (6 : LineNo).val ∧
        (lineArgs w).kind = some .manual ∧ (lineArgs w).headroom = some ⟨.fixed, 2⟩ ∧
        (lineArgs w).primary = some (some 20) ∧ (lineArgs w).alternate = some (some 255) ∧
        (s.line 6).state = .vacant ∧ ¬PrimaryTaken s 6 (some 20) ∧ ¬AlternateTaken s (some 255) ∧ Claimable s 20) ∧
    (let s := base.modSlot 20 fun x => { x with state := .fault, altLines := [5] }; let w := words 0 6 0x0201#16 20 0xFFFF#16 0 901 99;
      Open s ∧
        w.w1 = word (6 : LineNo).val ∧ (lineArgs w).kind = some .manual ∧
        (lineArgs w).headroom = some ⟨.fixed, 2⟩ ∧ (lineArgs w).primary = some (some 20) ∧
        (lineArgs w).alternate = some (none) ∧ (s.line 6).state = .vacant ∧ ¬PrimaryTaken s 6 (some 20) ∧
        ¬AlternateTaken s (none) ∧ ¬Claimable s 20) ∧
    (let s := base; let w := words 0 6 0x0201#16 0xFFFF#16 0xFFFF#16 255 900 10000;
      Open s ∧
        w.w1 = word (6 : LineNo).val ∧ (lineArgs w).kind = some .manual ∧
        (lineArgs w).headroom = some ⟨.fixed, 2⟩ ∧ (lineArgs w).primary = some (none) ∧
        (lineArgs w).alternate = some (none) ∧ (s.line 6).state = .vacant ∧ ¬PrimaryTaken s 6 (none) ∧
        ¬AlternateTaken s (none)) := 
  ⟨by decide +kernel, by decide +kernel, by decide +kernel⟩

theorem witness_CreateLineTakesPrimary_refused :
    (let s := base; let w := words 0 192 0 0xFFFF#16 0xFFFF#16 1 0 100;
      Open s ∧ CreateLineBad w) ∧
    (let s := base; let w := words 0 6 3 256 10 1 0 100;
      Open s ∧ CreateLineBad w) ∧
    (let s := base.setLine 6 lineAtRest; let w := words 0 6 0x0201#16 20 0xFFFF#16 255 900 10000;
      Open s ∧
        w.w1 = word (6 : LineNo).val ∧ (lineArgs w).kind = some .manual ∧
        (lineArgs w).headroom = some ⟨.fixed, 2⟩ ∧ (lineArgs w).primary = some (some 20) ∧
        (lineArgs w).alternate = some (none) ∧ (s.line 6).state ≠ .vacant) ∧
    (let s := base; let w := words 0 6 0x0201#16 10 0xFFFF#16 255 900 10000;
      Open s ∧
        w.w1 = word (6 : LineNo).val ∧ (lineArgs w).kind = some .manual ∧
        (lineArgs w).headroom = some ⟨.fixed, 2⟩ ∧ (lineArgs w).primary = some (some 10) ∧
        (lineArgs w).alternate = some (none) ∧ (s.line 6).state = .vacant ∧ PrimaryTaken s 6 (some 10)) ∧
    (let s := base.modSlot 30 fun x => { x with primaryNamer := some (.channel 2) }; let w := words 0 6 0x0201#16 20 30 255 900 10000;
      Open s ∧
        w.w1 = word (6 : LineNo).val ∧ (lineArgs w).kind = some .manual ∧
        (lineArgs w).headroom = some ⟨.fixed, 2⟩ ∧ (lineArgs w).primary = some (some 20) ∧
        (lineArgs w).alternate = some (some 30) ∧ (s.line 6).state = .vacant ∧ AlternateTaken s (some 30)) := 
  ⟨by decide +kernel, by decide +kernel, by decide +kernel, by decide +kernel, by decide +kernel⟩

theorem witness_SetLineWritesSettings :
    (let s := base; let w := words 0x1F 0x0705#16 0x0202#16 0 0 0 901 99;
      Open s ∧
        bits w.w1 0 8 = (5 : LineNo).val ∧ (s.line 5).state ≠ .vacant ∧ ¬SetLineBad (s.line 5) w ∧
        (s.line 5).state = .idle ∧ w.maskBit 13 = false ∧ w.maskBit 14 = false ∧ w.maskBit 8 = true ∧
        (lineArgs w).kind = some .nailed ∧ w.maskBit 12 = true ∧ (lineArgs w).headroom = some ⟨.fixed, 2⟩) ∧
    (let s := connected [⟨0, .left⟩]; let w := words 0x12 0x0005#16 0x0210#16 0 0 0 0 0;
      Open s ∧
        bits w.w1 0 8 = (5 : LineNo).val ∧ (s.line 5).state ≠ .vacant ∧ ¬SetLineBad (s.line 5) w ∧
        (s.line 5).state = .connected ∧ w.maskBit 13 = false ∧ w.maskBit 14 = false ∧ w.maskBit 8 = false ∧
        w.maskBit 9 = true ∧ w.maskBit 12 = true ∧ (lineArgs w).headroom = some ⟨.fixed, 2⟩ ∧
        (s.line 5).bridge = some 0 ∧ (s.bridge 0).state = .inUse ∧ (s.bridge 0).headroom ≠ ⟨.fixed, 2⟩) ∧
    (let s := connected [⟨0, .left⟩]; let w := words 0x10 0x0005#16 0x0400#16 0 0 0 0 0;
      Open s ∧
        bits w.w1 0 8 = (5 : LineNo).val ∧ (s.line 5).state ≠ .vacant ∧ ¬SetLineBad (s.line 5) w ∧
        w.maskBit 13 = false ∧ w.maskBit 14 = false ∧ w.maskBit 12 = true ∧
        (lineArgs w).headroom = some ⟨.auto, 0⟩ ∧ (s.line 5).bridge = some 0 ∧ (s.bridge 0).state = .inUse ∧
        (s.bridge 0).headroom ≠ ⟨.auto, 0⟩) ∧
    (let s := (base.modLine 5 fun x => { x with alternate := some 12 }).modSlot 12 fun x => { x with state := .standby, altLines := [5] }; let w := words 0x5F 0x0705#16 0x0202#16 0 11 0 901 99;
      Open s ∧
        bits w.w1 0 8 = (5 : LineNo).val ∧ (s.line 5).state ≠ .vacant ∧ ¬SetLineBad (s.line 5) w ∧
        w.maskBit 13 = false ∧ w.maskBit 14 = true ∧ slotArg w.w4 = some (some 11) ∧
        (s.line 5).route ≠ .alternate ∧ ¬AlternateTaken s (some 11) ∧ (s.line 5).alternate = some 12 ∧
        w.maskBit 8 = true ∧ (lineArgs w).kind = some .nailed ∧ (s.line 5).state = .idle ∧ w.maskBit 12 = true ∧
        (lineArgs w).headroom = some ⟨.fixed, 2⟩) := 
  ⟨by decide +kernel, by decide +kernel, by decide +kernel, by decide +kernel⟩

theorem witness_SetLineWritesSettings_primary :
    (let s := base; let w := words 0x2A 5 0 12 0 0 0 0;
      Open s ∧ bits w.w1 0 8 = (5 : LineNo).val ∧
        (s.line 5).state ≠ .vacant ∧ ¬SetLineBad (s.line 5) w ∧ (s.line 5).activeSlot = some 10 ∧
        ((s.slot 10).primaryNamer = none ∨ (s.line 5).primary = some 10) ∧
        (∀ x : LineNo, (s.line x).waiting = true → (s.line x).names 10 = false) ∧
        (s.line 5).primary ≠ (s.line 5).alternate ∧ w.maskBit 13 = true ∧ slotArg w.w3 = some (some 12) ∧
        (s.line 5).state = .idle ∧ ¬PrimaryTaken s 5 (some 12) ∧ (s.line 5).primary = some 10 ∧
        w.maskBit 14 = false ∧ Claimable s 12 ∧ w.maskBit 9 = true) ∧
    (let s := base.modSlot 12 fun x => { x with state := .fault, altLines := [9] }; let w := words 0x20 5 0 12 0 0 0 0;
      Open s ∧
        bits w.w1 0 8 = (5 : LineNo).val ∧ (s.line 5).state ≠ .vacant ∧ ¬SetLineBad (s.line 5) w ∧
        (s.line 5).activeSlot = some 10 ∧ ((s.slot 10).primaryNamer = none ∨ (s.line 5).primary = some 10) ∧
        (∀ x : LineNo, (s.line x).waiting = true → (s.line x).names 10 = false) ∧
        (s.line 5).primary ≠ (s.line 5).alternate ∧ w.maskBit 13 = true ∧ slotArg w.w3 = some (some 12) ∧
        (s.line 5).state = .idle ∧ ¬PrimaryTaken s 5 (some 12) ∧ (s.line 5).primary = some 10 ∧
        w.maskBit 14 = false ∧ ¬Claimable s 12) ∧
    (let s := base; let w := words 0x20 5 0 0xFFFF#16 0 0 0 0;
      Open s ∧ bits w.w1 0 8 = (5 : LineNo).val ∧
        (s.line 5).state ≠ .vacant ∧ ¬SetLineBad (s.line 5) w ∧ (s.line 5).activeSlot = some 10 ∧
        ((s.slot 10).primaryNamer = none ∨ (s.line 5).primary = some 10) ∧
        (∀ x : LineNo, (s.line x).waiting = true → (s.line x).names 10 = false) ∧
        (s.line 5).primary ≠ (s.line 5).alternate ∧ w.maskBit 13 = true ∧ slotArg w.w3 = some (none) ∧
        (s.line 5).state = .idle ∧ ¬PrimaryTaken s 5 (none) ∧ (s.line 5).primary = some 10 ∧
        w.maskBit 14 = false) ∧
    (let s := (base.modLine 5 fun x => { x with alternate := some 12 }).modSlot 12 fun x => { x with state := .standby, altLines := [5] }; let w := words 0x60 5 0 12 10 0 0 0;
      Open s ∧
        bits w.w1 0 8 = (5 : LineNo).val ∧ (s.line 5).state ≠ .vacant ∧ ¬SetLineBad (s.line 5) w ∧
        (s.line 5).activeSlot = some 10 ∧ ((s.slot 10).primaryNamer = none ∨ (s.line 5).primary = some 10) ∧
        (∀ x : LineNo, (s.line x).waiting = true → (s.line x).names 10 = false) ∧
        (s.line 5).primary ≠ (s.line 5).alternate ∧ w.maskBit 13 = true ∧ slotArg w.w3 = some (some 12) ∧
        (s.line 5).state = .idle ∧ ¬PrimaryTaken s 5 (some 12) ∧ (s.line 5).primary = some 10 ∧
        w.maskBit 14 = true ∧ slotArg w.w4 = some (some 10) ∧ (s.line 5).route ≠ .alternate ∧
        ¬AlternateTaken s (some 10) ∧ (s.line 5).alternate = some 12 ∧ Claimable s 12) ∧
    (let s := ((base.modLine 5 fun x => { x with alternate := some 12 }).modSlot 12 fun x => { x with state := .standby, altLines := [5] }).modSlot 12 fun x => { x with state := .fault }; let w := words 0x60 5 0 12 10 0 0 0;
      Open s ∧
        bits w.w1 0 8 = (5 : LineNo).val ∧ (s.line 5).state ≠ .vacant ∧ ¬SetLineBad (s.line 5) w ∧
        (s.line 5).activeSlot = some 10 ∧ ((s.slot 10).primaryNamer = none ∨ (s.line 5).primary = some 10) ∧
        (∀ x : LineNo, (s.line x).waiting = true → (s.line x).names 10 = false) ∧
        (s.line 5).primary ≠ (s.line 5).alternate ∧ w.maskBit 13 = true ∧ slotArg w.w3 = some (some 12) ∧
        (s.line 5).state = .idle ∧ ¬PrimaryTaken s 5 (some 12) ∧ (s.line 5).primary = some 10 ∧
        w.maskBit 14 = true ∧ slotArg w.w4 = some (some 10) ∧ (s.line 5).route ≠ .alternate ∧
        ¬AlternateTaken s (some 10) ∧ (s.line 5).activeSlot = some 10 ∧ ¬Claimable s 12) ∧
    (let s := onAlternate 5 10 11 base; let w := words 0x20 5 0 0xFFFF#16 0 0 0 0;
      Open s ∧
        bits w.w1 0 8 = (5 : LineNo).val ∧ (s.line 5).state ≠ .vacant ∧ ¬SetLineBad (s.line 5) w ∧
        (s.line 5).activeSlot = some 11 ∧ ((s.slot 11).primaryNamer = none ∨ (s.line 5).primary = some 11) ∧
        (∀ x : LineNo, (s.line x).waiting = true → (s.line x).names 11 = false) ∧
        (s.line 5).primary ≠ (s.line 5).alternate ∧ w.maskBit 13 = true ∧ slotArg w.w3 = some (none) ∧
        (s.line 5).state = .idle ∧ ¬PrimaryTaken s 5 (none) ∧ (s.line 5).primary = some 10 ∧
        w.maskBit 14 = false ∧ (s.line 5).route = .alternate) := 
  ⟨by decide +kernel, by decide +kernel, by decide +kernel, by decide +kernel, by decide +kernel, by decide +kernel⟩

theorem witness_SetLineWritesSettings_refused :
    (let s := base; let w := words 0 192 0 0 0 0 0 0;
      Open s ∧ 191 < bits w.w1 0 8) ∧
    (let s := base; let w := words 0x80 5 0 0 0 0 0 0;
      Open s ∧ bits w.w1 0 8 = (5 : LineNo).val ∧
        SetLineBad (s.line 5) w) ∧
    (let s := base; let w := words 0x40 5 0 0 10 0 0 0;
      Open s ∧ bits w.w1 0 8 = (5 : LineNo).val ∧
        SetLineBad (s.line 5) w) ∧
    (let s := base; let w := words 0x01 6 1 0 0 0 0 0;
      Open s ∧ bits w.w1 0 8 = (6 : LineNo).val ∧
        ¬SetLineBad (s.line 6) w ∧ (s.line 6).state = .vacant) ∧
    (let s := connected [⟨0, .left⟩]; let w := words 0x01 5 1 0 0 0 0 0;
      Open s ∧
        bits w.w1 0 8 = (5 : LineNo).val ∧ ¬SetLineBad (s.line 5) w ∧ w.maskBit 8 = true ∧
        (s.line 5).state = .connected) ∧
    (let s := onAlternate 5 10 11 base; let w := words 0x40 5 0 0 12 0 0 0;
      Open s ∧
        bits w.w1 0 8 = (5 : LineNo).val ∧ ¬SetLineBad (s.line 5) w ∧ w.maskBit 14 = true ∧
        (s.line 5).route = .alternate) ∧
    (let s := beside id base; let w := words 0x20 5 0 20 5 0 0 0;
      Open s ∧ bits w.w1 0 8 = (5 : LineNo).val ∧
        ¬SetLineBad (s.line 5) w ∧ (s.line 5).state = .idle ∧ w.maskBit 14 = false ∧
        slotArg w.w3 = some (some 20) ∧ slotArg w.w4 = some (some 5) ∧ w.maskBit 13 = true ∧
        PrimaryTaken s 5 (some 20)) := 
  ⟨by decide +kernel, by decide +kernel, by decide +kernel, by decide +kernel, by decide +kernel, by decide +kernel, by decide +kernel⟩

theorem witness_RetireLine :
    (let s := base; let w := words 0 5 0 0 0 0 0 0;
      Open s ∧ w.w1 = word (5 : LineNo).val ∧
        (s.line 5).state = .idle ∧ (s.line 5).primary = some 10 ∧ (s.slot 10).altLines = []) ∧
    (let s := withLine fun x => { x with state := .alerting, refGen := some 7 }; let w := words 1 5 0 0 0 0 0 0;
      Open s ∧
        w.w1 = word (5 : LineNo).val ∧ (s.line 5).state = .alerting ∧ (s.line 5).refGen = some 7 ∧
        w.maskBit 8 = true) ∧
    (let s := (connected [⟨0, .left⟩]).modLine 5 fun x => { x with monitors := [⟨1, 2⟩], alternate := some 11 }; let w := words 1 5 0 0 0 0 0 0;
      Open s ∧
        w.w1 = word (5 : LineNo).val ∧ (s.line 5).state = .connected ∧ (s.line 5).bridge = some 0 ∧
        (s.line 5).alternate = some 11 ∧ w.maskBit 8 = true) := 
  ⟨by decide +kernel, by decide +kernel, by decide +kernel⟩

theorem witness_RetireLine_refused :
    (let s := base; let w := words 0 192 0 0 0 0 0 0;
      Open s ∧ 191 < w.w1.toNat) ∧
    (let s := base; let w := words 0 6 0 0 0 0 0 0;
      Open s ∧ w.w1 = word (6 : LineNo).val ∧
        (s.line 6).state = .vacant) ∧
    (let s := held; let w := words 0 5 0 0 0 0 0 0;
      Open s ∧ w.w1 = word (5 : LineNo).val ∧
        (s.line 5).state = .held ∧ w.maskBit 8 = false) := 
  ⟨by decide +kernel, by decide +kernel, by decide +kernel⟩

theorem witness_RetireChannel :
    (let s := (base.setChannel 2 { hoot with trunk := some 30 }).setSlot 30 { Slot.initial with state := .active, claimant := some (.channel 2), primaryNamer := some (.channel 2) }; let w := words 0 2 0 0 0 0 0 0;
      Open s ∧
        w.w1 = word (2 : ChanNo).val ∧ (s.channel 2).state = .closed ∧ (s.channel 2).trunk = some 30 ∧
        (s.slot 30).altLines = []) ∧
    (let s := opened [⟨0, true⟩] []; let w := words 1 2 0 0 0 0 0 0;
      Open s ∧ w.w1 = word (2 : ChanNo).val ∧
        (s.channel 2).state = .opened ∧ (s.channel 2).bridge = some 1 ∧ w.maskBit 8 = true ∧
        s.qualifies 2 0 = true) ∧
    (let s := opened [] []; let w := words 0 2 0 0 0 0 0 0;
      Open s ∧ w.w1 = word (2 : ChanNo).val ∧
        (s.channel 2).state = .opened ∧ w.maskBit 8 = false) ∧
    (let s := base; let w := words 0 2 0 0 0 0 0 0;
      Open s ∧ w.w1 = word (2 : ChanNo).val ∧
        (s.channel 2).state = .vacant) ∧
    (let s := base; let w := words 0 32 0 0 0 0 0 0;
      Open s ∧ 31 < w.w1.toNat) := 
  ⟨by decide +kernel, by decide +kernel, by decide +kernel, by decide +kernel, by decide +kernel⟩

theorem witness_AddAppearance :
    (let s := base; let w := words 0 5 47 63 1 0 0 0;
      Open s ∧ w.w1 = word (5 : LineNo).val ∧
        w.w2 = word (47 : Pos).val ∧ w.w3 = word (63 : Key).val ∧ (s.line 5).state ≠ .vacant ∧
        (s.line 5).appearanceAt 47 = none ∧ s.keyLine 47 63 = none) ∧
    (let s := base; let w := words 0 5 0 3 1 0 0 0;
      Open s ∧ w.w1 = word (5 : LineNo).val ∧
        w.w2 = word (0 : Pos).val ∧ w.w3 = word (3 : Key).val ∧ (s.line 5).state ≠ .vacant ∧
        (s.line 5).appearanceAt 0 = some ⟨0, 3, true⟩) ∧
    (let s := base; let w := words 0 5 0 4 1 0 0 0;
      Open s ∧ w.w1 = word (5 : LineNo).val ∧
        w.w2 = word (0 : Pos).val ∧ w.w3 = word (4 : Key).val ∧ (s.line 5).state ≠ .vacant ∧
        (s.line 5).appearanceAt 0 = some ⟨0, 3, true⟩ ∧ (3 : Key) ≠ 4) ∧
    (let s := base.setKey 47 63 (some 6); let w := words 0 5 47 63 1 0 0 0;
      Open s ∧
        w.w1 = word (5 : LineNo).val ∧ w.w2 = word (47 : Pos).val ∧ w.w3 = word (63 : Key).val ∧
        (s.line 5).state ≠ .vacant ∧ (s.line 5).appearanceAt 47 = none ∧ s.keyLine 47 63 ≠ none) ∧
    (let s := State.reset; let w := words 0 5 0 3 1 0 0 0;
      Open s ∧ w.w1 = word (5 : LineNo).val ∧
        w.w2 = word (0 : Pos).val ∧ w.w3 = word (3 : Key).val ∧ (s.line 5).state = .vacant) ∧
    (let s := base; let w := words 0 5 47 64 0 0 0 0;
      Open s ∧ 63 < w.w3.toNat) := 
  ⟨by decide +kernel, by decide +kernel, by decide +kernel, by decide +kernel, by decide +kernel, by decide +kernel⟩

theorem witness_DropAppearance :
    (let s := base; let w := words 0 5 1 0 0 0 0 0;
      Open s ∧ w.w1 = word (5 : LineNo).val ∧
        w.w2 = word (1 : Pos).val ∧ (s.line 5).state ≠ .vacant ∧ (s.line 5).appearanceAt 1 = some ⟨1, 3, false⟩ ∧
        Stays s 5) ∧
    (let s := (connected [⟨0, .left⟩, ⟨1, .left⟩]).modLine 5 fun x => { x with monitors := [⟨0, 7⟩, ⟨1, 2⟩] }; let w := words 0 5 0 0 0 0 0 0;
      Open s ∧
        w.w1 = word (5 : LineNo).val ∧ w.w2 = word (0 : Pos).val ∧ (s.line 5).state ≠ .vacant ∧
        (s.line 5).appearanceAt 0 = some ⟨0, 3, true⟩ ∧ Stays s 5 ∧ ¬RestsWithout (s.line 5) 0 ∧
        (s.line 5).bridge = some 0 ∧ (s.line 5).occupiedBy 0 = true ∧ ⟨0, 7⟩ ∈ (s.line 5).monitors) ∧
    (let s := connected [⟨0, .left⟩]; let w := words 0 5 0 0 0 0 0 0;
      Open s ∧ w.w1 = word (5 : LineNo).val ∧
        w.w2 = word (0 : Pos).val ∧ (s.line 5).state ≠ .vacant ∧ (s.line 5).appearanceAt 0 = some ⟨0, 3, true⟩ ∧
        Stays s 5 ∧ (s.line 5).bridge = some 0 ∧ RestsWithout (s.line 5) 0) ∧
    (let s := held; let w := words 0 5 0 0 0 0 0 0;
      Open s ∧ w.w1 = word (5 : LineNo).val ∧
        w.w2 = word (0 : Pos).val ∧ (s.line 5).state ≠ .vacant ∧ (s.line 5).appearanceAt 0 = some ⟨0, 3, true⟩ ∧
        Stays s 5 ∧ (s.line 5).holdOwner = some 0 ∧ RestsWithout (s.line 5) 0) ∧
    (let s := base; let w := words 0 5 2 0 0 0 0 0;
      Open s ∧ w.w1 = word (5 : LineNo).val ∧
        w.w2 = word (2 : Pos).val ∧ (s.line 5).state ≠ .vacant ∧ (s.line 5).appearanceAt 2 = none) ∧
    (let s := State.reset; let w := words 0 5 0 0 0 0 0 0;
      Open s ∧ w.w1 = word (5 : LineNo).val ∧
        w.w2 = word (0 : Pos).val ∧ (s.line 5).state = .vacant) ∧
    (let s := base; let w := words 0 191 48 0 0 0 0 0;
      Open s ∧ 47 < w.w2.toNat) := 
  ⟨by decide +kernel, by decide +kernel, by decide +kernel, by decide +kernel, by decide +kernel, by decide +kernel, by decide +kernel⟩

theorem witness_ForceRelease :
    (let s := held; let w := words 0 5 0 0 0 0 0 0;
      Open s ∧ w.w1 = word (5 : LineNo).val ∧
        (s.line 5).state = .held ∧ (s.line 5).bridge = some 0 ∧ Stays s 5) ∧
    (let s := onAlternate 5 10 11 (connected [⟨0, .left⟩]); let w := words 0 5 0 0 0 0 0 0;
      Open s ∧
        w.w1 = word (5 : LineNo).val ∧ (s.line 5).state = .connected ∧ ¬Stays s 5) ∧
    (let s := withLine fun x => { x with state := .alerting, refGen := some 7 }; let w := words 0 5 0 0 0 0 0 0;
      Open s ∧
        w.w1 = word (5 : LineNo).val ∧ (s.line 5).state = .alerting ∧ (s.line 5).refGen = some 7 ∧ StaysIdle s 5) ∧
    (let s := onAlternate 5 10 11 (withLine fun x => { x with state := .alerting, refGen := some 7 }); let w := words 0 5 0 0 0 0 0 0;
      Open s ∧
        w.w1 = word (5 : LineNo).val ∧ (s.line 5).state = .alerting ∧ ¬StaysIdle s 5) ∧
    (let s := base; let w := words 0 5 0 0 0 0 0 0;
      Open s ∧ w.w1 = word (5 : LineNo).val ∧
        (s.line 5).state = .idle) ∧
    (let s := base; let w := words 0 6 0 0 0 0 0 0;
      Open s ∧ w.w1 = word (6 : LineNo).val ∧
        (s.line 6).state = .vacant) ∧
    (let s := base; let w := words 0 192 0 0 0 0 0 0;
      Open s ∧ 191 < w.w1.toNat) := 
  ⟨by decide +kernel, by decide +kernel, by decide +kernel, by decide +kernel, by decide +kernel, by decide +kernel, by decide +kernel⟩

theorem witness_CreateChannel :
    (let s := base; let w := words 0 2 0x0530#16 30 256 32768 0 0;
      Open s ∧ w.w1 = word (2 : ChanNo).val ∧
        maximumArg w.w2 = some 3 ∧ headroomArg w.w2 = some ⟨.auto, 1⟩ ∧ slotArg w.w3 = some (some 30) ∧
        bit w.w2 0 = false ∧ (s.channel 2).state = .vacant ∧ ¬TrunkTaken s 2 (some 30) ∧ Claimable s 30) ∧
    (let s := base.modSlot 30 fun x => { x with state := .fault, primaryNamer := some (.channel 2) }; let w := words 0 2 0x0530#16 30 256 32768 0 0;
      Open s ∧
        w.w1 = word (2 : ChanNo).val ∧ maximumArg w.w2 = some 3 ∧ headroomArg w.w2 = some ⟨.auto, 1⟩ ∧
        slotArg w.w3 = some (some 30) ∧ bit w.w2 0 = false ∧ (s.channel 2).state = .vacant ∧
        ¬TrunkTaken s 2 (some 30) ∧ ¬Claimable s 30) ∧
    (let s := base; let w := words 0 2 0x0530#16 0xFFFF#16 256 32768 0 0;
      Open s ∧ w.w1 = word (2 : ChanNo).val ∧
        maximumArg w.w2 = some 3 ∧ headroomArg w.w2 = some ⟨.auto, 1⟩ ∧ slotArg w.w3 = some (none) ∧
        bit w.w2 0 = false ∧ (s.channel 2).state = .vacant ∧ ¬TrunkTaken s 2 none) ∧
    (let s := base; let w := words 0 2 0x0530#16 10 256 32768 0 0;
      Open s ∧ w.w1 = word (2 : ChanNo).val ∧
        maximumArg w.w2 = some 3 ∧ headroomArg w.w2 = some ⟨.auto, 1⟩ ∧ slotArg w.w3 = some (some 10) ∧
        bit w.w2 0 = false ∧ (s.channel 2).state = .vacant ∧ TrunkTaken s 2 (some 10)) ∧
    (let s := opened [] []; let w := words 0 2 0x0530#16 30 256 32768 0 0;
      Open s ∧
        w.w1 = word (2 : ChanNo).val ∧ maximumArg w.w2 = some 3 ∧ headroomArg w.w2 = some ⟨.auto, 1⟩ ∧
        slotArg w.w3 = some (some 30) ∧ bit w.w2 0 = false ∧ (s.channel 2).state ≠ .vacant) ∧
    (let s := base; let w := words 0 2 0x0531#16 30 0 0 0 0;
      Open s ∧ CreateChannelBad w) := 
  ⟨by decide +kernel, by decide +kernel, by decide +kernel, by decide +kernel, by decide +kernel, by decide +kernel⟩

theorem witness_SetChannelWritesSettings :
    (let s := base.setChannel 2 hoot; let w := words 0x3B 2 0x0411#16 0 256 32768 0 0;
      Open s ∧
        w.w1 = word (2 : ChanNo).val ∧ (s.channel 2).state ≠ .vacant ∧ ¬SetChannelBad (s.channel 2) w ∧
        w.maskBit 10 = false ∧ w.maskBit 8 = true ∧ channelKindArg (bit w.w2 0) = .group ∧
        (s.channel 2).state = .closed ∧ maximumArg w.w2 = some 1 ∧ headroomArg w.w2 = some ⟨.auto, 0⟩) ∧
    (let s := opened [⟨0, true⟩, ⟨1, true⟩] [⟨5, true⟩]; let w := words 0x02 2 0x0010#16 0 256 32768 0 0;
      Open s ∧
        w.w1 = word (2 : ChanNo).val ∧ (s.channel 2).state ≠ .vacant ∧ ¬SetChannelBad (s.channel 2) w ∧
        w.maskBit 10 = false ∧ w.maskBit 9 = true ∧ maximumArg w.w2 = some 1 ∧
        (s.channel 2).talkers.drop 1 = [⟨1, true⟩] ∧ (s.channel 2).bridge = some 1) ∧
    (let s := opened [⟨0, true⟩, ⟨1, true⟩] [⟨5, true⟩]; let w := words 0x22 2 0x0430#16 0 256 32768 0 0;
      Open s ∧
        w.w1 = word (2 : ChanNo).val ∧ (s.channel 2).state ≠ .vacant ∧ ¬SetChannelBad (s.channel 2) w ∧
        w.maskBit 10 = false ∧ w.maskBit 9 = true ∧ maximumArg w.w2 = some 3 ∧
        floorGains (s.channel 2) 3 = [⟨5, true⟩] ∧ (s.channel 2).silence ≠ 0 ∧ (s.channel 2).bridge = some 1 ∧
        w.maskBit 13 = true ∧ (s.bridge 1).state = .inUse) := 
  ⟨by decide +kernel, by decide +kernel, by decide +kernel⟩

theorem witness_SetChannelWritesSettings_trunk :
    (let s := ((base.setChannel 2 { hoot with trunk := some 30 }).setSlot 30 { Slot.initial with state := .active, claimant := some (.channel 2), primaryNamer := some (.channel 2) }).modChannel 2 fun x => { x with state := .opened, bridge := some 1 }; let w := words 0x04 2 0 31 0 0 0 0;
      Open s ∧
        w.w1 = word (2 : ChanNo).val ∧ (s.channel 2).state ≠ .vacant ∧ ¬SetChannelBad (s.channel 2) w ∧
        w.maskBit 10 = true ∧ slotArg w.w3 = some (some 31) ∧ (s.channel 2).trunk ≠ some 31 ∧
        ¬TrunkTaken s 2 (some 31) ∧ Claimable s 31 ∧ (s.channel 2).trunk = some 30 ∧ (s.slot 30).altLines = [] ∧
        (s.channel 2).bridge = some 1 ∧ (s.bridge 1).contributors.Nodup) ∧
    (let s := (opened [] []).modSlot 31 fun x => { x with state := .fault, primaryNamer := some (.channel 2) }; let w := words 0x04 2 0 31 0 0 0 0;
      Open s ∧
        w.w1 = word (2 : ChanNo).val ∧ (s.channel 2).state ≠ .vacant ∧ ¬SetChannelBad (s.channel 2) w ∧
        w.maskBit 10 = true ∧ slotArg w.w3 = some (some 31) ∧ (s.channel 2).trunk ≠ some 31 ∧
        ¬TrunkTaken s 2 (some 31) ∧ ¬Claimable s 31) ∧
    (let s := (((base.setChannel 2 { hoot with trunk := some 30 }).setSlot 30 { Slot.initial with state := .active, claimant := some (.channel 2), primaryNamer := some (.channel 2) }).modChannel 2 fun x => { x with state := .opened, bridge := some 1 }).modSlot 30 fun x => { x with altLines := [6] }; let w := words 0x04 2 0 0xFFFF#16 0 0 0 0;
      Open s ∧
        w.w1 = word (2 : ChanNo).val ∧ (s.channel 2).state ≠ .vacant ∧ ¬SetChannelBad (s.channel 2) w ∧
        w.maskBit 10 = true ∧ slotArg w.w3 = some (none) ∧ (s.channel 2).trunk ≠ none ∧ ¬TrunkTaken s 2 (none) ∧
        (s.channel 2).trunk = some 30 ∧ (s.slot 30).altLines ≠ []) ∧
    (let s := opened [⟨0, true⟩, ⟨1, true⟩] [⟨5, true⟩]; let w := words 0x3E 2 0x0230#16 31 256 32768 0 0;
      Open s ∧
        w.w1 = word (2 : ChanNo).val ∧ (s.channel 2).state ≠ .vacant ∧ ¬SetChannelBad (s.channel 2) w ∧
        w.maskBit 10 = true ∧ slotArg w.w3 = some (some 31) ∧ (s.channel 2).trunk ≠ some 31 ∧
        ¬TrunkTaken s 2 (some 31) ∧ Claimable s 31 ∧ w.maskBit 9 = true ∧ maximumArg w.w2 = some 3 ∧
        floorGains (s.channel 2) 3 = [⟨5, true⟩] ∧ (s.channel 2).bridge = some 1 ∧ w.maskBit 13 = true ∧
        headroomArg w.w2 = some ⟨.fixed, 2⟩ ∧ (s.bridge 1).headroom ≠ ⟨.fixed, 2⟩ ∧ (s.bridge 1).state = .inUse) := 
  ⟨by decide +kernel, by decide +kernel, by decide +kernel, by decide +kernel⟩

theorem witness_SetChannelWritesSettings_refused :
    (let s := base; let w := words 0 32 0 0 0 0 0 0;
      Open s ∧ 31 < w.w1.toNat) ∧
    (let s := base; let w := words 0x40 2 0 0 0 0 0 0;
      Open s ∧ w.w1 = word (2 : ChanNo).val ∧
        SetChannelBad (s.channel 2) w) ∧
    (let s := grouped; let w := words 0x04 2 0 30 0 0 0 0;
      Open s ∧ w.w1 = word (2 : ChanNo).val ∧
        SetChannelBad (s.channel 2) w) ∧
    (let s := base; let w := words 0x02 2 0x0010#16 0 0 0 0 0;
      Open s ∧ w.w1 = word (2 : ChanNo).val ∧
        ¬SetChannelBad (s.channel 2) w ∧ (s.channel 2).state = .vacant) ∧
    (let s := opened [] []; let w := words 0x01 2 1 0 256 32768 0 0;
      Open s ∧ w.w1 = word (2 : ChanNo).val ∧
        (s.channel 2).state ≠ .vacant ∧ ¬SetChannelBad (s.channel 2) w ∧ (s.channel 2).state ≠ .closed ∧
        w.maskBit 8 = true) ∧
    (let s := opened [] []; let w := words 0x04 2 0 10 0 0 0 0;
      Open s ∧ w.w1 = word (2 : ChanNo).val ∧
        (s.channel 2).state ≠ .vacant ∧ ¬SetChannelBad (s.channel 2) w ∧
        (w.maskBit 8 = true → (s.channel 2).state = .closed) ∧ w.maskBit 10 = true ∧
        slotArg w.w3 = some (some 10) ∧ TrunkTaken s 2 (some 10)) := 
  ⟨by decide +kernel, by decide +kernel, by decide +kernel, by decide +kernel, by decide +kernel, by decide +kernel⟩

theorem witness_AddMember :
    (let s := (base.setChannel 2 { Channel.vacant with kind := .group, state := .closed, members := List.replicate 15 ⟨9, 1⟩ }).setSelection 1 7 (.channel 3); let w := words 0 2 1 7 0 0 0 0;
      Open s ∧
        w.w1 = word (2 : ChanNo).val ∧ w.w2 = word (1 : Pos).val ∧ w.w3 = word (7 : UnitNo).val ∧
        (s.channel 2).kind = .group ∧ (s.channel 2).memberUnit 1 = none ∧ s.designated 1 7 = none ∧
        (s.channel 2).members.length = 15 ∧ s.selection 1 7 ≠ .channel 2 ∧ (s.channel 2).state = .closed ∧
        s.liveTrunk 2 = none ∧ (HadBySelect s 1 7 2 0 ∧ ∀ b : BridgeNo, b < 0 → ¬HadBySelect s 1 7 2 b)) ∧
    (let s := grouped; let w := words 0 2 1 7 0 0 0 0;
      Open s ∧ w.w1 = word (2 : ChanNo).val ∧
        w.w2 = word (1 : Pos).val ∧ w.w3 = word (7 : UnitNo).val ∧ (s.channel 2).kind = .group ∧
        (s.channel 2).memberUnit 1 = none ∧ s.designated 1 7 = none ∧ (s.channel 2).members.length < 16 ∧
        s.selection 1 7 ≠ .channel 2 ∧ (s.channel 2).state = .opened ∧ (s.channel 2).bridge = some 1) := 
  ⟨by decide +kernel, by decide +kernel⟩

theorem witness_AddMember_refused :
    (let s := base; let w := words 0 31 47 8 0 0 0 0;
      Open s ∧ 7 < w.w3.toNat) ∧
    (let s := base; let w := words 0 2 1 7 0 0 0 0;
      Open s ∧ w.w1 = word (2 : ChanNo).val ∧
        w.w2 = word (1 : Pos).val ∧ w.w3 = word (7 : UnitNo).val ∧ (s.channel 2).state = .vacant) ∧
    (let s := opened [] []; let w := words 0 2 1 7 0 0 0 0;
      Open s ∧ w.w1 = word (2 : ChanNo).val ∧
        w.w2 = word (1 : Pos).val ∧ w.w3 = word (7 : UnitNo).val ∧ (s.channel 2).state ≠ .vacant ∧
        (s.channel 2).kind = .hoot) ∧
    (let s := grouped; let w := words 0 2 0 4 0 0 0 0;
      Open s ∧ w.w1 = word (2 : ChanNo).val ∧
        w.w2 = word (0 : Pos).val ∧ w.w3 = word (4 : UnitNo).val ∧ (s.channel 2).state ≠ .vacant ∧
        (s.channel 2).kind = .group ∧ (s.channel 2).memberUnit 0 = some 4) ∧
    (let s := grouped; let w := words 0 2 0 5 0 0 0 0;
      Open s ∧ w.w1 = word (2 : ChanNo).val ∧
        w.w2 = word (0 : Pos).val ∧ w.w3 = word (5 : UnitNo).val ∧ (s.channel 2).state ≠ .vacant ∧
        (s.channel 2).kind = .group ∧ (s.channel 2).memberUnit 0 = some 4) ∧
    (let s := grouped.setChannel 3 { Channel.vacant with kind := .group, state := .closed, members := [⟨1, 7⟩] }; let w := words 0 2 1 7 0 0 0 0;
      Open s ∧
        w.w1 = word (2 : ChanNo).val ∧ w.w2 = word (1 : Pos).val ∧ w.w3 = word (7 : UnitNo).val ∧
        (s.channel 2).kind = .group ∧ (s.channel 2).state ≠ .vacant ∧ (s.channel 2).memberUnit 1 = none ∧
        s.designated 1 7 ≠ none) ∧
    (let s := (grouped).modChannel 2 fun x => { x with members := List.replicate 16 ⟨9, 1⟩ }; let w := words 0 2 1 7 0 0 0 0;
      Open s ∧
        w.w1 = word (2 : ChanNo).val ∧ w.w2 = word (1 : Pos).val ∧ w.w3 = word (7 : UnitNo).val ∧
        (s.channel 2).state ≠ .vacant ∧ (s.channel 2).kind = .group ∧ (s.channel 2).memberUnit 1 = none ∧
        s.designated 1 7 = none ∧ (s.channel 2).members.length = 16) ∧
    (let s := noBridgeFree (base.setChannel 2 { Channel.vacant with kind := .group, state := .closed, members := List.replicate 15 ⟨9, 1⟩ }); let w := words 0 2 1 7 0 0 0 0;
      Open s ∧
        w.w1 = word (2 : ChanNo).val ∧ w.w2 = word (1 : Pos).val ∧ w.w3 = word (7 : UnitNo).val ∧
        (s.channel 2).kind = .group ∧ (s.channel 2).memberUnit 1 = none ∧ s.designated 1 7 = none ∧
        (s.channel 2).members.length < 16 ∧ (s.channel 2).state = .closed ∧
        (∀ b : BridgeNo, (s.bridge b).state ≠ .free) ∧
        ∀ y : ChanNo, s.selection 1 7 = .channel y → y = 2 ∨ ¬Unheard s y 1 7) := 
  ⟨by decide +kernel, by decide +kernel, by decide +kernel, by decide +kernel, by decide +kernel, by decide +kernel, by decide +kernel, by decide +kernel⟩

theorem witness_DropMember :
    (let s := (grouped).modChannel 2 fun x => { x with talkers := [⟨0, true⟩], maxTalkers := 1, queue := [⟨1, true⟩], members := [⟨0, 4⟩, ⟨1, 4⟩] }; let w := words 0 2 0 0 0 0 0 0;
      Open s ∧
        w.w1 = word (2 : ChanNo).val ∧ w.w2 = word (0 : Pos).val ∧ (s.channel 2).state ≠ .vacant ∧
        (s.channel 2).kind = .group ∧ (s.channel 2).memberUnit 0 ≠ none ∧ granted (s.channel 2) 0 = [⟨1, true⟩]) ∧
    (let s := grouped; let w := words 0 2 0 0 0 0 0 0;
      Open s ∧ w.w1 = word (2 : ChanNo).val ∧
        w.w2 = word (0 : Pos).val ∧ (s.channel 2).state ≠ .vacant ∧ (s.channel 2).kind = .group ∧
        (s.channel 2).memberUnit 0 ≠ none ∧ (s.channel 2).bridge = some 1 ∧ (s.channel 2).state = .opened ∧
        (withoutMember s 2 0).state = .closed) ∧
    (let s := grouped; let w := words 0 2 1 0 0 0 0 0;
      Open s ∧ w.w1 = word (2 : ChanNo).val ∧
        w.w2 = word (1 : Pos).val ∧ (s.channel 2).state ≠ .vacant ∧ (s.channel 2).memberUnit 1 = none) ∧
    (let s := base; let w := words 0 2 0 0 0 0 0 0;
      Open s ∧ w.w1 = word (2 : ChanNo).val ∧
        w.w2 = word (0 : Pos).val ∧ (s.channel 2).state = .vacant) ∧
    (let s := base; let w := words 0 2 48 0 0 0 0 0;
      Open s ∧ 47 < w.w2.toNat) := 
  ⟨by decide +kernel, by decide +kernel, by decide +kernel, by decide +kernel, by decide +kernel⟩

theorem witness_PermissionsChange :
    (let s := base.setChannel 2 { hoot with talk := [] }; let w := words 1 2 0 0 0 0 0 0;
      Open s ∧
        w.w1 = word (2 : ChanNo).val ∧ w.w2 = word (0 : Pos).val ∧ (s.channel 2).state ≠ .vacant ∧
        (s.channel 2).kind = .hoot ∧ w.maskBit 8 = true ∧ (0 : Pos) ∉ (s.channel 2).talk) ∧
    (let s := base.setChannel 2 { hoot with listen := [] }; let w := words 0 2 0 0 0 0 0 0;
      Open s ∧
        w.w1 = word (2 : ChanNo).val ∧ w.w2 = word (0 : Pos).val ∧ (s.channel 2).state ≠ .vacant ∧
        (s.channel 2).kind = .hoot ∧ w.maskBit 8 = false ∧ (0 : Pos) ∉ (s.channel 2).listen) ∧
    (let s := opened [⟨0, true⟩, ⟨1, false⟩] [⟨5, true⟩]; let w := words 1 2 0 0 0 0 0 0;
      Open s ∧
        w.w1 = word (2 : ChanNo).val ∧ w.w2 = word (0 : Pos).val ∧ (s.channel 2).state ≠ .vacant ∧
        (s.channel 2).kind = .hoot ∧ w.maskBit 8 = true ∧ (0 : Pos) ∈ (s.channel 2).talk ∧
        granted (s.channel 2) 0 = [⟨5, true⟩]) ∧
    (let s := opened [⟨1, false⟩, ⟨5, false⟩] [⟨0, true⟩]; let w := words 1 2 0 0 0 0 0 0;
      Open s ∧
        w.w1 = word (2 : ChanNo).val ∧ w.w2 = word (0 : Pos).val ∧ (s.channel 2).state ≠ .vacant ∧
        (s.channel 2).kind = .hoot ∧ w.maskBit 8 = true ∧ (0 : Pos) ∈ (s.channel 2).talk ∧
        (s.channel 2).queued 0 = true) ∧
    (let s := ((opened [] []).setSelection 1 0 .none).setSelection 0 0 (.channel 2); let w := words 0 2 0 0 0 0 0 0;
      Open s ∧
        w.w1 = word (2 : ChanNo).val ∧ w.w2 = word (0 : Pos).val ∧ (s.channel 2).state ≠ .vacant ∧
        (s.channel 2).kind = .hoot ∧ w.maskBit 8 = false ∧ (0 : Pos) ∈ (s.channel 2).listen ∧
        (s.channel 2).bridge = some 1 ∧ (s.channel 2).state = .opened ∧ (unheardBy s 2 0).state = .closed) ∧
    (let s := (opened [] []).setSelection 0 0 (.channel 2); let w := words 0 2 0 0 0 0 0 0;
      Open s ∧
        w.w1 = word (2 : ChanNo).val ∧ w.w2 = word (0 : Pos).val ∧ (s.channel 2).state ≠ .vacant ∧
        (s.channel 2).kind = .hoot ∧ w.maskBit 8 = false ∧ (0 : Pos) ∈ (s.channel 2).listen ∧
        (unheardBy s 2 0).state = (s.channel 2).state) := 
  ⟨by decide +kernel, by decide +kernel, by decide +kernel, by decide +kernel, by decide +kernel, by decide +kernel⟩

theorem witness_PermissionsChange_refused :
    (let s := base; let w := words 0 2 48 0 0 0 0 0;
      Open s ∧ 47 < w.w2.toNat) ∧
    (let s := base; let w := words 0 2 0 0 0 0 0 0;
      Open s ∧ w.w1 = word (2 : ChanNo).val ∧
        w.w2 = word (0 : Pos).val ∧ (s.channel 2).state = .vacant) ∧
    (let s := grouped; let w := words 0 2 0 0 0 0 0 0;
      Open s ∧ w.w1 = word (2 : ChanNo).val ∧
        w.w2 = word (0 : Pos).val ∧ (s.channel 2).state ≠ .vacant ∧ (s.channel 2).kind = .group) := 
  ⟨by decide +kernel, by decide +kernel, by decide +kernel⟩

theorem witness_SetCadence :
    (let s := base; let w := words 0 7 0 1001 0 0 0 0;
      Open s ∧ w.w1 = word (7 : GenNo).val ∧
        (s.generator 7).state = .idle) ∧
    (let s := base.setGenerator 7 ⟨1, 0, 1, 300, .on, 0, 1⟩; let w := words 0 7 1000 0 0 0 0 0;
      Open s ∧
        w.w1 = word (7 : GenNo).val ∧ (s.generator 7).state = .on) ∧
    (let s := base; let w := words 0 8 0 0 0 0 0 0;
      Open s ∧ 7 < w.w1.toNat) := 
  ⟨by decide +kernel, by decide +kernel, by decide +kernel⟩

theorem witness_SettingsBroughtIntoRange_leg :
    (let s := base; let w := words 3 783 256 255 0 0 0 0;
      Open s ∧ w.w1 = word (783 : LegNo).val ∧
        w.maskBelow 10 = true ∧ w.maskBit 8 = true ∧ (s.leg 783).gain ≠ none ∧ w.maskBit 9 = true ∧
        (s.leg 783).volume ≠ none) ∧
    (let s := base; let w := words 4 783 0 0 0 0 0 0;
      Open s ∧ w.w1 = word (783 : LegNo).val ∧
        w.maskBelow 10 = false) ∧
    (let s := base; let w := words 2 2 0 0 0 0 0 0;
      Open s ∧ w.w1 = word (2 : LegNo).val ∧ w.maskBit 9 = true ∧
        (s.leg 2).volume = none) ∧
    (let s := base; let w := words 1 3 0 0 0 0 0 0;
      Open s ∧ w.w1 = word (3 : LegNo).val ∧ w.maskBit 8 = true ∧
        (s.leg 3).gain = none) ∧
    (let s := base; let w := words 0 784 0 0 0 0 0 0;
      Open s ∧ 783 < w.w1.toNat) := 
  ⟨by decide +kernel, by decide +kernel, by decide +kernel, by decide +kernel, by decide +kernel⟩

theorem witness_SettingsBroughtIntoRange_slot :
    (let s := base; let w := words 7 9 60001 10001 0 0 0 0;
      Open s ∧ w.maskBelow 11 = true) ∧
    (let s := base; let w := words 8 10 0 0 0 0 0 0;
      Open s ∧ w.maskBelow 11 = false) ∧
    (let s := base; let w := words 3 255 1 201 0 0 0 0;
      Open s ∧ w.w1 = word (255 : SlotNo).val ∧
        w.maskBelow 10 = true ∧ w.maskBit 8 = true ∧ w.w2 = 1#16 ∧ w.maskBit 9 = true ∧
        (s.slot 255).polarity = .activeHigh) ∧
    (let s := base.modSlot 255 fun x => { x with polarity := .activeLow }; let w := words 1 255 0 0 0 0 0 0;
      Open s ∧
        w.w1 = word (255 : SlotNo).val ∧ w.maskBelow 10 = true ∧ w.maskBit 8 = true ∧ w.w2 = 0#16 ∧
        (s.slot 255).polarity = .activeLow ∧ w.maskBit 9 = false) ∧
    (let s := base; let w := words 1 255 2 0 0 0 0 0;
      Open s ∧ w.maskBit 8 = true ∧ w.w2 ≠ 0#16 ∧ w.w2 ≠ 1#16) ∧
    (let s := base; let w := words 0 256 0 0 0 0 0 0;
      Open s ∧ 255 < w.w1.toNat) := 
  ⟨by decide +kernel, by decide +kernel, by decide +kernel, by decide +kernel, by decide +kernel, by decide +kernel⟩

theorem witness_SetPositionSwitchesLink :
    (let s := base; let w := words 3 47 1 1 0 0 0 0;
      Open s ∧ w.w1 = word (47 : Pos).val ∧
        w.maskBelow 10 = true ∧ w.w2.toNat ≤ 1 ∧ w.w3.toNat ≤ 1 ∧ w.maskBit 8 = true ∧ w.w2 = 1#16 ∧
        (s.link 47).state = .disabled) ∧
    (let s := base; let w := words 2 0 0 1 0 0 0 0;
      Open s ∧ w.w1 = word (0 : Pos).val ∧ w.maskBelow 10 = true ∧
        w.w2.toNat ≤ 1 ∧ w.w3.toNat ≤ 1 ∧ w.maskBit 8 = false ∧ w.maskBit 9 = true) ∧
    (let s := base; let w := words 1 0 1 0 0 0 0 0;
      Open s ∧ w.w1 = word (0 : Pos).val ∧ w.maskBelow 10 = true ∧
        w.w2.toNat ≤ 1 ∧ w.w3.toNat ≤ 1 ∧ w.maskBit 8 = true ∧ w.w2 = 1#16 ∧ (s.link 0).state ≠ .disabled) ∧
    (let s := base; let w := words 1 47 0 0 0 0 0 0;
      Open s ∧ w.w1 = word (47 : Pos).val ∧
        w.maskBelow 10 = true ∧ w.w2.toNat ≤ 1 ∧ w.w3.toNat ≤ 1 ∧ w.maskBit 8 = true ∧ w.w2 = 0#16 ∧
        (s.link 47).state = .disabled) := 
  ⟨by decide +kernel, by decide +kernel, by decide +kernel, by decide +kernel⟩

theorem witness_SetPositionSwitchesLink_teardown :
    let s := (((connected [⟨0, .left⟩]).modLine 5 fun x => { x with monitors := [⟨1, 2⟩] }).setSelection 1 2 (.line 5)).setChannel 2 { hoot with state := .opened, bridge := some 1, talkers := [⟨0, true⟩], maxTalkers := 1, queue := [⟨1, true⟩] }; let w := words 1 0 0 0 0 0 0 0;
      Open s ∧
        w.w1 = word (0 : Pos).val ∧ w.maskBelow 10 = true ∧ w.w2.toNat ≤ 1 ∧ w.w3.toNat ≤ 1 ∧ w.maskBit 8 = true ∧
        w.w2 = 0#16 ∧ (s.link 0).state ≠ .disabled ∧ s.currentLine ⟨0, .left⟩ = some 5 ∧
        s.currentLine ⟨0, .right⟩ = none ∧ Stays s 5 ∧ LeftAtRest s 0 5 ∧ MonitorGone s 0 ⟨1, 2⟩ ∧
        granted (s.channel 2) 0 = [⟨1, true⟩] := by decide +kernel

theorem witness_SetPositionSwitchesLink_refused :
    (let s := base; let w := words 1 48 0 0 0 0 0 0;
      Open s ∧ 47 < w.w1.toNat) ∧
    (let s := base; let w := words 4 47 0 0 0 0 0 0;
      Open s ∧ w.maskBelow 10 = false) ∧
    (let s := base; let w := words 1 47 2 0 0 0 0 0;
      Open s ∧ w.maskBit 8 = true ∧ 1 < w.w2.toNat) ∧
    (let s := base; let w := words 2 47 0 2 0 0 0 0;
      Open s ∧ w.maskBit 9 = true ∧ 1 < w.w3.toNat) := 
  ⟨by decide +kernel, by decide +kernel, by decide +kernel, by decide +kernel⟩

theorem witness_ClearMarks :
    (let s := base; let w := words 0 0 95 0 0 0 0 0;
      Open s ∧ w.w1 = 0#16 ∧ w.w2 = word (95 : BridgeNo).val) ∧
    (let s := base; let w := words 0 1 47 0 0 0 0 0;
      Open s ∧ w.w1 = 1#16 ∧ w.w2 = word (47 : Pos).val) ∧
    (let s := withLine fun x => { x with marks := { x.marks with missed := true } }; let w := words 0 2 5 0 0 0 0 0;
      Open s ∧
        w.w1 = 2#16 ∧ w.w2 = word (5 : LineNo).val ∧ (s.line 5).state ≠ .vacant ∧ (s.line 5).marks.missed = true) ∧
    (let s := base; let w := words 0 2 191 0 0 0 0 0;
      Open s ∧ w.w1 = 2#16 ∧ w.w2 = word (191 : LineNo).val ∧
        (s.line 191).state = .vacant) ∧
    (let s := base; let w := words 0 3 0 0 0 0 0 0;
      Open s ∧ 2 < w.w1.toNat) ∧
    (let s := base; let w := words 0 0 96 0 0 0 0 0;
      Open s ∧ w.w1 = 0#16 ∧ 95 < w.w2.toNat) := 
  ⟨by decide +kernel, by decide +kernel, by decide +kernel, by decide +kernel, by decide +kernel, by decide +kernel⟩

theorem witness_FloorReset_linesAndChannels :
    (let s := during (connected [⟨0, .left⟩]) (.floorReset .lines);
      s.mp.job = some (.floorReset .lines) ∧
        (s.line 5).state ≠ .vacant ∧ (s.line 6).state = .vacant ∧ (s.bridge 0).owner = some (.line 5)) ∧
    (let s := during (opened [⟨0, true⟩] []) (.floorReset .channels);
      s.mp.job = some (.floorReset .channels) ∧
        (s.bridge 1).owner = some (.channel 2) ∧ s.selection 1 0 = .channel 2) := 
  ⟨by decide +kernel, by decide +kernel⟩

theorem witness_FloorReset_reroutes :
    (let s := during (((((base.setChannel 2 { hoot with trunk := some 30 }).setSlot 30 { Slot.initial with state := .active, claimant := some (.channel 2), primaryNamer := some (.channel 2) }).setLine 6 { lineAtRest with primary := some 10, alternate := some 11 }).modSlot 11 fun x => { x with state := .standby, altLines := [6] }).modSlot 12 fun x => { x with state := .standby }) (.floorReset .routes);
      s.mp.job = some (.floorReset .routes) ∧
        Freed s 30 ∧ TrunkGoesTo s 30 2) ∧
    (let s := during (((((base.setChannel 2 { hoot with trunk := some 30 }).setSlot 30 { Slot.initial with state := .active, claimant := some (.channel 2), primaryNamer := some (.channel 2) }).setLine 6 { lineAtRest with primary := some 10, alternate := some 11 }).modSlot 11 fun x => { x with state := .standby, altLines := [6] }).modSlot 12 fun x => { x with state := .standby }) (.floorReset .routes);
      Freed s 10 ∧
        PrimaryGoesTo s 10 5) ∧
    (let s := during (((((base.setChannel 2 { hoot with trunk := some 30 }).setSlot 30 { Slot.initial with state := .active, claimant := some (.channel 2), primaryNamer := some (.channel 2) }).setLine 6 { lineAtRest with primary := some 10, alternate := some 11 }).modSlot 11 fun x => { x with state := .standby, altLines := [6] }).modSlot 12 fun x => { x with state := .standby }) (.floorReset .routes);
      Freed s 11 ∧
        SeeksAlternate s 11 6) ∧
    (let s := during (((((base.setChannel 2 { hoot with trunk := some 30 }).setSlot 30 { Slot.initial with state := .active, claimant := some (.channel 2), primaryNamer := some (.channel 2) }).setLine 6 { lineAtRest with primary := some 10, alternate := some 11 }).modSlot 11 fun x => { x with state := .standby, altLines := [6] }).modSlot 12 fun x => { x with state := .standby }) (.floorReset .routes);
      (∀ c : ChanNo, ¬NamesTrunk s 11 c) ∧
        ∀ k : LineNo, ¬NamesPrimary s 11 k) ∧
    (let s := during (((((base.setChannel 2 { hoot with trunk := some 30 }).setSlot 30 { Slot.initial with state := .active, claimant := some (.channel 2), primaryNamer := some (.channel 2) }).setLine 6 { lineAtRest with primary := some 10, alternate := some 11 }).modSlot 11 fun x => { x with state := .standby, altLines := [6] }).modSlot 12 fun x => { x with state := .standby }) (.floorReset .routes);
      ∀ k : LineNo, k < 6 → ¬SeeksAlternate s 11 k) ∧
    (let s := during (((((base.setChannel 2 { hoot with trunk := some 30 }).setSlot 30 { Slot.initial with state := .active, claimant := some (.channel 2), primaryNamer := some (.channel 2) }).setLine 6 { lineAtRest with primary := some 10, alternate := some 11 }).modSlot 11 fun x => { x with state := .standby, altLines := [6] }).modSlot 12 fun x => { x with state := .standby }) (.floorReset .routes);
      Freed s 12 ∧
        (∀ c : ChanNo, ¬TrunkGoesTo s 12 c) ∧ (∀ l : LineNo, ¬NamesPrimary s 12 l) ∧
        ∀ l : LineNo, (s.line l).alternate ≠ some 12) ∧
    (let s := during (((((base.setChannel 2 { hoot with trunk := some 30 }).setSlot 30 { Slot.initial with state := .active, claimant := some (.channel 2), primaryNamer := some (.channel 2) }).setLine 6 { lineAtRest with primary := some 10, alternate := some 11 }).modSlot 11 fun x => { x with state := .standby, altLines := [6] }).modSlot 12 fun x => { x with state := .standby }) (.floorReset .routes);
      ¬Freed s 13 ∧
        (s.line 7).state = .vacant) := 
  ⟨by decide +kernel, by decide +kernel, by decide +kernel, by decide +kernel, by decide +kernel, by decide +kernel, by decide +kernel⟩

theorem witness_FloorReset_reroutesNobody :
    (let s := during (base.modSlot 10 fun x => { x with state := .fault }) (.floorReset .routes);
      s.mp.job = some (.floorReset .routes) ∧
        (s.line 5).state ≠ .vacant ∧ (s.line 5).primary = some 10 ∧ ¬Freed s 10 ∧ (s.line 5).alternate = none) ∧
    (let s := during (((base.setChannel 2 { hoot with trunk := some 30 }).setSlot 30 { Slot.initial with state := .active, claimant := some (.channel 2), primaryNamer := some (.channel 2) }).modSlot 30 fun x => { x with state := .fault }) (.floorReset .routes);
      s.mp.job = some (.floorReset .routes) ∧
        (s.channel 2).live = true ∧ (s.channel 2).trunk = some 30 ∧ ¬Freed s 30) := 
  ⟨by decide +kernel, by decide +kernel⟩

theorem witness_FloorReset_reopensGroups :
    let s := during ((base.setChannel 2 { Channel.vacant with kind := .group, state := .closed, members := [⟨0, 4⟩, ⟨1, 4⟩] }).setChannel 9 { Channel.vacant with kind := .group, state := .closed, members := [⟨2, 0⟩] }) (.floorReset .groups);
      s.mp.job = some (.floorReset .groups) ∧
        (∀ b : BridgeNo, s.bridge b = Bridge.free) ∧ groupsWithMembers s = [2, 9] ∧
        (groupsWithMembers s)[(1 : BridgeNo).val]? = some 9 ∧ s.liveTrunk 9 = none ∧
        s.legs.toList.all (fun x => x.attach.isNone) = true ∧ (s.channel 9).members.Nodup ∧
        ∀ m ∈ (s.channel 9).members, m ∉ (s.channel 2).members := by decide +kernel

theorem witness_FloorReset_startsAndCompletes :
    Open base ∧ (during base (.floorReset .completion)).mp.job = some (.floorReset .completion) := by decide +kernel

theorem witness_SweepVisits :
    ((during base (.retireLine 5 0)).mp.job = some (.retireLine 5 0) ∧
        ((base.line 5).appearanceAt 0).map Appearance.key = some 3) ∧
    ((during base (.retireLine 5 46)).mp.job = some (.retireLine 5 46) ∧ (46 : Pos).val < 47) ∧
    ((during base (.retireLine 5 47)).mp.job = some (.retireLine 5 47) ∧ (47 : Pos).val = 47) ∧
    (let s := during (opened [] []) (.retireChannel 2 1);
      s.mp.job = some (.retireChannel 2 1) ∧
        s.selection 1 0 = .channel 2) ∧
    ((during base (.retireChannel 2 47)).mp.job = some (.retireChannel 2 47)) := 
  ⟨by decide +kernel, by decide +kernel, by decide +kernel, by decide +kernel, by decide +kernel⟩

theorem witness_ExpiriesMade :
    (let s := base.setTimer (.burst 5) ⟨true, 2000, 0, 4⟩;
      (s.timer (.burst 5)).running = true ∧
        (s.timer (.burst 5)).framesLeft = 0) ∧
    (((base.setTimer (.burst 5) ⟨true, 2000, 1, 4⟩).timer (.burst 5)).framesLeft ≠ 0) := 
  ⟨by decide +kernel, by decide +kernel⟩

theorem witness_ExpiriesDiscarded :
    (let t := TimerId.burst 5; let s := { during base (.floorReset .groups) with inFlight := [⟨t, 3⟩] };
      s.inFlight.find? (fun e => e.timer == t) = some ⟨t, 3⟩ ∧
        (3 : Nat) ≠ (s.timer t).run ∧ s.resetting = true ∧ ∀ sl : SlotNo, t ≠ .faultConfirm sl ∧ t ≠ .restore sl) ∧
    (let t := TimerId.restore 255; let s := { during base (.floorReset .routes) with inFlight := [⟨t, 3⟩] };
      s.inFlight.find? (fun e => e.timer == t) = some ⟨t, 3⟩ ∧
        s.resetting = true ∧ s.mp.job = some (.floorReset .routes)) := 
  ⟨by decide +kernel, by decide +kernel⟩

theorem witness_LineExpiries :
    (let s := expiring (withLine fun x => { x with state := .alerting, refGen := some 7 }) (.ringTimeout 5);
      s.resetting = false ∧
        Current s (.ringTimeout 5) ∧ (s.line 5).state = .alerting ∧ (s.line 5).refGen = some 7 ∧ StaysIdle s 5) ∧
    (let s := expiring (onAlternate 5 10 11 (withLine fun x => { x with state := .alerting, refGen := some 7 })) (.ringTimeout 5);
      s.resetting = false ∧
        Current s (.ringTimeout 5) ∧ (s.line 5).state = .alerting ∧ ¬StaysIdle s 5) ∧
    (let s := expiring (held) (.holdRecall 5);
      s.resetting = false ∧ Current s (.holdRecall 5) ∧
        (s.line 5).state = .held ∧ (s.line 5).marks.recalled = false ∧ (s.line 5).holdOwner = some 0) ∧
    (let s := expiring ((held).modLine 5 fun x => { x with marks := { x.marks with recalled := true } }) (.holdRecall 5);
      s.resetting = false ∧
        Current s (.holdRecall 5) ∧ (s.line 5).state = .held ∧ (s.line 5).marks.recalled = true) ∧
    (let s := expiring (withLine fun x => { x with marks := { x.marks with ringOut := true } }) (.burst 5);
      s.resetting = false ∧
        Current s (.burst 5) ∧ (s.line 5).marks.ringOut = true) := 
  ⟨by decide +kernel, by decide +kernel, by decide +kernel, by decide +kernel, by decide +kernel⟩

theorem witness_SilenceExpiries :
    (let s := expiring (opened [⟨0, true⟩, ⟨1, false⟩] [⟨5, true⟩]) (.silence 2 0);
      s.resetting = false ∧
        Current s (.silence 2 0) ∧ (s.channel 2).live = true ∧ ⟨0, true⟩ ∈ (s.channel 2).talkers ∧
        granted (s.channel 2) 0 = [⟨5, true⟩]) ∧
    (let s := expiring ((opened [⟨0, true⟩] []).setSelection 1 0 .none) (.silence 2 0);
      s.resetting = false ∧
        Current s (.silence 2 0) ∧ (s.channel 2).live = true ∧ ⟨0, true⟩ ∈ (s.channel 2).talkers ∧
        Closes (s.channel 2) 0 (s.hasReceiver 2)) := 
  ⟨by decide +kernel, by decide +kernel⟩

theorem witness_GraceExpiries :
    (let s := expiring (((((connected [⟨0, .left⟩]).modLine 5 fun x => { x with monitors := [⟨1, 2⟩] }).setSelection 1 2 (.line 5)).setChannel 2 { hoot with state := .opened, bridge := some 1, talkers := [⟨0, true⟩], maxTalkers := 1, queue := [⟨1, true⟩] }).modLink 0 fun x => { x with state := .hunt }) (.grace 0);
      s.resetting = false ∧
        Current s (.grace 0) ∧ (s.link 0).state = .hunt ∧ s.currentLine ⟨0, .left⟩ = some 5 ∧
        s.currentLine ⟨0, .right⟩ = none ∧ Stays s 5 ∧ LeftAtRest s 0 5 ∧ MonitorGone s 0 ⟨1, 2⟩ ∧
        granted (s.channel 2) 0 = [⟨1, true⟩]) ∧
    (let s := expiring ((twoRevert).modLink 0 fun x => { x with state := .hunt }) (.grace 0);
      s.resetting = false ∧
        Current s (.grace 0) ∧ (s.link 0).state = .hunt ∧ s.currentLine ⟨0, .left⟩ = some 5 ∧
        s.currentLine ⟨0, .right⟩ = some 6 ∧ LeftAtRest s 0 5 ∧ LeftAtRest s 0 6 ∧ ¬Stays s 5 ∧ ¬Stays s 6 ∧
        (s.line 5).alternate = some 21 ∧ (s.line 6).alternate = some 11 ∧ (s.line 5).primary = some 10 ∧
        (s.line 6).primary = some 20 ∧ ([21, 11, 10, 20] : List SlotNo).Nodup ∧ (s.line 7).state = .held ∧
        (s.line 7).marks.noRoute = true ∧ (s.line 7).names 21 = true ∧ (s.line 7).names 11 = true ∧
        (∀ l : LineNo, l ≠ 7 → (s.line l).waiting = true → (s.line l).names 21 = false ∧
        (s.line l).names 11 = false) ∧ (s.slot 21).primaryNamer = some (.line 7) ∧
        (s.slot 11).primaryNamer = none) := 
  ⟨by decide +kernel, by decide +kernel⟩

/-- R141, R178: the act frees slots 21 and 11, and the waiting line takes the lower one, though the higher was given up first. -/
theorem test_teardown_serves_ascending :
    after (.graceExpiry 0) (expiring (twoRevert.modLink 0 fun x => { x with state := .hunt }) (.grace 0)) (fun u =>
      (u.slot 11).claimant == some (.line 7) && (u.slot 21).state == .standby) = true := by decide +kernel

/-- R68: on a group that is OPEN already every position that qualifies is told of a new member. -/
theorem test_add_member_tells_all :
    after (.addMember (words 0 2 1 7 0 0 0 0)) grouped (fun u =>
      (u.link 0).indications.map Indication.subject == [.channel 2] &&
        (u.link 1).indications.map Indication.subject == [.channel 2]) = true := by decide +kernel

/-- R105, R114: a leg that has lost its attachment is sent 0, whatever was computed for it. -/
theorem test_detached_leg_is_silent :
    after (.downstreamFrame 0) (base.modLeg 0 fun x => { x with out := 0x1234#16 }) (fun u =>
      ((u.link 0).sent.drop 2).take 2 == [0, 0]) = true := by decide +kernel

theorem witness_RingStarts :
    (let s := expiring ((withLine fun x => { x with cadence := 7 }).modSlot 10 fun x => { x with ringHigh := true }) (.qualify 10);
      s.resetting = false ∧
        Current s (.qualify 10) ∧ (s.slot 10).ringActive = true ∧ (s.slot 10).state = .active ∧
        (s.slot 10).claimant = some (.line 5) ∧ (s.line 5).kind ≠ .nailed ∧ (s.line 5).state = .idle ∧
        (s.generator 7).refs = 0) ∧
    (let s := expiring ((withLine fun x => { x with state := .alerting, refGen := some 0, cadence := 7 }).modSlot 10 fun x => { x with ringHigh := true }) (.qualify 10);
      s.resetting = false ∧
        Current s (.qualify 10) ∧ (s.slot 10).ringActive = true ∧ (s.slot 10).state = .active ∧
        (s.slot 10).claimant = some (.line 5) ∧ (s.line 5).kind ≠ .nailed ∧ (s.line 5).state = .alerting ∧
        (s.line 5).refGen = some 0 ∧ (s.line 5).cadence = 7) ∧
    (let s := expiring ((withLine fun x => { x with state := .alerting, refGen := some 7, cadence := 7 }).modSlot 10 fun x => { x with ringHigh := true }) (.qualify 10);
      s.resetting = false ∧
        Current s (.qualify 10) ∧ (s.slot 10).ringActive = true ∧ (s.slot 10).state = .active ∧
        (s.slot 10).claimant = some (.line 5) ∧ (s.line 5).kind ≠ .nailed ∧ (s.line 5).state = .alerting ∧
        (s.line 5).refGen = some (s.line 5).cadence) ∧
    (let s := expiring ((withLine fun x => { x with state := .connected }).modSlot 10 fun x => { x with ringHigh := true }) (.qualify 10);
      s.resetting = false ∧
        Current s (.qualify 10) ∧ (s.slot 10).ringActive = true ∧ (s.slot 10).state = .active ∧
        (s.slot 10).claimant = some (.line 5) ∧ (s.line 5).kind ≠ .nailed ∧ (s.line 5).state = .connected) ∧
    (let s := expiring ((withLine fun x => { x with kind := .nailed }).modSlot 10 fun x => { x with ringHigh := true }) (.qualify 10);
      s.resetting = false ∧
        Current s (.qualify 10) ∧ (s.slot 10).ringActive = true ∧ (s.slot 10).state = .active ∧
        (s.slot 10).claimant = some (.line 5) ∧ (s.line 5).kind = .nailed) ∧
    (let s := expiring (((base.setChannel 2 { hoot with trunk := some 30 }).setSlot 30 { Slot.initial with state := .active, claimant := some (.channel 2), primaryNamer := some (.channel 2) }).modSlot 30 fun x => { x with ringHigh := true }) (.qualify 30);
      s.resetting = false ∧
        Current s (.qualify 30) ∧ (s.slot 30).ringActive = true ∧
        ∀ l : LineNo, (s.slot 30).claimant ≠ some (.line l)) := 
  ⟨by decide +kernel, by decide +kernel, by decide +kernel, by decide +kernel, by decide +kernel, by decide +kernel⟩

theorem witness_FaultsAct :
    (let s := expiring ((base.modSlot 11 fun x => { x with state := .standby, altLines := [5] }).modSlot 11 fun x => { x with alive := false }) (.faultConfirm 11);
      s.resetting = false ∧
        Current s (.faultConfirm 11) ∧ (s.slot 11).alive = false ∧ Freed s 11 ∧ (s.slot 11).claimant = none) ∧
    (let s := expiring (((connected [⟨0, .left⟩]).modLine 5 (fun x => { x with alternate := some 11 }) |>.modSlot 11 fun x => { x with state := .standby, altLines := [5] }).modSlot 10 fun x => { x with alive := false }) (.faultConfirm 10);
      s.resetting = false ∧
        Current s (.faultConfirm 10) ∧ (s.slot 10).alive = false ∧ Freed s 10 ∧
        (s.slot 10).claimant = some (.line 5) ∧ (s.line 5).otherSlot = some 11 ∧ (s.slot 11).state = .standby ∧
        (s.line 5).bridge = some 0 ∧ (s.bridge 0).contributors.Nodup ∧ trunkLeg 11 ∉ (s.bridge 0).contributors) ∧
    (let s := expiring ((((connected [⟨0, .left⟩]).modLine 5 (fun x => { x with alternate := some 11 }) |>.modSlot 11 fun x => { x with state := .standby, altLines := [5] }).modSlot 11 fun x => { x with state := .fault }).modSlot 10 fun x => { x with alive := false }) (.faultConfirm 10);
      s.resetting = false ∧
        Current s (.faultConfirm 10) ∧ (s.slot 10).alive = false ∧ Freed s 10 ∧
        (s.slot 10).claimant = some (.line 5) ∧ (s.line 5).otherSlot = some 11 ∧ (s.slot 11).state ≠ .standby ∧
        (s.line 5).state = .connected ∧ (s.line 5).bridge = some 0) ∧
    (let s := expiring ((withLine fun x => { x with state := .alerting, refGen := some 7 }).modSlot 10 fun x => { x with alive := false }) (.faultConfirm 10);
      s.resetting = false ∧
        Current s (.faultConfirm 10) ∧ (s.slot 10).alive = false ∧ Freed s 10 ∧
        (s.slot 10).claimant = some (.line 5) ∧ (s.line 5).otherSlot = none ∧ (s.line 5).state = .alerting ∧
        (s.line 5).refGen = some 7) ∧
    (let s := expiring ((((base.setChannel 2 { hoot with trunk := some 30 }).setSlot 30 { Slot.initial with state := .active, claimant := some (.channel 2), primaryNamer := some (.channel 2) }).modChannel 2 fun x => { x with state := .opened, bridge := some 1 }).modSlot 30 fun x => { x with alive := false }) (.faultConfirm 30);
      s.resetting = false ∧
        Current s (.faultConfirm 30) ∧ (s.slot 30).alive = false ∧ Freed s 30 ∧
        (s.slot 30).claimant = some (.channel 2) ∧ (s.channel 2).bridge = some 1) ∧
    (let s := expiring (during (base.modSlot 10 fun x => { x with alive := false }) (.floorReset .groups)) (.faultConfirm 10);
      s.routesTaken = true ∧
        Current s (.faultConfirm 10) ∧ (s.slot 10).alive = false ∧ Freed s 10) := 
  ⟨by decide +kernel, by decide +kernel, by decide +kernel, by decide +kernel, by decide +kernel, by decide +kernel⟩

theorem witness_RestoresServe :
    (let s := expiring (((((base.setChannel 2 { hoot with trunk := some 30 }).setSlot 30 { Slot.initial with state := .active, claimant := some (.channel 2), primaryNamer := some (.channel 2) }).modChannel 2 fun x => { x with state := .opened, bridge := some 1 }).modChannel 2 fun x => { x with noTrunk := true }).modSlot 30 fun x => { x with state := .fault, claimant := none }) (.restore 30);
      s.resetting = false ∧
        Current s (.restore 30) ∧ (s.slot 30).alive = true ∧ (s.slot 30).state = .fault ∧
        (s.slot 30).primaryNamer = some (.channel 2) ∧ (s.channel 2).trunk = some 30 ∧
        (s.slot 30).claimant ≠ some (.channel 2) ∧ (s.channel 2).bridge = some 1 ∧
        trunkLeg 30 ∉ (s.bridge 1).contributors) ∧
    (let s := expiring ((withLine fun x => { x with state := .lockout, route := .none }).modSlot 10 fun x => { x with state := .fault, claimant := none }) (.restore 10);
      s.resetting = false ∧
        Current s (.restore 10) ∧ (s.slot 10).alive = true ∧ (s.slot 10).state = .fault ∧
        (∀ c : ChanNo, (s.slot 10).primaryNamer ≠ some (.channel c)) ∧ (s.line 5).waiting = true ∧
        (s.line 5).names 10 = true ∧
        (∀ k : LineNo, k < 5 → (s.line k).waiting = true → (s.line k).names 10 = false) ∧
        (s.line 5).primary = some 10 ∧ (s.line 5).state = .lockout) ∧
    (let s := expiring ((((connected [⟨0, .left⟩]).modLine 5 fun x => { x with route := .none, marks := { x.marks with noRoute := true } }).modBridge 0 fun b => { b with contributors := [] }).modSlot 10 fun x => { x with state := .fault, claimant := none }) (.restore 10);
      s.resetting = false ∧
        Current s (.restore 10) ∧ (s.slot 10).alive = true ∧ (s.slot 10).state = .fault ∧
        (∀ c : ChanNo, (s.slot 10).primaryNamer ≠ some (.channel c)) ∧ (s.line 5).waiting = true ∧
        (s.line 5).names 10 = true ∧
        (∀ k : LineNo, k < 5 → (s.line k).waiting = true → (s.line k).names 10 = false) ∧
        (s.line 5).primary = some 10 ∧ (s.line 5).state = .connected ∧ (s.line 5).bridge = some 0 ∧
        trunkLeg 10 ∉ (s.bridge 0).contributors) ∧
    (let s := expiring ((onAlternate 5 10 11 base).modSlot 10 fun x => { x with state := .fault, claimant := none }) (.restore 10);
      s.resetting = false ∧
        Current s (.restore 10) ∧ (s.slot 10).alive = true ∧ (s.slot 10).state = .fault ∧
        (∀ c : ChanNo, (s.slot 10).primaryNamer ≠ some (.channel c)) ∧
        (∀ l : LineNo, (s.line l).waiting = true → (s.line l).names 10 = false) ∧
        (s.slot 10).primaryNamer = some (.line 5) ∧ (s.line 5).state = .idle ∧ (s.line 5).route = .alternate ∧
        (s.line 5).primary = some 10 ∧ (s.line 5).alternate = some 11 ∧ Unsought s 11) ∧
    (let s := expiring ((base).modSlot 10 fun x => { x with state := .fault, claimant := none }) (.restore 10);
      s.resetting = false ∧
        Current s (.restore 10) ∧ (s.slot 10).alive = true ∧ (s.slot 10).state = .fault ∧
        (∀ c : ChanNo, (s.slot 10).primaryNamer ≠ some (.channel c)) ∧
        (∀ l : LineNo, (s.line l).waiting = true → (s.line l).names 10 = false) ∧
        ∀ l : LineNo, (s.slot 10).primaryNamer = some (.line l) → ¬((s.line l).state = .idle ∧
        (s.line l).route = .alternate)) := 
  ⟨by decide +kernel, by decide +kernel, by decide +kernel, by decide +kernel, by decide +kernel⟩

theorem witness_CadencePhases :
    (let s := base.setGenerator 7 ⟨1, 0, 1, 300, .on, 0, 1⟩;
      (s.generator 7).phaseFrames = 0 ∧
        (s.generator 7).state = .on ∧ (s.generator 7).offForce ≠ 0 ∧ (s.generator 7).refs = 1) ∧
    (let s := base.setGenerator 7 ⟨1, 0, 1, 0, .on, 0, 1⟩;
      (s.generator 7).phaseFrames = 0 ∧
        (s.generator 7).state = .on ∧ (s.generator 7).offForce = 0) ∧
    (let s := base.setGenerator 7 ⟨1, 0, 1, 300, .off, 0, 1⟩;
      (s.generator 7).phaseFrames = 0 ∧
        (s.generator 7).state = .off ∧ True) ∧
    (let s := base.setGenerator 7 ⟨1, 0, 1, 300, .idle, 0, 0⟩;
      (s.generator 7).phaseFrames = 0 ∧
        (s.generator 7).state = .idle ∧ True) := 
  ⟨by decide +kernel, by decide +kernel, by decide +kernel, by decide +kernel⟩

theorem witness_SampleFrame :
    (let s := { (connected [⟨0, .left⟩]).modLeg 0 (fun x => { x with attach := some 0 }) |>.modLeg 538 fun x => { x with gain := some 255#8 } with frameCount := 127 };
      s.frameCount < 128 ∧
        (s.leg 0).attach = some 0 ∧ (s.leg 0).volume = some 128#8 ∧ (s.bridge 0).state = .inUse ∧
        (s.bridge 0).limit = false ∧ 32767 < mixedFor s [(10, 32767#16)] 0 0 128#8) ∧
    (∀ b : BridgeNo, (base.bridge b).state = .free) ∧
    (({ base with frameCount := 128 } : State).frameCount = 128) := 
  ⟨by decide +kernel, by decide +kernel, by decide +kernel⟩

theorem witness_BlockEnd :
    (let b : Bridge := { Bridge.allocated (.line 5) ⟨.fixed, 0⟩ with computed := true, blockPeak := 40000 };
      let s := { base.setBridge 0 b with frameCount := 128 };
      s.frameCount = 128 ∧
        (s.bridge 0).state = .inUse ∧ (s.bridge 0).computed = true ∧ (s.bridge 0).headroom.kind = .fixed ∧ True) ∧
    (let b : Bridge := { Bridge.allocated (.line 5) ⟨.auto, 0⟩ with computed := true, blockGrowth := true, shift := 1, blockPeak := 24576 };
      let s := { base.setBridge 0 b with frameCount := 128 };
      s.frameCount = 128 ∧
        (s.bridge 0).state = .inUse ∧ (s.bridge 0).computed = true ∧ (s.bridge 0).headroom.kind = .auto ∧
        (s.bridge 0).blockGrowth = true ∧ (s.bridge 0).shift < 2) ∧
    (let b : Bridge := { Bridge.allocated (.line 5) ⟨.auto, 0⟩ with computed := true, blockPeak := 8191, release := 14, shift := 1 };
      let s := { base.setBridge 0 b with frameCount := 128 };
      s.frameCount = 128 ∧
        (s.bridge 0).state = .inUse ∧ (s.bridge 0).computed = true ∧ (s.bridge 0).headroom.kind = .auto ∧
        ¬((s.bridge 0).blockGrowth = true ∧ (s.bridge 0).shift < 2) ∧ (s.bridge 0).blockPeak < 8192 ∧
        (s.bridge 0).release < 15) ∧
    (let b : Bridge := { Bridge.allocated (.line 5) ⟨.auto, 0⟩ with computed := true, blockPeak := 8191, release := 15, shift := 1 };
      let s := { base.setBridge 0 b with frameCount := 128 };
      s.frameCount = 128 ∧
        (s.bridge 0).state = .inUse ∧ (s.bridge 0).computed = true ∧ (s.bridge 0).headroom.kind = .auto ∧
        ¬((s.bridge 0).blockGrowth = true ∧ (s.bridge 0).shift < 2) ∧ (s.bridge 0).blockPeak < 8192 ∧
        15 ≤ (s.bridge 0).release ∧ headroomFloor (s.bridge 0).contributors.length < (s.bridge 0).shift) ∧
    (let b : Bridge := { Bridge.allocated (.line 5) ⟨.auto, 0⟩ with computed := true, blockPeak := 0, release := 16 };
      let s := { base.setBridge 0 b with frameCount := 128 };
      s.frameCount = 128 ∧
        (s.bridge 0).state = .inUse ∧ (s.bridge 0).computed = true ∧ (s.bridge 0).headroom.kind = .auto ∧
        ¬((s.bridge 0).blockGrowth = true ∧ (s.bridge 0).shift < 2) ∧ (s.bridge 0).blockPeak < 8192 ∧
        15 ≤ (s.bridge 0).release ∧ ¬headroomFloor (s.bridge 0).contributors.length < (s.bridge 0).shift) ∧
    (let b : Bridge := { Bridge.allocated (.line 5) ⟨.auto, 0⟩ with computed := true, blockGrowth := true, blockPeak := 8192, shift := 2 };
      let s := { base.setBridge 0 b with frameCount := 128 };
      s.frameCount = 128 ∧
        (s.bridge 0).state = .inUse ∧ (s.bridge 0).computed = true ∧ (s.bridge 0).headroom.kind = .auto ∧
        ¬((s.bridge 0).blockGrowth = true ∧ (s.bridge 0).shift < 2) ∧ 8192 ≤ (s.bridge 0).blockPeak) ∧
    (let s := (opened [⟨0, true⟩] []).modBridge 1 fun b => { b with computed := true, micPeaks := [(micLeg 0, 512)] };
      activityOf s 1 = some ⟨2, [0]⟩) := 
  ⟨by decide +kernel, by decide +kernel, by decide +kernel, by decide +kernel, by decide +kernel, by decide +kernel, by decide +kernel⟩

theorem witness_ActivityReport :
    (let s := { opened [⟨0, true⟩] [] with reports := [⟨2, [0]⟩] };
      ([0] : List Pos).Nodup ∧
        s.reports.find? (fun r => r.channel == 2) = some ⟨2, [0]⟩ ∧ ⟨0, true⟩ ∈ (s.channel 2).talkers ∧
        (s.channel 2).silence ≠ 0) ∧
    (let s := { (opened [⟨0, true⟩] []).modChannel 2 (fun x => { x with silence := 0 }) with reports := [⟨2, [0]⟩] };
      s.reports.find? (fun r => r.channel == 2) = some ⟨2, [0]⟩ ∧
        ⟨0, true⟩ ∈ (s.channel 2).talkers ∧ (s.channel 2).silence = 0) := 
  ⟨by decide +kernel, by decide +kernel⟩

theorem witness_SecondGoodFrame :
    (let s := base.modLink 0 fun x => { x with state := .hunt, goodCount := 1 };
      (s.link 0).state = .hunt ∧
        (s.link 0).huntBytes = [] ∧ (frame 0).length = 10 ∧ (s.link 0).goodCount = 1 ∧
        isGoodFrame (frame 0) = true ∧ s.resetting = false ∧ (s.link 0).indications = []) ∧
    (let s := base.modLink 0 fun x => { x with state := .hunt };
      (s.link 0).state = .hunt ∧
        (s.link 0).goodCount = 0 ∧ isGoodFrame (List.replicate 10 0) = false) := 
  ⟨by decide +kernel, by decide +kernel⟩

theorem witness_GoodFrame :
    (let s := base.modLink 0 fun x => { x with assembly := .between };
      (s.link 0).state = .locked ∧
        isGoodFrame (frame 0) = true ∧ (s.link 0).assembly = .between ∧ (frame 0).getD 8 0 = 0#8) ∧
    (let s := base.modLink 0 fun x => { x with assembly := .between };
      (s.link 0).state = .locked ∧
        isGoodFrame (frame 1) = true ∧ (s.link 0).assembly = .between ∧ (frame 1).getD 8 0 ≠ 0#8) ∧
    (let s := base.modLink 0 fun x => { x with assembly := .awaitLength 12 };
      (s.link 0).state = .locked ∧
        isGoodFrame (frame 5) = true ∧ (s.link 0).assembly = .awaitLength 12 ∧ ((frame 5).getD 8 0).toNat = 5) ∧
    (let s := base.modLink 0 fun x => { x with assembly := .awaitLength 12 };
      (s.link 0).state = .locked ∧
        isGoodFrame (frame 6) = true ∧ (s.link 0).assembly = .awaitLength 12 ∧ 5 < ((frame 6).getD 8 0).toNat ∧
        (s.link 0).messageLost = false) ∧
    (let s := base.modLink 0 fun x => { x with assembly := .awaitLength 12 };
      (s.link 0).state = .locked ∧
        isGoodFrame (frame 0) = true ∧ (s.link 0).assembly = .awaitLength 12 ∧ (frame 0).getD 8 0 = 0#8 ∧
        (s.link 0).requests.length < 4) ∧
    (let s := base.modLink 0 fun x => { x with assembly := .awaitFields 12 2 [] };
      (s.link 0).state = .locked ∧
        isGoodFrame (frame 7) = true ∧ (s.link 0).assembly = .awaitFields 12 2 [] ∧
        ([] : List Byte).length + 1 < 2) ∧
    (let s := base.modLink 0 fun x => { x with assembly := .awaitFields 12 2 [7], requests := List.replicate 4 ⟨1, []⟩ };
      (s.link 0).state = .locked ∧
        isGoodFrame (frame 7) = true ∧ (s.link 0).assembly = .awaitFields 12 2 [7] ∧ 2 = [7#8].length + 1 ∧
        (s.link 0).requests.length = 4) := 
  ⟨by decide +kernel, by decide +kernel, by decide +kernel, by decide +kernel, by decide +kernel, by decide +kernel, by decide +kernel⟩

theorem witness_BadFrame :
    (let s := base.modLink 0 fun x => { x with badCount := 3 };
      (s.link 0).state = .locked ∧
        isGoodFrame [] = false ∧ (s.link 0).badCount = 3) ∧
    (let s := base.modLink 0 fun x => { x with badCount := 2, badFrame := true, assembly := .awaitLength 12 };
      (s.link 0).state = .locked ∧
        (s.link 0).badCount < 3 ∧ (s.link 0).badFrame = true ∧ (s.link 0).messageLost = false ∧
        (s.link 0).assembly ≠ .between) ∧
    (let s := base.modLink 0 fun x => { x with badFrame := true };
      (s.link 0).state = .locked ∧
        (s.link 0).badCount < 3 ∧ (s.link 0).badFrame = true ∧ (s.link 0).assembly = .between) := 
  ⟨by decide +kernel, by decide +kernel, by decide +kernel⟩

theorem witness_DownstreamFrame :
    (let s := base.modLink 0 fun x => { x with transmit := [1, 2, 3] };
      (s.link 0).state ≠ .disabled ∧
        (s.link 0).transmit = 1#8 :: 2#8 :: [3]) ∧
    (let s := base.modLink 0 fun x => { x with transmit := [9], answers := [⟨1, .accepted⟩] };
      (s.link 0).state ≠ .disabled ∧
        (s.link 0).transmit = [9] ∧ (s.link 0).answers = ⟨1, .accepted⟩ :: []) ∧
    (let s := base.modLink 0 fun x => { x with indications := [⟨.key 0, .lineState, .vacant⟩] };
      (s.link 0).state ≠ .disabled ∧
        (s.link 0).transmit = [] ∧ (s.link 0).answers = [] ∧
        (s.link 0).indications = ⟨.key 0, .lineState, .vacant⟩ :: []) ∧
    (let s := base.modLink 0 fun x => { x with state := .hunt };
      (s.link 0).state ≠ .disabled ∧
        (s.link 0).transmit = [] ∧ (s.link 0).answers = [] ∧ (s.link 0).indications = [] ∧ heardBy s 0 0 = 0) ∧
    ((base.link 47).state = .disabled) ∧
    (let s := (withLine fun x => { x with state := .alerting, refGen := some 7 }).setGenerator 7 ⟨1, 0, 1, 300, .on, 0, 1⟩;
      s.keyLine 0 3 = some 5 ∧
        (s.line 5).state = .alerting ∧ (s.line 5).appearanceAt 0 = some ⟨0, 3, true⟩ ∧
        (s.line 5).refGen = some 7 ∧ (s.generator 7).state = .on) := 
  ⟨by decide +kernel, by decide +kernel, by decide +kernel, by decide +kernel, by decide +kernel, by decide +kernel⟩

theorem witness_LevelsDriveSlotTimers :
    ((base.slot 10).ringHigh ≠ true ∧ ((base.slot 10).polarity = .activeHigh ↔ true = true) ∧
        (base.slot 10).alive ≠ false ∧ (base.slot 10).state = .active ∧ (base.slot 255).state = .unassigned ∧
        (base.slot 10).ringHigh = false ∧ (base.slot 10).alive = true) ∧
    (let s := base.modSlot 10 fun x => { x with ringHigh := true, alive := false, state := .fault };
      (s.slot 10).ringHigh ≠ false ∧
        ¬((s.slot 10).polarity = .activeHigh ↔ false = true) ∧ (s.slot 10).alive ≠ true ∧
        (s.slot 10).state = .fault) := 
  ⟨by decide +kernel, by decide +kernel⟩

theorem witness_IgnoredWrite :
    isWrite 0x0003#16 = true ∧ (5#16).toNat ≤ 5 ∧ 17 ≤ (17#16).toNat ∧ isControl 0x0001#16 = false ∧
        isWrite 0x0001#16 = true ∧ (16#16).toNat = 16 ∧ (0x7FFF#16) ≠ 0x8000#16 := by decide +kernel

theorem witness_RecordRead :
    (isWrite 0x0010#16 = false ∧ isControl 0x0010#16 = false ∧ tableField 0x0010#16 = 1 ∧ bit 0x0010#16 2 = false ∧
        (base.recordWords 1 31).isSome = true) ∧
    (bit 0x0014#16 2 = true ∧ (base.recordWords 1 31).map List.length = some 43 ∧ 43 ≤ (42#16).toNat % 43 + 1 ∧
        ¬(31 + 1 < recordCount 1) ∧ 30 + 1 < recordCount 1) ∧
    (isControl 0x0010#16 = false ∧ base.recordWords 1 32 = none ∧ isWrite 0x0002#16 = false ∧
        isControl 0x0002#16 = true) := 
  ⟨by decide +kernel, by decide +kernel, by decide +kernel⟩

theorem witness_LinearCrossing :
    let s := base.modMp fun m => { m with port := { m.port with crossing := some (5, 7) } };
      s.mp.port.crossing = some (5, 7) ∧
        (s.recordWords 5 7).map List.length = some 7 ∧ ¬(7 + 1 < recordCount 5) := by decide +kernel

theorem witness_RecordLayouts :
    (let t : Timer := ⟨true, 65535, 16 * 65535, 1⟩;
      t.running = true ∧ 0 < t.framesLeft ∧
        t.framesLeft = 16 * 65535 ∧ Timer.stopped.running = false) ∧
    (LineBounds { lineAtRest with occupants := List.replicate 4 ⟨47, .right⟩, monitors := List.replicate 8 ⟨47, 7⟩, appearances := (List.finRange 48).map fun p => ⟨p, 63, true⟩ }) ∧
    (ChannelBounds { hoot with maxTalkers := 3, talkers := List.replicate 3 ⟨47, true⟩, queue := List.replicate 8 ⟨47, true⟩, members := List.replicate 16 ⟨47, 7⟩ }) ∧
    (HeadroomLaw ((connected [⟨0, .left⟩]).bridge 0) ∧ LinkBounds (base.link 0)) ∧
    ((∀ l : LineNo, LineBounds (base.line l)) ∧ base.keyLine 0 3 = some 5) := 
  ⟨by decide +kernel, by decide +kernel, by decide +kernel, by decide +kernel, by decide +kernel⟩

end Sys2Proof.Tests
end

section
/-! The bounds of the lists of lines and channels (R8, R10, R68, R73): what every operation may do to the lists, one lemma per operation
that can only shorten them or keeps a channel's bounds, and the few that add an entry where a place is free. -/

set_option Elab.async false

namespace Sys2Proof.Machine

open Safety

/-- The lists of a line have lost entries at most. -/
structure LineShrinks (x y : Line) : Prop where
  occupants : y.occupants.length ≤ x.occupants.length
  monitors : y.monitors.length ≤ x.monitors.length
  appearances : (y.appearances.map Appearance.pos).Sublist (x.appearances.map Appearance.pos)

theorem LineShrinks.refl (x : Line) : LineShrinks x x := ⟨le_rfl, le_rfl, .refl _⟩

theorem LineShrinks.trans {x y z : Line} (h : LineShrinks x y) (k : LineShrinks y z) : LineShrinks x z :=
  ⟨k.occupants.trans h.occupants, k.monitors.trans h.monitors, k.appearances.trans h.appearances⟩

/-- A line with no occupants and monitors and the appearances it had. -/
theorem LineShrinks.emptied {x y : Line} (ho : y.occupants = []) (hm : y.monitors = [])
    (ha : y.appearances = x.appearances) : LineShrinks x y :=
  ⟨by simp [ho], by simp [hm], by simp [ha]⟩

/-- A channel keeps its bounds, and its member list has lost entries at most. -/
structure ChannelKeeps (x y : Channel) : Prop where
  bounds : ChannelBounds x → ChannelBounds y
  members : y.members.length ≤ x.members.length

theorem ChannelKeeps.refl (x : Channel) : ChannelKeeps x x := ⟨id, le_rfl⟩

theorem ChannelKeeps.trans {x y z : Channel} (h : ChannelKeeps x y) (k : ChannelKeeps y z) : ChannelKeeps x z :=
  ⟨fun b => k.bounds (h.bounds b), k.members.trans h.members⟩

/-- A channel whose lists have lost entries at most, under the maximum it had. -/
theorem ChannelKeeps.shrinks {x y : Channel} (ht : y.talkers.length ≤ x.talkers.length) (hn : y.maxTalkers = x.maxTalkers)
    (hq : y.queue.length ≤ x.queue.length) (hm : y.members.length ≤ x.members.length) : ChannelKeeps x y :=
  ⟨fun ⟨b1, b2, b3, b4⟩ => ⟨by omega, by omega, by omega, by omega⟩, hm⟩

/-- No list has grown past its bound: every line's lists have lost entries at most, and every channel keeps its bounds. -/
structure ListsKept (s t : State) : Prop where
  line : ∀ l, LineShrinks (s.line l) (t.line l)
  channel : ∀ c, ChannelKeeps (s.channel c) (t.channel c)

/-- The bounds stand where the lists are kept. -/
theorem ListsKept.bounded {s t : State} (h : ListsKept s t) (hb : ListsBounded s) : ListsBounded t := by
  obtain ⟨lines, channels⟩ := hb
  refine ⟨fun l => ?_, fun c => (h.channel c).bounds (channels c)⟩
  obtain ⟨ho, hm, ha⟩ := lines l
  exact ⟨(h.line l).occupants.trans ho, (h.line l).monitors.trans hm, (h.line l).appearances.nodup ha⟩

theorem ListsKept.refl (s : State) : ListsKept s s := ⟨fun _ => .refl _, fun _ => .refl _⟩

theorem ListsKept.trans {s t u : State} (h : ListsKept s t) (k : ListsKept t u) : ListsKept s u :=
  ⟨fun l => (h.line l).trans (k.line l), fun c => (h.channel c).trans (k.channel c)⟩

/-- A state with the same lines and channels. -/
theorem ListsKept.same {s t : State} (hl : t.lines = s.lines := by simp) (hc : t.channels = s.channels := by simp) :
    ListsKept s t where
  line l := by simp only [State.line, hl]; exact .refl _
  channel c := by simp only [State.channel, hc]; exact .refl _

/-- A further operation that touches neither lines nor channels. -/
theorem ListsKept.andSame {s t u : State} (h : ListsKept s t) (hl : u.lines = t.lines := by simp)
    (hc : u.channels = t.channels := by simp) : ListsKept s u :=
  h.trans (.same hl hc)

/-- A step of a series keeps the lists, so the series does. -/
theorem ListsKept.foldl {ι : Type} (act : State → ι → State) (keeps : ∀ s i, ListsKept s (act s i)) (items : List ι)
    (s : State) : ListsKept s (items.foldl act s) :=
  List.foldlRecOn (motive := fun t => ListsKept s t) items act (.refl s) fun t h i _ => h.trans (keeps t i)

theorem ListsKept.setLine {s t : State} {l : LineNo} {x : Line} (h : ListsKept s t) (hx : LineShrinks (t.line l) x) :
    ListsKept s (t.setLine l x) :=
  h.trans
    { line := fun k => by
        rw [State.line_setLine]
        split
        · rename_i e; exact e ▸ hx
        · exact .refl _
      channel := fun c => by rw [State.channel_setLine]; exact .refl _ }

theorem ListsKept.setChannel {s t : State} {c : ChanNo} {x : Channel} (h : ListsKept s t)
    (hx : ChannelKeeps (t.channel c) x) : ListsKept s (t.setChannel c x) :=
  h.trans
    { line := fun l => by rw [State.line_setChannel]; exact .refl _
      channel := fun d => by
        rw [State.channel_setChannel]
        split
        · rename_i e; exact e ▸ hx
        · exact .refl _ }

/-- A line record changed, after another act, by a function that keeps its lists. -/
theorem ListsKept.modLine {s t : State} {l : LineNo} {f : Line → Line} (h : ListsKept s t)
    (hf : ∀ x, LineShrinks x (f x) := by exact fun _ => ⟨le_rfl, le_rfl, .refl _⟩) : ListsKept s (t.modLine l f) :=
  h.setLine (hf _)

/-- A channel record changed, after another act, by a function that keeps its lists. -/
theorem ListsKept.modChannel {s t : State} {c : ChanNo} {f : Channel → Channel} (h : ListsKept s t)
    (hf : ∀ x, ChannelKeeps x (f x) := by exact fun _ => ⟨id, le_rfl⟩) : ListsKept s (t.modChannel c f) :=
  h.setChannel (hf _)

theorem ListsKept.joinOwn {s t : State} {b : Option BridgeNo} {g : LegNo} (h : ListsKept s t) : ListsKept s (t.joinOwn b g) :=
  h.andSame

theorem ListsKept.leaveOwn {s t : State} {b : Option BridgeNo} {g : LegNo} (h : ListsKept s t) : ListsKept s (t.leaveOwn b g) :=
  h.andSame

theorem ListsKept.listen {s t : State} {b : BridgeNo} {g : LegNo} (h : ListsKept s t) : ListsKept s (t.listen b g) := h.andSame

theorem ListsKept.freeOwn {s t : State} {b : Option BridgeNo} (h : ListsKept s t) : ListsKept s (t.freeOwn b) := h.andSame

theorem ListsKept.modSlot {s t : State} {sl : SlotNo} {f : Slot → Slot} (h : ListsKept s t) : ListsKept s (t.modSlot sl f) :=
  h.andSame

theorem ListsKept.cancelTimers {s t : State} {ids : List TimerId} (h : ListsKept s t) : ListsKept s (t.cancelTimers ids) :=
  h.andSame

theorem ListsKept.cancelTimer {s t : State} {id : TimerId} (h : ListsKept s t) : ListsKept s (t.cancelTimer id) := h.andSame

theorem ListsKept.startTimer {s t : State} {id : TimerId} {ms : Nat} (h : ListsKept s t) : ListsKept s (t.startTimer id ms) :=
  h.andSame

theorem ListsKept.setSelection {s t : State} {p : Pos} {u : UnitNo} {x : Selection} (h : ListsKept s t) :
    ListsKept s (t.setSelection p u x) := h.andSame

theorem ListsKept.dropSlot {s t : State} {sl : Option SlotNo} (h : ListsKept s t) : ListsKept s (t.dropSlot sl) := h.andSame

theorem ListsKept.namePrimary {s t : State} {sl : Option SlotNo} {o : Owner} (h : ListsKept s t) : ListsKept s (t.namePrimary sl o) :=
  h.andSame

theorem ListsKept.nameAlternate {s t : State} {sl : Option SlotNo} {l : LineNo} (h : ListsKept s t) :
    ListsKept s (t.nameAlternate sl l) := h.andSame

theorem ListsKept.unnamePrimary {s t : State} {sl : Option SlotNo} (h : ListsKept s t) : ListsKept s (t.unnamePrimary sl) := h.andSame

theorem ListsKept.unnameAlternate {s t : State} {sl : Option SlotNo} {l : LineNo} (h : ListsKept s t) :
    ListsKept s (t.unnameAlternate sl l) := h.andSame

theorem ListsKept.setKey {s t : State} {p : Pos} {k : Key} {o : Option LineNo} (h : ListsKept s t) : ListsKept s (t.setKey p k o) :=
  h.andSame

theorem ListsKept.enqueueAt {s t : State} {p : Pos} {i : Indication} (h : ListsKept s t) : ListsKept s (t.enqueueAt p i) := h.andSame

/-- The end of an act, after it. -/
theorem ListsKept.finishAct {s t before : State} {own : Option Pos} {cs : List ChanNo} (h : ListsKept s t) :
    ListsKept s (finishAct own cs before t) := h.andSame

/-! ### Trunk slots -/

theorem State.claimLine_lists (s : State) (l : LineNo) (sl : SlotNo) : ListsKept s (s.claimLine l sl) :=
  .modLine (.modSlot (.refl s))

theorem State.claimChannel_lists (s : State) (c : ChanNo) (sl : SlotNo) : ListsKept s (s.claimChannel c sl) :=
  .joinOwn (.modChannel (.modSlot (.refl s)))

theorem State.claimTrunk_lists (s : State) (c : ChanNo) (sl : Option SlotNo) : ListsKept s (s.claimTrunk c sl) := by
  unfold State.claimTrunk
  split
  · exact .refl s
  · split
    · exact s.claimChannel_lists c _
    · exact .refl s

theorem State.endAlert_lists (s : State) (l : LineNo) : ListsKept s (s.endAlert l) := by
  unfold State.endAlert
  dsimp only
  split
  · exact .same
  · exact .modLine .same

theorem State.regainLine_lists (s : State) (l : LineNo) (sl : SlotNo) : ListsKept s (s.regainLine l sl) := by
  unfold State.regainLine
  dsimp only
  split
  · exact .modLine (s.claimLine_lists l sl)
  · exact .joinOwn (.modLine (s.claimLine_lists l sl))

theorem State.loseRoute_lists (s : State) (l : LineNo) (sl : SlotNo) : ListsKept s (s.loseRoute l sl) := by
  unfold State.loseRoute
  split
  · exact .leaveOwn (.modLine (.refl s))
  · exact .leaveOwn (.modLine (.refl s))
  · exact .modLine (s.endAlert_lists l)

theorem State.lineFault_lists (s : State) (l : LineNo) (sl : SlotNo) : ListsKept s (s.lineFault l sl) := by
  unfold State.lineFault State.failover
  split
  · split
    · exact .joinOwn (.leaveOwn (s.claimLine_lists l _))
    · exact s.loseRoute_lists l sl
  · exact s.loseRoute_lists l sl

theorem State.revert_lists (s : State) (l : LineNo) : ListsKept s (s.revert l) := by
  unfold State.revert
  dsimp only
  split
  · exact .same
  · exact ListsKept.trans .same (State.claimLine_lists _ l _)

theorem State.serveOne_lists (s : State) (sl : SlotNo) : ListsKept s (s.serveOne sl).1 := by
  unfold State.serveOne
  repeat' split
  all_goals first
    | exact .refl s
    | exact s.claimChannel_lists _ _
    | exact s.regainLine_lists _ _

theorem State.serve_lists (fuel : Nat) (s : State) (sl : SlotNo) : ListsKept s (State.serve fuel s sl) := by
  induction fuel generalizing s sl with
  | zero => exact .refl s
  | succ n ih =>
    have h := s.serveOne_lists sl
    unfold State.serve
    split
    · simp_all
    · rename_i s1 l he
      rw [he] at h
      repeat' split
      · exact h.trans (s1.revert_lists l)
      · exact (h.trans (s1.revert_lists l)).trans (ih _ _)
      · exact h

theorem State.serveFreed_lists (s : State) (sl : Option SlotNo) : ListsKept s (s.serveFreed sl) := by
  cases sl with
  | none => exact .refl s
  | some n => exact State.serve_lists _ s n

theorem State.revertAtRest_lists (r : State × List SlotNo) (l : LineNo) : ListsKept r.1 (State.revertAtRest r l).1 := by
  unfold State.revertAtRest
  split
  · exact (r.1.revert_lists l).andSame rfl rfl
  · exact .refl r.1

theorem State.atRestAll_lists (s : State) (ls : List LineNo) : ListsKept s (s.atRestAll ls) := by
  have reverts : ListsKept s (ls.foldl State.revertAtRest (s, [])).1 :=
    List.foldlRecOn (motive := fun r => ListsKept s r.1) ls _ (.refl s)
      fun r h l _ => h.trans (State.revertAtRest_lists r l)
  exact reverts.trans (.foldl _ (fun t n => State.serve_lists _ t n) _ _)

theorem State.routeFromPrimary_lists (s : State) (l : LineNo) (sl : Option SlotNo) :
    ListsKept s (s.routeFromPrimary l sl) := by
  unfold State.routeFromPrimary
  repeat' split
  · exact .modLine (.refl s)
  · exact .modLine (s.claimLine_lists l _)
  · exact .modLine (.refl s)

/-! ### Lines -/

theorem State.dropMonitor_lists (s : State) (l : LineNo) (m : Monitor) : ListsKept s (s.dropMonitor l m) :=
  .setSelection (.leaveOwn (.modLine (.refl s) fun _ => ⟨le_rfl, List.length_erase_le, .refl _⟩))

theorem State.dropMonitors_lists (s : State) (l : LineNo) (ms : List Monitor) : ListsKept s (s.dropMonitors l ms) :=
  .foldl _ (fun t m => t.dropMonitor_lists l m) _ _

theorem State.leaveHandsets_lists (s : State) (b : Option BridgeNo) (os : List Occupant) : ListsKept s (s.leaveHandsets b os) :=
  .same

theorem State.takeDown_lists (s : State) (l : LineNo) : ListsKept s (s.takeDown l) := by
  unfold State.takeDown
  exact .modLine (.freeOwn (.cancelTimers ((s.leaveHandsets_lists _ _).trans (State.dropMonitors_lists _ _ _))))
    fun _ => .emptied rfl rfl rfl

theorem State.rest_lists (s : State) (l : LineNo) : ListsKept s (s.rest l) := by
  unfold State.rest
  split <;> exact .modLine (s.takeDown_lists l)

theorem State.returnToRest_lists (s : State) (l : LineNo) : ListsKept s (s.returnToRest l) :=
  (s.rest_lists l).trans (State.atRestAll_lists _ _)

theorem State.vacate_lists (s : State) (l : LineNo) (o : Occupant) : ListsKept s (s.vacate l o) := by
  have left : ListsKept s ((s.modLine l fun x => { x with occupants := x.occupants.erase o }).leaveOwn (s.line l).bridge
      (handsetLeg o.pos o.handset)) :=
    .leaveOwn (.modLine (.refl s) fun _ => ⟨List.length_erase_le, le_rfl, .refl _⟩)
  unfold State.vacate
  dsimp only
  split
  · exact left.trans (State.rest_lists _ l)
  · exact left

theorem State.releaseOccupant_lists (s : State) (l : LineNo) (o : Occupant) : ListsKept s (s.releaseOccupant l o) := by
  unfold State.releaseOccupant
  dsimp only
  split
  · exact (s.vacate_lists l o).trans (State.atRestAll_lists _ _)
  · exact s.vacate_lists l o

theorem State.holdLine_lists (s : State) (l : LineNo) (p : Pos) : ListsKept s (s.holdLine l p) := by
  have held : ListsKept s ((s.leaveHandsets (s.line l).bridge (s.line l).occupants).dropMonitors l (s.line l).monitors) :=
    (s.leaveHandsets_lists _ _).trans (State.dropMonitors_lists _ _ _)
  have emptied : ∀ x : Line, LineShrinks x { x with occupants := [], holdOwner := some p, state := .held } :=
    fun _ => ⟨Nat.zero_le _, le_rfl, .refl _⟩
  unfold State.holdLine
  dsimp only
  split
  · exact held.modLine emptied
  · exact (held.modLine emptied).startTimer

theorem State.dealWith_lists (s : State) (o : Occupant) (l : LineNo) : ListsKept s (s.dealWith o l) := by
  unfold State.dealWith
  repeat' split
  · exact .refl s
  · exact .refl s
  · exact s.holdLine_lists _ _
  · exact s.releaseOccupant_lists _ _

theorem State.moveHandset_lists (s : State) (l : LineNo) (old o : Occupant) : ListsKept s (s.moveHandset l old o) := by
  unfold State.moveHandset
  exact .modLine (.joinOwn (.leaveOwn (.refl s))) fun _ => ⟨(List.length_map _).le, le_rfl, .refl _⟩

theorem State.ringStart_lists (s : State) (l : LineNo) : ListsKept s (s.ringStart l) := by
  unfold State.ringStart
  dsimp only
  repeat' split
  all_goals first
    | exact .refl s
    | exact .modLine (.refl s)
    | exact .startTimer (.modLine .same)
    | exact .modLine .same
    | exact .same

theorem State.alertToRest_lists (s : State) (l : LineNo) (missed : Bool) : ListsKept s (s.alertToRest l missed) :=
  (ListsKept.modLine (s.endAlert_lists l)).trans (State.atRestAll_lists _ _)

theorem State.releasePosition_lists (s : State) (l : LineNo) (p : Pos) : ListsKept s (s.releasePosition l p) := by
  unfold State.releasePosition
  split
  · exact .refl s
  · exact s.releaseOccupant_lists l _

/-! ### Lines that gain an entry -/

/-- A line record written within the bounds. -/
theorem listsBounded_setLine {s : State} {l : LineNo} {x : Line} (h : ListsBounded s) (hx : LineBounds x) :
    ListsBounded (s.setLine l x) := by
  refine ⟨fun k => ?_, h.2⟩
  rw [State.line_setLine]
  split
  · exact hx
  · exact h.1 k

/-- A line that comes to have one occupant. -/
theorem listsBounded_modLine_sole {s : State} {l : LineNo} {f : Line → Line} (h : ListsBounded s)
    (hf : ∀ x, (f x).occupants.length = 1 ∧ (f x).monitors = x.monitors ∧ (f x).appearances = x.appearances) :
    ListsBounded (s.modLine l f) := by
  obtain ⟨-, hm, ha⟩ := h.1 l
  obtain ⟨fo, fm, fa⟩ := hf (s.line l)
  exact listsBounded_setLine h ⟨by omega, by rw [fm]; exact hm, by rw [fa]; exact ha⟩

theorem State.connect_bounded (s : State) (l : LineNo) (b : BridgeNo) (o : Occupant) (h : ListsBounded s) :
    ListsBounded (s.connect l b o) :=
  listsBounded_modLine_sole (ListsKept.bounded .same h) fun _ => ⟨rfl, rfl, rfl⟩

theorem State.seizeAtRest_bounded (s : State) (l : LineNo) (o : Occupant) (h : ListsBounded s) :
    ListsBounded (s.seizeAtRest l o).2 := by
  have connected : ∀ b, ListsBounded ((s.dealWith o l).connect l b o) := fun b =>
    State.connect_bounded _ l b o ((s.dealWith_lists o l).bounded h)
  unfold State.seizeAtRest
  split
  · dsimp only
    split
    · exact h
    · split
      · exact (State.endAlert_lists _ l).bounded (connected _)
      · dsimp only
        split
        · exact ListsKept.bounded (.startTimer (.modLine (.refl _))) (connected _)
        · exact connected _
  · exact h

theorem State.seizeConnected_bounded (s : State) (l : LineNo) (o : Occupant) (h : ListsBounded s) :
    ListsBounded (s.seizeConnected l o).2 := by
  have dealt := s.dealWith_lists o l
  unfold State.seizeConnected
  split
  · exact h
  · split
    · exact (dealt.trans (State.moveHandset_lists _ l _ o)).bounded h
    · split
      · exact h
      · split
        · exact h
        · rename_i few
          obtain ⟨-, hm, ha⟩ := (dealt.bounded h).1 l
          have ho := (dealt.line l).occupants
          simp only [Config.maxOccupants, not_le] at few
          exact listsBounded_setLine ((ListsKept.joinOwn dealt).bounded h)
            ⟨by simp; omega, by simpa using hm, by simpa using ha⟩

theorem State.seizeHeld_bounded (s : State) (l : LineNo) (o : Occupant) (h : ListsBounded s) :
    ListsBounded (s.seizeHeld l o).2 := by
  unfold State.seizeHeld
  split
  · exact listsBounded_modLine_sole (ListsKept.bounded (.joinOwn (.cancelTimer (s.dealWith_lists o l))) h)
      fun _ => ⟨rfl, rfl, rfl⟩
  · exact h

theorem State.seizeKey_bounded (s : State) (p : Pos) (k : Key) (x : Handset) (h : ListsBounded s) :
    ListsBounded (s.seizeKey p k x).2 := by
  unfold State.seizeKey
  split
  · exact h
  · split
    · exact s.seizeConnected_bounded _ _ h
    · exact s.seizeHeld_bounded _ _ h
    · exact s.seizeAtRest_bounded _ _ h

/-! ### Channels -/

theorem State.openChannel_lists (s : State) (c : ChanNo) (b : BridgeNo) : ListsKept s (s.openChannel c b) :=
  .modChannel .same

theorem State.closeIfUnused_lists (s : State) (c : ChanNo) : ListsKept s (s.closeIfUnused c) := by
  unfold State.closeIfUnused State.closeChannel
  split
  · exact .modChannel .same
  · exact .refl s

theorem State.releaseSelection_lists (s : State) (p : Pos) (u : UnitNo) : ListsKept s (s.releaseSelection p u) := by
  unfold State.releaseSelection
  split
  · exact .refl s
  · exact s.dropMonitor_lists _ _
  · exact ListsKept.trans (.setSelection (.leaveOwn (.refl s))) (State.closeIfUnused_lists _ _)

theorem State.selectChannel_lists (s : State) (p : Pos) (u : UnitNo) (c : ChanNo) : ListsKept s (s.selectChannel p u c) := by
  have h : ListsKept s ((s.releaseSelection p u).setSelection p u (.channel c)) := (s.releaseSelection_lists p u).andSame
  unfold State.selectChannel
  dsimp only
  repeat' split
  · exact .listen (h.trans (State.openChannel_lists _ _ _))
  · exact .listen h
  · exact h

/-- A monitor joins a line that has room for it. -/
theorem State.monitorLine_bounded (s : State) (p : Pos) (u : UnitNo) (l : LineNo) (h : ListsBounded s)
    (few : (s.line l).monitors.length < 8) : ListsBounded (s.monitorLine p u l) := by
  have free := s.releaseSelection_lists p u
  obtain ⟨ho, -, ha⟩ := (free.bounded h).1 l
  have hm := (free.line l).monitors
  have added : ListsBounded ((s.releaseSelection p u).modLine l fun x => { x with monitors := x.monitors ++ [⟨p, u⟩] }) :=
    listsBounded_setLine (free.bounded h) ⟨ho, by simp; omega, ha⟩
  unfold State.monitorLine
  dsimp only
  split
  · exact ListsKept.bounded .same added
  · exact ListsKept.bounded .same added

theorem State.addTalker_lists (s : State) (c : ChanNo) (e : FloorEntry)
    (room : (s.channel c).talkers.length < (s.channel c).maxTalkers) : ListsKept s (s.addTalker c e) := by
  have added : ListsKept s (s.modChannel c fun x => { x with talkers := x.talkers ++ [e] }) :=
    (ListsKept.refl s).setChannel ⟨fun ⟨_, b2, b3, b4⟩ => ⟨by simp; omega, b2, b3, b4⟩, le_rfl⟩
  exact added.andSame (by simp [State.addTalker]) (by simp [State.addTalker])

theorem State.grantHead_lists (s : State) (c : ChanNo) : ListsKept s (s.grantHead c) := by
  unfold State.grantHead
  split
  · exact .refl s
  · rename_i e rest hq
    split
    · rename_i room
      have unqueued : ListsKept s (s.modChannel c fun x => { x with queue := rest }) :=
        (ListsKept.refl s).setChannel (.shrinks le_rfl rfl (by simp [hq]) le_rfl)
      exact unqueued.trans (State.addTalker_lists _ c e (by simpa using room))
    · exact .refl s

theorem State.grantAll_lists (n : Nat) (s : State) (c : ChanNo) : ListsKept s (State.grantAll n s c) := by
  induction n generalizing s with
  | zero => exact .refl s
  | succ n ih => exact (s.grantHead_lists c).trans (ih _)

theorem State.removeEntry_lists (s : State) (c : ChanNo) (p : Pos) : ListsKept s (s.removeEntry c p) := by
  have silenced : ListsKept s
      ((s.modChannel c fun x => { x with talkers := x.talkers.filter fun e => e.pos != p }).silenceMic c p) :=
    .leaveOwn (.cancelTimer (.modChannel (.refl s) fun _ => .shrinks (List.length_filter_le ..) rfl le_rfl le_rfl))
  unfold State.removeEntry
  split
  · exact (silenced.trans (State.grantHead_lists _ _)).trans (State.closeIfUnused_lists _ _)
  · exact .modChannel (.refl s) fun _ => .shrinks le_rfl rfl (List.length_filter_le ..) le_rfl

/-- A new maximum of at most 3 keeps the lists (R87, R88). -/
theorem State.writeMaximum_lists (s : State) (c : ChanNo) (n : Nat) (hn : n ≤ 3) : ListsKept s (s.writeMaximum c n) := by
  unfold State.writeMaximum State.lowerMaximum
  split
  · refine ListsKept.modChannel (.foldl _ (fun t e => .same) _ _) fun x =>
      ⟨fun ⟨_, _, _, b4⟩ => ⟨List.length_take_le _ _, hn, List.length_take_le _ _, b4⟩, le_rfl⟩
  · rename_i few
    have raised : ListsKept s (s.modChannel c fun x => { x with maxTalkers := n }) :=
      (ListsKept.refl s).setChannel ⟨fun ⟨_, _, b3, b4⟩ => ⟨by simpa using few, hn, b3, b4⟩, le_rfl⟩
    exact raised.trans (State.grantAll_lists _ _ _)

theorem State.channelFault_lists (s : State) (c : ChanNo) (sl : SlotNo) : ListsKept s (s.channelFault c sl) :=
  .leaveOwn (.modChannel (.refl s))

theorem State.releaseUnits_lists (s : State) (p : Pos) (c : ChanNo) : ListsKept s (s.releaseUnits p c) :=
  .foldl _ (fun t u => t.releaseSelection_lists p u) _ _

theorem State.vacateHandset_lists (s : State) (o : Occupant) : ListsKept s (s.vacateHandset o) := by
  unfold State.vacateHandset
  split
  · exact .refl s
  · exact s.vacate_lists _ o

theorem State.dropAllMonitors_lists (s : State) (p : Pos) : ListsKept s (s.dropAllMonitors p) := by
  refine .foldl _ (fun t u => ?_) _ _
  split
  · exact t.dropMonitor_lists _ _
  · exact .refl t

theorem State.teardown_lists (s : State) (p : Pos) : ListsKept s (s.teardown p) := by
  have left : ListsKept s (s.releaseHandsets p) :=
    ListsKept.trans (.foldl _ (fun t o => t.vacateHandset_lists o) _ _) (State.atRestAll_lists _ _)
  have silent : ListsKept s (((s.releaseHandsets p).dropAllMonitors p).dropEntries p) :=
    (left.trans (State.dropAllMonitors_lists _ p)).trans (.foldl _ (fun t c => t.removeEntry_lists c p) _ _)
  exact silent.andSame (by simp [State.teardown]) (by simp [State.teardown])

end Sys2Proof.Machine
end

section
/-! Every step keeps the bounds of the lists, and the agreement of slots and records on their namings: the rows of the table in turn, each
by the operations it is made of. -/

set_option Elab.async false

namespace Sys2Proof.Machine

open Safety

/-! ### What a step upholds -/

/-- A change that keeps the bounds of the lists, and one that keeps the agreement on namings. -/
structure Upholds (s t : State) : Prop where
  lists : ListsBounded s → ListsBounded t
  names : NamesAgree s → NamesAgree t

theorem Upholds.refl (s : State) : Upholds s s := ⟨id, id⟩

theorem Upholds.trans {s t u : State} (h : Upholds s t) (k : Upholds t u) : Upholds s u :=
  ⟨fun b => k.lists (h.lists b), fun b => k.names (h.names b)⟩

theorem Upholds.kept {s t : State} (h : ListsKept s t) (k : KeepsNaming s t) : Upholds s t := ⟨h.bounded, k.agree⟩

/-- Two states with the same lines, channels, slots and command in progress. -/
structure SameRecords (s t : State) : Prop where
  lines : t.lines = s.lines := by simp
  channels : t.channels = s.channels := by simp
  slots : t.slots = s.slots := by simp
  job : t.mp.job = s.mp.job := by simp

theorem SameRecords.refl (s : State) : SameRecords s s := ⟨rfl, rfl, rfl, rfl⟩

theorem SameRecords.trans {s t u : State} (h : SameRecords s t) (k : SameRecords t u) : SameRecords s u :=
  ⟨k.lines.trans h.lines, k.channels.trans h.channels, k.slots.trans h.slots, k.job.trans h.job⟩

theorem SameRecords.upholds {s t : State} (h : SameRecords s t) : Upholds s t :=
  .kept (.same h.lines h.channels) (.same h.lines h.channels h.slots h.job)

theorem SameRecords.post {s t : State} {e : Event} (h : SameRecords s t) : SameRecords s (t.post e) := h.trans ⟨rfl, rfl, rfl, rfl⟩

theorem SameRecords.modLink {s t : State} {p : Pos} {f : Link → Link} (h : SameRecords s t) : SameRecords s (t.modLink p f) :=
  h.trans {}

theorem SameRecords.startTimer {s t : State} {id : TimerId} {ms : Nat} (h : SameRecords s t) : SameRecords s (t.startTimer id ms) :=
  h.trans {}

theorem SameRecords.cancelTimer {s t : State} {id : TimerId} (h : SameRecords s t) : SameRecords s (t.cancelTimer id) :=
  h.trans {}

/-- The end of an act upholds what the act does. -/
theorem Upholds.finishAct {s t before : State} {own : Option Pos} {cs : List ChanNo} (h : Upholds s t) :
    Upholds s (finishAct own cs before t) := h.trans (SameRecords.upholds {})

theorem Upholds.post {s t : State} {e : Event} (h : Upholds s t) : Upholds s (t.post e) :=
  h.trans (SameRecords.post (.refl t)).upholds

theorem Upholds.modLink {s t : State} {p : Pos} {f : Link → Link} (h : Upholds s t) : Upholds s (t.modLink p f) :=
  h.trans (SameRecords.modLink (.refl t)).upholds

/-! ### Requests -/

theorem State.seizeKey_upholds (s : State) (p : Pos) (k : Key) (h : Handset) : Upholds s (s.seizeKey p k h).2 :=
  ⟨s.seizeKey_bounded p k h, (s.seizeKey_naming p k h).agree⟩

theorem State.releaseHandset_upholds (s : State) (p : Pos) (h : Handset) : Upholds s (s.releaseHandset p h).2 := by
  unfold State.releaseHandset
  split
  · exact .refl s
  · exact .kept (s.releaseOccupant_lists _ _) (s.releaseOccupant_naming _ _)

theorem State.holdHandset_upholds (s : State) (p : Pos) (h : Handset) : Upholds s (s.holdHandset p h).2 := by
  unfold State.holdHandset
  repeat' split
  · exact .refl s
  · exact .kept (s.holdLine_lists _ _) (s.holdLine_naming _ _)
  · exact .refl s

theorem State.makePrivate_lists (s : State) (l : LineNo) : ListsKept s (s.makePrivate l) := .modLine (s.dropMonitors_lists l _)

theorem State.privacyKey_upholds (s : State) (p : Pos) (k : Key) (on : Bool) : Upholds s (s.privacyKey p k on).2 := by
  unfold State.privacyKey
  repeat' split
  all_goals dsimp only
  all_goals first
    | exact .refl s
    | exact .kept (s.makePrivate_lists _) (s.makePrivate_naming _)
    | exact .kept (.modLine (.refl s)) (.modLine (.refl s))

theorem State.signalKey_upholds (s : State) (p : Pos) (k : Key) : Upholds s (s.signalKey p k).2 := by
  unfold State.signalKey
  repeat' split
  · exact .refl s
  · exact .refl s
  · exact .refl s
  · exact .kept (.startTimer (.modLine (.refl s))) (s.startBurst_naming _)

theorem State.acknowledgeKey_upholds (s : State) (p : Pos) (k : Key) : Upholds s (s.acknowledgeKey p k).2 := by
  unfold State.acknowledgeKey
  split
  · exact .refl s
  · dsimp only
    exact .kept (.modLine (.refl s)) (.modLine (.refl s))

theorem State.queryKey_upholds (s : State) (p : Pos) (k : Key) : Upholds s (s.queryKey p k).2 := by
  unfold State.queryKey
  split
  · exact .refl s
  · exact (SameRecords.upholds {} : Upholds s (s.enqueueAt p _))

theorem State.queryChannel_upholds (s : State) (p : Pos) (c : ChanNo) : Upholds s (s.queryChannel p c).2 := by
  unfold State.queryChannel
  dsimp only
  repeat' split
  · exact .refl s
  · exact .refl s
  · exact (SameRecords.upholds {} : Upholds s (s.enqueueAt p _))

theorem State.speakerLine_upholds (s : State) (p : Pos) (u : UnitNo) (k : Key) : Upholds s (s.speakerLine p u k).2 := by
  unfold State.speakerLine
  repeat' split
  all_goals first
    | exact .refl s
    | skip
  rename_i few
  exact ⟨fun h => s.monitorLine_bounded p u _ h (by simpa [Config.maxMonitors] using few), (s.monitorLine_naming p u _).agree⟩

theorem State.speakerChannel_upholds (s : State) (p : Pos) (u : UnitNo) (c : ChanNo) : Upholds s (s.speakerChannel p u c).2 := by
  unfold State.speakerChannel
  repeat' split
  all_goals first
    | exact .refl s
    | exact .post (.refl s)
    | exact .kept (s.selectChannel_lists p u c) (s.selectChannel_naming p u c)

theorem State.speakerClear_upholds (s : State) (p : Pos) (u : UnitNo) : Upholds s (s.speakerClear p u).2 := by
  unfold State.speakerClear
  split
  · exact .refl s
  · exact .kept (s.releaseSelection_lists p u) (s.releaseSelection_naming p u)

theorem State.talkOn_upholds (s : State) (p : Pos) (c : ChanNo) (latched : Bool) : Upholds s (s.talkOn p c latched).2 := by
  unfold State.talkOn
  dsimp only
  repeat' split
  all_goals dsimp only
  all_goals try first
    | exact .refl s
    | exact .post (.refl s)
  · rename_i room _ _ b _ _
    exact .kept ((s.openChannel_lists c b).trans (State.addTalker_lists _ c _ (by simpa [State.openChannel] using room)))
      ((s.openChannel_naming c b).trans (State.addTalker_naming _ c _))
  · rename_i room _ _ _ _
    exact .kept (s.addTalker_lists c _ room) (s.addTalker_naming c _)
  · rename_i room
    simp only [Config.maxQueue] at room
    have joins : ChannelKeeps (s.channel c) { s.channel c with queue := (s.channel c).queue ++ [⟨p, latched⟩] } :=
      ⟨fun ⟨b1, b2, b3, b4⟩ => ⟨b1, b2, by simp; omega, b4⟩, le_rfl⟩
    exact .kept (.setChannel (.refl s) joins) (.modChannel (.refl s))

theorem State.talkOff_upholds (s : State) (p : Pos) (c : ChanNo) : Upholds s (s.talkOff p c).2 := by
  unfold State.talkOff
  split
  · exact .refl s
  · exact .kept (s.removeEntry_lists c p) (s.removeEntry_naming c p)

theorem State.decideOwner_upholds (s : State) (p : Pos) (t : TurretRequest) : Upholds s (s.decideOwner p t).2 := by
  cases t with
  | seize k h => exact s.seizeKey_upholds p k h
  | retrieve k h => exact s.seizeKey_upholds p k h
  | release h => exact s.releaseHandset_upholds p h
  | hold h => exact s.holdHandset_upholds p h
  | privacy k on => exact s.privacyKey_upholds p k on
  | signal k => exact s.signalKey_upholds p k
  | acknowledge k => exact s.acknowledgeKey_upholds p k
  | queryLine k => exact s.queryKey_upholds p k
  | queryChannel c => exact s.queryChannel_upholds p c
  | speakerLine u k => exact s.speakerLine_upholds p u k
  | speakerChannel u c => exact s.speakerChannel_upholds p u c
  | speakerClear u => exact s.speakerClear_upholds p u
  | talkOn c latched => exact s.talkOn_upholds p c latched
  | talkOff c => exact s.talkOff_upholds p c

theorem State.takeRequest_upholds (s : State) (p : Pos) (r : Request) (t : State) (h : s.takeRequest p r = some t) :
    Upholds s t := by
  have arrives : SameRecords s (s.arrive p r) := by
    unfold State.arrive
    split
    · exact .modLink (.refl s)
    · exact .refl s
  unfold State.takeRequest at h
  dsimp only at h
  split at h
  · cases h
    refine arrives.upholds.trans (SameRecords.upholds ?_)
    exact ⟨rfl, rfl, rfl, rfl⟩
  · cases h

theorem State.serveRequest_upholds (s : State) (p : Pos) (r : Request) : Upholds s (s.serveRequest p r) := by
  unfold State.serveRequest
  split
  · exact .refl s
  · rename_i t ht
    refine (s.takeRequest_upholds p r t ht).trans (.modLink ?_)
    unfold State.decide
    repeat' split
    · exact .refl t
    · exact .refl t
    · exact .finishAct (t.decideOwner_upholds p _)

/-! ### Namings changed by a command (R131) -/

/-- The agreement on namings but for the command in progress. -/
def NamesMatch (s : State) : Prop :=
  (∀ (n : SlotNo) (l : LineNo), l ∈ (s.slot n).altLines ↔ (s.line l).alternate = some n) ∧
  (∀ (n : SlotNo) (l : LineNo), (s.slot n).primaryNamer = some (.line l) ↔ (s.line l).primary = some n) ∧
  (∀ (n : SlotNo) (c : ChanNo), (s.slot n).primaryNamer = some (.channel c) ↔ (s.channel c).trunk = some n) ∧
  (∀ l : LineNo, (s.line l).state = .vacant → (s.line l).primary = none ∧ (s.line l).alternate = none) ∧
  ∀ c : ChanNo, (s.channel c).state = .vacant → (s.channel c).trunk = none

/-- The agreement is the match of the namings, with no slot named by the record that a retire sweeps. -/
theorem namesAgree_iff (s : State) : NamesAgree s ↔ NamesMatch s ∧
    (∀ l p, s.mp.job = some (.retireLine l p) → (s.line l).primary = none ∧ (s.line l).alternate = none) ∧
    ∀ c p, s.mp.job = some (.retireChannel c p) → (s.channel c).trunk = none := by
  simp only [NamesMatch, and_assoc]

theorem NamesMatch.of_agree {s : State} (h : NamesAgree s) : NamesMatch s := ((namesAgree_iff s).1 h).1

/-- Where no retire is in progress the match is all. -/
theorem NamesMatch.agree {s : State} (h : NamesMatch s) (hl : ∀ l p, s.mp.job ≠ some (.retireLine l p))
    (hc : ∀ c p, s.mp.job ≠ some (.retireChannel c p)) : NamesAgree s :=
  (namesAgree_iff s).2 ⟨h, fun l p e => absurd e (hl l p), fun c p e => absurd e (hc c p)⟩

/-- The match stands where no naming differs. -/
theorem KeepsNaming.match {s t : State} (h : KeepsNaming s t) (ha : NamesMatch s) : NamesMatch t := by
  obtain ⟨a, b, c, d, e⟩ := ha
  refine ⟨fun n l => ?_, fun n l => ?_, fun n k => ?_, fun l hl => ?_, fun k hk => ?_⟩
  · rw [h.altLines, h.alternate]; exact a n l
  · rw [h.namer, h.primary]; exact b n l
  · rw [h.namer, h.trunk]; exact c n k
  · rw [h.primary, h.alternate]; exact d l (h.lineLive l hl)
  · rw [h.trunk]; exact e k (h.channelLive k hk)

/-- One line comes to name the slots `p` and `a`, and the slots have the namers that this asks. -/
theorem NamesMatch.line_changed {s t : State} {l : LineNo} {p a : Option SlotNo} (h : NamesMatch s)
    (hp : ∀ k, (t.line k).primary = if k = l then p else (s.line k).primary)
    (ha : ∀ k, (t.line k).alternate = if k = l then a else (s.line k).alternate)
    (ht : ∀ c, (t.channel c).trunk = (s.channel c).trunk)
    (hn : ∀ n, (t.slot n).primaryNamer =
      if p = some n then some (.line l) else if (s.line l).primary = some n then none else (s.slot n).primaryNamer)
    (hm : ∀ n k, k ∈ (t.slot n).altLines ↔ if k = l then a = some n else k ∈ (s.slot n).altLines)
    (free : ∀ n, p = some n → (s.slot n).primaryNamer = none ∨ (s.slot n).primaryNamer = some (.line l))
    (hv : ∀ k, (t.line k).state = .vacant → if k = l then p = none ∧ a = none else (s.line k).state = .vacant)
    (hc : ∀ c, (t.channel c).state = .vacant → (s.channel c).state = .vacant) : NamesMatch t := by
  obtain ⟨alternates, primaries, trunks, vacantLine, vacantChannel⟩ := h
  refine ⟨fun n k => ?_, fun n k => ?_, fun n c => ?_, fun k hk => ?_, fun c hk => ?_⟩
  · rw [hm, ha]
    split
    · rfl
    · exact alternates n k
  · have namedBy := primaries n k
    have ownNamer := primaries n l
    rw [hn, hp]
    by_cases hpn : p = some n
    · rcases free n hpn with e | e <;> by_cases hk : k = l <;> grind
    · by_cases hk : k = l <;> grind
  · have namedBy := trunks n c
    have ownNamer := primaries n l
    rw [hn, ht]
    by_cases hpn : p = some n
    · rcases free n hpn with e | e <;> grind
    · grind
  · have := hv k hk
    rw [hp, ha]
    split
    · simp_all
    · exact vacantLine k (by simp_all)
  · rw [ht]
    exact vacantChannel c (hc c hk)

/-- One channel comes to name the slot `n` as trunk, and the slots have the namers that this asks. -/
theorem NamesMatch.channel_changed {s t : State} {c : ChanNo} {tr : Option SlotNo} (h : NamesMatch s)
    (hl : ∀ l, t.line l = s.line l)
    (ht : ∀ k, (t.channel k).trunk = if k = c then tr else (s.channel k).trunk)
    (hn : ∀ n, (t.slot n).primaryNamer =
      if tr = some n then some (.channel c) else if (s.channel c).trunk = some n then none else (s.slot n).primaryNamer)
    (hm : ∀ n, (t.slot n).altLines = (s.slot n).altLines)
    (free : ∀ n, tr = some n → (s.slot n).primaryNamer = none ∨ (s.slot n).primaryNamer = some (.channel c))
    (hv : ∀ k, (t.channel k).state = .vacant → if k = c then tr = none else (s.channel k).state = .vacant) :
    NamesMatch t := by
  obtain ⟨alternates, primaries, trunks, vacantLine, vacantChannel⟩ := h
  refine ⟨fun n k => ?_, fun n k => ?_, fun n k => ?_, fun k hk => ?_, fun k hk => ?_⟩
  · rw [hm, hl]; exact alternates n k
  · have namedBy := primaries n k
    have ownNamer := trunks n c
    rw [hn, hl]
    by_cases htn : tr = some n
    · rcases free n htn with e | e <;> grind
    · grind
  · have namedBy := trunks n k
    have ownNamer := trunks n c
    rw [hn, ht]
    by_cases htn : tr = some n
    · rcases free n htn with e | e <;> by_cases hk : k = c <;> grind
    · by_cases hk : k = c <;> grind
  · rw [hl] at hk ⊢; exact vacantLine k hk
  · have := hv k hk
    rw [ht]
    split
    · simp_all
    · exact vacantChannel k (by simp_all)

end Sys2Proof.Machine
end

section
/-! The commands of the system controller keep the bounds of the lists and the agreement on namings. -/

set_option Elab.async false

namespace Sys2Proof.Machine

open Safety

/-- What the decision of a command upholds: the command slot clears the command in progress when it completes, so that a decision with a
result owes the match of the namings alone. -/
structure DecisionUpholds (s : State) (d : Decision) : Prop where
  lists : ListsBounded s → ListsBounded d.2
  names : NamesAgree s → NamesMatch d.2
  running : NamesAgree s → d.1 = none → NamesAgree d.2

theorem Upholds.decision {s t : State} {r : Option Result} (h : Upholds s t) : DecisionUpholds s (r, t) :=
  ⟨h.lists, fun n => .of_agree (h.names n), fun n _ => h.names n⟩

/-- A refused command. -/
theorem refuse_upholds (r : Result) (s : State) : DecisionUpholds s (refuse r s) := (Upholds.refl s).decision

/-- A command that completes, from what it does to the lists and to the namings. -/
theorem DecisionUpholds.completes {s t : State} {r : Result} (hl : ListsBounded s → ListsBounded t)
    (hn : NamesAgree s → NamesMatch t) : DecisionUpholds s (some r, t) := ⟨hl, hn, nofun⟩

/-! ### Slots that a line comes to name -/

@[simp] theorem State.passMode_lines (s : State) (b : Option BridgeNo) (m : Headroom) : (s.passMode b m).lines = s.lines := by
  cases b <;> rfl
@[simp] theorem State.passMode_channels (s : State) (b : Option BridgeNo) (m : Headroom) : (s.passMode b m).channels = s.channels := by
  cases b <;> rfl
@[simp] theorem State.passMode_slots (s : State) (b : Option BridgeNo) (m : Headroom) : (s.passMode b m).slots = s.slots := by
  cases b <;> rfl
@[simp] theorem State.passMode_mp (s : State) (b : Option BridgeNo) (m : Headroom) : (s.passMode b m).mp = s.mp := by
  cases b <;> rfl

theorem ListsKept.passMode {s t : State} {b : Option BridgeNo} {m : Headroom} (h : ListsKept s t) : ListsKept s (t.passMode b m) :=
  h.andSame

theorem KeepsNaming.passMode {s t : State} {b : Option BridgeNo} {m : Headroom} (h : KeepsNaming s t) :
    KeepsNaming s (t.passMode b m) := h.trans .same

theorem KeepsNaming.setKey {s t : State} {p : Pos} {k : Key} {o : Option LineNo} (h : KeepsNaming s t) :
    KeepsNaming s (t.setKey p k o) := h.trans .same

theorem KeepsNaming.enqueueAt {s t : State} {p : Pos} {i : Indication} (h : KeepsNaming s t) : KeepsNaming s (t.enqueueAt p i) :=
  h.trans .same

/-- A free primary is named by no record, or by the line itself (R12, R131). -/
theorem State.primaryClaimed_false {s : State} {l : LineNo} {sl : Option SlotNo} (h : s.primaryClaimed l sl = false) (n : SlotNo)
    (hn : sl = some n) : (s.slot n).primaryNamer = none ∨ (s.slot n).primaryNamer = some (.line l) := by
  subst hn
  cases hp : (s.slot n).primaryNamer with
  | none => exact .inl rfl
  | some o => simp_all [State.primaryClaimed]

theorem State.createLine_upholds (s : State) (w : CmdWords) : DecisionUpholds s (s.createLine w) := by
  unfold State.createLine
  dsimp only
  split
  case h_2 => exact refuse_upholds _ s
  case h_1 l kind headroom primary alternate _ _ _ _ _ =>
    repeat' split
    iterate 4 exact refuse_upholds _ s
    rename_i vacant free _
    simp only [ne_eq, not_not] at vacant
    refine .completes (fun h => ?_) fun h => ?_
    · refine ListsKept.bounded (.finishAct (.trans ?_ (State.routeFromPrimary_lists _ l primary))) h
      exact .nameAlternate (.namePrimary (.setLine (.refl s)
        (.mk (Nat.zero_le _) (Nat.zero_le _) (List.nil_sublist _))))
    · refine (KeepsNaming.finishAct (State.routeFromPrimary_naming _ l primary)).match ?_
      obtain ⟨noPrimary, noAlternate⟩ := h.2.2.2.1 l vacant
      have unnamed : ∀ n, l ∉ (s.slot n).altLines := fun n hm => by simpa [noAlternate] using (h.1 n l).1 hm
      refine (NamesMatch.of_agree h).line_changed (l := l) (p := primary) (a := alternate) ?_ ?_ ?_ ?_ ?_
        (fun n => State.primaryClaimed_false (by simpa using free) n) ?_ ?_
      · intro k; simp only [State.line_nameAlternate, State.line_namePrimary, State.line_setLine]; split <;> rfl
      · intro k; simp only [State.line_nameAlternate, State.line_namePrimary, State.line_setLine]; split <;> rfl
      · simp
      · intro n; simp [State.nameAlternate_slot, State.namePrimary_slot, noPrimary]
      · intro n k
        have := unnamed n
        simp only [State.nameAlternate_slot, State.namePrimary_slot, State.slot_setLine]
        by_cases ha : alternate = some n <;> by_cases hk : k = l <;> simp_all [mem_insertAsc]
      · intro k hk
        simp only [State.line_nameAlternate, State.line_namePrimary, State.line_setLine] at hk
        split
        · simp_all
        · simpa [*] using hk
      · intro c; simp

theorem Line.writeSettings_names (x : Line) (w : CmdWords) :
    (x.writeSettings w).primary = x.primary ∧ (x.writeSettings w).alternate = x.alternate ∧
      ((x.writeSettings w).state = .vacant → x.state = .vacant) := ⟨rfl, rfl, id⟩

/-- The lines after a change of a line's alternate: the alternate of that line alone. -/
theorem State.changeAlternate_line (s : State) (l k : LineNo) (new : Option SlotNo) :
    (s.changeAlternate l new).line k = if k = l then { s.line l with alternate := new } else s.line k := by
  unfold State.changeAlternate
  dsimp only
  split
  · rename_i same
    split
    · rename_i e; rw [e, ← same]
    · rfl
  · simp [State.line_setLine]

/-- The namers after a change of a line's alternate, where the slots agree with that line on it. -/
theorem State.changeAlternate_slot (s : State) (l : LineNo) (new : Option SlotNo)
    (h : ∀ n, l ∈ (s.slot n).altLines ↔ (s.line l).alternate = some n) (n : SlotNo) :
    ((s.changeAlternate l new).slot n).primaryNamer = (s.slot n).primaryNamer ∧
      ∀ k, k ∈ ((s.changeAlternate l new).slot n).altLines ↔ if k = l then new = some n else k ∈ (s.slot n).altLines := by
  unfold State.changeAlternate
  dsimp only
  split
  · rename_i same
    refine ⟨rfl, fun k => ?_⟩
    split
    · rename_i e; rw [e, h, same]
    · rfl
  · rename_i differs
    refine ⟨by simp [State.unnameAlternate_slot, State.nameAlternate_slot], fun k => ?_⟩
    have agree := h n
    simp only [State.modLine_eq, State.slot_setLine, State.unnameAlternate_slot, State.nameAlternate_slot]
    by_cases ho : (s.line l).alternate = some n <;> by_cases hn : new = some n <;> by_cases hk : k = l <;>
      simp_all [mem_insertAsc]

theorem State.changeAlternate_lists (s : State) (l : LineNo) (new : Option SlotNo) : ListsKept s (s.changeAlternate l new) := by
  unfold State.changeAlternate
  dsimp only
  split
  · exact .refl s
  · exact .modLine (.unnameAlternate (.nameAlternate (.refl s)))

theorem State.changeSlots_lists (s : State) (l : LineNo) (primary alternate : Option SlotNo) :
    ListsKept s (s.changeSlots l primary alternate) := by
  unfold State.changeSlots
  dsimp only
  split
  · exact s.changeAlternate_lists l alternate
  · refine ListsKept.trans (ListsKept.trans ?_ (State.routeFromPrimary_lists _ l primary)) (State.serveFreed_lists _ _)
    exact .modLine (.unnamePrimary (ListsKept.trans (.namePrimary (.dropSlot (.refl s))) (State.changeAlternate_lists _ l alternate)))

@[simp] theorem State.changeAlternate_channel (s : State) (l : LineNo) (new : Option SlotNo) (c : ChanNo) :
    (s.changeAlternate l new).channel c = s.channel c := by
  unfold State.changeAlternate; dsimp only; split <;> simp

/-- The slots of a line changed keep the match, where the new primary is free (R131). -/
theorem State.changeSlots_match (s : State) (l : LineNo) (primary alternate : Option SlotNo) (h : NamesMatch s)
    (free : (s.line l).primary ≠ primary → s.primaryClaimed l primary = false) (live : (s.line l).state ≠ .vacant) :
    NamesMatch (s.changeSlots l primary alternate) := by
  unfold State.changeSlots
  dsimp only
  split
  · rename_i same
    have slots := State.changeAlternate_slot s l alternate fun n => h.1 n l
    refine h.line_changed (l := l) (p := primary) (a := alternate) ?_ ?_ (by simp) ?_ (fun n k => (slots n).2 k) ?_ ?_ (by simp)
    · intro k; rw [State.changeAlternate_line]; split <;> simp_all
    · intro k; rw [State.changeAlternate_line]; split <;> simp_all
    · intro n
      have namer := h.2.1 n l
      rw [(slots n).1]
      split
      · simp_all
      · simp_all
    · intro n hn; exact .inr ((h.2.1 n l).2 (same.trans hn))
    · intro k; rw [State.changeAlternate_line]; split <;> simp_all
  · rename_i differs
    refine KeepsNaming.match ((State.routeFromPrimary_naming _ l primary).trans (State.serveFreed_naming _ _)) ?_
    have dropped := s.dropSlot_naming (s.line l).activeSlot
    have slots := State.changeAlternate_slot ((s.dropSlot (s.line l).activeSlot).namePrimary primary (.line l)) l alternate
      fun n => by
        rw [(State.namePrimary_slot _ _ _ _).2, dropped.altLines]
        simpa using h.1 n l
    refine h.line_changed (l := l) (p := primary) (a := alternate) ?_ ?_ (by simp) ?_ ?_
      (fun n => State.primaryClaimed_false (free differs) n) ?_ (by simp)
    · intro k
      simp only [State.modLine_eq, State.line_setLine, State.line_unnamePrimary, State.changeAlternate_line,
        State.line_namePrimary, State.line_dropSlot]
      split <;> simp
    · intro k
      simp only [State.modLine_eq, State.line_setLine, State.line_unnamePrimary, State.changeAlternate_line,
        State.line_namePrimary, State.line_dropSlot]
      split <;> simp
    · intro n
      simp only [State.modLine_eq, State.slot_setLine, State.unnamePrimary_slot, (slots n).1, State.namePrimary_slot,
        dropped.namer]
      by_cases hp : primary = some n
      · have : (s.line l).primary ≠ some n := fun e => differs (e.trans hp.symm)
        simp [hp, this]
      · simp [hp]
    · intro n k
      simp only [State.modLine_eq, State.slot_setLine, State.unnamePrimary_slot, (slots n).2 k, State.namePrimary_slot,
        dropped.altLines]
    · intro k hk
      simp only [State.modLine_eq, State.line_setLine, State.line_unnamePrimary, State.changeAlternate_line,
        State.line_namePrimary, State.line_dropSlot] at hk
      split
      · simp_all
      · simpa [*] using hk

theorem State.setLineCmd_upholds (s : State) (w : CmdWords) : DecisionUpholds s (s.setLineCmd w) := by
  unfold State.setLineCmd
  dsimp only
  split
  · exact refuse_upholds _ s
  · rename_i l _
    repeat' split
    iterate 5 exact refuse_upholds _ s
    rename_i live _ _ free
    have lists : ListsKept s ((s.modLine l fun y => y.writeSettings w).passMode (s.line l).bridge
        (masked (w.maskBit 12) (lineArgs w).headroom (s.line l).headroom)) := by
      exact .passMode (.modLine (.refl s) fun _ => ⟨le_rfl, le_rfl, .refl _⟩)
    have names : KeepsNaming s ((s.modLine l fun y => y.writeSettings w).passMode (s.line l).bridge
        (masked (w.maskBit 12) (lineArgs w).headroom (s.line l).headroom)) := by
      exact .passMode (.modLine (.refl s) fun x => x.writeSettings_names w)
    refine .completes (fun h => ?_) fun h => ?_
    · exact ListsKept.bounded (.finishAct (lists.trans (State.changeSlots_lists _ l _ _))) h
    · refine (KeepsNaming.finishAct (.refl _)).match (State.changeSlots_match _ l _ _ (names.match (.of_agree h)) ?_ ?_)
      · intro changed
        rw [names.primary] at changed
        have masked13 : w.maskBit 13 = true := by
          by_contra hm
          exact changed (by simp [masked, hm])
        have unclaimed : s.primaryClaimed l (masked (w.maskBit 13) (lineArgs w).primary (s.line l).primary) = false := by
          simp only [Bool.or_eq_true, Bool.and_eq_true, not_or, not_and, Bool.not_eq_true] at free
          exact free.1 masked13
        revert unclaimed
        unfold State.primaryClaimed
        split
        · exact fun _ => rfl
        · rw [names.namer]; exact id
      · exact fun e => live (names.lineLive l e)

/-! ### Lines that retire, and appearances -/

theorem State.retireLive_naming (s : State) (l : LineNo) : KeepsNaming s (s.retireLive l) := by
  unfold State.retireLive
  split
  · exact s.endAlert_naming l
  · exact .modLine (s.takeDown_naming l)
  · exact .modLine (s.takeDown_naming l)
  · exact .refl s

theorem State.retireLive_lists (s : State) (l : LineNo) : ListsKept s (s.retireLive l) := by
  unfold State.retireLive
  split
  · exact s.endAlert_lists l
  · exact .modLine (s.takeDown_lists l)
  · exact .modLine (s.takeDown_lists l)
  · exact .refl s

@[simp] theorem State.dropSlot_primaryNamer (s : State) (sl : Option SlotNo) (n : SlotNo) :
    ((s.dropSlot sl).slot n).primaryNamer = (s.slot n).primaryNamer := (s.dropSlot_naming sl).namer n
@[simp] theorem State.dropSlot_altLines (s : State) (sl : Option SlotNo) (n : SlotNo) :
    ((s.dropSlot sl).slot n).altLines = (s.slot n).altLines := (s.dropSlot_naming sl).altLines n

/-- The namings of a retired line removed (R20). -/
theorem State.unnameLine_match (s t : State) (l : LineNo) (h : NamesMatch s) (live : KeepsNaming s t) :
    NamesMatch ((((t.modLine l fun y =>
      { y with state := .retiring, route := .none, primary := none, alternate := none }).dropSlot
        (s.line l).activeSlot).unnamePrimary (s.line l).primary).unnameAlternate (s.line l).alternate l) := by
  refine h.line_changed (l := l) (p := none) (a := none) ?_ ?_ ?_ ?_ ?_ (fun n e => nomatch e) ?_ ?_
  · intro k
    simp only [State.line_unnameAlternate, State.line_unnamePrimary, State.line_dropSlot, State.modLine_eq, State.line_setLine]
    split
    · rfl
    · exact live.primary k
  · intro k
    simp only [State.line_unnameAlternate, State.line_unnamePrimary, State.line_dropSlot, State.modLine_eq, State.line_setLine]
    split
    · rfl
    · exact live.alternate k
  · intro c; simpa using live.trunk c
  · intro n
    simp only [State.unnameAlternate_slot, State.unnamePrimary_slot, State.dropSlot_primaryNamer, State.modLine_eq,
      State.slot_setLine, live.namer, reduceCtorEq, if_false]
  · intro n k
    have agree := h.1 n
    simp only [State.unnameAlternate_slot, State.unnamePrimary_slot, State.dropSlot_altLines, State.modLine_eq,
      State.slot_setLine, live.altLines]
    by_cases ho : (s.line l).alternate = some n <;> by_cases hk : k = l <;> simp_all
  · intro k hk
    simp only [State.line_unnameAlternate, State.line_unnamePrimary, State.line_dropSlot, State.modLine_eq,
      State.line_setLine] at hk
    split
    · exact ⟨rfl, rfl⟩
    · exact live.lineLive k (by simpa [*] using hk)
  · intro c hc
    exact live.channelLive c (by simpa using hc)

theorem State.retireLine_upholds (s : State) (w : CmdWords) : DecisionUpholds s (s.retireLine w) := by
  unfold State.retireLine
  dsimp only
  split
  · exact refuse_upholds _ s
  · rename_i l _
    repeat' split
    iterate 2 exact refuse_upholds _ s
    have matched (h : NamesAgree s) :=
      (KeepsNaming.finishAct (before := s) (own := none) (cs := []) (State.serveFreed_naming _ (s.line l).activeSlot)).match
        (State.unnameLine_match s _ l (.of_agree h) (s.retireLive_naming l))
    refine ⟨fun h => ?_, matched, fun h _ => (namesAgree_iff _).2 ⟨matched h, fun k p e => ?_, fun c p e => nomatch e⟩⟩
    · refine ListsKept.bounded (ListsKept.trans (ListsKept.finishAct (.trans ?_ (State.serveFreed_lists _ _))) (.same rfl rfl)) h
      exact .unnameAlternate (.unnamePrimary (.dropSlot (.modLine (s.retireLive_lists l))))
    · obtain ⟨rfl, -⟩ : l = k ∧ (0 : Pos) = p := by simpa [State.modMp] using e
      have kept := (KeepsNaming.finishAct (before := s) (own := none) (cs := [])
        (State.serveFreed_naming ((((((s.retireLive l).modLine l fun y =>
          { y with state := .retiring, route := .none, primary := none, alternate := none }).dropSlot
            (s.line l).activeSlot).unnamePrimary (s.line l).primary).unnameAlternate (s.line l).alternate l))
          (s.line l).activeSlot))
      exact ⟨(kept.primary l).trans (by simp), (kept.alternate l).trans (by simp)⟩

/-- An appearance put into a list in which its position has none. -/
theorem insertAppearance_nodup (a : Appearance) (as : List Appearance) (h : (as.map Appearance.pos).Nodup)
    (new : a.pos ∉ as.map Appearance.pos) : ((insertAppearance a as).map Appearance.pos).Nodup := by
  have perm : (insertAppearance a as).Perm (a :: as) := by
    unfold insertAppearance
    refine List.perm_middle.trans (.cons a ?_)
    have : as.filter (fun b => a.pos < b.pos) = as.filter (fun b => !decide (b.pos ≤ a.pos)) :=
      List.filter_congr fun b _ => Bool.eq_iff_iff.2 (by simp)
    rw [this]
    exact List.filter_append_perm _ _
  rw [(perm.map Appearance.pos).nodup_iff, List.map_cons, List.nodup_cons]
  exact ⟨new, h⟩

theorem State.addAppearance_upholds (s : State) (w : CmdWords) : DecisionUpholds s (s.addAppearance w) := by
  unfold State.addAppearance
  split
  case h_2 => exact refuse_upholds _ s
  case h_1 l p k _ _ _ =>
    dsimp only
    split
    · exact refuse_upholds _ s
    split
    · split
      · refine Upholds.decision (.kept (.modLine (.refl s) fun x => ⟨le_rfl, le_rfl, ?_⟩) (.modLine (.refl s)))
        rw [List.map_map]
        refine (List.map_congr_left fun y _ => ?_) ▸ List.Sublist.refl _
        by_cases hy : y.pos = p <;> simp [hy]
      · exact refuse_upholds _ s
    · rename_i none
      split
      · exact refuse_upholds _ s
      refine Upholds.decision ⟨fun h => ?_, KeepsNaming.agree (.enqueueAt (.setKey (.modLine (.refl s))))⟩
      have new : p ∉ (s.line l).appearances.map Appearance.pos := by
        simpa [Line.appearanceAt, List.find?_eq_none] using none
      obtain ⟨ho, hm, ha⟩ := h.1 l
      have added : ListsBounded (s.setLine l
          { s.line l with appearances := insertAppearance ⟨p, k, bit w.w4 0⟩ (s.line l).appearances }) :=
        listsBounded_setLine h ⟨ho, hm, insertAppearance_nodup _ _ ha new⟩
      exact ListsKept.bounded (.enqueueAt (.setKey (.refl _))) added

theorem State.dropMonitorsOf_lists (s : State) (l : LineNo) (p : Pos) : ListsKept s (s.dropMonitorsOf l p) :=
  s.dropMonitors_lists l _

theorem State.removeAppearance_lists (s : State) (l : LineNo) (a : Appearance) : ListsKept s (s.removeAppearance l a) :=
  .setKey (.modLine (.refl s) fun _ => ⟨le_rfl, le_rfl, List.filter_sublist.map _⟩)

theorem State.removeAppearance_naming (s : State) (l : LineNo) (a : Appearance) : KeepsNaming s (s.removeAppearance l a) :=
  .setKey (.modLine (.refl s))

theorem State.releasePosition_naming (s : State) (l : LineNo) (p : Pos) : KeepsNaming s (s.releasePosition l p) := by
  unfold State.releasePosition
  split
  · exact .refl s
  · exact s.releaseOccupant_naming l _

theorem State.dropAppearance_upholds (s : State) (w : CmdWords) : DecisionUpholds s (s.dropAppearance w) := by
  unfold State.dropAppearance
  split
  case h_2 => exact refuse_upholds _ s
  case h_1 l p _ _ =>
    dsimp only
    repeat' split
    iterate 2 exact refuse_upholds _ s
    · exact Upholds.decision (.kept
        (.enqueueAt (.finishAct ((((s.returnToRest_lists l).trans (State.dropMonitorsOf_lists _ l p)).trans
          (State.releasePosition_lists _ l p)).trans (State.removeAppearance_lists _ l _))))
        (.enqueueAt (.finishAct ((((s.returnToRest_naming l).trans (State.dropMonitors_naming _ l _)).trans
          (State.releasePosition_naming _ l p)).trans (State.removeAppearance_naming _ l _)))))
    · exact Upholds.decision (.kept
        (.enqueueAt (.finishAct (((s.dropMonitorsOf_lists l p).trans
          (State.releasePosition_lists _ l p)).trans (State.removeAppearance_lists _ l _))))
        (.enqueueAt (.finishAct (((s.dropMonitors_naming l _).trans
          (State.releasePosition_naming _ l p)).trans (State.removeAppearance_naming _ l _)))))

theorem State.forceRelease_upholds (s : State) (w : CmdWords) : DecisionUpholds s (s.forceRelease w) := by
  unfold State.forceRelease
  split
  · exact refuse_upholds _ s
  · split
    · exact refuse_upholds _ s
    · exact (Upholds.finishAct (.kept (s.returnToRest_lists _) (s.returnToRest_naming _))).decision
    · exact (Upholds.finishAct (.kept (s.returnToRest_lists _) (s.returnToRest_naming _))).decision
    · exact (Upholds.finishAct (.kept (s.alertToRest_lists _ false) (s.alertToRest_naming _ false))).decision
    · exact (Upholds.refl s).decision

end Sys2Proof.Machine
end

section
/-! The commands on channels, the settings, and the command slot keep the bounds and the agreement on namings. -/
set_option Elab.async false

namespace Sys2Proof.Machine

open Safety

/-! ### Slots that a channel comes to name -/

/-- The match of the namings does not rest on the management port. -/
theorem namesMatch_modMp {s : State} {f : Management → Management} (h : NamesMatch s) : NamesMatch (s.modMp f) := h

/-- The match of the namings is all while FLOOR-RESET is in progress. -/
theorem NamesMatch.floorReset {s : State} (h : NamesMatch s) (a : ResetAct) :
    NamesAgree (s.modMp fun m => { m with job := some (.floorReset a) }) :=
  NamesMatch.agree (namesMatch_modMp h) (fun _ _ => by simp) fun _ _ => by simp

/-- A free trunk is named by no record, or by the channel itself (R63). -/
theorem State.trunkClaimed_false {s : State} {c : ChanNo} {sl : Option SlotNo} (h : s.trunkClaimed c sl = false) (n : SlotNo)
    (hn : sl = some n) : (s.slot n).primaryNamer = none ∨ (s.slot n).primaryNamer = some (.channel c) := by
  subst hn
  cases hp : (s.slot n).primaryNamer with
  | none => exact .inl rfl
  | some o => simp_all [State.trunkClaimed, Slot.named]

/-- The maximum that CREATE-CHANNEL and SET-CHANNEL carry is at most 3. -/
theorem maximumArg_le {w : Word} {n : Nat} (h : maximumArg w = some n) : n ≤ 3 := by
  have := Nat.mod_lt (w.toNat / 2 ^ 4) (show 0 < 2 ^ 2 by norm_num)
  unfold maximumArg at h
  unfold bits at h
  by_cases zero : w.toNat / 2 ^ 4 % 2 ^ 2 = 0
  · rw [if_pos zero] at h; cases h
  · rw [if_neg zero, Option.some.injEq] at h; omega

theorem State.createChannel_upholds (s : State) (w : CmdWords) : DecisionUpholds s (s.createChannel w) := by
  unfold State.createChannel
  split
  case h_2 => exact refuse_upholds _ s
  case h_1 c maximum headroom trunk _ hmax _ _ =>
    dsimp only
    repeat' split
    iterate 3 exact refuse_upholds _ s
    rename_i vacant free
    simp only [ne_eq, not_not] at vacant
    refine .completes (fun h => ?_) fun h => ?_
    · refine ListsKept.bounded (ListsKept.trans (.namePrimary (.setChannel (.refl s) ?_)) (State.claimTrunk_lists _ c trunk)) h
      exact ⟨fun _ => ⟨Nat.zero_le _, maximumArg_le hmax, Nat.zero_le _, Nat.zero_le _⟩, Nat.zero_le _⟩
    · refine (State.claimTrunk_naming _ c trunk).match ?_
      have noTrunk := h.2.2.2.2.1 c vacant
      refine (NamesMatch.of_agree h).channel_changed (c := c) (tr := trunk) (by simp) ?_ ?_ ?_
        (fun n => State.trunkClaimed_false (by simpa using free) n) ?_
      · intro k; simp only [State.channel_namePrimary, State.channel_setChannel]; split <;> rfl
      · intro n; simp [State.namePrimary_slot, noTrunk]
      · intro n; simp [State.namePrimary_slot]
      · intro k hk
        simp only [State.channel_namePrimary, State.channel_setChannel] at hk
        split
        · simp_all
        · simpa [*] using hk

theorem State.changeTrunk_lists (s : State) (c : ChanNo) (new : Option SlotNo) : ListsKept s (s.changeTrunk c new) := by
  have left : ListsKept s (s.leaveTrunk (s.channel c).bridge (s.channel c).trunk) := .same
  unfold State.changeTrunk
  dsimp only
  split
  · exact .refl s
  · exact ListsKept.trans (.namePrimary (.modChannel (.unnamePrimary left))) (State.claimTrunk_lists _ c new)

/-- The trunk of a channel changed keeps the match, where the new trunk is free (R63). -/
theorem State.changeTrunk_match (s : State) (c : ChanNo) (new : Option SlotNo) (h : NamesMatch s)
    (free : (s.channel c).trunk ≠ new → s.trunkClaimed c new = false) (live : (s.channel c).state ≠ .vacant) :
    NamesMatch (s.changeTrunk c new) := by
  unfold State.changeTrunk
  dsimp only
  split
  · exact h
  · rename_i differs
    refine (State.claimTrunk_naming _ c new).match ?_
    refine h.channel_changed (c := c) (tr := new) (by simp) ?_ ?_ ?_ (fun n => State.trunkClaimed_false (free differs) n) ?_
    · intro k
      simp only [State.channel_namePrimary, State.modChannel_eq, State.channel_setChannel, State.channel_unnamePrimary,
        State.channel_leaveTrunk]
      split <;> rfl
    · intro n
      simp only [State.namePrimary_slot, State.modChannel_eq, State.slot_setChannel, State.unnamePrimary_slot,
        State.slot_leaveTrunk]
    · intro n
      simp only [State.namePrimary_slot, State.modChannel_eq, State.slot_setChannel, State.unnamePrimary_slot,
        State.slot_leaveTrunk]
    · intro k hk
      simp only [State.channel_namePrimary, State.modChannel_eq, State.channel_setChannel, State.channel_unnamePrimary,
        State.channel_leaveTrunk] at hk
      split
      · simp_all
      · simpa [*] using hk

theorem State.setChannelCmd_upholds (s : State) (w : CmdWords) : DecisionUpholds s (s.setChannelCmd w) := by
  unfold State.setChannelCmd
  dsimp only
  split
  · exact refuse_upholds _ s
  · rename_i c _
    generalize (if w.maskBit 8 then channelKindArg (bit w.w2 0) else (s.channel c).kind) = kind
    repeat' split
    iterate 4 exact refuse_upholds _ s
    rename_i live _ free
    have lists : ListsKept s ((s.modChannel c fun y => y.writeSettings w).passMode (s.channel c).bridge
        (masked (w.maskBit 13) (headroomArg w.w2) (s.channel c).headroom)) := by
      exact .passMode (.modChannel (.refl s) fun _ => ⟨id, le_rfl⟩)
    have names : KeepsNaming s ((s.modChannel c fun y => y.writeSettings w).passMode (s.channel c).bridge
        (masked (w.maskBit 13) (headroomArg w.w2) (s.channel c).headroom)) := by
      exact .passMode (.modChannel (.refl s) fun _ => ⟨rfl, id⟩)
    have named := names.trans (State.writeMaximum_naming _ c (masked (w.maskBit 9) (maximumArg w.w2) (s.channel c).maxTalkers))
    refine .completes (fun h => ?_) fun h => ?_
    · have le3 : masked (w.maskBit 9) (maximumArg w.w2) (s.channel c).maxTalkers ≤ 3 := by
        have old := (h.2 c).2.1
        unfold masked
        split
        · cases hm : maximumArg w.w2 with
          | none => exact old
          | some n => exact maximumArg_le hm
        · exact old
      exact ListsKept.bounded (.finishAct ((lists.trans (State.writeMaximum_lists _ c _ le3)).trans (State.changeTrunk_lists _ c _))) h
    · refine (KeepsNaming.finishAct (.refl _)).match (State.changeTrunk_match _ c _ (named.match (.of_agree h)) ?_ ?_)
      · intro changed
        rw [named.trunk] at changed
        have masked10 : w.maskBit 10 = true := by
          by_contra hm
          exact changed (by simp [masked, hm])
        have unclaimed : s.trunkClaimed c (masked (w.maskBit 10) (slotArg w.w3) (s.channel c).trunk) = false := by
          simpa [masked10] using free
        revert unclaimed
        unfold State.trunkClaimed
        split
        · exact fun _ => rfl
        · unfold Slot.named
          rw [named.namer, named.altLines]
          exact id
      · exact fun e => live (named.channelLive c e)

theorem State.retireChannel_upholds (s : State) (w : CmdWords) : DecisionUpholds s (s.retireChannel w) := by
  unfold State.retireChannel
  split
  · exact refuse_upholds _ s
  · rename_i c _
    repeat' split
    iterate 2 exact refuse_upholds _ s
    generalize (List.finRange 48).filter _ = told
    have tells : ∀ (ps : List Pos) (t : State), SameRecords t
        (ps.foldl (fun t p => t.enqueueAt p ⟨.channel c, .channelState, .vacant⟩) t) := fun ps t =>
      List.foldlRecOn (motive := SameRecords t) ps _ (.refl t) fun u h p _ => h.trans (by simp; exact {})
    have down : NamesAgree s → NamesMatch (s.takeDownChannel c) := fun h => by
      refine (NamesMatch.of_agree h).channel_changed (c := c) (tr := none) (by simp [State.takeDownChannel]) ?_ ?_ ?_
        (fun n e => nomatch e) ?_
      · intro k
        simp only [State.takeDownChannel, State.modChannel_eq, State.channel_setChannel, State.channel_unnamePrimary,
          State.channel_freeOwn, State.channel_cancelTimers]
        split <;> rfl
      · intro n
        simp [State.takeDownChannel, State.unnamePrimary_slot]
      · intro n
        simp [State.takeDownChannel, State.unnamePrimary_slot]
      · intro k hk
        simp only [State.takeDownChannel, State.modChannel_eq, State.channel_setChannel, State.channel_unnamePrimary,
          State.channel_freeOwn, State.channel_cancelTimers] at hk
        split
        · rfl
        · simpa [*] using hk
    have same := tells told (s.takeDownChannel c)
    have downLists : ListsKept s (s.takeDownChannel c) := by
      unfold State.takeDownChannel
      exact .modChannel (.unnamePrimary (.freeOwn (.cancelTimers (.refl s)))) fun x =>
        ⟨fun ⟨_, b2, _, b4⟩ => ⟨Nat.zero_le _, b2, Nat.zero_le _, b4⟩, le_rfl⟩
    dsimp only
    generalize told.foldl (fun t p => t.enqueueAt p ⟨.channel c, .channelState, .vacant⟩) (s.takeDownChannel c) = t at same
    have kept : KeepsNaming (s.takeDownChannel c) t := .same same.lines same.channels same.slots same.job
    have matched (h : NamesAgree s) : NamesMatch (t.modMp fun m => { m with job := some (.retireChannel c 0) }) :=
      namesMatch_modMp (kept.match (down h))
    refine ⟨fun h => ?_, matched, fun h _ => (namesAgree_iff _).2 ⟨matched h, (fun _ _ e => nomatch e), fun k p e => ?_⟩⟩
    · exact ListsKept.bounded (.same rfl rfl) ((downLists.trans (.same same.lines same.channels)).bounded h)
    · obtain ⟨rfl, -⟩ : c = k ∧ (0 : Pos) = p := by simpa [State.modMp] using e
      exact (kept.trunk c).trans (by simp [State.takeDownChannel])

/-! ### Members and permissions -/

theorem ListsKept.finishMembers {s t before : State} {c : ChanNo} {cs : List ChanNo} (h : ListsKept s t) :
    ListsKept s (finishMembers c cs before t) := h.andSame

theorem KeepsNaming.finishMembers {s t before : State} {c : ChanNo} {cs : List ChanNo} (h : KeepsNaming s t) :
    KeepsNaming s (finishMembers c cs before t) := h.trans .same

/-- A member joins a channel that has room for it. -/
theorem State.joinMember_bounded (s t : State) (c : ChanNo) (m : Member) (h : ListsBounded s) (kept : ListsKept s t)
    (few : (s.channel c).members.length < 16) :
    ListsBounded (t.modChannel c fun y => { y with members := y.members ++ [m] }) := by
  have room := (kept.channel c).members
  obtain ⟨b1, b2, b3, -⟩ := (kept.bounded h).2 c
  refine ⟨(kept.bounded h).1, fun d => ?_⟩
  rw [State.modChannel_eq, State.channel_setChannel]
  split
  · exact ⟨b1, b2, b3, by simp; omega⟩
  · exact (kept.bounded h).2 d

theorem State.addMember_upholds (s : State) (w : CmdWords) : DecisionUpholds s (s.addMember w) := by
  unfold State.addMember
  split
  case h_2 => exact refuse_upholds _ s
  case h_1 c p u _ _ _ =>
    dsimp only
    split
    · exact refuse_upholds _ s
    split
    · exact refuse_upholds _ s
    split
    · split <;> exact refuse_upholds _ s
    split
    · exact refuse_upholds _ s
    split
    · exact refuse_upholds _ s
    rename_i few
    split
    · exact (Upholds.post (.refl s)).decision
    simp only [Config.maxMembers, not_le] at few
    refine Upholds.decision ⟨fun h => ?_, KeepsNaming.agree (.finishMembers (.modChannel (s.selectChannel_naming p u c)))⟩
    exact ListsKept.bounded (.finishMembers (.refl _))
      (State.joinMember_bounded s _ c ⟨p, u⟩ h (s.selectChannel_lists p u c) few)

theorem State.dropMember_upholds (s : State) (w : CmdWords) : DecisionUpholds s (s.dropMember w) := by
  unfold State.dropMember
  split
  case h_2 => exact refuse_upholds _ s
  case h_1 c p _ _ =>
    dsimp only
    repeat' split
    iterate 2 exact refuse_upholds _ s
    refine Upholds.decision (.kept (.finishMembers (.modChannel
      ((s.removeEntry_lists c p).trans (State.releaseUnits_lists _ p c)) fun x => ?_))
      (.finishMembers (.modChannel ((s.removeEntry_naming c p).trans (State.releaseUnits_naming _ p c)))))
    exact .shrinks le_rfl rfl le_rfl (List.length_filter_le ..)

theorem State.permit_upholds (s : State) (w : CmdWords) : DecisionUpholds s (s.permit w) := by
  unfold State.permit
  split
  case h_2 => exact refuse_upholds _ s
  case h_1 c p _ _ =>
    dsimp only
    repeat' split
    iterate 2 exact refuse_upholds _ s
    all_goals exact Upholds.decision (.kept (.finishAct (.modChannel (.refl s))) (.finishAct (.modChannel (.refl s))))

theorem State.unpermit_upholds (s : State) (w : CmdWords) : DecisionUpholds s (s.unpermit w) := by
  unfold State.unpermit
  split
  case h_2 => exact refuse_upholds _ s
  case h_1 c p _ _ =>
    dsimp only
    repeat' split
    iterate 2 exact refuse_upholds _ s
    · exact Upholds.decision (.kept (.finishAct (.modChannel (s.removeEntry_lists c p)))
        (.finishAct (.modChannel (s.removeEntry_naming c p))))
    · exact refuse_upholds _ s
    · exact Upholds.decision (.kept (.finishAct (.modChannel (s.releaseUnits_lists p c)))
        (.finishAct (.modChannel (s.releaseUnits_naming p c))))
    · exact refuse_upholds _ s

theorem State.forceUntalk_upholds (s : State) (w : CmdWords) : DecisionUpholds s (s.forceUntalk w) := by
  unfold State.forceUntalk
  repeat' split
  · exact refuse_upholds _ s
  · exact refuse_upholds _ s
  · exact Upholds.decision (.kept (.finishAct (s.removeEntry_lists _ _)) (.finishAct (s.removeEntry_naming _ _)))
  · exact refuse_upholds _ s

/-! ### Settings -/

theorem State.setLegCmd_upholds (s : State) (w : CmdWords) : DecisionUpholds s (s.setLegCmd w) := by
  unfold State.setLegCmd
  dsimp only
  repeat' split
  all_goals first
    | exact refuse_upholds _ s
    | exact (SameRecords.upholds {}).decision

theorem State.writePolarity_upholds (s : State) (sl : SlotNo) (v : Polarity) : Upholds s (s.writePolarity sl v) := by
  unfold State.writePolarity
  dsimp only
  repeat' split
  · exact .refl s
  · exact .kept (.startTimer (.cancelTimer (.modSlot (.refl s)))) (.startTimer (.cancelTimer (.modSlot (.refl s))))
  · exact .kept (.startTimer (.modSlot (.refl s))) (.startTimer (.modSlot (.refl s)))
  · exact .kept (.cancelTimer (.modSlot (.refl s))) (.cancelTimer (.modSlot (.refl s)))
  · exact .kept (.modSlot (.refl s)) (.modSlot (.refl s))

theorem State.setSlotCmd_upholds (s : State) (w : CmdWords) : DecisionUpholds s (s.setSlotCmd w) := by
  unfold State.setSlotCmd
  dsimp only
  repeat' split
  · exact refuse_upholds _ s
  · exact refuse_upholds _ s
  · exact (Upholds.trans (.kept (.modSlot (.refl s)) (.modSlot (.refl s))) (State.writePolarity_upholds _ _ _)).decision
  · exact (s.writePolarity_upholds _ _).decision

theorem State.setCadence_upholds (s : State) (w : CmdWords) : DecisionUpholds s (s.setCadence w) := by
  unfold State.setCadence
  split
  · exact refuse_upholds _ s
  · exact (SameRecords.upholds {}).decision

theorem State.disableLink_upholds (s : State) (p : Pos) : Upholds s (s.disableLink p) := by
  have down : Upholds s ((((s.teardown p).cancelTimer (.grace p)).modLink p fun x =>
      { x with state := .disabled, huntBytes := [], rawLeft := 0, rawRight := 0, rawMic := 0 })) :=
    Upholds.trans (.kept (s.teardown_lists p) (s.teardown_naming p)) (SameRecords.modLink (.cancelTimer (.refl _))).upholds
  unfold State.disableLink
  split
  · exact .refl s
  · exact down
  · exact down

theorem State.enableLink_upholds (s : State) (p : Pos) : Upholds s (s.enableLink p) := .modLink (.refl s)

theorem State.setPosition_upholds (s : State) (w : CmdWords) : DecisionUpholds s (s.setPosition w) := by
  unfold State.setPosition
  dsimp only
  split
  · exact refuse_upholds _ s
  · rename_i p _
    split
    · exact refuse_upholds _ s
    · refine Upholds.decision ?_
      have switched : Upholds s (if w.maskBit 9 then
          s.modLink p fun x => { x with switchAction := if w.w3 = 1#16 then .hold else .release } else s) := by
        split
        · exact .modLink (.refl s)
        · exact .refl s
      generalize (if w.maskBit 9 then
        s.modLink p fun x => { x with switchAction := if w.w3 = 1#16 then .hold else .release } else s) = t at switched
      repeat' split
      · exact switched.trans (t.enableLink_upholds p)
      · exact switched.trans (t.disableLink_upholds p)
      · exact switched

theorem State.setTiming_upholds (s : State) (w : CmdWords) : DecisionUpholds s (s.setTiming w) := by
  unfold State.setTiming
  split
  · exact refuse_upholds _ s
  · dsimp only
    refine (SameRecords.upholds ?_).decision
    exact ⟨rfl, rfl, rfl, rfl⟩

theorem State.clearMarks_upholds (s : State) (w : CmdWords) : DecisionUpholds s (s.clearMarks w) := by
  unfold State.clearMarks
  repeat' split
  · exact refuse_upholds _ s
  · exact (SameRecords.upholds {}).decision
  · exact refuse_upholds _ s
  · exact (Upholds.modLink (.refl s)).decision
  · exact refuse_upholds _ s
  · exact refuse_upholds _ s
  · exact Upholds.decision (.kept (.finishAct (.modLine (.refl s))) (.finishAct (.modLine (.refl s))))
  · exact refuse_upholds _ s

theorem State.startFloorReset_upholds (s : State) : DecisionUpholds s s.startFloorReset := by
  unfold State.startFloorReset
  dsimp only
  generalize hs : ({ s with links := _ } : State) = s1
  have same : SameRecords s s1 := by subst hs; exact ⟨rfl, rfl, rfl, rfl⟩
  have names : KeepsNaming s (s1.cancelTimers ((List.finRange 48).map TimerId.grace)) :=
    .cancelTimers (.same same.lines same.channels same.slots same.job)
  have lists : ListsKept s (s1.cancelTimers ((List.finRange 48).map TimerId.grace)) := .cancelTimers (.same same.lines same.channels)
  generalize s1.cancelTimers ((List.finRange 48).map TimerId.grace) = t at names lists
  exact ⟨fun h => ListsKept.bounded (.same rfl rfl) (lists.bounded h), fun h => namesMatch_modMp (names.match (.of_agree h)),
    fun h _ => (names.match (.of_agree h)).floorReset .lines⟩

/-! ### The command slot -/

theorem State.decideCommand_upholds (s : State) (code : Byte) (w : CmdWords) : DecisionUpholds s (s.decideCommand code w) := by
  unfold State.decideCommand
  split
  · exact s.createLine_upholds w
  · exact s.setLineCmd_upholds w
  · exact s.retireLine_upholds w
  · exact s.addAppearance_upholds w
  · exact s.dropAppearance_upholds w
  · exact s.forceRelease_upholds w
  · exact s.createChannel_upholds w
  · exact s.setChannelCmd_upholds w
  · exact s.retireChannel_upholds w
  · exact s.addMember_upholds w
  · exact s.dropMember_upholds w
  · exact s.permit_upholds w
  · exact s.unpermit_upholds w
  · exact s.forceUntalk_upholds w
  · exact s.setLegCmd_upholds w
  · exact s.setSlotCmd_upholds w
  · exact s.setCadence_upholds w
  · exact s.setPosition_upholds w
  · exact s.setTiming_upholds w
  · exact s.clearMarks_upholds w
  · exact s.startFloorReset_upholds
  · exact refuse_upholds _ s

/-- A command that completes leaves no command in progress. -/
theorem NamesMatch.complete {s : State} (h : NamesMatch s) (r : Result) : NamesAgree (s.complete r) :=
  NamesMatch.agree h (fun _ _ e => nomatch e) fun _ _ e => nomatch e

theorem State.go_upholds (s : State) : Upholds s s.go := by
  have started : Upholds s s.startSlot := SameRecords.upholds (t := s.startSlot) ⟨rfl, rfl, rfl, rfl⟩
  have decided := s.startSlot.decideCommand_upholds (bufferCode s.mp.buffer) (bufferWords s.mp.buffer)
  unfold State.go
  split
  · exact .post (.refl s)
  all_goals
    refine started.trans ?_
    cases e : s.startSlot.decideCommand (bufferCode s.mp.buffer) (bufferWords s.mp.buffer) with
    | mk r t =>
      rw [e] at decided
      cases r with
      | none => exact ⟨decided.lists, fun h => decided.running h rfl⟩
      | some r => exact ⟨decided.lists, fun h => (decided.names h).complete r⟩

theorem State.command_upholds (s : State) (code : Byte) (w : CmdWords) : Upholds s (s.command code w) :=
  Upholds.trans (SameRecords.upholds (t := s.loadCommand code w) ⟨rfl, rfl, rfl, rfl⟩) (s.loadCommand code w).go_upholds

end Sys2Proof.Machine
end

section
/-! The later acts of FLOOR-RESET, the sweeps, the expiries, the frames and the port keep the bounds and the agreement on namings. -/
set_option Elab.async false

namespace Sys2Proof.Machine

open Safety

/-! ### The later acts of FLOOR-RESET, the sweeps and the reset input -/

/-- A table of lines changed by a function that empties lists and keeps the slots named. -/
theorem Upholds.tabMapLines (s : State) (f : Line → Line) (hl : ∀ x, LineShrinks x (f x))
    (hn : ∀ x, (f x).primary = x.primary ∧ (f x).alternate = x.alternate ∧ ((f x).state = .vacant → x.state = .vacant)) :
    ListsKept s { s with lines := tabMap f s.lines } ∧ KeepsNaming s { s with lines := tabMap f s.lines } := by
  have line : ∀ l, ({ s with lines := tabMap f s.lines } : State).line l = f (s.line l) := fun l => by
    simp [State.line]
  refine ⟨⟨fun l => ?_, fun c => .refl _⟩, ⟨fun l => ?_, fun l => ?_, fun _ => rfl, fun _ => rfl, fun _ => rfl, fun l h => ?_,
    fun _ h => h, rfl⟩⟩
  · rw [line]; exact hl _
  · rw [line]; exact (hn _).1
  · rw [line]; exact (hn _).2.1
  · rw [line] at h; exact (hn _).2.2 h

theorem Line.resetLive_shrinks (x : Line) : LineShrinks x x.resetLive := by
  unfold Line.resetLive
  split
  · exact .refl x
  all_goals exact .emptied rfl rfl rfl

theorem Line.resetLive_names (x : Line) : x.resetLive.primary = x.primary ∧ x.resetLive.alternate = x.alternate ∧
    (x.resetLive.state = .vacant → x.state = .vacant) := by
  unfold Line.resetLive
  split
  · exact ⟨rfl, rfl, id⟩
  all_goals refine ⟨rfl, rfl, ?_⟩
  iterate 3
    · simp only
      split <;> exact nofun
  all_goals exact id

theorem State.resetLines_kept (s : State) : ListsKept s s.resetLines ∧ KeepsNaming s s.resetLines := by
  have freed : ListsKept s (s.freeBridges Bridge.lineOwned).cancelLineTimers ∧
      KeepsNaming s (s.freeBridges Bridge.lineOwned).cancelLineTimers := ⟨.same rfl rfl, .same rfl rfl rfl rfl⟩
  obtain ⟨lists, names⟩ := Upholds.tabMapLines (s.freeBridges Bridge.lineOwned).cancelLineTimers _ Line.resetLive_shrinks
    Line.resetLive_names
  exact ⟨(freed.1.trans lists).trans (.same rfl rfl), (freed.2.trans names).trans (.same rfl rfl rfl rfl)⟩

theorem State.resetChannels_kept (s : State) : ListsKept s s.resetChannels ∧ KeepsNaming s s.resetChannels := by
  have channel : ∀ c, s.resetChannels.channel c = (s.channel c).resetLive := fun c => by
    simp [State.resetChannels, State.channel, State.cancelSilenceTimers, State.freeBridges]
  have keeps : ∀ x : Channel, ChannelKeeps x x.resetLive ∧ x.resetLive.trunk = x.trunk ∧
      (x.resetLive.state = .vacant → x.state = .vacant) := fun x => by
    have none : x.talkers.length ≥ 0 := Nat.zero_le _
    unfold Channel.resetLive
    split
    · exact ⟨.shrinks (Nat.zero_le _) rfl (Nat.zero_le _) le_rfl, rfl, nofun⟩
    all_goals exact ⟨.shrinks (Nat.zero_le _) rfl (Nat.zero_le _) le_rfl, rfl, id⟩
  refine ⟨⟨fun l => .refl _, fun c => ?_⟩, ⟨fun _ => rfl, fun _ => rfl, fun c => ?_, fun _ => rfl, fun _ => rfl, fun _ h => h,
    fun c h => ?_, rfl⟩⟩
  · rw [channel]; exact (keeps _).1
  · rw [channel]; exact (keeps _).2.1
  · rw [channel] at h; exact (keeps _).2.2 h

theorem State.reclaimTrunk_kept (s : State) (c : ChanNo) : ListsKept s (s.reclaimTrunk c) ∧ KeepsNaming s (s.reclaimTrunk c) :=
  ⟨ListsKept.trans (.modChannel (.refl s)) (State.claimTrunk_lists _ c _),
    KeepsNaming.trans (.modChannel (.refl s)) (State.claimTrunk_naming _ c _)⟩

theorem State.reclaimRoute_kept (s : State) (l : LineNo) (sl : Option SlotNo) :
    ListsKept s (s.reclaimRoute l sl) ∧ KeepsNaming s (s.reclaimRoute l sl) := by
  unfold State.reclaimRoute
  repeat' split
  · exact ⟨.refl s, .refl s⟩
  · exact ⟨s.claimLine_lists l _, s.claimLine_naming l _⟩
  · exact ⟨.refl s, .refl s⟩

theorem State.resetRoutes_kept (s : State) : ListsKept s s.resetRoutes ∧ KeepsNaming s s.resetRoutes := by
  have ended : ∀ x : Line, LineShrinks x x.endRoute ∧ x.endRoute.primary = x.primary ∧ x.endRoute.alternate = x.alternate ∧
      (x.endRoute.state = .vacant → x.state = .vacant) := fun x => by
    unfold Line.endRoute
    split <;> exact ⟨⟨le_rfl, le_rfl, .refl _⟩, rfl, rfl, id⟩
  have settled : ∀ x : Line, LineShrinks x x.settleRoute ∧ x.settleRoute.primary = x.primary ∧
      x.settleRoute.alternate = x.alternate ∧ (x.settleRoute.state = .vacant → x.state = .vacant) := fun x => by
    unfold Line.settleRoute
    split
    · exact ⟨.refl x, rfl, rfl, id⟩
    · split <;> exact ⟨⟨le_rfl, le_rfl, .refl _⟩, rfl, rfl, nofun⟩
  have slots : KeepsNaming s { s with slots := tabMap Slot.endClaim s.slots } := by
    have slot : ∀ n, ({ s with slots := tabMap Slot.endClaim s.slots } : State).slot n = (s.slot n).endClaim := fun n => by
      simp [State.slot]
    refine ⟨fun _ => rfl, fun _ => rfl, fun _ => rfl, fun n => ?_, fun n => ?_, fun _ h => h, fun _ h => h, rfl⟩ <;>
      (rw [slot]; unfold Slot.endClaim; split <;> rfl)
  obtain ⟨lists1, names1⟩ := Upholds.tabMapLines { s with slots := tabMap Slot.endClaim s.slots } _ (fun x => (ended x).1)
    fun x => (ended x).2
  unfold State.resetRoutes
  dsimp only
  generalize hs : ({ s with slots := tabMap Slot.endClaim s.slots, lines := tabMap Line.endRoute s.lines } : State) = s1
  have lists2 : ListsKept s s1.restartSlotTimers := by
    have cleared : ListsKept s { s with slots := tabMap Slot.endClaim s.slots } := .same rfl rfl
    have ended : ListsKept s s1 := hs ▸ cleared.trans lists1
    exact ended.trans (.same rfl rfl)
  have names2 : KeepsNaming s s1.restartSlotTimers := by
    have ended : KeepsNaming s s1 := hs ▸ slots.trans names1
    exact ended.trans (.same rfl rfl rfl rfl)
  generalize s1.restartSlotTimers = s2 at lists2 names2
  have lists3 := lists2.trans (.foldl _ (fun t c => (t.reclaimTrunk_kept c).1) s2.channelsWithTrunk s2)
  have names3 := names2.trans (.foldl _ (fun t c => (t.reclaimTrunk_kept c).2) s2.channelsWithTrunk s2)
  generalize s2.channelsWithTrunk.foldl State.reclaimTrunk s2 = s3 at lists3 names3
  have lists4 := lists3.trans (.foldl _ (fun t l => (t.reclaimRoute_kept l (t.line l).primary).1) s3.linesWithPrimary s3)
  have names4 := names3.trans (.foldl _ (fun t l => (t.reclaimRoute_kept l (t.line l).primary).2) s3.linesWithPrimary s3)
  generalize s3.linesWithPrimary.foldl _ s3 = s4 at lists4 names4
  have lists5 := lists4.trans (.foldl _ (fun t l => (t.reclaimRoute_kept l (t.line l).alternate).1) s4.linesWithAlternate s4)
  have names5 := names4.trans (.foldl _ (fun t l => (t.reclaimRoute_kept l (t.line l).alternate).2) s4.linesWithAlternate s4)
  generalize s4.linesWithAlternate.foldl _ s4 = s5 at lists5 names5
  obtain ⟨lists6, names6⟩ := Upholds.tabMapLines s5 _ (fun x => (settled x).1) fun x => (settled x).2
  exact ⟨lists5.trans lists6, names5.trans names6⟩

theorem State.reopenGroup_kept (s : State) (c : ChanNo) : ListsKept s (s.reopenGroup c) ∧ KeepsNaming s (s.reopenGroup c) := by
  unfold State.reopenGroup
  split
  · exact ⟨.refl s, .refl s⟩
  · exact ⟨(s.openChannel_lists c _).trans (.foldl _ (fun t m => .listen (.refl t)) _ _),
      (s.openChannel_naming c _).trans (.foldl _ (fun t m => .listen (.refl t)) _ _)⟩

theorem State.resetGroups_kept (s : State) : ListsKept s s.resetGroups ∧ KeepsNaming s s.resetGroups :=
  ⟨.foldl _ (fun t c => (t.reopenGroup_kept c).1) _ _, .foldl _ (fun t c => (t.reopenGroup_kept c).2) _ _⟩

theorem State.settleBridges_same (s : State) : SameRecords s s.settleBridges := ⟨rfl, rfl, rfl, rfl⟩

/-- An act of FLOOR-RESET that is followed by another one. -/
theorem State.resetAct_upholds (s : State) (a b : ResetAct) (act : State → State)
    (h : ListsKept s (act s) ∧ KeepsNaming s (act s)) : Upholds s (s.resetAct a fun t => (act t).setJob (.floorReset b)) := by
  unfold State.resetAct
  split
  · refine Upholds.trans ⟨fun hb => ?_, fun hn => ?_⟩ (State.settleBridges_same _).upholds
    · exact (h.1.trans (.same rfl rfl)).bounded hb
    · exact (h.2.match (.of_agree hn)).floorReset b
  · exact .refl s

theorem State.fullRefresh_same (s : State) (p : Pos) : SameRecords s (s.fullRefresh p) := .modLink (.refl s)

theorem State.complete_upholds (s : State) : Upholds s (s.complete .done) :=
  ⟨fun hb => ListsKept.bounded (.same rfl rfl) hb, fun hn => (NamesMatch.of_agree hn).complete .done⟩

theorem State.completion_upholds (s : State) : Upholds s (s.resetAct .completion fun t => t.refreshAll.complete .done) := by
  have refreshed : SameRecords s s.refreshAll :=
    List.foldlRecOn (motive := SameRecords s) _ _ ⟨rfl, rfl, rfl, rfl⟩ fun t h p _ => h.trans (t.fullRefresh_same p)
  unfold State.resetAct
  split
  · refine Upholds.trans (refreshed.upholds.trans ?_) (State.settleBridges_same _).upholds
    exact s.refreshAll.complete_upholds
  · exact .refl s

/-- A record with the vacant values has empty lists. -/
theorem Line.vacant_shrinks (x : Line) : LineShrinks x Line.vacant := ⟨Nat.zero_le _, Nat.zero_le _, List.nil_sublist _⟩

/-- The end of a visit of a line's sweep: the next position, or the vacant values. -/
theorem State.endLineVisit_upholds {s t : State} {l : LineNo} {p : Pos} (job : s.mp.job = some (.retireLine l p))
    (lists : ListsKept s t) (names : KeepsNaming s t) :
    Upholds s (if h : p.val + 1 < 48 then t.setJob (.retireLine l ⟨p.val + 1, h⟩) else (t.setLine l Line.vacant).complete .done) := by
  have unnamed (h : NamesAgree s) : (t.line l).primary = none ∧ (t.line l).alternate = none :=
    ((namesAgree_iff t).1 (names.agree h)).2.1 l p (names.job.trans job)
  split
  · refine ⟨fun h => ListsKept.bounded (.same rfl rfl) (lists.bounded h), fun h => (namesAgree_iff _).2
      ⟨namesMatch_modMp (names.match (.of_agree h)), fun k q e => ?_, fun c q e => ?_⟩⟩
    · obtain ⟨rfl, -⟩ : l = k ∧ _ := by simpa [State.setJob, State.modMp] using e
      exact unnamed h
    · simp [State.setJob, State.modMp] at e
  · refine ⟨fun h => ListsKept.bounded (.same rfl rfl) ((lists.setLine (Line.vacant_shrinks _)).bounded h),
      fun h => NamesMatch.complete ?_ _⟩
    have matched := names.match (.of_agree h)
    obtain ⟨noPrimary, noAlternate⟩ := unnamed h
    refine matched.line_changed (l := l) (p := none) (a := none) ?_ ?_ (by simp) ?_ ?_ (by simp) ?_ (by simp)
    · intro k; rw [State.line_setLine]; split <;> rfl
    · intro k; rw [State.line_setLine]; split <;> rfl
    · intro n; simp [noPrimary]
    · intro n k
      rw [State.slot_setLine]
      split
      · rename_i e; rw [e, matched.1, noAlternate]
      · rfl
    · intro k hk
      rw [State.line_setLine] at hk
      split
      · exact ⟨rfl, rfl⟩
      · simpa [*] using hk

theorem State.lineVisit_upholds (s : State) : Upholds s s.lineVisit := by
  unfold State.lineVisit
  split
  case h_2 => exact .refl s
  case h_1 l p job =>
    refine State.endLineVisit_upholds job ?_ ?_ <;> split
    · exact .refl s
    · exact .setKey (.modLine (.refl s) fun x => ⟨le_rfl, le_rfl, List.filter_sublist.map _⟩)
    · exact .refl s
    · exact .setKey (.modLine (.refl s))

theorem Channel.vacant_keeps (x : Channel) : ChannelKeeps x Channel.vacant :=
  ⟨fun _ => by decide, Nat.zero_le _⟩

/-- The end of a visit of a channel's sweep. -/
theorem State.endChannelVisit_upholds {s t : State} {c : ChanNo} {p : Pos} (job : s.mp.job = some (.retireChannel c p))
    (lists : ListsKept s t) (names : KeepsNaming s t) :
    Upholds s (if h : p.val + 1 < 48 then t.setJob (.retireChannel c ⟨p.val + 1, h⟩)
      else (t.setChannel c Channel.vacant).complete .done) := by
  have unnamed (h : NamesAgree s) : (t.channel c).trunk = none :=
    ((namesAgree_iff t).1 (names.agree h)).2.2 c p (names.job.trans job)
  split
  · refine ⟨fun h => ListsKept.bounded (.same rfl rfl) (lists.bounded h), fun h => (namesAgree_iff _).2
      ⟨namesMatch_modMp (names.match (.of_agree h)), fun k q e => ?_, fun k q e => ?_⟩⟩
    · simp [State.setJob, State.modMp] at e
    · obtain ⟨rfl, -⟩ : c = k ∧ _ := by simpa [State.setJob, State.modMp] using e
      exact unnamed h
  · refine ⟨fun h => ListsKept.bounded (.same rfl rfl) ((lists.setChannel (Channel.vacant_keeps _)).bounded h),
      fun h => NamesMatch.complete ?_ _⟩
    have matched := names.match (.of_agree h)
    have noTrunk := unnamed h
    refine matched.channel_changed (c := c) (tr := none) (by simp) ?_ ?_ (by simp) (by simp) ?_
    · intro k; rw [State.channel_setChannel]; split <;> rfl
    · intro n; simp [noTrunk]
    · intro k hk
      rw [State.channel_setChannel] at hk
      split
      · rfl
      · simpa [*] using hk

theorem State.channelVisit_upholds (s : State) : Upholds s s.channelVisit := by
  unfold State.channelVisit
  split
  case h_2 => exact .refl s
  case h_1 c p job =>
    refine State.endChannelVisit_upholds job (.modChannel (.foldl _ (fun t u => .setSelection (.refl t)) _ _) fun x => ?_)
      (.modChannel (.foldl _ (fun t u => .setSelection (.refl t)) _ _))
    exact .shrinks le_rfl rfl le_rfl (List.length_filter_le ..)

theorem State.resetAll_line (s : State) (l : LineNo) : s.resetAll.line l = Line.vacant := by
  simp [State.resetAll, State.line, State.reset]

theorem State.resetAll_channel (s : State) (c : ChanNo) : s.resetAll.channel c = Channel.vacant := by
  simp [State.resetAll, State.channel, State.reset]

theorem State.resetAll_upholds (s : State) : Upholds s s.resetAll := by
  have slot : ∀ n, (s.resetAll.slot n).altLines = [] ∧ (s.resetAll.slot n).primaryNamer = none := fun n => by
    simp [State.resetAll, State.slot, Slot.initial]
  refine ⟨fun _ => ⟨fun l => ?_, fun c => ?_⟩, fun _ => NamesMatch.agree ⟨fun n l => ?_, fun n l => ?_, fun n c => ?_, fun l _ => ?_,
    fun c _ => ?_⟩ nofun nofun⟩
  · rw [State.resetAll_line]; decide
  · rw [State.resetAll_channel]; decide
  · rw [(slot n).1, State.resetAll_line]; simp [Line.vacant]
  · rw [(slot n).2, State.resetAll_line]; simp [Line.vacant]
  · rw [(slot n).2, State.resetAll_channel]; simp [Channel.vacant]
  · rw [State.resetAll_line]; exact ⟨rfl, rfl⟩
  · rw [State.resetAll_channel]; rfl

/-! ### Expiries -/

/-- An expiry taken upholds what its act does. -/
theorem State.takeExpiry_upholds (s : State) (t : TimerId) (stands : Bool) (act : State → State)
    (h : ∀ u, Upholds u (act u)) : Upholds s (s.takeExpiry t stands act) := by
  have left : ∀ e, Upholds s { s with inFlight := s.inFlight.erase e } := fun e => SameRecords.upholds ⟨rfl, rfl, rfl, rfl⟩
  unfold State.takeExpiry
  repeat' split
  · exact .refl s
  · exact (left _).trans (h _)
  · exact left _

theorem State.expire_upholds (s : State) (t : TimerId) : Upholds s (s.expire t) := by
  unfold State.expire
  split
  · exact SameRecords.upholds ⟨rfl, rfl, rfl, rfl⟩
  · exact .refl s

theorem State.ringTimedOut_upholds (s : State) (l : LineNo) : Upholds s (s.ringTimedOut l) :=
  .finishAct (.kept (s.alertToRest_lists l true) (s.alertToRest_naming l true))

theorem State.recall_upholds (s : State) (l : LineNo) : Upholds s (s.recall l) := by
  unfold State.recall
  split
  · exact .refl s
  · exact .kept (ListsKept.trans (.modLine (.refl s)) (.foldl _ (fun t a => .enqueueAt (.refl t)) _ _))
      (KeepsNaming.trans (.modLine (.refl s)) (.foldl _ (fun t a => .enqueueAt (.refl t)) _ _))

theorem State.burstOver_upholds (s : State) (l : LineNo) : Upholds s (s.burstOver l) :=
  .finishAct (.kept (.modLine (.refl s)) (.modLine (.refl s)))

theorem State.silenced_upholds (s : State) (c : ChanNo) (p : Pos) : Upholds s (s.silenced c p) :=
  .finishAct (.kept (s.removeEntry_lists c p) (s.removeEntry_naming c p))

theorem State.graceOver_upholds (s : State) (p : Pos) : Upholds s (s.graceOver p) :=
  .post (.kept (s.teardown_lists p) (s.teardown_naming p))

theorem State.deliverRing_upholds (s : State) (sl : SlotNo) : Upholds s (s.deliverRing sl) := by
  unfold State.deliverRing
  split
  · exact .finishAct (.kept (s.ringStart_lists _) (s.ringStart_naming _))
  · exact .refl s

theorem State.confirmFault_upholds (s : State) (sl : SlotNo) : Upholds s (s.confirmFault sl) := by
  unfold State.confirmFault
  dsimp only
  split
  · exact .post (.kept (.modSlot (.refl s)) (.modSlot (.refl s)))
  · exact .post (.finishAct (.kept (ListsKept.trans (.modSlot (.refl s)) (State.lineFault_lists _ _ _))
      (KeepsNaming.trans (.modSlot (.refl s)) (State.lineFault_naming _ _ _))))
  · exact .post (.finishAct (.kept (ListsKept.trans (.modSlot (.refl s)) (State.channelFault_lists _ _ _))
      (KeepsNaming.trans (.modSlot (.refl s)) (State.channelFault_naming _ _ _))))

theorem State.completeRestore_upholds (s : State) (sl : SlotNo) : Upholds s (s.completeRestore sl) :=
  .post (.finishAct (.kept (ListsKept.trans (.modSlot (.refl s)) (State.serveFreed_lists _ _))
    (KeepsNaming.trans (.modSlot (.refl s)) (State.serveFreed_naming _ _))))

/-! ### Frames, inputs and the port -/

theorem State.takeReport_upholds (s : State) (c : ChanNo) : Upholds s (s.takeReport c) := by
  unfold State.takeReport
  split
  · exact .refl s
  · refine SameRecords.upholds (List.foldlRecOn (motive := SameRecords s) _ _ ⟨rfl, rfl, rfl, rfl⟩ fun t h p _ => h.trans {})

theorem State.blockEnd_upholds (s : State) : Upholds s s.blockEnd := by
  unfold State.blockEnd
  split
  · exact SameRecords.upholds ⟨rfl, rfl, rfl, rfl⟩
  · exact .refl s

theorem State.sampleFrame_upholds (s : State) (trunk : List (SlotNo × Sample)) : Upholds s (s.sampleFrame trunk) := by
  have mixed : Upholds s.blockEnd (s.blockEnd.mixFrame trunk) := by
    unfold State.mixFrame
    dsimp only
    split
    · exact .post (SameRecords.upholds ⟨rfl, rfl, rfl, rfl⟩)
    · exact SameRecords.upholds ⟨rfl, rfl, rfl, rfl⟩
  have passed : ∀ t : State, Upholds t t.passFrame := fun t => by
    have slot : ∀ n, t.passFrame.slot n = { t.slot n with ringOut := t.drives (t.slot n) } := fun n => by
      simp [State.passFrame, State.slot]
    refine .kept (.same rfl rfl) ⟨fun _ => rfl, fun _ => rfl, fun _ => rfl, fun n => ?_, fun n => ?_, fun _ h => h, fun _ h => h, rfl⟩
    · rw [slot]
    · rw [slot]
  exact (s.blockEnd_upholds.trans mixed).trans (passed _)

theorem State.setRing_upholds (s : State) (sl : SlotNo) (high : Bool) : Upholds s (s.setRing sl high) := by
  unfold State.setRing
  dsimp only
  repeat' split
  · exact .refl s
  · exact .kept (.startTimer (.modSlot (.refl s))) (.startTimer (.modSlot (.refl s)))
  · exact .kept (.cancelTimer (.modSlot (.refl s))) (.cancelTimer (.modSlot (.refl s)))

theorem State.setAlive_upholds (s : State) (sl : SlotNo) (present : Bool) : Upholds s (s.setAlive sl present) := by
  unfold State.setAlive
  dsimp only
  repeat' split
  · exact .refl s
  · exact .kept (.startTimer (.cancelTimer (.modSlot (.refl s)))) (.startTimer (.cancelTimer (.modSlot (.refl s))))
  · exact .kept (.cancelTimer (.modSlot (.refl s))) (.cancelTimer (.modSlot (.refl s)))
  · exact .kept (.startTimer (.cancelTimer (.modSlot (.refl s)))) (.startTimer (.cancelTimer (.modSlot (.refl s))))
  · exact .kept (.cancelTimer (.modSlot (.refl s))) (.cancelTimer (.modSlot (.refl s)))

theorem State.lockLink_same (s : State) (p : Pos) : SameRecords s (s.lockLink p) := by
  unfold State.lockLink
  dsimp only
  split
  · exact .post (.cancelTimer (.modLink (.refl s)))
  · exact .post (SameRecords.trans (.cancelTimer (.modLink (.refl s))) (State.fullRefresh_same _ p))

theorem State.assemble_same (s : State) (p : Pos) (b : Byte) : SameRecords s (s.assemble p b) := by
  have completes : ∀ r, SameRecords s (s.completeRequest p r) := fun r => by
    unfold State.completeRequest
    split
    · exact .modLink (.refl s)
    · exact .post (.modLink (.refl s))
  have loses : SameRecords s (s.loseMessage p) := by
    unfold State.loseMessage
    dsimp only
    split
    · exact .modLink (.refl s)
    · exact .post (.modLink (.refl s))
  unfold State.assemble
  repeat' split
  · exact .refl s
  · exact .modLink (.refl s)
  · exact completes _
  · exact .modLink (.refl s)
  · exact loses
  · exact completes _
  · exact .modLink (.refl s)

theorem State.takeBad_same (s : State) (p : Pos) : SameRecords s (s.takeBad p) := by
  have loses : ∀ t : State, SameRecords t (t.loseLock p) := fun t => .post (.startTimer (.modLink (.refl t)))
  unfold State.takeBad
  dsimp only
  repeat' split
  · exact SameRecords.trans (.post (.modLink (.refl s))) (loses _)
  · exact SameRecords.trans (.modLink (.refl s)) (loses _)
  · exact .post (.modLink (.refl s))
  · exact .modLink (.refl s)

theorem State.upstream_upholds (s : State) (p : Pos) (bytes : List Byte) : Upholds s (s.upstream p bytes) := by
  refine SameRecords.upholds ?_
  unfold State.upstream
  repeat' split
  · exact .refl s
  · unfold State.takeHunt
    dsimp only
    split
    · exact SameRecords.trans (.modLink (.refl s)) (State.lockLink_same _ p)
    · exact .modLink (.refl s)
  · exact SameRecords.trans (.modLink (.refl s)) (State.assemble_same _ p _)
  · exact s.takeBad_same p

theorem State.sendFrame_upholds (s : State) (p : Pos) : Upholds s (s.sendFrame p) := by
  unfold State.sendFrame
  split
  · exact .modLink (.refl s)
  all_goals exact SameRecords.upholds {}

theorem State.crossRecord_upholds (s : State) (words : Nat) : Upholds s (s.crossRecord words) := by
  unfold State.crossRecord
  repeat' split
  · exact .refl s
  · exact .refl s
  · exact SameRecords.upholds ⟨rfl, rfl, rfl, rfl⟩

theorem State.quietPort_upholds (s : State) : Upholds s s.quietPort := SameRecords.upholds (t := s.quietPort) ⟨rfl, rfl, rfl, rfl⟩

theorem State.controlWrite_upholds (s : State) (offset : Nat) (d : Word) : Upholds s (s.controlWrite offset d) := by
  have clears : Upholds s (s.quietPort.clearFlags d) :=
    s.quietPort_upholds.trans (SameRecords.upholds (t := s.quietPort.clearFlags d) ⟨rfl, rfl, rfl, rfl⟩)
  have enables : Upholds s (s.quietPort.writeEnables d) :=
    s.quietPort_upholds.trans (SameRecords.upholds (t := s.quietPort.writeEnables d) ⟨rfl, rfl, rfl, rfl⟩)
  have stores : ∀ i, Upholds s (s.quietPort.storeBuffer i d) := fun i =>
    s.quietPort_upholds.trans (SameRecords.upholds (t := s.quietPort.storeBuffer i d) ⟨rfl, rfl, rfl, rfl⟩)
  unfold State.controlWrite
  repeat' split
  · exact clears
  · exact enables
  · exact s.quietPort_upholds.trans (State.go_upholds _)
  · exact s.quietPort_upholds
  · exact stores _
  · exact s.quietPort_upholds
  · exact s.quietPort_upholds

/-! ### The rows of the table -/

/-- What a row answers upholds the bounds and the agreement. -/
abbrev ExecUpholds (s : State) (o : Host.Outcome State Fault Refusal) : Prop := ∃ u, o = .next u ∧ Upholds s u

theorem exec_upholds (i : Instr) (s : State) : ExecUpholds s (exec i s) := by
  cases i with
  | seize p f | retrieve p f | release p f | hold p f | privacy p f | signal p f | acknowledge p f | queryLine p f
  | queryChannel p f | speakerLine p f | speakerChannel p f | speakerClear p f | talkOn p f | talkOff p f
  | unknownRequest p code f => exact ⟨_, rfl, s.serveRequest_upholds p _⟩
  | createLine w | setLine w | retireLine w | addAppearance w | dropAppearance w | forceRelease w | createChannel w
  | setChannel w | retireChannel w | addMember w | dropMember w | permit w | unpermit w | forceUntalk w | setLeg w | setSlot w
  | setCadence w | setPosition w | setTiming w | clearMarks w | floorReset w | unknownCommand code w =>
    exact ⟨_, rfl, s.command_upholds _ w⟩
  | cmdOverrun => exact ⟨_, rfl, s.quietPort_upholds.trans (State.go_upholds _)⟩
  | floorResetLines => exact ⟨_, rfl, s.resetAct_upholds .lines .channels _ s.resetLines_kept⟩
  | floorResetChannels => exact ⟨_, rfl, s.resetAct_upholds .channels .routes _ s.resetChannels_kept⟩
  | floorResetRoutes => exact ⟨_, rfl, s.resetAct_upholds .routes .groups _ s.resetRoutes_kept⟩
  | floorResetGroups => exact ⟨_, rfl, s.resetAct_upholds .groups .completion _ s.resetGroups_kept⟩
  | floorResetCompletion => exact ⟨_, rfl, s.completion_upholds⟩
  | lineSweepVisit => exact ⟨_, rfl, s.lineVisit_upholds⟩
  | channelSweepVisit => exact ⟨_, rfl, s.channelVisit_upholds⟩
  | deadlineExpiry t => exact ⟨_, rfl, s.expire_upholds t⟩
  | ringTimeoutExpiry l => exact ⟨_, rfl, s.takeExpiry_upholds _ _ _ fun t => t.ringTimedOut_upholds l⟩
  | holdRecallExpiry l => exact ⟨_, rfl, s.takeExpiry_upholds _ _ _ fun t => t.recall_upholds l⟩
  | burstExpiry l => exact ⟨_, rfl, s.takeExpiry_upholds _ _ _ fun t => t.burstOver_upholds l⟩
  | silenceExpiry c p => exact ⟨_, rfl, s.takeExpiry_upholds _ _ _ fun t => t.silenced_upholds c p⟩
  | graceExpiry p => exact ⟨_, rfl, s.takeExpiry_upholds _ _ _ fun t => t.graceOver_upholds p⟩
  | qualifyExpiry sl => exact ⟨_, rfl, s.takeExpiry_upholds _ _ _ fun t => t.deliverRing_upholds sl⟩
  | faultConfirmExpiry sl => exact ⟨_, rfl, s.takeExpiry_upholds _ _ _ fun t => t.confirmFault_upholds sl⟩
  | restoreExpiry sl => exact ⟨_, rfl, s.takeExpiry_upholds _ _ _ fun t => t.completeRestore_upholds sl⟩
  | cadencePhaseEnd g => exact ⟨_, rfl, SameRecords.upholds {}⟩
  | mixBlockEnd => exact ⟨_, rfl, s.blockEnd_upholds⟩
  | activityReport c => exact ⟨_, rfl, s.takeReport_upholds c⟩
  | sampleFrame trunk => exact ⟨_, rfl, s.sampleFrame_upholds trunk⟩
  | huntFrame p bytes | goodFrame p bytes | badFrame p bytes => exact ⟨_, rfl, s.upstream_upholds p bytes⟩
  | downstreamFrame p => exact ⟨_, rfl, s.sendFrame_upholds p⟩
  | ringDetectChange sl high => exact ⟨_, rfl, s.setRing_upholds sl high⟩
  | aliveChange sl present => exact ⟨_, rfl, s.setAlive_upholds sl present⟩
  | resetInput => exact ⟨_, rfl, s.resetAll_upholds⟩
  | recordRead w0 w1 w2 words waited =>
    exact ⟨_, rfl, SameRecords.upholds (t := s.readPort w0 w1 w2 words waited) ⟨rfl, rfl, rfl, rfl⟩⟩
  | linearCrossing words => exact ⟨_, rfl, s.crossRecord_upholds words⟩
  | eventFlagsClear d => exact ⟨_, rfl, s.controlWrite_upholds 6 d⟩
  | eventEnablesWrite d => exact ⟨_, rfl, s.controlWrite_upholds 7 d⟩
  | commandBufferWrite n d => exact ⟨_, rfl, s.controlWrite_upholds (8 + n.val) d⟩
  | ignoredWrite w0 w1 w2 d =>
    refine ⟨_, rfl, ?_⟩
    split
    · exact s.controlWrite_upholds _ d
    · exact s.quietPort_upholds

/-- A step upholds the bounds of the lists and the agreement on namings. -/
theorem step_upholds {s u : State} (h : step s = .next u) : Upholds s u := by
  unfold step at h
  split at h
  · cases h; exact .refl s
  · rename_i i rest _
    obtain ⟨t, ht, upholds⟩ := exec_upholds i { s with pending := rest }
    cases ht.symm.trans h
    exact Upholds.trans (SameRecords.upholds (t := { s with pending := rest }) ⟨rfl, rfl, rfl, rfl⟩) upholds

end Sys2Proof.Machine

namespace Sys2Proof.Proofs

open Machine

/-- Settles O5: each row of the table upholds the bounds and the agreement (`exec_upholds`). -/
theorem stepKeepsListBounds : Obligations.StepKeepsListBounds :=
  ⟨fun _ _ h e => (step_upholds e).lists h, fun _ _ h e => (step_upholds e).names h⟩

end Sys2Proof.Proofs
end

section
/-! What the later acts of FLOOR-RESET and the visits of the retire sweeps do to each part of the state. -/

set_option Elab.async false

namespace Sys2Proof.Machine

open Safety

/-- Two states are equal where each of their parts is. -/
theorem State.eq_of_fields {s t : State} (lines : s.lines = t.lines := by simp)
    (directories : s.directories = t.directories := by simp) (channels : s.channels = t.channels := by simp)
    (selections : s.selections = t.selections := by simp) (bridges : s.bridges = t.bridges := by simp)
    (legs : s.legs = t.legs := by simp) (slots : s.slots = t.slots := by simp)
    (generators : s.generators = t.generators := by simp) (timers : s.timers = t.timers := by simp)
    (inFlight : s.inFlight = t.inFlight := by simp) (reports : s.reports = t.reports := by simp)
    (links : s.links = t.links := by simp) (pointer : s.pointer = t.pointer := by simp)
    (frameCount : s.frameCount = t.frameCount := by simp) (mp : s.mp = t.mp := by simp)
    (pending : s.pending = t.pending := by simp) : s = t := by
  cases s; cases t; simp_all

/-! ### Bridges at the end of an act (R116) -/

@[simp] theorem Bridge.settle_free : Bridge.free.settle = Bridge.free := rfl

theorem State.bridge_settleBridges (s : State) (b : BridgeNo) : s.settleBridges.bridge b = (s.bridge b).settle := by
  simp [State.settleBridges, State.bridge]

/-- A cancelled timer does not run, provided a stopped one does not. -/
@[simp] theorem Timer.cancel_running (t : Timer) (b : Bool) : (t.cancel b).running = false := by
  unfold Timer.cancel
  split
  · rfl
  · simp_all

/-! ### Act 2 of FLOOR-RESET (R23, R48, R106, R154) -/

theorem State.line_resetLines (s : State) (l : LineNo) : s.resetLines.line l = (s.line l).resetLive := by
  simp [State.resetLines, State.line, State.cancelLineTimers, State.freeBridges]

theorem State.bridge_resetLines (s : State) (b : BridgeNo) :
    s.resetLines.bridge b = if (s.bridge b).lineOwned then Bridge.free else s.bridge b := by
  simp only [State.resetLines, State.bridge, State.cancelLineTimers, State.freeBridges, Fin.getElem_fin, getElem_tabMap]
  rfl

theorem State.leg_resetLines (s : State) (g : LegNo) : s.resetLines.leg g = s.detached Bridge.lineOwned (s.leg g) := by
  simp [State.resetLines, State.leg, State.cancelLineTimers, State.freeBridges]

theorem State.selection_resetLines (s : State) (p : Pos) (n : UnitNo) :
    s.resetLines.selection p n = (s.selection p n).dropLine := by
  simp [State.resetLines, State.selection, State.cancelLineTimers, State.freeBridges]

theorem State.generator_resetLines (s : State) (n : GenNo) : s.resetLines.generator n = (s.generator n).reset := by
  simp [State.resetLines, State.generator, State.cancelLineTimers, State.freeBridges]

/-- A timer of a line. -/
def isLineTimer : TimerId → Bool
  | .ringTimeout _ | .holdRecall _ | .burst _ => true
  | _ => false

theorem State.timer_resetLines (s : State) (t : TimerId) :
    s.resetLines.timer t = if isLineTimer t then (s.timer t).cancel (s.expiryInFlight t) else s.timer t := by
  cases t <;> simp [State.resetLines, State.timer, State.cancelLineTimers, State.freeBridges, isLineTimer, State.expiryInFlight]

theorem State.resetLines_stops (s : State) (t : TimerId) (h : isLineTimer t = true) :
    (s.resetLines.timer t).running = false := by
  rw [State.timer_resetLines, if_pos h, Timer.cancel_running]

theorem Bridge.lineOwned_iff (b : Bridge) : b.lineOwned = true ↔ ∃ l, b.owner = some (.line l) := by
  unfold Bridge.lineOwned
  split <;> simp_all

/-- No leg stays attached to a bridge that is freed. -/
theorem State.detached_attach (s : State) (gone : Bridge → Bool) (x : Leg) (b : BridgeNo) (h : gone (s.bridge b) = true) :
    (s.detached gone x).attach ≠ some b := by
  unfold State.detached
  split
  · simp_all
  · split
    · simp
    · intro e; simp_all

/-- A line that gives up its live state, written on the record. -/
theorem Line.resetLive_eq (x : Line) (h : x.state ≠ .vacant) :
    x.resetLive =
      { x with
        state :=
          if x.state = .alerting ∨ x.state = .connected ∨ x.state = .held then
            (if x.route = .none then .lockout else .idle)
          else x.state
        currentPrivacy := x.defaultPrivacy, occupants := [], monitors := [], holdOwner := none
        refGen := none, bridge := none, marks := ⟨false, false, false, false, false⟩ } := by
  unfold Line.resetLive
  split <;> simp_all [Marks.clear]

/-! ### A visit of a line's sweep (R21, R22) -/

/-- The line and the key of a position once the line's appearance there is taken out. -/
def State.leaveKey (s : State) (l : LineNo) (p : Pos) : State :=
  match (s.line l).appearanceAt p with
  | none => s
  | some a => (s.modLine l fun x => { x with appearances := x.appearances.filter fun y => y.pos != p }).setKey p a.key none

/-- A line that does not appear at a position has no entry to take out. -/
theorem Line.appearances_of_absent (x : Line) (p : Pos) (h : x.appearanceAt p = none) :
    (x.appearances.filter fun y => y.pos != p) = x.appearances := by
  refine List.filter_eq_self.2 fun a ha => ?_
  have := List.find?_eq_none.1 h a ha
  simp_all

theorem State.line_leaveKey (s : State) (l : LineNo) (p : Pos) (l' : LineNo) :
    (s.leaveKey l p).line l' =
      if l' = l then { s.line l with appearances := (s.line l).appearances.filter fun y => y.pos != p } else s.line l' := by
  unfold State.leaveKey
  split
  · rename_i h
    rw [Line.appearances_of_absent _ _ h]
    split <;> simp_all
  · simp [State.line_setLine]

theorem State.keyLine_leaveKey (s : State) (l : LineNo) (p q : Pos) (k : Key) :
    (s.leaveKey l p).keyLine q k =
      if q = p ∧ ((s.line l).appearanceAt p).map Appearance.key = some k then none else s.keyLine q k := by
  unfold State.leaveKey
  split
  · rename_i h; simp [h]
  · rename_i a h
    simp [h, State.keyLine_setKey, eq_comm]

/-- Nothing but the line and the directory has changed. -/
theorem State.leaveKey_frame (s : State) (l : LineNo) (p : Pos) :
    s.leaveKey l p = { s with lines := (s.leaveKey l p).lines, directories := (s.leaveKey l p).directories } := by
  unfold State.leaveKey
  split
  · rfl
  · exact State.eq_of_fields

/-- A visit of a line's sweep before the last position. -/
theorem State.lineVisit_before {s : State} {l : LineNo} {p : Pos} (job : s.mp.job = some (.retireLine l p)) (h : p.val + 1 < 48) :
    s.lineVisit = (s.leaveKey l p).setJob (.retireLine l ⟨p.val + 1, h⟩) := by
  unfold State.lineVisit
  rw [job]
  simp only [h, dif_pos]
  rfl

/-- The last visit of a line's sweep. -/
theorem State.lineVisit_last {s : State} {l : LineNo} {p : Pos} (job : s.mp.job = some (.retireLine l p)) (h : ¬p.val + 1 < 48) :
    s.lineVisit = ((s.leaveKey l p).setLine l Line.vacant).complete .done := by
  unfold State.lineVisit
  rw [job]
  simp only [h, dif_neg, not_false_eq_true]
  rfl

/-! ### A visit of a channel's sweep (R71) -/

/-- A channel's sets and a position's selections of it, once the position is taken out. -/
def State.leaveSets (s : State) (c : ChanNo) (p : Pos) : State :=
  (((List.finRange 8).filter fun u => s.selects p u c).foldl (fun t u => t.setSelection p u .none) s).modChannel c fun x =>
    { x with
      listen := x.listen.filter fun q => q != p, talk := x.talk.filter fun q => q != p
      members := x.members.filter fun m => m.pos != p }

/-- Selections of units of one position set to NONE. -/
theorem State.selection_cleared (us : List UnitNo) (s : State) (p q : Pos) (n : UnitNo) :
    (us.foldl (fun t u => t.setSelection p u .none) s).selection q n =
      if q = p ∧ n ∈ us then .none else s.selection q n := by
  induction us generalizing s with
  | nil => simp
  | cons u rest ih =>
    rw [List.foldl_cons, ih, State.selection_setSelection]
    by_cases hq : q = p <;> by_cases hr : n ∈ rest <;> by_cases hu : n = u <;> simp [hq, hr, hu]

/-- Selections set to NONE change nothing else. -/
theorem State.cleared_frame (us : List UnitNo) (s : State) (p : Pos) :
    us.foldl (fun t u => t.setSelection p u .none) s =
      { s with selections := (us.foldl (fun t u => t.setSelection p u .none) s).selections } := by
  induction us generalizing s with
  | nil => rfl
  | cons u rest ih => rw [List.foldl_cons, ih]; exact State.eq_of_fields

theorem State.selection_leaveSets (s : State) (c : ChanNo) (p q : Pos) (n : UnitNo) :
    (s.leaveSets c p).selection q n = if q = p ∧ s.selection p n = .channel c then .none else s.selection q n := by
  simp [State.leaveSets, State.selection_cleared, State.selects]

theorem State.channel_leaveSets (s : State) (c : ChanNo) (p : Pos) (d : ChanNo) :
    (s.leaveSets c p).channel d =
      if d = c then
        { s.channel c with
          listen := (s.channel c).listen.filter fun q => q != p, talk := (s.channel c).talk.filter fun q => q != p
          members := (s.channel c).members.filter fun m => m.pos != p }
      else s.channel d := by
  have same : ∀ (k : ChanNo) (us : List UnitNo), (us.foldl (fun t u => State.setSelection t p u .none) s).channel k = s.channel k := fun k us =>
    foldl_keeps (fun t : State => t.channel k) (fun t u => t.setSelection p u .none) (fun _ _ => rfl) us s
  simp [State.leaveSets, State.channel_setChannel, same]

theorem State.leaveSets_frame (s : State) (c : ChanNo) (p : Pos) :
    s.leaveSets c p = { s with channels := (s.leaveSets c p).channels, selections := (s.leaveSets c p).selections } := by
  unfold State.leaveSets
  rw [State.cleared_frame]
  exact State.eq_of_fields

theorem State.channelVisit_before {s : State} {c : ChanNo} {p : Pos} (job : s.mp.job = some (.retireChannel c p))
    (h : p.val + 1 < 48) : s.channelVisit = (s.leaveSets c p).setJob (.retireChannel c ⟨p.val + 1, h⟩) := by
  unfold State.channelVisit
  rw [job]
  simp only [h, dif_pos]
  rfl

theorem State.channelVisit_last {s : State} {c : ChanNo} {p : Pos} (job : s.mp.job = some (.retireChannel c p))
    (h : ¬p.val + 1 < 48) : s.channelVisit = ((s.leaveSets c p).setChannel c Channel.vacant).complete .done := by
  unfold State.channelVisit
  rw [job]
  simp only [h, dif_neg, not_false_eq_true]
  rfl

end Sys2Proof.Machine

namespace Sys2Proof.Proofs

open Machine Safety

/-- Settles O38: each part of the state after the act, read through the act's own table functions. -/
theorem floorResetClearsLines : Obligations.FloorResetClearsLines := by
  intro s job
  have act : s.resetAct .lines (fun t => t.resetLines.setJob (.floorReset .channels)) =
      (s.resetLines.setJob (.floorReset .channels)).settleBridges := if_pos job
  have bridge : ∀ b, (s.resetLines.setJob (.floorReset .channels)).settleBridges.bridge b =
      (if (s.bridge b).lineOwned then Bridge.free else s.bridge b).settle := fun b => by
    rw [State.bridge_settleBridges, ← State.bridge_resetLines]; rfl
  refine ⟨_, congrArg Host.Outcome.next act, rfl, fun l h => ?_, fun l h => ?_, fun l => ?_, fun t h => ?_, fun b l h => ?_,
    fun b h => ?_, fun q m => ?_, fun n => ?_, rfl, rfl⟩
  · exact (s.line_resetLines l).trans (by simp [Line.resetLive, h])
  · exact (s.line_resetLines l).trans (Line.resetLive_eq _ h)
  · exact ⟨s.resetLines_stops (.ringTimeout l) rfl, s.resetLines_stops (.holdRecall l) rfl, s.resetLines_stops (.burst l) rfl⟩
  · exact (s.timer_resetLines t).trans (by cases t <;> simp_all [isLineTimer])
  · have owned := (Bridge.lineOwned_iff _).2 ⟨l, h⟩
    refine ⟨by rw [bridge, if_pos owned, Bridge.settle_free], fun g => ?_⟩
    exact (s.leg_resetLines g).symm ▸ s.detached_attach Bridge.lineOwned (s.leg g) b owned
  · have free : ¬(s.bridge b).lineOwned = true := fun e => let ⟨l, hl⟩ := (Bridge.lineOwned_iff _).1 e; h l hl
    rw [bridge, if_neg free]
  · exact s.selection_resetLines q m
  · exact s.generator_resetLines n

/-- Settles O43: a visit takes the position out (`State.leaveKey`, `State.leaveSets`) and goes on to the next, or completes. -/
theorem sweepVisitsPositions : Obligations.SweepVisitsPositions := by
  refine ⟨fun s l p job => ?_, fun s c p job => ?_⟩
  · by_cases h : p.val + 1 < 48
    · refine ⟨_, congrArg Host.Outcome.next (State.lineVisit_before job h), s.keyLine_leaveKey l p,
        fun _ => ⟨?_, ⟨p.val + 1, h⟩, rfl, ?_⟩, fun _ => by omega, fun l' hl => ?_, ?_⟩
      · exact (s.line_leaveKey l p l).trans (if_pos rfl)
      · rw [s.leaveKey_frame]; rfl
      · exact (s.line_leaveKey l p l').trans (if_neg hl)
      · rw [s.leaveKey_frame]; rfl
    · refine ⟨_, congrArg Host.Outcome.next (State.lineVisit_last job h), s.keyLine_leaveKey l p, fun _ => by omega,
        fun _ => ⟨State.line_setLine_self _ l _, ?_⟩, fun l' hl => ?_, ?_⟩
      · rw [s.leaveKey_frame]; rfl
      · exact (State.line_setLine_ne _ _ hl).trans ((s.line_leaveKey l p l').trans (if_neg hl))
      · rw [s.leaveKey_frame]; rfl
  · by_cases h : p.val + 1 < 48
    · refine ⟨_, congrArg Host.Outcome.next (State.channelVisit_before job h), s.selection_leaveSets c p,
        fun _ => ⟨?_, ⟨p.val + 1, h⟩, rfl, ?_⟩, fun _ => by omega, fun d hd => ?_, ?_⟩
      · exact (s.channel_leaveSets c p c).trans (if_pos rfl)
      · rw [s.leaveSets_frame]; rfl
      · exact (s.channel_leaveSets c p d).trans (if_neg hd)
      · rw [s.leaveSets_frame]; rfl
    · refine ⟨_, congrArg Host.Outcome.next (State.channelVisit_last job h), s.selection_leaveSets c p, fun _ => by omega,
        fun _ => ⟨State.channel_setChannel_self _ c _, ?_⟩, fun d hd => ?_, ?_⟩
      · rw [s.leaveSets_frame]; rfl
      · exact (State.channel_setChannel_ne _ _ hd).trans ((s.channel_leaveSets c p d).trans (if_neg hd))
      · rw [s.leaveSets_frame]; rfl

end Sys2Proof.Proofs
end

section
/-! Commands that complete in one act: the state they are decided on, what their indications read, and CLEAR-MARKS. -/

set_option Elab.async false

namespace Sys2Proof.Machine

open Safety Laws

/-! ### What indications read of a state -/

/-- Two states show the positions the same: their lines, channels and selections are the same. -/
structure SameShown (s t : State) : Prop where
  lines : t.lines = s.lines := by simp
  channels : t.channels = s.channels := by simp
  selections : t.selections = s.selections := by simp

theorem SameShown.line {s t : State} (h : SameShown s t) (l : LineNo) : t.line l = s.line l := by
  simp only [State.line, h.lines]

theorem SameShown.channel {s t : State} (h : SameShown s t) (c : ChanNo) : t.channel c = s.channel c := by
  simp only [State.channel, h.channels]

theorem SameShown.selection {s t : State} (h : SameShown s t) (p : Pos) (n : UnitNo) : t.selection p n = s.selection p n := by
  simp only [State.selection, h.selections]

theorem SameShown.qualifies {s t : State} (h : SameShown s t) (c : ChanNo) (q : Pos) : t.qualifies c q = s.qualifies c q := by
  simp only [State.qualifies, State.anySelects, State.selects, h.channel, h.selection]

theorem SameShown.positionView {s t : State} (h : SameShown s t) (c : ChanNo) (q : Pos) :
    t.positionView c q = s.positionView c q := by
  simp only [State.positionView, State.selects, h.channel, h.selection]

/-- The indications of an act depend on what its two ends show, and on the link before it. -/
theorem told_congr {s s' t t' : State} {q : Pos} (hs : SameShown s s') (ht : SameShown t t') (hq : s'.link q = s.link q)
    (own : Option Pos) (cs : List ChanNo) : told own cs s' t' q = told own cs s t q := by
  have lines : toldLines s' t' q = toldLines s t q := by
    have one : toldLine t' q = toldLine t q := by
      funext x l; simp only [toldLine, ht.line]
    simp only [toldLines, hs.line, ht.line, hq, one]
  have channels : toldChannel own false s' t' q = toldChannel own false s t q := by
    funext x c
    simp only [toldChannel, hs.channel, ht.channel, hs.qualifies, ht.qualifies, hs.positionView, ht.positionView,
      State.channelContent]
  rw [told, told, lines, channels]

/-! ### The state on which a command is decided -/

@[simp] theorem loaded_lines (s : State) (k : Byte) (w : CmdWords) : (loaded s k w).lines = s.lines := rfl
@[simp] theorem loaded_directories (s : State) (k : Byte) (w : CmdWords) : (loaded s k w).directories = s.directories := rfl
@[simp] theorem loaded_channels (s : State) (k : Byte) (w : CmdWords) : (loaded s k w).channels = s.channels := rfl
@[simp] theorem loaded_selections (s : State) (k : Byte) (w : CmdWords) : (loaded s k w).selections = s.selections := rfl
@[simp] theorem loaded_bridges (s : State) (k : Byte) (w : CmdWords) : (loaded s k w).bridges = s.bridges := rfl
@[simp] theorem loaded_legs (s : State) (k : Byte) (w : CmdWords) : (loaded s k w).legs = s.legs := rfl
@[simp] theorem loaded_slots (s : State) (k : Byte) (w : CmdWords) : (loaded s k w).slots = s.slots := rfl
@[simp] theorem loaded_generators (s : State) (k : Byte) (w : CmdWords) : (loaded s k w).generators = s.generators := rfl
@[simp] theorem loaded_timers (s : State) (k : Byte) (w : CmdWords) : (loaded s k w).timers = s.timers := rfl
@[simp] theorem loaded_inFlight (s : State) (k : Byte) (w : CmdWords) : (loaded s k w).inFlight = s.inFlight := rfl
@[simp] theorem loaded_reports (s : State) (k : Byte) (w : CmdWords) : (loaded s k w).reports = s.reports := rfl
@[simp] theorem loaded_links (s : State) (k : Byte) (w : CmdWords) : (loaded s k w).links = s.links := rfl
@[simp] theorem loaded_pointer (s : State) (k : Byte) (w : CmdWords) : (loaded s k w).pointer = s.pointer := rfl
@[simp] theorem loaded_frameCount (s : State) (k : Byte) (w : CmdWords) : (loaded s k w).frameCount = s.frameCount := rfl
@[simp] theorem loaded_pending (s : State) (k : Byte) (w : CmdWords) : (loaded s k w).pending = s.pending := rfl
@[simp] theorem loaded_line (s : State) (k : Byte) (w : CmdWords) (l : LineNo) : (loaded s k w).line l = s.line l := rfl
@[simp] theorem loaded_channel (s : State) (k : Byte) (w : CmdWords) (c : ChanNo) : (loaded s k w).channel c = s.channel c := rfl
@[simp] theorem loaded_bridge (s : State) (k : Byte) (w : CmdWords) (b : BridgeNo) : (loaded s k w).bridge b = s.bridge b := rfl
@[simp] theorem loaded_leg (s : State) (k : Byte) (w : CmdWords) (g : LegNo) : (loaded s k w).leg g = s.leg g := rfl
@[simp] theorem loaded_slot (s : State) (k : Byte) (w : CmdWords) (n : SlotNo) : (loaded s k w).slot n = s.slot n := rfl
@[simp] theorem loaded_generator (s : State) (k : Byte) (w : CmdWords) (n : GenNo) :
    (loaded s k w).generator n = s.generator n := rfl
@[simp] theorem loaded_timer (s : State) (k : Byte) (w : CmdWords) (t : TimerId) : (loaded s k w).timer t = s.timer t := rfl
@[simp] theorem loaded_link (s : State) (k : Byte) (w : CmdWords) (p : Pos) : (loaded s k w).link p = s.link p := rfl
@[simp] theorem loaded_keyLine (s : State) (k : Byte) (w : CmdWords) (p : Pos) (n : Key) :
    (loaded s k w).keyLine p n = s.keyLine p n := rfl
@[simp] theorem loaded_selection (s : State) (k : Byte) (w : CmdWords) (p : Pos) (n : UnitNo) :
    (loaded s k w).selection p n = s.selection p n := rfl

/-! ### A command that completes in its act -/

/-- The state after a command whose owner has led to `t` and completed it with result `r`. -/
def completed (s : State) (code : Byte) (w : CmdWords) (cs : List ChanNo) (t : State) (r : Result) : State :=
  (finishAct none cs (loaded s code w) t).complete r

section
variable (s : State) (k : Byte) (w : CmdWords) (cs : List ChanNo) (t : State) (r : Result)

@[simp] theorem completed_lines : (completed s k w cs t r).lines = t.lines := by simp [completed, State.complete]
@[simp] theorem completed_directories : (completed s k w cs t r).directories = t.directories := by simp [completed, State.complete]
@[simp] theorem completed_channels : (completed s k w cs t r).channels = t.channels := by simp [completed, State.complete]
@[simp] theorem completed_selections : (completed s k w cs t r).selections = t.selections := by simp [completed, State.complete]
@[simp] theorem completed_legs : (completed s k w cs t r).legs = t.legs := by simp [completed, State.complete]
@[simp] theorem completed_slots : (completed s k w cs t r).slots = t.slots := by simp [completed, State.complete]
@[simp] theorem completed_generators : (completed s k w cs t r).generators = t.generators := by simp [completed, State.complete]
@[simp] theorem completed_timers : (completed s k w cs t r).timers = t.timers := by simp [completed, State.complete]
@[simp] theorem completed_inFlight : (completed s k w cs t r).inFlight = t.inFlight := by simp [completed, State.complete]
@[simp] theorem completed_reports : (completed s k w cs t r).reports = t.reports := by simp [completed, State.complete]
@[simp] theorem completed_pointer : (completed s k w cs t r).pointer = t.pointer := by simp [completed, State.complete]
@[simp] theorem completed_frameCount : (completed s k w cs t r).frameCount = t.frameCount := by simp [completed, State.complete]
@[simp] theorem completed_pending : (completed s k w cs t r).pending = t.pending := by simp [completed, State.complete]
@[simp] theorem completed_bridges : (completed s k w cs t r).bridges = tabMap Bridge.settle t.bridges := by
  simp [completed, State.complete, finishAct_bridges]
@[simp] theorem completed_line (l : LineNo) : (completed s k w cs t r).line l = t.line l := by
  simp only [State.line, completed_lines]
@[simp] theorem completed_channel (c : ChanNo) : (completed s k w cs t r).channel c = t.channel c := by
  simp only [State.channel, completed_channels]
@[simp] theorem completed_leg (g : LegNo) : (completed s k w cs t r).leg g = t.leg g := by
  simp only [State.leg, completed_legs]
@[simp] theorem completed_slot (n : SlotNo) : (completed s k w cs t r).slot n = t.slot n := by
  simp only [State.slot, completed_slots]
@[simp] theorem completed_generator (n : GenNo) : (completed s k w cs t r).generator n = t.generator n := by
  simp only [State.generator, completed_generators]
@[simp] theorem completed_timer (id : TimerId) : (completed s k w cs t r).timer id = t.timer id := by
  simp only [State.timer, completed_timers]
@[simp] theorem completed_keyLine (p : Pos) (n : Key) : (completed s k w cs t r).keyLine p n = t.keyLine p n := by
  simp only [State.keyLine, completed_directories]
@[simp] theorem completed_selection (p : Pos) (n : UnitNo) : (completed s k w cs t r).selection p n = t.selection p n := by
  simp only [State.selection, completed_selections]
@[simp] theorem completed_bridge (b : BridgeNo) : (completed s k w cs t r).bridge b = (t.bridge b).settle :=
  finishAct_bridge none cs (loaded s k w) t b

end

/-- The indications of a completed command. -/
theorem completed_told (s : State) (code : Byte) (w : CmdWords) (cs : List ChanNo) {t : State} (r : Result)
    (h : t.links = s.links) : ToldAll cs s (completed s code w cs t r) := fun q => by
  have link : t.link q = (loaded s code w).link q := by simp only [State.link, h, loaded_links]
  calc (completed s code w cs t r).link q = told none cs (loaded s code w) t q := finishAct_link none cs _ t q link
    _ = told none cs s (completed s code w cs t r) q :=
      told_congr (s := s) {} {} rfl _ _

/-- MP after a completed command that has not changed it otherwise. -/
theorem completed_mp (s : State) (code : Byte) (w : CmdWords) (cs : List ChanNo) {t : State} (r : Result)
    (h : t.mp = (loaded s code w).mp) : (completed s code w cs t r).mp = mpDone s.mp code w r := by
  simp only [completed, State.complete, State.post, State.modMp, State.finishAct_mp, h]
  rfl

/-- MP after a completed command that has posted `e`. -/
theorem completed_posted (s : State) (code : Byte) (w : CmdWords) (cs : List ChanNo) {t : State} (r : Result) (e : Event)
    (h : t.mp = ((loaded s code w).post e).mp) :
    (completed s code w cs t r).mp =
      { mpDone s.mp code w r with flags := s.mp.flags ||| e.mask ||| Event.done.mask } := by
  simp only [completed, State.complete, State.post, State.modMp, State.finishAct_mp, h]
  rfl

/-! ### Numbers in words -/

theorem toFin?_word {n : Nat} (hn : n ≤ 65536) (i : Fin n) : toFin? n (word i.val).toNat = some i := by
  have h := i.isLt
  have e : (word i.val).toNat = i.val := by simp only [word, BitVec.toNat_ofNat]; omega
  simp [toFin?, e]

theorem toFin?_out {n x : Nat} (h : n ≤ x) : toFin? n x = none := by simp [toFin?, Nat.not_lt.2 h]

/-! ### CLEAR-MARKS (R192) -/

theorem State.clearMarks_bridge {s : State} {w : CmdWords} {b : BridgeNo} (h : w.w1 = 0#16) (hb : w.w2 = word b.val) :
    s.clearMarks w = (some .done, s.modBridge b fun x => { x with limit := false }) := by
  simp [State.clearMarks, h, hb, toFin?_word]

theorem State.clearMarks_link {s : State} {w : CmdWords} {p : Pos} (h : w.w1 = 1#16) (hp : w.w2 = word p.val) :
    s.clearMarks w =
      (some .done, s.modLink p fun x => { x with badFrame := false, messageLost := false, overrun := false }) := by
  simp [State.clearMarks, h, hp, toFin?_word]

theorem State.clearMarks_line {s : State} {w : CmdWords} {l : LineNo} (h : w.w1 = 2#16) (hl : w.w2 = word l.val) :
    s.clearMarks w =
      if (s.line l).state = .vacant then refuse .vacant s
      else
        (some .done, finishAct none [] s (s.modLine l fun x => { x with marks := { x.marks with missed := false } })) := by
  simp [State.clearMarks, h, hl, toFin?_word]

theorem State.clearMarks_bad {s : State} {w : CmdWords}
    (h : 2 < w.w1.toNat ∨ w.w1 = 0#16 ∧ 95 < w.w2.toNat ∨ w.w1 = 1#16 ∧ 47 < w.w2.toNat ∨ w.w1 = 2#16 ∧ 191 < w.w2.toNat) :
    s.clearMarks w = refuse .badField s := by
  rcases h with h | ⟨h, out⟩ | ⟨h, out⟩ | ⟨h, out⟩
  · unfold State.clearMarks
    split
    · omega
    · omega
    · omega
    · rfl
  all_goals simp [State.clearMarks, h, toFin?_out out]

end Sys2Proof.Machine

namespace Sys2Proof.Proofs

open Machine Safety Laws

/-- Settles O37: the owner's decision in each case (`State.clearMarks_bridge` and the rest), completed. -/
theorem clearMarksClearsOne : Obligations.ClearMarksClearsOne := by
  refine ⟨fun s w b ready h hb => ?_, fun s w p ready h hp => ?_, fun s w l ready h hl => ⟨fun vacant => ?_, fun live => ?_⟩,
    fun s w ready bad => congrArg Host.Outcome.next (command_refused s _ w _ ready (State.clearMarks_bad bad))⟩
  · refine congrArg Host.Outcome.next ((command_done s _ 0x14#8 w _ ready (State.clearMarks_bridge h hb)).trans ?_)
    rfl
  · refine congrArg Host.Outcome.next ((command_done s _ 0x14#8 w _ ready (State.clearMarks_link h hp)).trans ?_)
    rfl
  · exact congrArg Host.Outcome.next
      (command_refused s _ w _ ready ((State.clearMarks_line h hl).trans (if_pos vacant)))
  · refine ⟨completed s 0x14#8 w [] ((loaded s 0x14#8 w).modLine l fun x => { x with marks := { x.marks with missed := false } })
      .done, congrArg Host.Outcome.next (command_done s _ _ w _ ready ((State.clearMarks_line h hl).trans (if_neg live))),
      completed_mp s _ w _ _ (by simp), ?_, fun l' hl' => ?_, completed_told s _ w _ _ (by simp), ?_⟩
    · simp
    · simp [State.line_setLine, hl']
    · exact State.eq_of_fields
end Sys2Proof.Proofs
end

section
/-! Line requests: the state after the answer, the answer itself, and the LINE-STATE of the one line an act has changed. -/

set_option Elab.async false

namespace Sys2Proof.Machine

open Safety

/-! ### The state after the answer -/

/-- The state after a line request of position `p`, decided as `r` with `v` the state before the indications of the act. -/
def answered (s : State) (p : Pos) (code : Byte) (r : AnswerResult) (v : State) : State :=
  (finishAct none [] (taken s p) v).answer p ⟨code, r⟩

section
variable (s : State) (p : Pos) (k : Byte) (r : AnswerResult) (v : State)

@[simp] theorem answered_lines : (answered s p k r v).lines = v.lines := by simp [answered]
@[simp] theorem answered_directories : (answered s p k r v).directories = v.directories := by simp [answered]
@[simp] theorem answered_channels : (answered s p k r v).channels = v.channels := by simp [answered]
@[simp] theorem answered_selections : (answered s p k r v).selections = v.selections := by simp [answered]
@[simp] theorem answered_legs : (answered s p k r v).legs = v.legs := by simp [answered]
@[simp] theorem answered_slots : (answered s p k r v).slots = v.slots := by simp [answered]
@[simp] theorem answered_generators : (answered s p k r v).generators = v.generators := by simp [answered]
@[simp] theorem answered_timers : (answered s p k r v).timers = v.timers := by simp [answered]
@[simp] theorem answered_inFlight : (answered s p k r v).inFlight = v.inFlight := by simp [answered]
@[simp] theorem answered_reports : (answered s p k r v).reports = v.reports := by simp [answered]
@[simp] theorem answered_pointer : (answered s p k r v).pointer = v.pointer := by simp [answered]
@[simp] theorem answered_frameCount : (answered s p k r v).frameCount = v.frameCount := by simp [answered]
@[simp] theorem answered_mp : (answered s p k r v).mp = v.mp := by simp [answered]
@[simp] theorem answered_pending : (answered s p k r v).pending = v.pending := by simp [answered]
@[simp] theorem answered_bridges : (answered s p k r v).bridges = tabMap Bridge.settle v.bridges := by
  simp [answered, finishAct_bridges]
@[simp] theorem answered_line (l : LineNo) : (answered s p k r v).line l = v.line l := by
  simp only [State.line, answered_lines]
@[simp] theorem answered_channel (c : ChanNo) : (answered s p k r v).channel c = v.channel c := by
  simp only [State.channel, answered_channels]
@[simp] theorem answered_leg (g : LegNo) : (answered s p k r v).leg g = v.leg g := by
  simp only [State.leg, answered_legs]
@[simp] theorem answered_slot (n : SlotNo) : (answered s p k r v).slot n = v.slot n := by
  simp only [State.slot, answered_slots]
@[simp] theorem answered_generator (n : GenNo) : (answered s p k r v).generator n = v.generator n := by
  simp only [State.generator, answered_generators]
@[simp] theorem answered_timer (id : TimerId) : (answered s p k r v).timer id = v.timer id := by
  simp only [State.timer, answered_timers]
@[simp] theorem answered_selection (q : Pos) (n : UnitNo) : (answered s p k r v).selection q n = v.selection q n := by
  simp only [State.selection, answered_selections]
@[simp] theorem answered_bridge (b : BridgeNo) : (answered s p k r v).bridge b = (v.bridge b).settle :=
  finishAct_bridge none [] (taken s p) v b

end

/-! ### The request, served -/

/-- A key field byte is read back. -/
theorem keyField_byte (k : Key) : keyField (fieldByte k.val) = some k := by
  have h := k.isLt
  simp only [keyField, fieldByte, toFin?, BitVec.toNat_ofNat]
  simp only [show k.val % 2 ^ 8 = k.val by omega, h, dif_pos]

theorem handsetField_byte (h : Handset) : handsetField (handsetByte h) = some h := by cases h <;> rfl

theorem boolField_byte (b : Bool) : boolField (boolByte b) = some b := by cases b <;> rfl

/-- A line request that may touch no channel. -/
def isLineRequest : TurretRequest → Bool
  | .seize _ _ | .retrieve _ _ | .release _ | .hold _ | .privacy _ _ | .signal _ | .acknowledge _ => true
  | _ => false

theorem decode_lineRequest {t : TurretRequest} (h : isLineRequest t = true) : decodeRequest t.message = some t := by
  cases t <;> simp_all [isLineRequest, TurretRequest.message, TurretRequest.code, TurretRequest.fields, decodeRequest,
    keyField_byte, handsetField_byte, boolField_byte]

/-- A line request, served: its owner's decision, the indications of the act, and the answer (R171-R173). -/
theorem exec_lineRequest {s : State} {p : Pos} {t : TurretRequest} {r : AnswerResult} {v : State} (h : isLineRequest t = true)
    (ready : Ready s p t.message) (running : s.resetting = false) (decided : (taken s p).decideOwner p t = (r, v)) :
    exec (t.command p) s = .next (answered s p t.code r v) := by
  have served : s.serveRequest p t.message = answered s p t.code r v := by
    rw [s.serveRequest_ready p _ ready, State.decide_owner (taken s p) p _ t running (decode_lineRequest h), decided]
    cases t with
    | seize | retrieve | release | hold | privacy | signal | acknowledge => rfl
    | _ => cases h
  rw [← served]
  cases t <;> rfl

/-! ### The answer -/

theorem answered_answered {s v : State} {p : Pos} (k : Byte) (r : AnswerResult) (links : v.links = (taken s p).links := by simp)
    (pointer : v.pointer = p + 1 := by simp) : Answered s (answered s p k r v) p ⟨k, r⟩ := by
  refine answered_of_same s _ p _ (by simp [pointer]) fun q => ?_
  rw [finishAct_same none [] (taken s p) v q]
  simp only [State.link, links]

/-- The indications of a link depend on its state and its indications alone. -/
theorem indicateAll_congr {β : Type} (ind : β → Indication) (bs : List β) {x y : Link} (state : x.state = y.state)
    (queue : x.indications = y.indications) :
    (bs.foldl (fun z b => z.indicate (ind b)) x).state = (bs.foldl (fun z b => z.indicate (ind b)) y).state ∧
      (bs.foldl (fun z b => z.indicate (ind b)) x).indications = (bs.foldl (fun z b => z.indicate (ind b)) y).indications := by
  induction bs generalizing x y with
  | nil => exact ⟨state, queue⟩
  | cons b rest ih =>
    have next : ∀ i, (x.indicate i).state = (y.indicate i).state ∧ (x.indicate i).indications = (y.indicate i).indications :=
      fun i => by
        unfold Link.indicate
        rw [← state]
        split <;> simp_all
    exact ih (next _).1 (next _).2

theorem toldLines_congr (u : State) (q : Pos) (ls : List LineNo) {x y : Link} (state : x.state = y.state)
    (queue : x.indications = y.indications) :
    (ls.foldl (toldLine u q) x).indications = (ls.foldl (toldLine u q) y).indications := by
  induction ls generalizing x y with
  | nil => exact queue
  | cons l rest ih =>
    obtain ⟨states, queues⟩ := indicateAll_congr (fun a : Appearance => ⟨.key a.key, .lineState, (u.line l).content⟩)
      ((u.line l).appearances.filter fun a => a.pos == q) state queue
    exact ih states queues

/-- The link of a position in which a request has been taken, but for its requests. -/
theorem taken_link_state (s : State) (p q : Pos) :
    ((taken s p).link q).state = (s.link q).state ∧ ((taken s p).link q).indications = (s.link q).indications := by
  rw [taken_link]
  split
  · rename_i h; subst h; exact ⟨rfl, rfl⟩
  · exact ⟨rfl, rfl⟩

/-- The indications after a line request: those of the lines it has changed. -/
theorem answered_indications {s v : State} {p : Pos} (k : Byte) (r : AnswerResult)
    (links : v.links = (taken s p).links := by simp) (q : Pos) :
    ((answered s p k r v).link q).indications = (told none [] s (answered s p k r v) q).indications := by
  have link : v.link q = (taken s p).link q := by simp only [State.link, links]
  have act : ((answered s p k r v).link q).indications = ((finishAct none [] (taken s p) v).link q).indications := by
    rw [answered, State.link_answer]
    split
    · rename_i h; subst h; rfl
    · rfl
  have shown : told none [] (taken s p) v q = told none [] (taken s p) (answered s p k r v) q :=
    told_congr (s := taken s p) {} ⟨by simp, by simp, by simp⟩ rfl _ _
  rw [act, finishAct_link none [] (taken s p) v q link, shown]
  exact toldLines_congr _ q _ (taken_link_state s p q).1 (taken_link_state s p q).2

/-! ### One line changed -/

/-- The only line whose visible fields an act may have changed. -/
theorem changed_only {s u : State} {l : LineNo} (same : ∀ l', l' ≠ l → u.line l' = s.line l') :
    ((List.finRange 192).filter fun k => (s.line k).view != (u.line k).view) =
      if (s.line l).view = (u.line l).view then [] else [l] := by
  have others : ∀ k, k ≠ l → ((s.line k).view != (u.line k).view) = false := fun k hk => by rw [same k hk]; simp
  split
  · rename_i h
    refine List.filter_eq_nil_iff.2 fun k _ => ?_
    by_cases hk : k = l
    · subst hk; simp [h]
    · simp [others k hk]
  · rename_i h
    rw [List.filter_congr (q := (· == l)) fun k _ => by
      by_cases hk : k = l
      · subst hk; simp [h]
      · simp [others k hk, hk],
      List.filter_beq, List.count_eq_one_of_mem (List.nodup_finRange 192) (List.mem_finRange l), List.replicate_one]

/-- The indications of an act that has changed one line. -/
theorem told_oneLine {s u : State} {l : LineNo} (q : Pos) (same : ∀ l', l' ≠ l → u.line l' = s.line l') :
    told none [] s u q = if (s.line l).view = (u.line l).view then s.link q else toldLine u q (s.link q) l := by
  rw [told, toldLines, changed_only same]
  split <;> rfl

/-- A line request that has changed the visible fields of one line tells of that line. -/
theorem answered_toldLine {s v : State} {p : Pos} {l : LineNo} (k : Byte) (r : AnswerResult)
    (view : (s.line l).view ≠ (v.line l).view) (same : ∀ l', l' ≠ l → v.line l' = s.line l')
    (links : v.links = (taken s p).links := by simp) : ToldLine s (answered s p k r v) l := fun q => by
  rw [answered_indications k r links, told_oneLine q (l := l) (by simpa using same), if_neg (by simpa using view)]

/-- A line request that has changed no visible field tells nothing. -/
theorem answered_quiet {s v : State} {p : Pos} {l : LineNo} (k : Byte) (r : AnswerResult)
    (view : (s.line l).view = (v.line l).view) (same : ∀ l', l' ≠ l → v.line l' = s.line l')
    (links : v.links = (taken s p).links := by simp) (q : Pos) :
    ((answered s p k r v).link q).indications = (s.link q).indications := by
  rw [answered_indications k r links, told_oneLine q (l := l) (by simpa using same), if_pos (by simpa using view)]

/-- A line request that changes nothing. -/
theorem answered_unmoved (s : State) (p : Pos) (k : Byte) (r : AnswerResult) (h : r ≠ .refused .noBridge) :
    Unmoved s (answered s p k r (taken s p)) p ⟨k, r⟩ := by
  refine ⟨answered_answered k r rfl rfl, answered_quiet (l := 0) k r rfl (fun _ _ => rfl) rfl, ?_⟩
  rw [if_neg h]
  exact State.eq_of_fields

end Sys2Proof.Machine
end

section
/-! Legs that leave a line's bridge: handsets, and monitors with their selections (R33, R36, R40, R48). Then HOLD, PRIVACY, SIGNAL and
ACKNOWLEDGE. -/

set_option Elab.async false

namespace Sys2Proof.Machine

open Safety

/-! ### Legs that leave a bridge -/

/-- The legs `gone` have left the bridge that an owner holds, and nothing else of bridges and legs has changed but receiver counts and
microphone peaks. -/
structure LegsLeave (s t : State) (b : Option BridgeNo) (gone : LegNo → Prop) : Prop where
  stays : ∀ g, ¬gone g → t.leg g = s.leg g
  detached : ∀ g, gone g → ∀ n, b = some n → (t.leg g).attach ≠ some n
  other : ∀ n, b ≠ some n → t.bridge n = s.bridge n
  state : ∀ n, (t.bridge n).state = (s.bridge n).state
  owner : ∀ n, (t.bridge n).owner = (s.bridge n).owner
  contributors : ∀ n g, ¬gone g → (g ∈ (t.bridge n).contributors ↔ g ∈ (s.bridge n).contributors)

theorem LegsLeave.none {s t : State} {b : Option BridgeNo} {gone : LegNo → Prop} (legs : t.legs = s.legs)
    (bridges : t.bridges = s.bridges) (h : ∀ g, ¬gone g) : LegsLeave s t b gone := by
  have leg : ∀ g, t.leg g = s.leg g := fun g => by simp only [State.leg, legs]
  have bridge : ∀ n, t.bridge n = s.bridge n := fun n => by simp only [State.bridge, bridges]
  exact ⟨fun g _ => leg g, fun g hg => absurd hg (h g), fun n _ => bridge n, fun n => by rw [bridge], fun n => by rw [bridge],
    fun n g _ => by rw [bridge]⟩

/-- Legs that leave one after the other. -/
theorem LegsLeave.trans {s t u : State} {b : Option BridgeNo} {first next : LegNo → Prop} (h : LegsLeave s t b first)
    (k : LegsLeave t u b next) : LegsLeave s u b fun g => first g ∨ next g where
  stays g hg := (k.stays g fun e => hg (.inr e)).trans (h.stays g fun e => hg (.inl e))
  detached g hg n hn := by
    by_cases e : next g
    · exact k.detached g e n hn
    · rw [k.stays g e]; exact h.detached g (hg.resolve_right e) n hn
  other n hn := (k.other n hn).trans (h.other n hn)
  state n := (k.state n).trans (h.state n)
  owner n := (k.owner n).trans (h.owner n)
  contributors n g hg := (k.contributors n g fun e => hg (.inr e)).trans (h.contributors n g fun e => hg (.inl e))

/-- The same legs, said otherwise. -/
theorem LegsLeave.congr {s t : State} {b : Option BridgeNo} {gone gone' : LegNo → Prop} (h : LegsLeave s t b gone)
    (e : ∀ g, gone g ↔ gone' g) : LegsLeave s t b gone' := by
  have : gone = gone' := funext fun g => propext (e g)
  exact this ▸ h

/-- Records other than legs and bridges may change beside it. -/
theorem LegsLeave.before {s s' t : State} {b : Option BridgeNo} {gone : LegNo → Prop} (h : LegsLeave s' t b gone)
    (legs : s'.legs = s.legs := by simp) (bridges : s'.bridges = s.bridges := by simp) : LegsLeave s t b gone :=
  ((LegsLeave.none (gone := fun _ => False) legs bridges fun _ => id).trans h).congr fun _ => by simp

theorem LegsLeave.after {s t t' : State} {b : Option BridgeNo} {gone : LegNo → Prop} (h : LegsLeave s t b gone)
    (legs : t'.legs = t.legs := by simp) (bridges : t'.bridges = t.bridges := by simp) : LegsLeave s t' b gone :=
  (h.trans (LegsLeave.none (gone := fun _ => False) legs bridges fun _ => id)).congr fun _ => by simp

theorem State.leaveOwn_legs_leave (s : State) (b : Option BridgeNo) (g : LegNo) :
    LegsLeave s (s.leaveOwn b g) b (· = g) := by
  cases b with
  | none => exact ⟨fun _ _ => rfl, fun _ _ _ => nofun, fun _ _ => rfl, fun _ => rfl, fun _ => rfl, fun _ _ _ => Iff.rfl⟩
  | some n =>
    have own (k : BridgeNo) : (s.leave n g).bridge k = s.bridge k ∨
        k = n ∧ ∃ r, (s.leave n g).bridge k = { (s.bridge k).dropContributor g with receivers := r } := by
      by_cases h : k = n
      · subst h; exact .inr ⟨rfl, s.bridge_leave k g⟩
      · exact .inl (s.bridge_leave_ne g h)
    refine ⟨fun g' hg => ?_, fun g' hg m hm => ?_, fun k hk => s.bridge_leave_ne g fun e => hk (by rw [e]), fun k => ?_, fun k => ?_,
      fun k g' hg => ?_⟩
    · exact (s.leg_leave n g g').trans (if_neg fun e => hg e.1)
    · cases hm; subst hg
      simp only [State.leaveOwn, State.leg_leave]
      split
      · simp
      · rename_i h; exact fun e => h ⟨trivial, e⟩
    · rcases own k with e | ⟨-, r, e⟩ <;> simp [State.leaveOwn, e, Bridge.dropContributor]
    · rcases own k with e | ⟨-, r, e⟩ <;> simp [State.leaveOwn, e, Bridge.dropContributor]
    · rcases own k with e | ⟨-, r, e⟩
      · simp [State.leaveOwn, e]
      · simp [State.leaveOwn, e, Bridge.dropContributor, List.mem_erase_of_ne hg]

/-- The leg of an occupant's handset. -/
abbrev occupantLeg (o : Occupant) : LegNo := handsetLeg o.pos o.handset

/-- The leg of a monitor's unit. -/
abbrev monitorLeg (m : Monitor) : LegNo := unitLeg m.pos m.unit

theorem State.leaveHandsets_legs_leave (s : State) (b : Option BridgeNo) (os : List Occupant) :
    LegsLeave s (s.leaveHandsets b os) b fun g => ∃ o ∈ os, g = occupantLeg o := by
  induction os generalizing s with
  | nil => exact LegsLeave.none rfl rfl fun g => by simp
  | cons o rest ih =>
    refine ((s.leaveOwn_legs_leave b (occupantLeg o)).trans (ih _)).congr fun g => ?_
    simp

/-! ### Monitors that end (R48) -/

theorem State.line_dropMonitor (s : State) (l : LineNo) (m : Monitor) (l' : LineNo) :
    (s.dropMonitor l m).line l' =
      if l' = l then { s.line l with monitors := (s.line l).monitors.erase m } else s.line l' := by
  simp [State.dropMonitor, State.line_setLine]

theorem State.line_dropMonitors (s : State) (l : LineNo) (ms : List Monitor) (l' : LineNo) :
    (s.dropMonitors l ms).line l' =
      if l' = l then { s.line l with monitors := (s.line l).monitors.diff ms } else s.line l' := by
  induction ms generalizing s with
  | nil => split <;> simp_all [State.dropMonitors]
  | cons m rest ih =>
    refine (ih (s.dropMonitor l m)).trans ?_
    simp only [State.line_dropMonitor, if_true, List.diff_cons]
    split <;> simp_all

theorem State.selection_dropMonitors (s : State) (l : LineNo) (ms : List Monitor) (q : Pos) (n : UnitNo) :
    (s.dropMonitors l ms).selection q n = if ⟨q, n⟩ ∈ ms then .none else s.selection q n := by
  induction ms generalizing s with
  | nil => rfl
  | cons m rest ih =>
    refine (ih (s.dropMonitor l m)).trans ?_
    obtain ⟨p, u⟩ := m
    simp only [State.dropMonitor, State.selection_setSelection, State.selection_leaveOwn, State.modLine_eq,
      State.selection_setLine, List.mem_cons, Monitor.mk.injEq]
    split <;> split <;> simp_all

theorem State.dropMonitors_legs_leave (s : State) (l : LineNo) (ms : List Monitor) :
    LegsLeave s (s.dropMonitors l ms) (s.line l).bridge fun g => ∃ m ∈ ms, g = monitorLeg m := by
  induction ms generalizing s with
  | nil => exact LegsLeave.none rfl rfl fun g => by simp
  | cons m rest ih =>
    have one : LegsLeave s (s.dropMonitor l m) (s.line l).bridge (· = monitorLeg m) :=
      have left := (s.modLine l fun x => { x with monitors := x.monitors.erase m }).leaveOwn_legs_leave (s.line l).bridge (monitorLeg m)
      left.before.after rfl rfl
    have next := ih (s.dropMonitor l m)
    rw [State.line_dropMonitor, if_pos rfl] at next
    exact (one.trans next).congr fun g => by simp

/-- No unit monitors a line once all its monitors have ended. -/
theorem State.line_dropAll (s : State) (l : LineNo) :
    (s.dropMonitors l (s.line l).monitors).line l = { s.line l with monitors := [] } := by
  rw [State.line_dropMonitors, if_pos rfl]
  have : (s.line l).monitors.diff (s.line l).monitors = [] := by
    refine List.eq_nil_iff_forall_not_mem.2 fun m h => ?_
    have := List.count_pos_iff.2 h
    simp [List.count_diff] at this
  rw [this]

end Sys2Proof.Machine
end

section
/-! HOLD, PRIVACY, SIGNAL and ACKNOWLEDGE. -/

set_option Elab.async false

namespace Sys2Proof.Machine

open Safety

@[simp] theorem Bridge.settle_contributors (b : Bridge) : b.settle.contributors = b.contributors := by
  unfold Bridge.settle; (repeat' split) <;> rfl

@[simp] theorem Bridge.settle_state (b : Bridge) : b.settle.state = b.state := by
  unfold Bridge.settle; (repeat' split) <;> rfl

@[simp] theorem Bridge.settle_owner (b : Bridge) : b.settle.owner = b.owner := by
  unfold Bridge.settle; (repeat' split) <;> rfl

/-- A line record written as it stands. -/
theorem State.setLine_line (s : State) (l : LineNo) : s.setLine l (s.line l) = s := by
  simp [State.setLine, State.line]

/-- A handset whose current line is `l` is one of its occupants (R25). -/
theorem State.mem_of_currentLine {s : State} {o : Occupant} {l : LineNo} (h : s.currentLine o = some l) :
    o ∈ (s.line l).occupants := by
  simpa using List.find?_some h

/-- A line that a key request may act on (R24). -/
theorem State.lookup_ok {s : State} {p : Pos} {k : Key} {l : LineNo} (h : s.keyLine p k = some l)
    (live : (s.line l).state ≠ .vacant) (kept : (s.line l).state ≠ .retiring) (inService : (s.line l).state ≠ .lockout) :
    s.lookup p k = .ok l := by
  unfold State.lookup
  rw [h]
  dsimp only
  split <;> simp_all

/-- Lines that differ in a mark differ in their visible fields (R7). -/
theorem Line.view_ne_of_mark {x y : Line} (mark : Marks → Bool) (h : mark x.marks ≠ mark y.marks) : x.view ≠ y.view :=
  fun e => h (congrArg (fun v : LineView => mark v.marks) e)

/-! ### HOLD (R36) -/

theorem State.line_holdLine (s : State) (l : LineNo) (p : Pos) (l' : LineNo) :
    (s.holdLine l p).line l' =
      if l' = l then { s.line l with state := .held, occupants := [], monitors := [], holdOwner := some p } else s.line l' := by
  have left := (s.leaveHandsets (s.line l).bridge (s.line l).occupants).line_dropAll l
  simp only [State.line_leaveHandsets] at left
  have held : ((((s.leaveHandsets (s.line l).bridge (s.line l).occupants).dropMonitors l (s.line l).monitors).modLine l
      fun y => { y with occupants := [], holdOwner := some p, state := .held })).line l' =
      if l' = l then { s.line l with state := .held, occupants := [], monitors := [], holdOwner := some p } else s.line l' := by
    rw [State.modLine_eq, State.line_setLine, left, State.line_dropMonitors]
    split
    · rfl
    · simp
  unfold State.holdLine
  dsimp only
  split
  · exact held
  · exact held

theorem State.holdLine_legs_leave (s : State) (l : LineNo) (p : Pos) :
    LegsLeave s (s.holdLine l p) (s.line l).bridge fun g =>
      (∃ o ∈ (s.line l).occupants, g = occupantLeg o) ∨ ∃ m ∈ (s.line l).monitors, g = monitorLeg m := by
  have first := s.leaveHandsets_legs_leave (s.line l).bridge (s.line l).occupants
  have next := (s.leaveHandsets (s.line l).bridge (s.line l).occupants).dropMonitors_legs_leave l (s.line l).monitors
  rw [State.line_leaveHandsets] at next
  refine (first.trans next).after ?_ ?_ <;> (unfold State.holdLine; dsimp only; split <;> simp)

theorem State.selection_holdLine (s : State) (l : LineNo) (p : Pos) (q : Pos) (n : UnitNo) :
    (s.holdLine l p).selection q n = if ⟨q, n⟩ ∈ (s.line l).monitors then .none else s.selection q n := by
  unfold State.holdLine
  dsimp only
  split <;> simp [State.startTimer, State.selection_dropMonitors]

theorem State.timer_holdLine (s : State) (l : LineNo) (p : Pos) (id : TimerId) :
    (s.holdLine l p).timer id =
      if id = .holdRecall l ∧ (s.line l).holdRecall ≠ 0 then (s.timer id).start (1000 * (s.line l).holdRecall)
      else s.timer id := by
  unfold State.holdLine
  dsimp only
  by_cases h : (s.line l).holdRecall = 0
  · simp [h]
  · by_cases e : id = .holdRecall l
    · subst e; simp [h, State.startTimer]
    · simp [h, e, State.startTimer, State.timer_setTimer_ne _ _ e]

/-! ### PRIVACY (R40, R41) -/

/-- PRIVATE set, as the operations it is made of. -/
@[simp] theorem State.makePrivate_eq (s : State) (l : LineNo) : s.makePrivate l =
    (s.dropMonitors l (s.line l).monitors).setLine l
      { (s.dropMonitors l (s.line l).monitors).line l with currentPrivacy := .secluded } := by
  rw [State.makePrivate, State.modLine_eq]

theorem State.line_makePrivate (s : State) (l l' : LineNo) :
    (s.makePrivate l).line l' =
      if l' = l then { s.line l with currentPrivacy := .secluded, monitors := [] } else s.line l' := by
  rw [State.makePrivate_eq, State.line_setLine, State.line_dropAll, State.line_dropMonitors]
  split <;> simp_all

theorem State.makePrivate_legs_leave (s : State) (l : LineNo) :
    LegsLeave s (s.makePrivate l) (s.line l).bridge fun g => ∃ m ∈ (s.line l).monitors, g = monitorLeg m :=
  (s.dropMonitors_legs_leave l _).after (by simp) (by simp)

theorem State.selection_makePrivate (s : State) (l : LineNo) (q : Pos) (n : UnitNo) :
    (s.makePrivate l).selection q n = if ⟨q, n⟩ ∈ (s.line l).monitors then .none else s.selection q n := by
  simp [State.selection_dropMonitors]

/-- A position that owns a line occupies it (R34). -/
theorem Line.occupiedBy_of_owner {x : Line} {p : Pos} (h : x.owner = some p) : x.occupiedBy p = true := by
  unfold Line.owner at h
  unfold Line.occupiedBy
  cases e : x.occupants with
  | nil => simp [e] at h
  | cons o os => simp_all

end Sys2Proof.Machine

namespace Sys2Proof.Proofs

open Machine Safety

/-- Settles O15: HOLD by the cases of the handset's current line; the legs by `State.holdLine_legs_leave`. -/
theorem holdKeepsBridge : Obligations.HoldKeepsBridge := by
  intro s p h ready running
  have served {r : AnswerResult} {v : State} (e : (taken s p).holdHandset p h = (r, v)) :
      exec ((TurretRequest.hold h).command p) s = .next (answered s p 0x04#8 r v) := exec_lineRequest rfl ready running e
  cases current : s.currentLine ⟨p, h⟩ with
  | none =>
    refine ⟨_, served (by simp [State.holdHandset, current]), fun _ => answered_unmoved s p _ _ (by simp), nofun, nofun⟩
  | some l =>
    by_cases sole : (s.line l).occupants = [⟨p, h⟩]
    · refine ⟨_, served (r := .accepted) (v := (taken s p).holdLine l p) (by simp [State.holdHandset, current, sole]), nofun,
        fun k hk => ?_, fun k hk _ => ?_⟩
      · cases hk; exact fun e => absurd sole e
      · cases hk
        obtain ⟨stays, detached, other, state, owner, contributors⟩ := (taken s p).holdLine_legs_leave l p
        have gone (g : LegNo) (hg : g ≠ handsetLeg p h) (hm : ∀ m ∈ (s.line l).monitors, g ≠ unitLeg m.pos m.unit) :
            ¬((∃ o ∈ ((taken s p).line l).occupants, g = occupantLeg o) ∨
              ∃ m ∈ ((taken s p).line l).monitors, g = monitorLeg m) := by
          simp only [taken_line, sole]
          rintro (⟨o, ho, e⟩ | ⟨m, hm', e⟩)
          · rw [List.mem_singleton.1 ho] at e; exact hg e
          · exact hm m hm' e
        have line := (taken s p).line_holdLine l p
        have links : ((taken s p).holdLine l p).links = (taken s p).links := by simp
        refine ⟨answered_answered _ _ links (by simp), answered_toldLine _ _ ?_ (fun l' hl => ?_) links, ?_, fun l' hl => ?_, ?_,
          fun id hid => ?_, fun q m => ?_, fun b hb => ⟨?_, ?_, ?_, fun m hm => ?_, fun g hg hm => ?_, fun b' hb' => ?_⟩,
          fun g hg hm => ?_, ?_⟩
        · rw [line, if_pos rfl]; simp [Line.view, sole]
        · exact (line l').trans (if_neg hl)
        · exact (answered_line ..).trans ((line l).trans (if_pos rfl))
        · exact (answered_line ..).trans ((line l').trans (if_neg hl))
        · simp only [answered_timer, State.timer_holdLine, taken_line, taken_timer]
          split <;> simp_all
        · simp [State.timer_holdLine, hid]
        · exact (answered_selection ..).trans ((taken s p).selection_holdLine l p q m)
        · simp [state]
        · simp [owner]
        · rw [answered_leg]; exact detached _ (.inl ⟨⟨p, h⟩, by simp [sole], rfl⟩) b hb
        · rw [answered_leg]; exact detached _ (.inr ⟨m, hm, rfl⟩) b hb
        · rw [answered_bridge, Bridge.settle_contributors]; exact contributors b g (gone g hg hm)
        · rw [answered_bridge, other b' fun e => hb' (by simpa [hb] using e.symm)]; rfl
        · rw [answered_leg]; exact stays g (gone g hg hm)
        · exact State.eq_of_fields
    · refine ⟨_, served (r := .refused .notSole) (v := taken s p) (by simp [State.holdHandset, current, sole]), nofun,
        fun k hk _ => ?_, fun k hk e => ?_⟩
      · exact answered_unmoved s p _ _ (by simp)
      · cases hk; exact absurd e sole

/-- Settles O16: PRIVACY by the checks of R40 and R41 in their order. -/
theorem privacySetByOwner : Obligations.PrivacySetByOwner := by
  intro s p k l on ready running key live kept inService
  have lookup : (taken s p).lookup p k = .ok l := State.lookup_ok key live kept inService
  have served {r : AnswerResult} {v : State} (e : (taken s p).privacyKey p k on = (r, v)) :
      exec ((TurretRequest.privacy k on).command p) s = .next (answered s p 0x05#8 r v) := exec_lineRequest rfl ready running e
  have unmoved (r : AnswerResult) (e : (taken s p).privacyKey p k on = (r, taken s p)) (h : r ≠ .refused .noBridge) :
      ∃ u, exec ((TurretRequest.privacy k on).command p) s = .next u ∧ Unmoved s u p ⟨0x05#8, r⟩ :=
    ⟨_, served e, answered_unmoved s p _ _ h⟩
  by_cases occupied : (s.line l).occupiedBy p = true
  case neg =>
    have no : (s.line l).owner ≠ some p := fun e => occupied (Line.occupiedBy_of_owner e)
    obtain ⟨u, e, same⟩ := unmoved (.refused .notOccupant) (by simp [State.privacyKey, lookup, occupied]) (by simp)
    exact ⟨u, e, fun _ => same, fun h => absurd h occupied, fun h => absurd h no, fun h => absurd h no, fun h => absurd h no,
      fun h => absurd h no, fun h => absurd h no⟩
  by_cases owner : (s.line l).owner = some p
  case neg =>
    obtain ⟨u, e, same⟩ := unmoved (.refused .notOwner) (by simp [State.privacyKey, lookup, occupied, owner]) (by simp)
    exact ⟨u, e, fun h => by simp [occupied] at h, fun _ _ => same, fun h => absurd h owner, fun h => absurd h owner,
      fun h => absurd h owner, fun h => absurd h owner, fun h => absurd h owner⟩
  cases on with
  | true =>
    by_cases sole : 1 < (s.line l).occupants.length
    · obtain ⟨u, e, same⟩ := unmoved (.refused .notSole) (by simp [State.privacyKey, lookup, occupied, owner, sole]) (by simp)
      exact ⟨u, e, fun h => by simp [occupied] at h, fun _ h => absurd owner h, fun _ _ _ => same, fun _ _ h => by omega, nofun,
        fun _ _ h => by omega, nofun⟩
    · cases privacy : (s.line l).currentPrivacy with
      | secluded =>
        obtain ⟨u, e, same⟩ := unmoved .accepted (by simp [State.privacyKey, lookup, occupied, owner, sole, privacy]) (by simp)
        exact ⟨u, e, fun h => by simp [occupied] at h, fun _ h => absurd owner h, fun _ _ h => absurd h sole,
          fun _ _ _ _ => same, nofun, nofun, nofun⟩
      | shared =>
        refine ⟨_, served (r := .accepted) (v := (taken s p).makePrivate l)
            (by simp [State.privacyKey, lookup, occupied, owner, sole, privacy]), fun h => by simp [occupied] at h, fun _ h => absurd owner h, fun _ _ h => absurd h sole, nofun, nofun,
          fun _ _ _ _ => ?_, nofun⟩
        obtain ⟨stays, detached, other, -, -, contributors⟩ := (taken s p).makePrivate_legs_leave l
        have gone (g : LegNo) (hm : ∀ m ∈ (s.line l).monitors, g ≠ unitLeg m.pos m.unit) :
            ¬∃ m ∈ ((taken s p).line l).monitors, g = monitorLeg m := fun ⟨m, hm', e⟩ => hm m hm' e
        have line := (taken s p).line_makePrivate l
        have links : ((taken s p).makePrivate l).links = (taken s p).links := by simp
        refine ⟨answered_answered _ _ links (by simp), answered_toldLine _ _ ?_ (fun l' hl => ?_) links, ?_, fun l' hl => ?_,
          fun q m => ?_, fun b hb => ⟨fun m hm => ?_, fun g hm => ?_, fun b' hb' => ?_⟩, fun g hm => ?_, ?_⟩
        · rw [line, if_pos rfl]; simp [Line.view, privacy]
        · exact (line l').trans (if_neg hl)
        · exact (answered_line ..).trans ((line l).trans (if_pos rfl))
        · exact (answered_line ..).trans ((line l').trans (if_neg hl))
        · exact (answered_selection ..).trans ((taken s p).selection_makePrivate l q m)
        · rw [answered_leg]; exact detached _ ⟨m, hm, rfl⟩ b hb
        · rw [answered_bridge, Bridge.settle_contributors]; exact contributors b g (gone g hm)
        · rw [answered_bridge, other b' fun e => hb' (by simpa [hb] using e.symm)]; rfl
        · rw [answered_leg]; exact stays g (gone g hm)
        · exact State.eq_of_fields
  | false =>
    have decided : (taken s p).privacyKey p k false =
        (.accepted, (taken s p).setLine l { s.line l with currentPrivacy := .shared }) := by
      simp [State.privacyKey, lookup, occupied, owner]
    cases privacy : (s.line l).currentPrivacy with
    | shared =>
      have same : (taken s p).setLine l { s.line l with currentPrivacy := .shared } = taken s p := by
        rw [← privacy]; exact (taken s p).setLine_line l
      obtain ⟨u, e, same⟩ := unmoved .accepted (decided.trans (by rw [same])) (by simp)
      exact ⟨u, e, fun h => by simp [occupied] at h, fun _ h => absurd owner h, nofun, nofun, fun _ _ _ => same, nofun, nofun⟩
    | secluded =>
      refine ⟨_, served decided, fun h => by simp [occupied] at h, fun _ h => absurd owner h, nofun, nofun, nofun, nofun,
        fun _ _ _ => ⟨answered_answered _ _, answered_toldLine _ _ ?_ fun l' hl => ?_, ?_, fun l' hl => ?_, ?_⟩⟩
      · simp [Line.view, privacy]
      · simp [State.line_setLine, hl]
      · simp
      · simp [State.line_setLine, hl]
      · exact State.eq_of_fields

/-- Settles O17: SIGNAL and ACKNOWLEDGE by their checks; a mark that stands already is told to nobody. -/
theorem signalRingsAcknowledgeClears : Obligations.SignalRingsAcknowledgeClears := by
  refine ⟨fun s p k l ready running key live kept inService => ?_, fun s p k l ready running key live kept inService => ?_⟩
  · have lookup : (taken s p).lookup p k = .ok l := State.lookup_ok key live kept inService
    have served {r : AnswerResult} {v : State} (e : (taken s p).signalKey p k = (r, v)) :
        exec ((TurretRequest.signal k).command p) s = .next (answered s p 0x06#8 r v) := exec_lineRequest rfl ready running e
    by_cases nailed : (s.line l).kind = .nailed
    · exact ⟨_, served (by simp [State.signalKey, lookup, nailed]), fun _ => answered_unmoved s p _ _ (by simp),
        fun h => absurd nailed h, fun h => absurd nailed h⟩
    by_cases occupied : (s.line l).occupiedBy p = true
    · have decided : (taken s p).signalKey p k = (.accepted, (taken s p).startBurst l) := by
        simp [State.signalKey, lookup, nailed, occupied]
      have line (l' : LineNo) : ((taken s p).startBurst l).line l' =
          if l' = l then { s.line l with marks := { (s.line l).marks with ringOut := true } } else s.line l' := by
        simp [State.startBurst, State.startTimer, State.line_setLine]
      have timer (id : TimerId) : ((taken s p).startBurst l).timer id =
          if id = .burst l then (s.timer (.burst l)).start (s.line l).burst else s.timer id := by
        by_cases e : id = .burst l
        · subst e; simp [State.startBurst, State.startTimer]
        · simp [State.startBurst, State.startTimer, e, State.timer_setTimer_ne]
      have others : ∀ l', l' ≠ l → ((taken s p).startBurst l).line l' = s.line l' := fun l' hl => (line l').trans (if_neg hl)
      refine ⟨_, served decided, fun h => absurd h nailed, fun _ h => by simp [occupied] at h, fun _ _ =>
        ⟨answered_answered _ _, fun clear => answered_toldLine _ _ ?_ others, fun set => answered_quiet (l := l) _ _ ?_ others,
          ?_, ?_, fun l' hl => ?_, fun id hid => ?_, ?_⟩⟩
      · rw [line, if_pos rfl]; exact Line.view_ne_of_mark Marks.ringOut (by simp [clear])
      · rw [line, if_pos rfl]; simp [Line.view, ← set]
      · rw [answered_line, line, if_pos rfl]
      · rw [answered_timer, timer, if_pos rfl]; simp [Timer.start, Config.framesPerMs]
      · rw [answered_line, others l' hl]
      · rw [answered_timer, timer, if_neg hid]
      · exact State.eq_of_fields
    · exact ⟨_, served (by simp [State.signalKey, lookup, nailed, occupied]), fun h => absurd h nailed,
        fun _ _ => answered_unmoved s p _ _ (by simp), fun _ h => absurd h occupied⟩
  · have lookup : (taken s p).lookup p k = .ok l := State.lookup_ok key live kept inService
    have decided : (taken s p).acknowledgeKey p k =
        (.accepted, (taken s p).setLine l { s.line l with marks := { (s.line l).marks with missed := false } }) := by
      simp [State.acknowledgeKey, lookup]
    have served := exec_lineRequest (t := .acknowledge k) rfl ready running decided
    cases missed : (s.line l).marks.missed with
    | false =>
      have same : (taken s p).setLine l { s.line l with marks := { (s.line l).marks with missed := false } } = taken s p := by
        rw [← missed]; exact (taken s p).setLine_line l
      rw [same] at served
      exact ⟨_, served, fun _ => answered_unmoved s p _ _ (by simp), nofun⟩
    | true =>
      refine ⟨_, served, nofun, fun _ => ⟨answered_answered _ _, answered_toldLine _ _ ?_ fun l' hl => ?_, ?_, fun l' hl => ?_, ?_⟩⟩
      · rw [State.line_setLine_self]; exact Line.view_ne_of_mark Marks.missed (by simp [missed])
      · simp [State.line_setLine, hl]
      · simp
      · simp [State.line_setLine, hl]
      · exact State.eq_of_fields

end Sys2Proof.Proofs
end

section
/-! SEIZE and RETRIEVE of a line in use (R29, R37): a handset that joins the bridge, moves to the other handset of its position, or
retrieves a held line. -/

set_option Elab.async false

namespace Sys2Proof.Machine

open Safety

/-! ### A leg that joins the bridge of an owner (R95) -/

theorem State.contributors_join (s : State) (b : BridgeNo) (g : LegNo) :
    ((s.join b g).bridge b).contributors =
      if g ∈ (s.bridge b).contributors then (s.bridge b).contributors else (s.bridge b).contributors ++ [g] := by
  obtain ⟨r, e⟩ := s.bridge_join b g
  rw [e]
  unfold Bridge.addContributor
  split <;> split <;> simp_all

/-- A leg that has joined a bridge contributes to it. -/
theorem State.mem_contributors_join (s : State) (b : BridgeNo) (g : LegNo) : g ∈ ((s.join b g).bridge b).contributors := by
  rw [State.contributors_join]
  split <;> simp_all

/-- The two handsets of a position have legs of their own (R91). -/
theorem handsetLeg_inj {p q : Pos} {h k : Handset} (e : handsetLeg p h = handsetLeg q k) : p = q ∧ h = k := by
  have := congrArg Fin.val e
  cases h <;> cases k <;> simp only [handsetLeg] at this
  · exact ⟨Fin.ext (by omega), rfl⟩
  · omega
  · omega
  · exact ⟨Fin.ext (by omega), rfl⟩

/-- A handset without a current line leaves none behind (R30). -/
theorem State.dealWith_free {s : State} {o : Occupant} (l : LineNo) (h : s.currentLine o = none) : s.dealWith o l = s := by
  simp [State.dealWith, h]

/-- The requests that seize the line at a key with a handset. -/
theorem exec_seize {s : State} {p : Pos} {k : Key} {h : Handset} {t : TurretRequest} {r : AnswerResult} {v : State}
    (ht : t = .seize k h ∨ t = .retrieve k h) (ready : Ready s p t.message) (running : s.resetting = false)
    (decided : (taken s p).seizeKey p k h = (r, v)) : exec (t.command p) s = .next (answered s p t.code r v) := by
  rcases ht with rfl | rfl <;> exact exec_lineRequest rfl ready running decided

/-! ### SEIZE of a CONNECTED line (R29) -/

theorem State.seizeKey_connected {s : State} {p : Pos} {k : Key} {l : LineNo} (h : Handset) (key : s.keyLine p k = some l)
    (state : (s.line l).state = .connected) : s.seizeKey p k h = s.seizeConnected l ⟨p, h⟩ := by
  have lookup : s.lookup p k = .ok l := State.lookup_ok key (by simp [state]) (by simp [state]) (by simp [state])
  simp [State.seizeKey, lookup, state]

/-- A position that does not occupy a line has no handset on it. -/
theorem Line.find_of_not_occupied {x : Line} {p : Pos} (h : x.occupiedBy p = false) :
    (x.occupants.find? fun y => y.pos == p) = none := by
  simpa [Line.occupiedBy] using h

theorem Line.not_mem_of_not_occupied {x : Line} {p : Pos} (h : x.occupiedBy p = false) (k : Handset) :
    ⟨p, k⟩ ∉ x.occupants := fun hm => by
  have := List.find?_eq_none.1 (Line.find_of_not_occupied h) _ hm
  simp at this

theorem State.seizeConnected_own {s : State} {l : LineNo} {o : Occupant} (h : o ∈ (s.line l).occupants) :
    s.seizeConnected l o = (.accepted, s) := by
  simp [State.seizeConnected, h]

theorem State.seizeConnected_secluded {s : State} {l : LineNo} {p : Pos} (h : Handset) (out : (s.line l).occupiedBy p = false)
    (privacy : (s.line l).currentPrivacy = .secluded) : s.seizeConnected l ⟨p, h⟩ = (.refused .secluded, s) := by
  simp [State.seizeConnected, Line.not_mem_of_not_occupied out, Line.find_of_not_occupied out, privacy]

theorem State.seizeConnected_full {s : State} {l : LineNo} {p : Pos} (h : Handset) (out : (s.line l).occupiedBy p = false)
    (privacy : (s.line l).currentPrivacy = .shared) (full : 4 ≤ (s.line l).occupants.length) :
    s.seizeConnected l ⟨p, h⟩ = (.refused .full, s) := by
  simp [State.seizeConnected, Line.not_mem_of_not_occupied out, Line.find_of_not_occupied out, privacy, Config.maxOccupants, full]

/-- The handset that joins a shared line with a place. -/
theorem State.seizeConnected_join {s : State} {l : LineNo} {p : Pos} {h : Handset} {b : BridgeNo}
    (out : (s.line l).occupiedBy p = false) (privacy : (s.line l).currentPrivacy = .shared)
    (place : (s.line l).occupants.length < 4) (bridge : (s.line l).bridge = some b) (free : s.currentLine ⟨p, h⟩ = none) :
    s.seizeConnected l ⟨p, h⟩ =
      (.accepted,
        (s.join b (handsetLeg p h)).setLine l { s.line l with occupants := (s.line l).occupants ++ [⟨p, h⟩] }) := by
  simp [State.seizeConnected, Line.not_mem_of_not_occupied out, Line.find_of_not_occupied out, privacy, Config.maxOccupants,
    Nat.not_le.2 place, State.dealWith_free l free, bridge, State.joinOwn]

/-- The occupancy that moves to the other handset of its position. -/
theorem State.seizeConnected_move {s : State} {l : LineNo} {p : Pos} {h h' : Handset} {b : BridgeNo}
    (new : ⟨p, h⟩ ∉ (s.line l).occupants) (old : ⟨p, h'⟩ ∈ (s.line l).occupants) (bridge : (s.line l).bridge = some b)
    (free : s.currentLine ⟨p, h⟩ = none) :
    s.seizeConnected l ⟨p, h⟩ =
      (.accepted,
        ((s.leave b (handsetLeg p h')).join b (handsetLeg p h)).setLine l
          { s.line l with occupants := (s.line l).occupants.map fun e => if e = ⟨p, h'⟩ then ⟨p, h⟩ else e }) := by
  have found : (s.line l).occupants.find? (fun y => y.pos == p) = some ⟨p, h'⟩ := by
    cases e : (s.line l).occupants.find? fun y => y.pos == p with
    | none =>
      have := List.find?_eq_none.1 e _ old
      simp at this
    | some o =>
      have at_p : o.pos = p := by simpa using List.find?_some e
      have other : o.handset ≠ h := fun eq => new (by rw [← at_p, ← eq]; exact List.mem_of_find?_eq_some e)
      have other' : h' ≠ h := fun eq => new (eq ▸ old)
      have : o.handset = h' := by revert other other'; cases o.handset <;> cases h <;> cases h' <;> simp
      rw [← at_p, ← this]
  simp [State.seizeConnected, new, found, State.dealWith_free l free, State.moveHandset, bridge, State.joinOwn, State.leaveOwn]

/-! ### RETRIEVE of a HELD line (R37) -/

theorem State.seizeKey_held {s : State} {p : Pos} {k : Key} {l : LineNo} (h : Handset) (key : s.keyLine p k = some l)
    (state : (s.line l).state = .held) : s.seizeKey p k h = s.seizeHeld l ⟨p, h⟩ := by
  have lookup : s.lookup p k = .ok l := State.lookup_ok key (by simp [state]) (by simp [state]) (by simp [state])
  simp [State.seizeKey, lookup, state]

theorem Line.retrievableBy_iff (x : Line) (p : Pos) :
    x.retrievableBy p = true ↔ x.holdOwner = some p ∨ x.holdMode = .common ∨ x.marks.recalled = true := by
  simp [Line.retrievableBy, or_assoc]

theorem State.seizeHeld_permitted {s : State} {l : LineNo} {p : Pos} {h : Handset} {b : BridgeNo}
    (permitted : (s.line l).retrievableBy p = true) (bridge : (s.line l).bridge = some b)
    (free : s.currentLine ⟨p, h⟩ = none) :
    s.seizeHeld l ⟨p, h⟩ =
      (.accepted,
        ((s.cancelTimer (.holdRecall l)).join b (handsetLeg p h)).setLine l
          { s.line l with
            state := .connected, occupants := [⟨p, h⟩], holdOwner := none
            marks := { (s.line l).marks with recalled := false } }) := by
  simp [State.seizeHeld, permitted, State.dealWith_free l free, bridge, State.joinOwn]

end Sys2Proof.Machine

namespace Sys2Proof.Proofs

open Machine Safety

/-- Settles O12: SEIZE of a CONNECTED line by who occupies it, then by privacy and by the places left. -/
theorem seizeJoinsOrIsRefused : Obligations.SeizeJoinsOrIsRefused := by
  intro s p k h l t ht ready running key state
  obtain ⟨r, v, decided⟩ : ∃ r v, (taken s p).seizeConnected l ⟨p, h⟩ = (r, v) := ⟨_, _, rfl⟩
  refine ⟨_, exec_seize ht ready running ((State.seizeKey_connected (s := taken s p) h key state).trans decided), fun own => ?_,
    fun b h' new old bridge free => ?_, fun b out bridge privacy place free => ?_, fun out privacy => ?_,
    fun out privacy full => ?_⟩
  · cases decided.symm.trans (State.seizeConnected_own (s := taken s p) own)
    exact answered_unmoved s p _ _ (by simp)
  · cases decided.symm.trans (State.seizeConnected_move (s := taken s p) new old bridge free)
    have other : handsetLeg p h ≠ handsetLeg p h' := fun e => new ((handsetLeg_inj e).2 ▸ old)
    refine ⟨answered_answered _ _, answered_toldLine _ _ ?_ fun l' hl => ?_, ?_, ?_, ?_, ?_, fun g hg hg' => ?_, fun l' hl => ?_,
      fun b' hb => ?_, State.eq_of_fields⟩
    · rw [State.line_setLine_self]
      intro e
      have moved : (s.line l).occupants = _ := congrArg LineView.occupants e
      rw [moved] at new
      exact new (List.mem_map.2 ⟨_, old, if_pos rfl⟩)
    · simp [State.line_setLine, hl]
    · simp
    · rw [answered_bridge, Bridge.settle_contributors]
      exact State.mem_contributors_join _ b _
    · simp [State.leg_join]
    · simp only [answered_leg, State.leg_setLine, State.leg_join, if_neg other.symm, State.leg_leave]
      split
      · simp
      · rename_i n; exact fun e => n ⟨trivial, e⟩
    · simp [State.leg_join, State.leg_leave, hg, hg']
    · simp [State.line_setLine, hl]
    · simp [State.bridge_join_ne, State.bridge_leave_ne, hb]
  · cases decided.symm.trans (State.seizeConnected_join (s := taken s p) out privacy place bridge free)
    refine ⟨answered_answered _ _, answered_toldLine _ _ ?_ fun l' hl => ?_, ?_, ?_, ?_, fun g hg => ?_, fun l' hl => ?_,
      fun b' hb => ?_, State.eq_of_fields⟩
    · rw [State.line_setLine_self]
      exact fun e => by simpa [Line.view] using congrArg (fun v : LineView => v.occupants.length) e
    · simp [State.line_setLine, hl]
    · simp
    · rw [answered_bridge, Bridge.settle_contributors]
      exact State.contributors_join _ b _
    · simp [State.leg_join]
    · simp [State.leg_join, hg]
    · simp [State.line_setLine, hl]
    · simp [State.bridge_join_ne, hb]
  · cases decided.symm.trans (State.seizeConnected_secluded (s := taken s p) h out privacy)
    exact answered_unmoved s p _ _ (by simp)
  · cases decided.symm.trans (State.seizeConnected_full (s := taken s p) h out privacy full)
    exact answered_unmoved s p _ _ (by simp)

/-- Settles O13: RETRIEVE of a HELD line by whether the position may (R37). -/
theorem heldLineIsRetrieved : Obligations.HeldLineIsRetrieved := by
  intro s p k h l t ht ready running key state
  obtain ⟨r, v, decided⟩ : ∃ r v, (taken s p).seizeHeld l ⟨p, h⟩ = (r, v) := ⟨_, _, rfl⟩
  refine ⟨_, exec_seize ht.symm ready running ((State.seizeKey_held (s := taken s p) h key state).trans decided),
    fun b permitted bridge free => ?_, fun refused => ?_⟩
  · cases decided.symm.trans
      (State.seizeHeld_permitted (s := taken s p) ((Line.retrievableBy_iff _ p).2 permitted) bridge free)
    refine ⟨answered_answered _ _, answered_toldLine _ _ ?_ fun l' hl => ?_, ?_, ?_, ?_, ?_, fun l' hl => ?_, fun id hid => ?_,
      fun g hg => ?_, fun b' hb => ?_, State.eq_of_fields⟩
    · rw [State.line_setLine_self]
      exact fun e => by simpa [Line.view, state] using congrArg LineView.state e
    · simp [State.line_setLine, hl]
    · simp
    · simp
    · rw [answered_bridge, Bridge.settle_contributors]
      exact State.mem_contributors_join _ b _
    · simp [State.leg_join]
    · simp [State.line_setLine, hl]
    · simp [State.timer_setTimer_ne _ _ hid]
    · simp [State.leg_join, hg]
    · simp [State.bridge_join_ne, hb]
  · have no : (s.line l).retrievableBy p = false := by
      rw [Bool.eq_false_iff]; exact fun e => refused ((Line.retrievableBy_iff _ p).1 e)
    cases decided.symm.trans (show (taken s p).seizeHeld l ⟨p, h⟩ = (.refused .notHolder, taken s p) by
      simp [State.seizeHeld, no])
    exact answered_unmoved s p _ _ (by simp)

end Sys2Proof.Proofs
end

section
/-! The return to rest of a line (R3), what the Trunk Unit serves, and reversion to the primary (R141, R142). -/

set_option Elab.async false

namespace Sys2Proof.Machine

open Safety

/-! ### The bridge freed and the timers stopped -/

theorem State.leg_freeBridge (s : State) (b : BridgeNo) (g : LegNo) :
    (s.freeBridge b).leg g = if (s.leg g).attach = some b then { s.leg g with attach := none } else s.leg g := by
  simp only [State.freeBridge, State.leg, Fin.getElem_fin, getElem_tabMap]
  rfl

theorem State.freeBridge_detaches (s : State) (b : BridgeNo) (g : LegNo) : ((s.freeBridge b).leg g).attach ≠ some b := by
  rw [State.leg_freeBridge]
  split
  · simp
  · assumption

/-- Two timers cancelled. -/
theorem State.timer_cancelTwo (s : State) (a b id : TimerId) :
    (id ≠ a → id ≠ b → (s.cancelTimers [a, b]).timer id = s.timer id) ∧
      (id = a ∨ id = b → ((s.cancelTimers [a, b]).timer id).running = false) := by
  have first (t : TimerId) : (s.cancelTimers [a, b]).timer t =
      if t = b then ((s.cancelTimer a).timer b).cancel ((s.cancelTimer a).expiryInFlight b) else (s.cancelTimer a).timer t := by
    by_cases e : t = b
    · subst e; simp [State.cancelTimers]
    · simp [State.cancelTimers, e, State.timer_setTimer_ne]
  refine ⟨fun ha hb => ?_, fun h => ?_⟩
  · rw [first, if_neg hb, State.cancelTimer_eq, State.timer_setTimer_ne _ _ ha]
  · rw [first]
    split
    · simp
    · rename_i hb
      rw [h.resolve_right hb]
      simp

/-! ### The bulleted parts of a return to rest (R3) -/

theorem State.line_takeDown (s : State) (l l' : LineNo) :
    (s.takeDown l).line l' =
      if l' = l then
        { s.line l with
          occupants := [], monitors := [], holdOwner := none, bridge := none, currentPrivacy := (s.line l).defaultPrivacy
          marks := { (s.line l).marks with recalled := false, farSignal := false, ringOut := false } }
      else s.line l' := by
  have left := (s.leaveHandsets (s.line l).bridge (s.line l).occupants).line_dropAll l
  simp only [State.line_leaveHandsets] at left
  unfold State.takeDown
  dsimp only
  rw [State.modLine_eq, State.line_setLine]
  simp only [State.line_freeOwn, State.line_cancelTimers, left]
  split
  · rfl
  · rename_i h; simp [State.line_dropMonitors, h]

theorem State.selection_takeDown (s : State) (l : LineNo) (q : Pos) (n : UnitNo) :
    (s.takeDown l).selection q n = if ⟨q, n⟩ ∈ (s.line l).monitors then .none else s.selection q n := by
  simp only [State.takeDown, State.modLine_eq, State.selection_setLine, State.selection_freeOwn, State.selection_cancelTimers,
    State.selection_dropMonitors, State.selection_leaveHandsets]

theorem State.timer_takeDown (s : State) (l : LineNo) (id : TimerId) :
    (id ≠ .holdRecall l → id ≠ .burst l → (s.takeDown l).timer id = s.timer id) ∧
      (id = .holdRecall l ∨ id = .burst l → ((s.takeDown l).timer id).running = false) := by
  have two := ((s.leaveHandsets (s.line l).bridge (s.line l).occupants).dropMonitors l (s.line l).monitors).timer_cancelTwo
    (.holdRecall l) (.burst l) id
  simp only [State.timer_dropMonitors, State.timer_leaveHandsets] at two
  simpa only [State.takeDown, State.modLine_eq, State.timer_setLine, State.timer_freeOwn] using two

/-- The legs that a line's handsets and monitors give up. -/
abbrev lineLegs (x : Line) (g : LegNo) : Prop := (∃ o ∈ x.occupants, g = occupantLeg o) ∨ ∃ m ∈ x.monitors, g = monitorLeg m

/-- The bridges and legs once the handsets and monitors have left, before the bridge is freed. -/
theorem State.takeDown_legs (s : State) (l : LineNo) :
    ∃ t : State, LegsLeave s t (s.line l).bridge (lineLegs (s.line l)) ∧
      (∀ b, (s.takeDown l).bridge b = (t.freeOwn (s.line l).bridge).bridge b) ∧
      ∀ g, (s.takeDown l).leg g = (t.freeOwn (s.line l).bridge).leg g := by
  have first := s.leaveHandsets_legs_leave (s.line l).bridge (s.line l).occupants
  have next := (s.leaveHandsets (s.line l).bridge (s.line l).occupants).dropMonitors_legs_leave l (s.line l).monitors
  rw [State.line_leaveHandsets] at next
  refine ⟨((s.leaveHandsets (s.line l).bridge (s.line l).occupants).dropMonitors l (s.line l).monitors).cancelTimers
    [.holdRecall l, .burst l], (first.trans next).after, fun b => ?_, fun g => ?_⟩ <;> simp [State.takeDown]

theorem State.takeDown_frees {s : State} {l : LineNo} {b : BridgeNo} (h : (s.line l).bridge = some b) :
    (s.takeDown l).bridge b = Bridge.free ∧ ∀ g, ((s.takeDown l).leg g).attach ≠ some b := by
  obtain ⟨t, -, bridge, leg⟩ := s.takeDown_legs l
  simp only [h, State.freeOwn] at bridge leg
  exact ⟨by rw [bridge, State.bridge_freeBridge, if_pos rfl], fun g => by rw [leg]; exact t.freeBridge_detaches b g⟩

theorem State.takeDown_bridge_ne {s : State} {l : LineNo} {b : BridgeNo} (h : (s.line l).bridge ≠ some b) :
    (s.takeDown l).bridge b = s.bridge b := by
  obtain ⟨t, left, bridge, -⟩ := s.takeDown_legs l
  rw [bridge, ← left.other b h]
  cases hb : (s.line l).bridge with
  | none => rfl
  | some n => exact (t.bridge_freeBridge n b).trans (if_neg fun e => h (by rw [hb, e]))

/-- A leg that a line gives up, and was no member of its bridge, stays as it is. -/
theorem State.takeDown_leg {s : State} {l : LineNo} {g : LegNo} (h : ¬lineLegs (s.line l) g) :
    (s.takeDown l).leg g =
      if (s.leg g).attach = (s.line l).bridge then { s.leg g with attach := none } else s.leg g := by
  obtain ⟨t, left, -, leg⟩ := s.takeDown_legs l
  rw [leg]
  cases hb : (s.line l).bridge with
  | none =>
    rw [State.freeOwn, left.stays g h]
    split
    · rename_i e; rw [← e]
    · rfl
  | some n => rw [State.freeOwn, State.leg_freeBridge, left.stays g h]

/-! ### The record's part (R3) -/

theorem State.line_rest (s : State) (l l' : LineNo) :
    (s.rest l).line l' = if l' = l then rested (s.line l) else s.line l' := by
  unfold State.rest
  split
  · rename_i h
    rw [State.modLine_eq, State.line_setLine]
    split
    · simp [State.line_takeDown, rested, Line.enterLockout, h]
    · rename_i hl; simp [State.line_takeDown, hl]
  · rename_i h
    rw [State.modLine_eq, State.line_setLine]
    split
    · simp only [State.line_takeDown, rested, h, if_true]; simp
    · rename_i hl; simp [State.line_takeDown, hl]

/-- But for its line, a return to rest is its bulleted parts. -/
theorem State.rest_eq (s : State) (l : LineNo) : s.rest l = { s.takeDown l with lines := (s.rest l).lines } := by
  unfold State.rest
  split <;> exact State.eq_of_fields

@[simp] theorem State.bridge_rest (s : State) (l : LineNo) (b : BridgeNo) : (s.rest l).bridge b = (s.takeDown l).bridge b := by
  rw [State.rest_eq]; rfl

@[simp] theorem State.leg_rest (s : State) (l : LineNo) (g : LegNo) : (s.rest l).leg g = (s.takeDown l).leg g := by
  rw [State.rest_eq]; rfl

@[simp] theorem State.timer_rest (s : State) (l : LineNo) (id : TimerId) : (s.rest l).timer id = (s.takeDown l).timer id := by
  rw [State.rest_eq]; rfl

theorem State.selection_rest (s : State) (l : LineNo) (q : Pos) (n : UnitNo) :
    (s.rest l).selection q n = if ⟨q, n⟩ ∈ (s.line l).monitors then .none else s.selection q n := by
  rw [State.rest_eq]; exact s.selection_takeDown l q n

/-! ### Claims and reversion (R132, R142) -/

theorem State.line_claimLine (s : State) (l : LineNo) (sl : SlotNo) (l' : LineNo) :
    (s.claimLine l sl).line l' = if l' = l then { s.line l with route := (s.line l).routeOf sl } else s.line l' := by
  simp [State.claimLine, State.takeSlot, State.line_setLine]

theorem State.slot_claimLine (s : State) (l : LineNo) (sl n : SlotNo) :
    (s.claimLine l sl).slot n = if n = sl then { s.slot sl with state := .active, claimant := some (.line l) } else s.slot n := by
  simp [State.claimLine, State.takeSlot, State.slot_setSlot]

theorem State.slot_dropSlot (s : State) (sl : Option SlotNo) (n : SlotNo) :
    (s.dropSlot sl).slot n = if sl = some n then { s.slot n with state := .standby, claimant := none } else s.slot n := by
  cases sl with
  | none => simp [State.dropSlot]
  | some m =>
    by_cases h : n = m
    · subst h; simp [State.dropSlot]
    · simp [State.dropSlot, State.slot_setSlot, h, Ne.symm h]

theorem State.line_revert_ne (s : State) {l l' : LineNo} (h : l' ≠ l) : (s.revert l).line l' = s.line l' := by
  unfold State.revert
  dsimp only
  split
  · simp
  · simp [State.line_claimLine, h]

theorem State.line_revert {s : State} {l : LineNo} {n : SlotNo} (h : (s.line l).primary = some n) :
    (s.revert l).line l = { s.line l with route := .primary } := by
  simp [State.revert, h, State.line_claimLine, Line.routeOf]

theorem State.slot_revert {s : State} {l : LineNo} {n : SlotNo} (h : (s.line l).primary = some n) (sl : SlotNo) :
    (s.revert l).slot sl =
      if sl = n then { (s.dropSlot (s.line l).alternate).slot n with state := .active, claimant := some (.line l) }
      else (s.dropSlot (s.line l).alternate).slot sl := by
  simp [State.revert, h, State.slot_claimLine]

/-! ### What the serving of a slot leaves alone (R141, R143) -/

/-- A line that neither waits for a slot nor reverts. -/
abbrev Settled (x : Line) : Prop := x.waiting = false ∧ x.route ≠ .alternate

theorem State.line_regainLine_ne (s : State) {l l' : LineNo} (sl : SlotNo) (h : l' ≠ l) :
    (s.regainLine l sl).line l' = s.line l' := by
  unfold State.regainLine
  dsimp only
  split <;> simp [State.line_claimLine, State.line_setLine, h]

/-- A waiting line is not a settled one. -/
theorem State.waitingLine_ne {s : State} {sl : SlotNo} {l k : LineNo} (h : Settled (s.line l)) (w : s.waitingLine sl = some k) :
    l ≠ k := by
  rintro rfl
  have := List.find?_some w
  simp [h.1] at this

theorem State.line_serveOne {s : State} {l : LineNo} (h : Settled (s.line l)) (sl : SlotNo) :
    (s.serveOne sl).1.line l = s.line l := by
  unfold State.serveOne
  repeat' split
  · simp [State.claimChannel, State.takeSlot]
  · rfl
  · rename_i k w; exact s.line_regainLine_ne sl (State.waitingLine_ne h w)
  · rfl
  · rename_i k w; exact s.line_regainLine_ne sl (State.waitingLine_ne h w)
  · rfl
  · rfl

/-- The serving of a slot, with what it frees, leaves a settled line alone. -/
theorem State.line_serve (fuel : Nat) {s : State} {l : LineNo} (h : Settled (s.line l)) (sl : SlotNo) :
    (State.serve fuel s sl).line l = s.line l := by
  induction fuel generalizing s sl with
  | zero => rfl
  | succ n ih =>
    have one := State.line_serveOne h sl
    unfold State.serve
    generalize s.serveOne sl = r at one
    obtain ⟨s1, o⟩ := r
    have h1 : Settled (s1.line l) := one ▸ h
    cases o with
    | none => exact one
    | some k =>
      dsimp only
      split
      · rename_i reverts
        have other : l ≠ k := by
          rintro rfl
          simp [State.revertible] at reverts
          exact h1.2 reverts.1.2
        have kept := (s1.line_revert_ne other).trans one
        split
        · exact kept
        · exact (ih (kept ▸ h) _).trans kept
      · exact one

/-- A slot that no line waits for, and that is no primary, finds nobody (R141). -/
theorem State.serve_unsought (fuel : Nat) {s : State} {a : SlotNo} (h : Unsought s a) : State.serve fuel s a = s := by
  have nobody : s.waitingLine a = none := List.find?_eq_none.2 fun l _ => by
    cases w : (s.line l).waiting with
    | false => simp
    | true => simp [h.2 l w]
  have one : s.serveOne a = (s, none) := by
    unfold State.serveOne
    rw [h.1, nobody]
    dsimp only
    split <;> rfl
  cases fuel with
  | zero => rfl
  | succ n => rw [State.serve, one]

/-! ### The Trunk Unit's part in a return to rest (R142, R147) -/

theorem State.atRest_stays {s : State} {l : LineNo} (h : s.revertible l = false) : s.atRest l = s := by
  simp [State.atRest, State.atRestAll, State.revertAtRest, h]

theorem State.atRest_reverts {s : State} {l : LineNo} (h : s.revertible l = true) :
    s.atRest l = match (s.line l).alternate with
      | none => (s.revert l).post .route
      | some a => State.serve Config.chainFuel ((s.revert l).post .route) a := by
  unfold State.atRest State.atRestAll
  simp only [List.foldl_cons, List.foldl_nil, State.revertAtRest, h, if_true]
  cases (s.line l).alternate with
  | none => rfl
  | some a => simp [insertAsc]

/-- A line at rest that reverts is on its primary. -/
theorem State.line_atRest {s : State} {l : LineNo} (h : s.revertible l = true) :
    (s.atRest l).line l = { s.line l with route := .primary } := by
  obtain ⟨⟨idle, -⟩, standby⟩ : ((s.line l).state = .idle ∧ (s.line l).route = .alternate) ∧ s.isStandby (s.line l).primary = true := by
    simpa [State.revertible] using h
  obtain ⟨n, primary⟩ : ∃ n, (s.line l).primary = some n := by
    cases e : (s.line l).primary with
    | none => simp [e, State.isStandby] at standby
    | some n => exact ⟨n, rfl⟩
  rw [State.atRest_reverts h]
  have reverted : ((s.revert l).post .route).line l = { s.line l with route := .primary } := State.line_revert primary
  split
  · exact reverted
  · exact (State.line_serve _ (by rw [reverted]; exact ⟨by simp [Line.waiting, idle], by simp⟩) _).trans reverted

/-- ROUTE is posted once where a line reverts. -/
theorem State.atRest_mp {s : State} {l : LineNo} (h : s.revertible l = true) :
    (s.atRest l).mp = { s.mp with flags := s.mp.flags ||| Event.route.mask } := by
  rw [State.atRest_reverts h]
  split <;> simp [State.post]

/-- The alternate that a reversion frees is sought by nobody who did not seek it before. -/
theorem State.revert_unsought {s : State} {l : LineNo} {n a : SlotNo} (idle : (s.line l).state = .idle)
    (primary : (s.line l).primary = some n) (ne : n ≠ a) (free : Unsought s a) : Unsought (s.revert l) a := by
  refine ⟨?_, fun k hk => ?_⟩
  · rw [State.slot_revert primary, if_neg ne.symm, State.slot_dropSlot]
    split <;> exact free.1
  · by_cases e : k = l
    · subst e
      rw [State.line_revert primary] at hk
      simp [Line.waiting, idle] at hk
    · rw [s.line_revert_ne e] at hk ⊢
      exact free.2 k hk

/-- Reversion that frees an alternate which nobody seeks. -/
theorem State.atRest_unsought {s : State} {l : LineNo} {n a : SlotNo} (h : s.revertible l = true)
    (primary : (s.line l).primary = some n) (alternate : (s.line l).alternate = some a) (ne : n ≠ a) (free : Unsought s a) :
    s.atRest l = (s.revert l).post .route := by
  rw [State.atRest_reverts h, alternate]
  have idle : (s.line l).state = .idle := by
    simp only [State.revertible, Bool.and_eq_true, beq_iff_eq] at h
    exact h.1.1
  exact State.serve_unsought _ (State.revert_unsought idle primary ne free)

end Sys2Proof.Machine
end

section
/-! RELEASE, FORCE-RELEASE, and the expiries of a line's timers (R33, R35, R38, R43, R46). -/

set_option Elab.async false

namespace Sys2Proof.Machine

open Safety Laws

theorem State.isStandby_congr {s t : State} (h : t.slots = s.slots) (sl : Option SlotNo) : t.isStandby sl = s.isStandby sl := by
  unfold State.isStandby State.slot
  rw [h]

/-- Whether a line that has come to rest reverts (R142). -/
theorem State.revertible_rested {s : State} {l : LineNo} {x : Line} (h : s.line l = rested x) :
    s.revertible l = true ↔
      ¬(x.marks.noRoute = true ∨ x.route ≠ .alternate ∨ s.isStandby x.primary = false) := by
  unfold State.revertible
  rw [h]
  cases e : x.marks.noRoute <;> simp [rested, e]

/-- Lines that differ in their states differ in their visible fields (R7). -/
theorem Line.view_ne_of_state {x y : Line} (h : x.state ≠ y.state) : x.view ≠ y.view :=
  fun e => h (congrArg LineView.state e)

theorem Line.view_ne_of_occupants {x y : Line} (h : x.occupants ≠ y.occupants) : x.view ≠ y.view :=
  fun e => h (congrArg LineView.occupants e)

/-! ### RELEASE (R33) -/

/-- A line and its bridge without an occupant. -/
def State.without (s : State) (l : LineNo) (o : Occupant) : State :=
  (s.setLine l { s.line l with occupants := (s.line l).occupants.erase o }).leaveOwn (s.line l).bridge (occupantLeg o)

theorem State.line_without (s : State) (l : LineNo) (o : Occupant) (l' : LineNo) :
    (s.without l o).line l' =
      if l' = l then { s.line l with occupants := (s.line l).occupants.erase o } else s.line l' := by
  simp [State.without, State.line_setLine]

theorem State.without_legs_leave (s : State) (l : LineNo) (o : Occupant) :
    LegsLeave s (s.without l o) (s.line l).bridge (· = occupantLeg o) :=
  (State.leaveOwn_legs_leave _ _ _).before rfl rfl

/-- Nothing else of the state has changed. -/
theorem State.without_frame (s : State) (l : LineNo) (o : Occupant) :
    s.without l o =
      { s with lines := (s.without l o).lines, bridges := (s.without l o).bridges, legs := (s.without l o).legs } := by
  unfold State.without
  exact State.eq_of_fields

/-- An occupant that leaves others behind. -/
theorem State.releaseOccupant_more {s : State} {l : LineNo} {o : Occupant} (h : (s.line l).occupants.erase o ≠ []) :
    s.releaseOccupant l o = s.without l o := by
  have left : s.vacate l o = s.without l o := by
    unfold State.vacate
    exact if_neg fun e => h (by simpa using e)
  unfold State.releaseOccupant
  rw [left]
  exact if_neg fun e => h (by simpa [State.line_without] using e)

/-- The last occupant takes the line to rest. -/
theorem State.releaseOccupant_last {s : State} {l : LineNo} {o : Occupant} (h : (s.line l).occupants = [o]) :
    s.releaseOccupant l o = (s.without l o).returnToRest l := by
  have left : s.vacate l o = (s.without l o).rest l := by
    unfold State.vacate
    exact if_pos (by simp [h])
  unfold State.releaseOccupant
  rw [left]
  exact if_pos (by simp [State.line_rest, rested])

/-- An occupant entry taken out of a list that it does not make up alone leaves one. -/
theorem erase_ne_nil_of_ne {α : Type} [DecidableEq α] {xs : List α} {x : α} (h : x ∈ xs) (ne : xs ≠ [x]) : xs.erase x ≠ [] := by
  intro e
  have length := List.length_erase_of_mem h
  rw [e, List.length_nil] at length
  obtain ⟨y, rfl⟩ := List.length_eq_one_iff.1 (show xs.length = 1 by have := List.length_pos_of_mem h; omega)
  exact ne (by rw [List.mem_singleton.1 h])

/-- What a state with line `l` brought to rest as `x` was says of it: `s` is the state before, `t` after, but for reversion. -/
structure RestedTo (s t : State) (l : LineNo) : Prop where
  line : ∀ k, t.line k = if k = l then rested (s.line l) else s.line k
  slots : t.slots = s.slots
  mp : t.mp = s.mp

/-- Where the line does not revert, its return to rest is all. -/
theorem RestedTo.stays {s t : State} {l : LineNo} (h : RestedTo s t l) (k : Stays s l) : t.atRest l = t := by
  refine State.atRest_stays ?_
  rw [← Bool.not_eq_true, State.revertible_rested ((h.line l).trans (if_pos rfl)), State.isStandby_congr h.slots]
  exact not_not_intro k

theorem RestedTo.reverts {s t : State} {l : LineNo} (h : RestedTo s t l) (k : ¬Stays s l) : t.revertible l = true := by
  rw [State.revertible_rested ((h.line l).trans (if_pos rfl)), State.isStandby_congr h.slots]
  exact k

/-- A slot after a line that came to rest has reverted from its alternate `a` to its primary `n`. -/
theorem RestedTo.slot_revert {s t : State} {l : LineNo} {n a : SlotNo} (h : RestedTo s t l) (primary : (s.line l).primary = some n)
    (alternate : (s.line l).alternate = some a) (ne : n ≠ a) (sl : SlotNo) :
    (t.revert l).slot sl =
      if sl = n then { s.slot n with state := .active, claimant := some (.line l) }
      else if sl = a then { s.slot a with state := .standby, claimant := none } else s.slot sl := by
  have own : t.line l = rested (s.line l) := (h.line l).trans (if_pos rfl)
  have slot (m : SlotNo) : t.slot m = s.slot m := by simp only [State.slot, h.slots]
  have alternate' : (t.line l).alternate = some a := by rw [own]; exact alternate
  rw [State.slot_revert (s := t) (by rw [own]; exact primary), alternate', State.slot_dropSlot, State.slot_dropSlot, slot, slot]
  by_cases e : sl = n
  · rw [if_pos e, if_pos e, if_neg (by simpa using ne.symm)]
  · rw [if_neg e, if_neg e]
    by_cases e' : sl = a
    · subst e'; simp
    · rw [if_neg (by simpa using Ne.symm e'), if_neg e']

/-- The reversion is all where nobody seeks the alternate given up. -/
theorem RestedTo.reverts_unsought {s t : State} {l : LineNo} {n a : SlotNo} (h : RestedTo s t l) (moves : ¬Stays s l)
    (primary : (s.line l).primary = some n) (alternate : (s.line l).alternate = some a) (ne : n ≠ a) (unsought : Unsought s a) :
    t.atRest l = (t.revert l).post .route := by
  have own : t.line l = rested (s.line l) := (h.line l).trans (if_pos rfl)
  have calm : (s.line l).marks.noRoute = false := Bool.eq_false_iff.2 fun e => moves (.inl e)
  have free : Unsought t a := by
    refine ⟨by simp only [State.slot, h.slots]; exact unsought.1, fun k hk => ?_⟩
    by_cases e : k = l
    · rw [e, own] at hk
      simp [Line.waiting, rested, calm] at hk
    · rw [h.line, if_neg e] at hk ⊢
      exact unsought.2 k hk
  exact State.atRest_unsought (h.reverts moves) (by rw [own]; exact primary) (by rw [own]; exact alternate) ne free

theorem State.rest_restedTo (s : State) (l : LineNo) : RestedTo s (s.rest l) l := ⟨s.line_rest l, by simp, by simp⟩

theorem State.without_rest_restedTo (s : State) (l : LineNo) (o : Occupant) : RestedTo s ((s.without l o).rest l) l := by
  refine ⟨fun k => ?_, ?_, ?_⟩
  · rw [State.line_rest]
    split
    · rw [State.line_without, if_pos rfl]; rfl
    · rename_i h; rw [State.line_without, if_neg h]
  · rw [State.rest_slots, State.without_frame]
  · rw [State.rest_mp, State.without_frame]

/-! ### The end of an alert (R35, R43) -/

theorem State.line_endAlert (s : State) (l l' : LineNo) :
    (s.endAlert l).line l' = if l' = l then { s.line l with refGen := none } else s.line l' := by
  unfold State.endAlert
  dsimp only
  split
  · rename_i h
    split
    · rename_i e; subst e; rw [← h]; simp
    · simp
  · simp [State.line_setLine]

theorem State.timer_endAlert (s : State) (l : LineNo) (id : TimerId) :
    (id ≠ .ringTimeout l → (s.endAlert l).timer id = s.timer id) ∧
      ((s.endAlert l).timer (.ringTimeout l)).running = false := by
  unfold State.endAlert
  dsimp only
  split <;> simp +contextual [State.timer_setTimer_ne]

theorem State.generator_endAlert {s : State} {l : LineNo} {n : GenNo} (h : (s.line l).refGen = some n) (n' : GenNo) :
    (s.endAlert l).generator n' = if n' = n then (s.generator n).dropRef else s.generator n' := by
  simp [State.endAlert, h, State.generator_setGenerator]

/-- A reference dropped: the last one leaves the generator IDLE (R151). -/
theorem Generator.dropRef_refs (g : Generator) : g.dropRef.refs = g.refs - 1 ∧ (g.refs = 1 → g.dropRef.state = .idle) := by
  unfold Generator.dropRef
  refine ⟨?_, fun h => ?_⟩ <;> (repeat' split) <;> simp_all

/-- The line of an alert that has ended. -/
def alertEnded (x : Line) (missed : Bool) : Line :=
  { x with
    state := .idle, currentPrivacy := x.defaultPrivacy, refGen := none
    marks := { x.marks with missed := x.marks.missed || missed } }

/-- The state with an alert ended, before the Trunk Unit's part. -/
def State.alertOver (s : State) (l : LineNo) (missed : Bool) : State :=
  (s.endAlert l).setLine l (alertEnded (s.line l) missed)

theorem State.alertToRest_eq (s : State) (l : LineNo) (missed : Bool) : s.alertToRest l missed = (s.alertOver l missed).atRest l := by
  unfold State.alertToRest State.alertOver
  rw [State.modLine_eq, State.line_endAlert, if_pos rfl]
  rfl

theorem State.line_alertOver (s : State) (l : LineNo) (missed : Bool) (l' : LineNo) :
    (s.alertOver l missed).line l' = if l' = l then alertEnded (s.line l) missed else s.line l' := by
  simp only [State.alertOver, State.line_setLine]
  split
  · rfl
  · rename_i h; rw [State.line_endAlert, if_neg h]

theorem State.alertOver_revertible (s : State) (l : LineNo) (missed : Bool) :
    (s.alertOver l missed).revertible l = true ↔ ¬StaysIdle s l := by
  have slots : (s.alertOver l missed).slots = s.slots := by simp [State.alertOver]
  unfold State.revertible
  rw [State.line_alertOver, if_pos rfl, State.isStandby_congr slots]
  simp [alertEnded]

theorem State.alertOver_frame (s : State) (l : LineNo) (missed : Bool) :
    s.alertOver l missed =
      { s with
        lines := (s.alertOver l missed).lines, timers := (s.alertOver l missed).timers
        generators := (s.alertOver l missed).generators } := by
  unfold State.alertOver
  exact State.eq_of_fields

/-- An alert that ends and does not revert, and one that does. -/
theorem State.alertToRest_stays {s : State} {l : LineNo} (missed : Bool) (h : StaysIdle s l) :
    s.alertToRest l missed = s.alertOver l missed := by
  rw [State.alertToRest_eq]
  refine State.atRest_stays ?_
  rw [← Bool.not_eq_true, State.alertOver_revertible]
  exact not_not_intro h

theorem State.alertToRest_reverts {s : State} {l : LineNo} (missed : Bool) (h : ¬StaysIdle s l) :
    (s.alertToRest l missed).line l = { alertEnded (s.line l) missed with route := .primary } ∧
      (s.alertToRest l missed).mp = { s.mp with flags := s.mp.flags ||| Event.route.mask } := by
  have reverts := (s.alertOver_revertible l missed).2 h
  rw [State.alertToRest_eq, State.line_atRest reverts, State.atRest_mp reverts, State.line_alertOver, if_pos rfl,
    State.alertOver_frame]
  exact ⟨rfl, rfl⟩

theorem State.timer_alertToRest (s : State) (l : LineNo) (missed : Bool) (id : TimerId) :
    (id ≠ .ringTimeout l → (s.alertToRest l missed).timer id = s.timer id) ∧
      ((s.alertToRest l missed).timer (.ringTimeout l)).running = false := by
  rw [State.alertToRest_eq]
  simpa [State.alertOver] using s.timer_endAlert l id

theorem State.generator_alertToRest {s : State} {l : LineNo} {n : GenNo} (missed : Bool) (h : (s.line l).refGen = some n) (n' : GenNo) :
    (s.alertToRest l missed).generator n' = if n' = n then (s.generator n).dropRef else s.generator n' := by
  rw [State.alertToRest_eq]
  simpa [State.alertOver] using State.generator_endAlert h n'

end Sys2Proof.Machine
end

section
/-! RELEASE, FORCE-RELEASE, and the expiries of a line's timers, settled. -/

set_option Elab.async false

namespace Sys2Proof.Machine

open Safety Laws

/-! ### FORCE-RELEASE, by the state of the line (R35) -/

theorem State.forceRelease_at {s : State} {w : CmdWords} {l : LineNo} (h : w.w1 = word l.val) :
    s.forceRelease w =
      match (s.line l).state with
      | .vacant => refuse .vacant s
      | .connected | .held => (some .done, finishAct none [] s (s.returnToRest l))
      | .alerting => (some .done, finishAct none [] s (s.alertToRest l false))
      | _ => (some .done, s) := by
  simp only [State.forceRelease, h, toFin?_word (by decide : 192 ≤ 65536) l] <;> cases (s.line l).state <;> rfl

/-! ### An expiry that acts (R159) -/

/-- The state in which a current expiry acts: it has left. -/
def expired (s : State) (t : TimerId) : State := { s with inFlight := s.inFlight.erase ⟨t, (s.timer t).run⟩ }

@[simp] theorem expired_lines (s : State) (t : TimerId) : (expired s t).lines = s.lines := rfl
@[simp] theorem expired_directories (s : State) (t : TimerId) : (expired s t).directories = s.directories := rfl
@[simp] theorem expired_channels (s : State) (t : TimerId) : (expired s t).channels = s.channels := rfl
@[simp] theorem expired_selections (s : State) (t : TimerId) : (expired s t).selections = s.selections := rfl
@[simp] theorem expired_bridges (s : State) (t : TimerId) : (expired s t).bridges = s.bridges := rfl
@[simp] theorem expired_legs (s : State) (t : TimerId) : (expired s t).legs = s.legs := rfl
@[simp] theorem expired_slots (s : State) (t : TimerId) : (expired s t).slots = s.slots := rfl
@[simp] theorem expired_generators (s : State) (t : TimerId) : (expired s t).generators = s.generators := rfl
@[simp] theorem expired_timers (s : State) (t : TimerId) : (expired s t).timers = s.timers := rfl
@[simp] theorem expired_reports (s : State) (t : TimerId) : (expired s t).reports = s.reports := rfl
@[simp] theorem expired_links (s : State) (t : TimerId) : (expired s t).links = s.links := rfl
@[simp] theorem expired_pointer (s : State) (t : TimerId) : (expired s t).pointer = s.pointer := rfl
@[simp] theorem expired_frameCount (s : State) (t : TimerId) : (expired s t).frameCount = s.frameCount := rfl
@[simp] theorem expired_mp (s : State) (t : TimerId) : (expired s t).mp = s.mp := rfl
@[simp] theorem expired_pending (s : State) (t : TimerId) : (expired s t).pending = s.pending := rfl
@[simp] theorem expired_line (s : State) (t : TimerId) (l : LineNo) : (expired s t).line l = s.line l := rfl
@[simp] theorem expired_channel (s : State) (t : TimerId) (c : ChanNo) : (expired s t).channel c = s.channel c := rfl
@[simp] theorem expired_bridge (s : State) (t : TimerId) (b : BridgeNo) : (expired s t).bridge b = s.bridge b := rfl
@[simp] theorem expired_leg (s : State) (t : TimerId) (g : LegNo) : (expired s t).leg g = s.leg g := rfl
@[simp] theorem expired_slot (s : State) (t : TimerId) (n : SlotNo) : (expired s t).slot n = s.slot n := rfl
@[simp] theorem expired_generator (s : State) (t : TimerId) (n : GenNo) : (expired s t).generator n = s.generator n := rfl
@[simp] theorem expired_timer (s : State) (t : TimerId) (id : TimerId) : (expired s t).timer id = s.timer id := rfl
@[simp] theorem expired_link (s : State) (t : TimerId) (p : Pos) : (expired s t).link p = s.link p := rfl
@[simp] theorem expired_inFlight (s : State) (t : TimerId) :
    (expired s t).inFlight = s.inFlight.erase ⟨t, (s.timer t).run⟩ := rfl

/-- The indications of an expiry's act. -/
theorem expired_told {s v : State} {t : TimerId} (cs : List ChanNo) (links : v.links = s.links) :
    ToldAll cs s (finishAct none cs (expired s t) v) := fun q => by
  have link : v.link q = (expired s t).link q := by simp only [State.link, links]; rfl
  rw [finishAct_link none cs _ v q link]
  exact told_congr (s := s) (t := finishAct none cs (expired s t) v) {} ⟨by simp, by simp, by simp⟩ rfl none cs

/-- The indications of a hold recall on one position's link (R38). -/
theorem State.link_notifyRecall (s : State) (l : LineNo) (q : Pos) :
    (s.notifyRecall l).link q =
      ((s.line l).appearances.filter fun a => a.pos == q).foldl
        (fun y a =>
          y.indicate ⟨.key a.key, if (s.line l).holdOwner = some q then .holdRecall else .lineState, (s.line l).content⟩)
        (s.link q) := by
  unfold State.notifyRecall
  rw [foldl_enqueueAt_link Appearance.pos]
  refine List.foldl_ext _ _ _ fun y a ha => ?_
  have : a.pos = q := by simpa using (List.mem_filter.1 ha).2
  rw [this]

/-- A recall's indications change the links alone. -/
theorem State.notifyRecall_frame (s : State) (l : LineNo) : s.notifyRecall l = { s with links := (s.notifyRecall l).links } := by
  have keeps {α : Type} (f : State → α) (h : ∀ t p i, f (State.enqueueAt t p i) = f t) : f (s.notifyRecall l) = f s :=
    foldl_keeps f _ (fun _ _ => h _ _ _) _ _
  exact State.eq_of_fields (keeps _ (by simp)) (keeps _ (by simp)) (keeps _ (by simp)) (keeps _ (by simp)) (keeps _ (by simp))
    (keeps _ (by simp)) (keeps _ (by simp)) (keeps _ (by simp)) (keeps _ (by simp)) (keeps _ (by simp)) (keeps _ (by simp)) rfl
    (keeps _ (by simp)) (keeps _ (by simp)) (keeps _ (by simp)) (keeps _ (by simp))

end Sys2Proof.Machine

namespace Sys2Proof.Proofs

open Machine Safety Laws

/-- Settles O14: an occupant among several leaves (`State.without`); the last one takes the line to rest, and TU's part is read off
`State.atRest`. -/
theorem releaseFreesHandset : Obligations.ReleaseFreesHandset := by
  intro s p h ready running
  have served {r : AnswerResult} {v : State} (e : (taken s p).releaseHandset p h = (r, v)) :
      exec ((TurretRequest.release h).command p) s = .next (answered s p 0x03#8 r v) := exec_lineRequest rfl ready running e
  cases current : s.currentLine ⟨p, h⟩ with
  | none =>
    exact ⟨_, served (by simp [State.releaseHandset, current]), fun _ => answered_unmoved s p _ _ (by simp), nofun⟩
  | some l =>
    have member := State.mem_of_currentLine current
    have decided : (taken s p).releaseHandset p h = (.accepted, (taken s p).releaseOccupant l ⟨p, h⟩) := by
      simp [State.releaseHandset, current]
    by_cases sole : (s.line l).occupants = [⟨p, h⟩]
    · rw [State.releaseOccupant_last (s := taken s p) sole] at decided
      refine ⟨_, served decided, nofun, fun k b hk hb => ?_⟩
      cases hk
      have left : ((taken s p).without l ⟨p, h⟩).line l = { s.line l with occupants := [] } := by
        rw [State.line_without, if_pos rfl]; simp [sole]
      have bridge : (((taken s p).without l ⟨p, h⟩).line l).bridge = some b := by rw [left]; exact hb
      have rests := (taken s p).without_rest_restedTo l ⟨p, h⟩
      have line (k : LineNo) := rests.line k
      have timers (id : TimerId) := ((taken s p).without l ⟨p, h⟩).timer_takeDown l id
      have frame := (taken s p).without_frame l ⟨p, h⟩
      have timer (id : TimerId) : ((taken s p).without l ⟨p, h⟩).timer id = s.timer id := by rw [frame]; rfl
      have links : (((taken s p).without l ⟨p, h⟩).returnToRest l).links = (taken s p).links := by
        rw [State.returnToRest_links, frame]
      have pointer : (((taken s p).without l ⟨p, h⟩).returnToRest l).pointer = p + 1 := by
        rw [State.returnToRest_pointer, frame]; rfl
      refine ⟨answered_answered _ _ links pointer, fun e => absurd sole e, fun _ => ⟨?_, ?_, fun id ha hb => ?_, fun q m => ?_,
        fun stays => ?_, fun moves => ⟨answered_indications _ _ links, ?_, ?_, fun n a primary alternate ne unsought => ?_⟩⟩⟩
      · rw [answered_timer, State.returnToRest, State.timer_atRest, State.timer_rest]; exact (timers _).2 (.inl rfl)
      · rw [answered_timer, State.returnToRest, State.timer_atRest, State.timer_rest]; exact (timers _).2 (.inr rfl)
      · rw [answered_timer, State.returnToRest, State.timer_atRest, State.timer_rest, (timers id).1 ha hb, timer]
      · rw [answered_selection, State.returnToRest, State.selection_atRest, State.selection_rest, left]
        rw [frame]; rfl
      · have still : ((taken s p).without l ⟨p, h⟩).returnToRest l = ((taken s p).without l ⟨p, h⟩).rest l := rests.stays stays
        rw [still] at links ⊢
        refine ⟨answered_toldLine _ _ ?_ (fun k hk => (line k).trans (if_neg hk)) links, ?_, fun k hk => ?_, ?_, fun g => ?_, ?_⟩
        · rw [line, if_pos rfl]; exact Line.view_ne_of_occupants (by simp [sole, rested])
        · rw [answered_line, line, if_pos rfl]; rfl
        · rw [answered_line, line, if_neg hk]; rfl
        · rw [answered_bridge, State.bridge_rest, (State.takeDown_frees bridge).1, Bridge.settle_free]
        · rw [answered_leg, State.leg_rest]; exact (State.takeDown_frees bridge).2 g
        · unfold State.without; exact State.eq_of_fields
      · rw [answered_line, State.returnToRest, State.line_atRest (rests.reverts moves), line, if_pos rfl]; rfl
      · rw [answered_mp, State.returnToRest, State.atRest_mp (rests.reverts moves), rests.mp]; rfl
      · have reverted : ((taken s p).without l ⟨p, h⟩).returnToRest l = _ := rests.reverts_unsought moves primary alternate ne unsought
        have slots (sl : SlotNo) : (((taken s p).without l ⟨p, h⟩).returnToRest l).slot sl = _ :=
          (congrArg (State.slot · sl) reverted).trans (rests.slot_revert primary alternate ne sl)
        refine ⟨?_, ?_, fun sl hn ha => ?_, fun k hk => ?_⟩
        · rw [answered_slot, slots, if_pos rfl]; rfl
        · rw [answered_slot, slots, if_neg ne.symm, if_pos rfl]; rfl
        · rw [answered_slot, slots, if_neg hn, if_neg ha]; rfl
        · rw [answered_line, reverted]
          exact (State.line_revert_ne _ hk).trans ((line k).trans (if_neg hk))
    · have more := erase_ne_nil_of_ne member sole
      rw [State.releaseOccupant_more (s := taken s p) more] at decided
      refine ⟨_, served decided, nofun, fun k b hk hb => ?_⟩
      cases hk
      have line := (taken s p).line_without l ⟨p, h⟩
      have left := (taken s p).without_legs_leave l ⟨p, h⟩
      have frame := (taken s p).without_frame l ⟨p, h⟩
      have links : ((taken s p).without l ⟨p, h⟩).links = (taken s p).links := by rw [frame]
      have pointer : ((taken s p).without l ⟨p, h⟩).pointer = p + 1 := by rw [frame]; rfl
      refine ⟨answered_answered _ _ links pointer, fun _ => ⟨answered_toldLine _ _ ?_ (fun k hk => (line k).trans (if_neg hk)) links,
        ?_, fun k hk => ?_, ?_, fun b' hb' => ?_, ?_, fun g hg => ?_, ?_⟩, fun e => absurd e sole⟩
      · rw [line, if_pos rfl]
        refine Line.view_ne_of_occupants fun e => ?_
        have length := List.length_erase_of_mem member
        have := List.length_pos_of_mem member
        have same : (s.line l).occupants.length = ((s.line l).occupants.erase ⟨p, h⟩).length := congrArg List.length e
        omega
      · rw [answered_line, line, if_pos rfl]; rfl
      · rw [answered_line, line, if_neg hk]; rfl
      · rw [answered_bridge, Bridge.settle_contributors]
        have own : ((taken s p).line l).bridge = some b := hb
        unfold State.without
        rw [own]
        obtain ⟨r, e⟩ := State.bridge_leave
          ((taken s p).setLine l { (taken s p).line l with occupants := ((taken s p).line l).occupants.erase ⟨p, h⟩ }) b
          (occupantLeg ⟨p, h⟩)
        exact (congrArg Bridge.contributors e).trans rfl
      · rw [answered_bridge, left.other b' fun e => hb' (Option.some.inj (e.symm.trans hb))]; rfl
      · rw [answered_leg]; exact left.detached _ rfl b hb
      · rw [answered_leg]; exact left.stays g hg
      · rw [frame]; exact State.eq_of_fields

/-- Settles O29: FORCE-RELEASE by the state of the line. -/
theorem forceReleaseReturnsToRest : Obligations.ForceReleaseReturnsToRest := by
  refine ⟨fun s w ready bad => congrArg Host.Outcome.next (command_refused s _ w _ ready ?_), fun s w l ready hl => ?_⟩
  · show (loaded s 0x06#8 w).forceRelease w = _
    rw [State.forceRelease, toFin?_out bad]
  have decided := State.forceRelease_at (s := loaded s 0x06#8 w) hl
  refine ⟨fun vacant => congrArg Host.Outcome.next (command_refused s _ w _ ready (decided.trans ?_)), fun rest =>
    congrArg Host.Outcome.next (command_refused s _ w _ ready (decided.trans ?_)), fun inUse => ?_, fun alerting => ?_⟩
  · rw [loaded_line, vacant]
  · rcases rest with e | e <;> (rw [loaded_line, e]; rfl)
  · have runs : s.command 0x06#8 w = completed s 0x06#8 w [] ((loaded s 0x06#8 w).returnToRest l) .done :=
      command_done s _ 0x06#8 w _ ready (decided.trans (by rcases inUse with e | e <;> rw [loaded_line, e]))
    have rests := (loaded s 0x06#8 w).rest_restedTo l
    have line := rests.line
    have timers (id : TimerId) := (loaded s 0x06#8 w).timer_takeDown l id
    refine ⟨_, congrArg Host.Outcome.next runs, completed_told s _ w _ _ (by simp), ?_, ?_, fun id ha hb => ?_, fun q m => ?_,
      fun stays => ?_, fun moves => ⟨?_, ?_⟩⟩
    · rw [completed_timer, State.returnToRest, State.timer_atRest, State.timer_rest]; exact (timers _).2 (.inl rfl)
    · rw [completed_timer, State.returnToRest, State.timer_atRest, State.timer_rest]; exact (timers _).2 (.inr rfl)
    · rw [completed_timer, State.returnToRest, State.timer_atRest, State.timer_rest, (timers id).1 ha hb]; rfl
    · rw [completed_selection, State.returnToRest, State.selection_atRest]; exact (loaded s 0x06#8 w).selection_rest l q m
    · have still : (loaded s 0x06#8 w).returnToRest l = (loaded s 0x06#8 w).rest l := rests.stays stays
      rw [still]
      refine ⟨completed_mp s _ w _ _ (by simp), ?_, fun k hk => ?_, fun b hb => ⟨?_, fun g => ?_, fun b' hb' => ?_⟩,
        State.eq_of_fields⟩
      · rw [completed_line, line, if_pos rfl]; rfl
      · rw [completed_line, line, if_neg hk]; rfl
      · rw [completed_bridge, State.bridge_rest, (State.takeDown_frees (s := loaded s 0x06#8 w) hb).1, Bridge.settle_free]
      · rw [completed_leg, State.leg_rest]; exact (State.takeDown_frees (s := loaded s 0x06#8 w) hb).2 g
      · rw [completed_bridge, State.bridge_rest, Bridge.settle_state, State.takeDown_bridge_ne]
        · rfl
        · exact fun e => hb' (Option.some.inj (e.symm.trans hb))
    · exact completed_posted s _ w _ _ .route (by
        rw [State.returnToRest, State.atRest_mp (rests.reverts moves), rests.mp]; rfl)
    · rw [completed_line, State.returnToRest, State.line_atRest (rests.reverts moves), line, if_pos rfl]; rfl
  · have runs : s.command 0x06#8 w = completed s 0x06#8 w [] ((loaded s 0x06#8 w).alertToRest l false) .done :=
      command_done s _ 0x06#8 w _ ready (decided.trans (by rw [loaded_line, alerting]))
    have timers (id : TimerId) := (loaded s 0x06#8 w).timer_alertToRest l false id
    refine ⟨_, congrArg Host.Outcome.next runs, completed_told s _ w _ _ (by simp), ?_, fun id hid => ?_, fun n hn => ⟨?_,
      fun n' hn' => ?_⟩, fun stays => ?_, fun moves => ⟨?_, ?_⟩⟩
    · rw [completed_timer]; exact (timers (.ringTimeout l)).2
    · rw [completed_timer]; exact (timers id).1 hid
    · rw [completed_generator, State.generator_alertToRest (s := loaded s 0x06#8 w) false hn, if_pos rfl]
      exact (Generator.dropRef_refs _).1
    · rw [completed_generator, State.generator_alertToRest (s := loaded s 0x06#8 w) false hn, if_neg hn']; rfl
    · rw [State.alertToRest_stays (s := loaded s 0x06#8 w) false stays]
      have line := (loaded s 0x06#8 w).line_alertOver l false
      refine ⟨completed_mp s _ w _ _ (by rw [State.alertOver_frame]), ?_, fun k hk => ?_, ?_⟩
      · rw [completed_line, line, if_pos rfl]; simp [alertEnded]
      · rw [completed_line, line, if_neg hk]; rfl
      · rw [State.alertOver_frame]; exact State.eq_of_fields
    · exact completed_posted s _ w _ _ .route ((State.alertToRest_reverts (s := loaded s 0x06#8 w) false moves).2.trans rfl)
    · rw [completed_line, (State.alertToRest_reverts (s := loaded s 0x06#8 w) false moves).1]
      simp [alertEnded]

/-- Settles O45: each expiry acts on the state it has left (`expired`). -/
theorem lineExpiriesAct : Obligations.LineExpiriesAct := by
  intro s l running
  refine ⟨fun current alerting => ?_, fun current held => ?_, fun current ringing => ?_⟩
  · have acts : s.takeExpiry (.ringTimeout l) (!s.resetting && (s.line l).state == .alerting) (fun t => t.ringTimedOut l) =
        finishAct none [] (expired s (.ringTimeout l)) ((expired s (.ringTimeout l)).alertToRest l true) := by
      rw [running, alerting]; exact takeExpiry_acts s _ _ current
    have timers (id : TimerId) := (expired s (.ringTimeout l)).timer_alertToRest l true id
    refine ⟨_, congrArg Host.Outcome.next acts, expired_told [] (by simp), by simp, ?_, fun id hid => ?_, fun n hn =>
      ⟨?_, fun last => ?_, fun n' hn' => ?_⟩, fun stays => ?_, fun moves => ⟨?_, ?_⟩⟩
    · rw [State.timer_finishAct]; exact (timers (.ringTimeout l)).2
    · rw [State.timer_finishAct]; exact (timers id).1 hid
    · rw [State.generator_finishAct, State.generator_alertToRest (s := expired s (.ringTimeout l)) true hn, if_pos rfl]
      exact (Generator.dropRef_refs _).1
    · rw [State.generator_finishAct, State.generator_alertToRest (s := expired s (.ringTimeout l)) true hn, if_pos rfl]
      exact (Generator.dropRef_refs _).2 last
    · rw [State.generator_finishAct, State.generator_alertToRest (s := expired s (.ringTimeout l)) true hn, if_neg hn']; rfl
    · rw [State.alertToRest_stays (s := expired s (.ringTimeout l)) true stays]
      have line := (expired s (.ringTimeout l)).line_alertOver l true
      refine ⟨?_, fun k hk => ?_, ?_⟩
      · rw [State.line_finishAct, line, if_pos rfl]; simp [alertEnded]
      · rw [State.line_finishAct, line, if_neg hk]; rfl
      · unfold State.alertOver
        exact State.eq_of_fields (bridges := by simp [finishAct_bridges])
    · rw [State.line_finishAct, (State.alertToRest_reverts (s := expired s (.ringTimeout l)) true moves).1]
      simp [alertEnded]
    · rw [State.finishAct_mp, (State.alertToRest_reverts (s := expired s (.ringTimeout l)) true moves).2]; rfl
  · have acts : s.takeExpiry (.holdRecall l) (!s.resetting && (s.line l).state == .held) (fun t => t.recall l) =
        (expired s (.holdRecall l)).recall l := by
      rw [running, held]; exact takeExpiry_acts s _ _ current
    cases recalled : (s.line l).marks.recalled with
    | true =>
      have still : (expired s (.holdRecall l)).recall l = expired s (.holdRecall l) := if_pos recalled
      refine ⟨_, congrArg Host.Outcome.next (acts.trans still), rfl, ?_, fun _ _ => rfl, fun _ => rfl, nofun, rfl⟩
      rw [expired_line, ← recalled]
    | false =>
      have tells : (expired s (.holdRecall l)).recall l = ((expired s (.holdRecall l)).setLine l
          { s.line l with marks := { (s.line l).marks with recalled := true } }).notifyRecall l :=
        if_neg (by simp [recalled])
      rw [tells, State.notifyRecall_frame] at acts
      refine ⟨_, congrArg Host.Outcome.next acts, rfl, State.line_setLine_self _ l _, fun k hk => State.line_setLine_ne _ _ hk,
        nofun, fun _ q => ?_, rfl⟩
      have line := State.line_setLine_self (expired s (.holdRecall l)) l
        { s.line l with marks := { (s.line l).marks with recalled := true } }
      refine (State.link_notifyRecall _ l q).trans ?_
      rw [congrArg Line.appearances line, congrArg Line.holdOwner line]
      rfl
  · have acts : s.takeExpiry (.burst l) (!s.resetting && (s.line l).marks.ringOut) (fun t => t.burstOver l) =
        finishAct none [] (expired s (.burst l)) ((expired s (.burst l)).setLine l
          { s.line l with marks := { (s.line l).marks with ringOut := false } }) := by
      rw [running, ringing]; exact takeExpiry_acts s _ _ current
    refine ⟨_, congrArg Host.Outcome.next acts, expired_told [] (by simp), by simp, by simp, fun k hk => ?_,
      State.eq_of_fields (bridges := by simp [finishAct_bridges])⟩
    simp [State.line_setLine, hk]

end Sys2Proof.Proofs
end

section
/-! CREATE-LINE: the slots that a record comes to name, and the route that it takes from its primary (R12, R13, R131, R132, R136). -/

set_option Elab.async false

namespace Sys2Proof.Machine

open Safety Laws

/-! ### Slots that a record comes to name (R131, R136) -/

/-- The state of a slot that one more record names. -/
def namedState (x : Slot) : SlotState := if x.state = .unassigned then .standby else x.state

theorem State.slot_nameSlot_self (s : State) (sl : SlotNo) (f : Slot → Slot) (h : (f (s.slot sl)).state = (s.slot sl).state) :
    (s.nameSlot sl f).slot sl = { f (s.slot sl) with state := namedState (s.slot sl) } := by
  unfold State.nameSlot namedState
  split
  · dsimp only; split <;> simp [State.startTimer]
  · rename_i e; rw [State.modSlot_eq, State.slot_setSlot_self, if_neg e, ← h]

theorem State.slot_nameSlot_ne (s : State) {sl n : SlotNo} (f : Slot → Slot) (h : n ≠ sl) :
    (s.nameSlot sl f).slot n = s.slot n := by
  unfold State.nameSlot
  split
  · dsimp only; split <;> simp [State.slot_setSlot, h, State.startTimer]
  · simp [State.slot_setSlot, h]

theorem State.slot_namePrimary (s : State) (sl : Option SlotNo) (o : Owner) (n : SlotNo) :
    (s.namePrimary sl o).slot n =
      if sl = some n then { s.slot n with primaryNamer := some o, state := namedState (s.slot n) } else s.slot n := by
  cases sl with
  | none => rfl
  | some m =>
    by_cases h : n = m
    · subst h
      exact (s.slot_nameSlot_self n (fun x => { x with primaryNamer := some o }) rfl).trans (if_pos rfl).symm
    · exact (s.slot_nameSlot_ne (fun x => { x with primaryNamer := some o }) h).trans
        (if_neg fun e => h (Option.some.inj e).symm).symm

theorem State.slot_nameAlternate (s : State) (sl : Option SlotNo) (l : LineNo) (n : SlotNo) :
    (s.nameAlternate sl l).slot n =
      if sl = some n then { s.slot n with altLines := insertAsc l (s.slot n).altLines, state := namedState (s.slot n) }
      else s.slot n := by
  cases sl with
  | none => rfl
  | some m =>
    by_cases h : n = m
    · subst h
      exact (s.slot_nameSlot_self n (fun x => { x with altLines := insertAsc l x.altLines }) rfl).trans (if_pos rfl).symm
    · exact (s.slot_nameSlot_ne (fun x => { x with altLines := insertAsc l x.altLines }) h).trans
        (if_neg fun e => h (Option.some.inj e).symm).symm

theorem State.timer_nameSlot (s : State) (sl : SlotNo) (f : Slot → Slot) (id : TimerId) :
    (s.nameSlot sl f).timer id = if id = .faultConfirm sl then confirmAtNaming s sl else s.timer id := by
  unfold State.nameSlot confirmAtNaming
  by_cases h : id = .faultConfirm sl
  · subst h
    split
    · rename_i e; dsimp only; split <;> simp_all [State.startTimer]
    · rename_i e; simp [show (s.slot sl).state ≠ .unassigned from e]
  · split
    · dsimp only; split <;> simp [h, State.startTimer, State.timer_setTimer_ne]
    · simp [h]

/-- The timers after a naming: the fault-confirm timer of the slot, and no other. -/
theorem State.timer_namePrimary (s : State) (sl : Option SlotNo) (o : Owner) (id : TimerId) :
    (∀ n, sl = some n → (s.namePrimary sl o).timer (.faultConfirm n) = confirmAtNaming s n) ∧
      ((∀ n, sl = some n → id ≠ .faultConfirm n) → (s.namePrimary sl o).timer id = s.timer id) := by
  cases sl with
  | none => exact ⟨nofun, fun _ => rfl⟩
  | some m =>
    refine ⟨fun n e => ?_, fun h => ?_⟩
    · cases e; exact (s.timer_nameSlot m _ _).trans (if_pos rfl)
    · exact (s.timer_nameSlot m _ _).trans (if_neg (h m rfl))

theorem State.timer_nameAlternate (s : State) (sl : Option SlotNo) (l : LineNo) (id : TimerId) :
    (∀ n, sl = some n → (s.nameAlternate sl l).timer (.faultConfirm n) = confirmAtNaming s n) ∧
      ((∀ n, sl = some n → id ≠ .faultConfirm n) → (s.nameAlternate sl l).timer id = s.timer id) := by
  cases sl with
  | none => exact ⟨nofun, fun _ => rfl⟩
  | some m =>
    refine ⟨fun n e => ?_, fun h => ?_⟩
    · cases e; exact (s.timer_nameSlot m _ _).trans (if_pos rfl)
    · exact (s.timer_nameSlot m _ _).trans (if_neg (h m rfl))

theorem confirmAtNaming_congr {s t : State} {n : SlotNo} (slot : t.slot n = s.slot n)
    (timer : t.timer (.faultConfirm n) = s.timer (.faultConfirm n)) (mp : t.mp.faultConfirm = s.mp.faultConfirm) :
    confirmAtNaming t n = confirmAtNaming s n := by
  unfold confirmAtNaming
  rw [slot, timer, mp]

/-! ### The route that a line takes from its primary (R13) -/

theorem State.routeFromPrimary_claims {s : State} {l : LineNo} {n : SlotNo} (h : (s.slot n).state = .standby)
    (primary : (s.line l).primary = some n) :
    s.routeFromPrimary l (some n) = (s.takeSlot n (.line l)).setLine l { (s.line l).enterIdle with route := .primary } := by
  simp [State.routeFromPrimary, h, State.claimLine, State.takeSlot, Line.enterIdle, Line.routeOf, primary,
    State.setLine_twice]

theorem State.routeFromPrimary_fails {s : State} {l : LineNo} {sl : Option SlotNo}
    (h : ∀ n, sl = some n → (s.slot n).state ≠ .standby) : s.routeFromPrimary l sl = s.setLine l (s.line l).enterLockout := by
  cases sl with
  | none => simp [State.routeFromPrimary]
  | some n => simp [State.routeFromPrimary, h n rfl]

/-! ### The decision of CREATE-LINE (R12) -/

theorem clamp_eq (lo hi x : Nat) (h : lo ≤ hi) : clamp lo hi x = max lo (min hi x) := by
  unfold clamp
  (repeat' split) <;> omega

theorem clampArg_snd (lo hi : Nat) (w : Word) : (clampArg lo hi w).2 = true ↔ w.toNat < lo ∨ hi < w.toNat := by
  simp only [clampArg, clamp, bne_iff_ne]
  (repeat' split) <;> omega

theorem State.primaryClaimed_iff (s : State) (l : LineNo) (sl : Option SlotNo) :
    s.primaryClaimed l sl = true ↔ PrimaryTaken s l sl := by
  cases sl with
  | none => simp [State.primaryClaimed, PrimaryTaken]
  | some n => simp [State.primaryClaimed, PrimaryTaken, Option.isSome_iff_ne_none]

theorem State.alternateClaimed_iff (s : State) (sl : Option SlotNo) : s.alternateClaimed sl = true ↔ AlternateTaken s sl := by
  cases sl with
  | none => simp [State.alternateClaimed, AlternateTaken]
  | some n =>
    unfold State.alternateClaimed
    cases h : (s.slot n).primaryNamer with
    | none => simp [h, AlternateTaken]
    | some o => cases o <;> simp [h, AlternateTaken]

/-- The record of a line that is created, before it has a route. -/
def createdLine (w : CmdWords) (kind : LineKind) (m : Headroom) (primary alternate : Option SlotNo) : Line :=
  { Line.vacant with
    kind := kind, state := .lockout, defaultPrivacy := (lineArgs w).privacy, currentPrivacy := (lineArgs w).privacy
    holdMode := (lineArgs w).holdMode, cadence := (lineArgs w).cadence, primary := primary, alternate := alternate
    headroom := m, ringTimeout := (clampArg 1 255 w.w5).1, holdRecall := (clampArg 0 900 w.w6).1
    burst := (clampArg 100 10000 w.w7).1 }

/-- The state in which a line that is created names its slots. -/
def State.named (s : State) (l : LineNo) (x : Line) : State :=
  ((s.setLine l x).namePrimary x.primary (.line l)).nameAlternate x.alternate l

/-- The fields of CREATE-LINE that lie in their ranges. -/
structure CreateFields (w : CmdWords) (l : LineNo) (kind : LineKind) (m : Headroom) (primary alternate : Option SlotNo) : Prop where
  lineArg : w.w1 = word l.val
  kindArg : (lineArgs w).kind = some kind
  modeArg : (lineArgs w).headroom = some m
  primaryArg : (lineArgs w).primary = some primary
  alternateArg : (lineArgs w).alternate = some alternate
  apart : primary = none ∨ primary ≠ alternate

theorem State.createLine_at (s : State) {w : CmdWords} {l : LineNo} {kind : LineKind} {m : Headroom}
    {primary alternate : Option SlotNo} (h : CreateFields w l kind m primary alternate) :
    s.createLine w =
      if (s.line l).state ≠ .vacant then refuse .exists s
      else if s.primaryClaimed l primary then refuse .slotClaimed s
      else if s.alternateClaimed alternate then refuse .slotClaimed s
      else
        (some (clampedResult ((clampArg 1 255 w.w5).2 || (clampArg 0 900 w.w6).2 || (clampArg 100 10000 w.w7).2)),
          finishAct none [] s
            ((s.named l (createdLine w kind m primary alternate)).routeFromPrimary l primary)) := by
  obtain ⟨lineArg, kindArg, modeArg, primaryArg, alternateArg, apart⟩ := h
  have differ : ¬(primary.isSome = true ∧ primary = alternate) := by
    rintro ⟨some, same⟩
    exact apart.elim (fun e => by simp [e] at some) fun e => e same
  unfold State.createLine
  simp only [lineArg, toFin?_word (by decide : 192 ≤ 65536) l, kindArg, modeArg, primaryArg, alternateArg, if_neg differ]
  rfl

theorem slotArg_out {x : Word} (h : SlotOut x) : slotArg x = none := by
  simp [slotArg, h.1, toFin?_out (show 256 ≤ x.toNat from h.2)]

theorem slotArg_some {x : Word} (h : x ≠ 0xFFFF#16) : slotArg x ≠ some none := by
  simp [slotArg, h]

theorem State.createLine_bad (s : State) {w : CmdWords} (h : CreateLineBad w) : s.createLine w = refuse .badField s := by
  unfold State.createLine
  dsimp only
  split
  · rename_i l kind headroom primary alternate lineArg kindArg modeArg primaryArg alternateArg
    refine if_pos ?_
    rcases h with h | h | h | h | h | ⟨same, some⟩
    · rw [toFin?_out h] at lineArg; cases lineArg
    · simp [lineArgs, h, lineKindArg] at kindArg
    · simp [lineArgs, headroomArg, h, toFin?] at modeArg
    · simp [lineArgs, slotArg_out h] at primaryArg
    · simp [lineArgs, slotArg_out h] at alternateArg
    · have named : primary ≠ none := fun e => slotArg_some some (by rw [← e]; exact primaryArg)
      refine ⟨by simpa [Option.isSome_iff_ne_none] using named, ?_⟩
      simp only [lineArgs, same] at primaryArg alternateArg
      exact Option.some.inj (primaryArg.symm.trans alternateArg)
  · rfl

/-! ### The links of an act that tells nobody -/

theorem State.links_eq {s t : State} (h : ∀ q, t.link q = s.link q) : t.links = s.links := by
  refine Vector.ext fun i hi => ?_
  exact h ⟨i, hi⟩

/-- A line that appears nowhere is told to nobody. -/
theorem toldLine_nowhere {u : State} {l : LineNo} (h : (u.line l).appearances = []) (q : Pos) (x : Link) : toldLine u q x l = x := by
  simp [toldLine, h]

end Sys2Proof.Machine
end

section
/-! CREATE-LINE, settled. -/

set_option Elab.async false

namespace Sys2Proof.Machine

open Safety Laws

/-- What a line takes from its primary (R13): its route and state, and the slot where it is STANDBY. -/
structure RoutedFrom (t v : State) (l : LineNo) (primary : Option SlotNo) : Prop where
  line : v.line l = if t.isStandby primary then { (t.line l).enterIdle with route := .primary } else (t.line l).enterLockout
  others : ∀ k, k ≠ l → v.line k = t.line k
  slot : ∀ n, v.slot n =
    if t.isStandby primary = true ∧ primary = some n then { t.slot n with state := .active, claimant := some (.line l) }
    else t.slot n
  frame : v = { t with lines := v.lines, slots := v.slots }

theorem State.routeFromPrimary_routed {t : State} {l : LineNo} {primary : Option SlotNo} (h : (t.line l).primary = primary) :
    RoutedFrom t (t.routeFromPrimary l primary) l primary := by
  cases standby : t.isStandby primary with
  | true =>
    obtain ⟨n, rfl⟩ : ∃ n, primary = some n := by
      cases primary with
      | none => cases standby
      | some n => exact ⟨n, rfl⟩
    have free : (t.slot n).state = .standby := by simpa [State.isStandby] using standby
    rw [State.routeFromPrimary_claims free h]
    refine ⟨?_, fun k hk => ?_, fun m => ?_, State.eq_of_fields (by simp) (by simp [State.takeSlot]) (by simp [State.takeSlot])
      (by simp [State.takeSlot]) (by simp [State.takeSlot]) (by simp [State.takeSlot]) rfl (by simp [State.takeSlot])
      (by simp [State.takeSlot]) (by simp [State.takeSlot]) (by simp [State.takeSlot]) (by simp [State.takeSlot])
      (by simp [State.takeSlot]) (by simp [State.takeSlot]) (by simp [State.takeSlot]) (by simp [State.takeSlot])⟩
    · rw [State.line_setLine_self, if_pos standby]
    · simp [State.line_setLine, hk, State.takeSlot]
    · by_cases e : m = n
      · subst e; simp [State.takeSlot, standby]
      · simp [State.takeSlot, State.slot_setSlot, e, Ne.symm e]
  | false =>
    have fails : ∀ n, primary = some n → (t.slot n).state ≠ .standby := by
      rintro n rfl; simpa [State.isStandby] using standby
    rw [State.routeFromPrimary_fails fails]
    refine ⟨?_, fun k hk => ?_, fun m => ?_, State.eq_of_fields⟩
    · rw [State.line_setLine_self]; simp [standby]
    · exact State.line_setLine_ne _ _ hk
    · simp [standby]

/-- The record and the slots once a line that is created has named its slots. -/
theorem State.line_named (s : State) (l : LineNo) (x : Line) (k : LineNo) :
    (s.named l x).line k = if k = l then x else s.line k := by
  simp [State.named, State.line_setLine]

theorem State.slot_named_primary {s : State} {l : LineNo} {x : Line} {n : SlotNo} (h : x.primary = some n) (apart : x.alternate ≠ some n) :
    (s.named l x).slot n = { s.slot n with primaryNamer := some (.line l), state := namedState (s.slot n) } := by
  rw [State.named, State.slot_nameAlternate, if_neg apart, State.slot_namePrimary, if_pos h]
  rfl

theorem State.slot_named_alternate {s : State} {l : LineNo} {x : Line} {n : SlotNo} (h : x.alternate = some n) (apart : x.primary ≠ some n) :
    (s.named l x).slot n = { s.slot n with altLines := insertAsc l (s.slot n).altLines, state := namedState (s.slot n) } := by
  rw [State.named, State.slot_nameAlternate, if_pos h, State.slot_namePrimary, if_neg apart]
  rfl

theorem State.slot_named_other {s : State} {l : LineNo} {x : Line} {n : SlotNo} (hp : x.primary ≠ some n) (ha : x.alternate ≠ some n) :
    (s.named l x).slot n = s.slot n := by
  rw [State.named, State.slot_nameAlternate, if_neg ha, State.slot_namePrimary, if_neg hp]
  rfl

theorem State.timer_named_primary {s : State} {l : LineNo} {x : Line} {n : SlotNo} (h : x.primary = some n) (apart : x.alternate ≠ some n) :
    (s.named l x).timer (.faultConfirm n) = confirmAtNaming s n := by
  have other : ∀ m, x.alternate = some m → TimerId.faultConfirm n ≠ .faultConfirm m := by
    rintro m hm ⟨⟩; exact apart hm
  exact ((State.timer_nameAlternate _ _ l _).2 other).trans
    (((State.timer_namePrimary (s.setLine l x) x.primary (.line l) (.faultConfirm n)).1 n h).trans
      (confirmAtNaming_congr rfl rfl rfl))

theorem State.timer_named_alternate {s : State} {l : LineNo} {x : Line} {n : SlotNo} (h : x.alternate = some n) (apart : x.primary ≠ some n) :
    (s.named l x).timer (.faultConfirm n) = confirmAtNaming s n := by
  have other : ∀ m, x.primary = some m → TimerId.faultConfirm n ≠ .faultConfirm m := by
    rintro m hm ⟨⟩; exact apart hm
  refine ((State.timer_nameAlternate _ _ l (.faultConfirm n)).1 n h).trans (confirmAtNaming_congr ?_ ?_ ?_)
  · rw [State.slot_namePrimary, if_neg apart]; rfl
  · exact (State.timer_namePrimary (s.setLine l x) x.primary (.line l) (.faultConfirm n)).2 other
  · simp

theorem State.timer_named_other {s : State} {l : LineNo} {x : Line} {id : TimerId}
    (h : ∀ n, x.primary = some n ∨ x.alternate = some n → id ≠ .faultConfirm n) : (s.named l x).timer id = s.timer id :=
  ((State.timer_nameAlternate _ _ l id).2 fun n hn => h n (.inr hn)).trans
    ((State.timer_namePrimary (s.setLine l x) x.primary (.line l) id).2 fun n hn => h n (.inl hn))

/-- A slot can be claimed, once it is named, where it is STANDBY then (R132). -/
theorem namedState_standby {s : State} {n : SlotNo} : namedState (s.slot n) = .standby ↔ Claimable s n := by
  unfold namedState
  split <;> simp_all [Claimable]

/-- The result of a command that brings three values into range. -/
theorem clampedResult_iff {b c d : Bool} {P : Prop} [Decidable P] (h : (b || c || d) = true ↔ P) :
    clampedResult (b || c || d) = if P then .doneClamped else .done := by
  unfold clampedResult
  by_cases p : P
  · rw [if_pos p, if_pos (h.2 p)]
  · rw [if_neg p, if_neg fun e => p (h.1 e)]

end Sys2Proof.Machine

namespace Sys2Proof.Proofs

open Machine Safety Laws

/-- Settles O25: the record names its slots (`State.named`) and takes its route from its primary (`RoutedFrom`). -/
theorem createLineTakesPrimary : Obligations.CreateLineTakesPrimary := by
  refine ⟨fun s w ready bad => congrArg Host.Outcome.next (command_refused s _ w _ ready (State.createLine_bad _ bad)),
    fun s w l kind m primary alternate ready line kindArg modeArg primaryArg alternateArg apart => ?_⟩
  have decided := (loaded s 0x01#8 w).createLine_at (l := l) ⟨line, kindArg, modeArg, primaryArg, alternateArg, apart⟩
  have primaryClaimed := (loaded s 0x01#8 w).primaryClaimed_iff l primary
  have alternateClaimed := (loaded s 0x01#8 w).alternateClaimed_iff alternate
  refine ⟨fun live => congrArg Host.Outcome.next (command_refused s _ w _ ready (decided.trans (if_pos live))),
    fun vacant taken => congrArg Host.Outcome.next (command_refused s _ w _ ready (decided.trans ((if_neg (not_not_intro vacant)).trans ?_))),
    fun vacant primaryFree alternateFree => ?_⟩
  · by_cases p : (loaded s 0x01#8 w).primaryClaimed l primary = true
    · exact if_pos p
    · exact (if_neg p).trans (if_pos (alternateClaimed.2 (taken.resolve_left fun e => p (primaryClaimed.2 e))))
  generalize hx : createdLine w kind m primary alternate = x at decided
  have xPrimary : x.primary = primary := by rw [← hx]; rfl
  have xAlternate : x.alternate = alternate := by rw [← hx]; rfl
  have xNowhere : x.appearances = [] := by rw [← hx]; rfl
  have primaryApart (n : SlotNo) (h : primary = some n) : alternate ≠ some n := fun e =>
    apart.elim (fun p => by rw [p] at h; cases h) fun p => p (h.trans e.symm)
  have named := (loaded s 0x01#8 w).line_named l x
  have routed : RoutedFrom ((loaded s 0x01#8 w).named l x) (((loaded s 0x01#8 w).named l x).routeFromPrimary l primary) l primary :=
    State.routeFromPrimary_routed (by rw [named, if_pos rfl, xPrimary])
  have standby (n : SlotNo) (h : primary = some n) :
      ((loaded s 0x01#8 w).named l x).isStandby primary = true ↔ Claimable s n := by
    rw [h, State.isStandby, State.slot_named_primary (xPrimary.trans h) (by rw [xAlternate]; exact primaryApart n h), beq_iff_eq]
    exact namedState_standby (s := s)
  generalize hv : ((loaded s 0x01#8 w).named l x).routeFromPrimary l primary = v at routed decided
  have others (k : LineNo) (hk : k ≠ l) : v.line k = s.line k := by
    rw [routed.others k hk, named, if_neg hk]; rfl
  have timers (id : TimerId) : v.timer id = ((loaded s 0x01#8 w).named l x).timer id := by rw [routed.frame]; rfl
  have own : v.line l = if ((loaded s 0x01#8 w).named l x).isStandby primary then { x.enterIdle with route := .primary } else x.enterLockout := by
    rw [routed.line, named, if_pos rfl]
  have runs := command_done s _ 0x01#8 w _ ready (decided.trans ((if_neg (not_not_intro vacant)).trans
    ((if_neg fun e => primaryFree (primaryClaimed.1 e)).trans (if_neg fun e => alternateFree (alternateClaimed.1 e)))))
  generalize hr : clampedResult _ = r at runs
  replace runs : s.command 0x01#8 w = completed s 0x01#8 w [] v r := runs
  have links : v.links = s.links := by rw [routed.frame]; simp [State.named]
  have quiet : (completed s 0x01#8 w [] v r).links = s.links := by
    refine State.links_eq fun q => ?_
    rw [completed_told s _ w [] r links q, told_oneLine q (l := l) fun k hk => (completed_line ..).trans (others k hk)]
    split
    · rfl
    · refine toldLine_nowhere ?_ q _
      rw [completed_line, own]
      split <;> simpa [Line.enterIdle, Line.enterLockout] using xNowhere
  refine ⟨_, congrArg Host.Outcome.next runs, ?_, ?_, fun n hn => ⟨?_, fun can => ⟨?_, ?_, ?_⟩, fun cannot => ⟨?_, ?_, ?_⟩⟩,
    fun hn => ?_, fun n hn => ⟨?_, ?_, fun k => ?_⟩, fun n hp ha => ?_, fun id hid => ?_, fun k hk => ?_, ?_⟩
  · refine (completed_mp s _ w [] r (by rw [routed.frame]; simp [State.named])).trans ?_
    rw [← hr]
    refine congrArg _ (clampedResult_iff ?_)
    simp only [Bool.or_eq_true, clampArg_snd]
    omega
  · rw [completed_line, own]
    rw [← hx]
    split <;> simp [createdLine, Line.enterIdle, Line.enterLockout, clampArg, clamp_eq]
  · rw [completed_timer, timers, State.timer_named_primary (xPrimary.trans hn) (by rw [xAlternate]; exact primaryApart n hn)]
    exact confirmAtNaming_congr rfl rfl rfl
  · rw [completed_line, own, if_pos ((standby n hn).2 can)]; rfl
  · rw [completed_line, own, if_pos ((standby n hn).2 can)]
  · rw [completed_slot, routed.slot, if_pos ⟨(standby n hn).2 can, hn⟩,
      State.slot_named_primary (xPrimary.trans hn) (by rw [xAlternate]; exact primaryApart n hn)]
    rfl
  · rw [completed_line, own, if_neg fun e => cannot ((standby n hn).1 e)]; rfl
  · rw [completed_line, own, if_neg fun e => cannot ((standby n hn).1 e)]; rfl
  · rw [completed_slot, routed.slot, if_neg fun e => cannot ((standby n hn).1 e.1),
      State.slot_named_primary (xPrimary.trans hn) (by rw [xAlternate]; exact primaryApart n hn)]
    exact congrArg (fun st => { s.slot n with state := st, primaryNamer := some (.line l) }) (if_neg fun e => cannot (.inl e))
  · rw [completed_line, own, hn]
    exact ⟨rfl, rfl⟩
  · rw [completed_timer, timers, State.timer_named_alternate (xAlternate.trans hn)
      (by rw [xPrimary]; exact fun e => primaryApart n e hn)]
    exact confirmAtNaming_congr rfl rfl rfl
  · rw [completed_slot, routed.slot, if_neg fun e => primaryApart n e.2 hn,
      State.slot_named_alternate (xAlternate.trans hn) (by rw [xPrimary]; exact fun e => primaryApart n e hn)]
    rfl
  · rw [completed_slot, routed.slot, if_neg fun e => primaryApart n e.2 hn,
      State.slot_named_alternate (xAlternate.trans hn) (by rw [xPrimary]; exact fun e => primaryApart n e hn)]
    exact mem_insertAsc l k _
  · rw [completed_slot, routed.slot, if_neg fun e => hp e.2, State.slot_named_other (by rwa [xPrimary]) (by rwa [xAlternate])]
    rfl
  · rw [completed_timer, timers, State.timer_named_other (by rwa [xPrimary, xAlternate])]
    rfl
  · rw [completed_line]; exact others k hk
  · have frame := routed.frame
    generalize v.lines = lines, v.slots = slots at frame
    clear hv
    subst frame
    unfold State.named at quiet ⊢
    exact State.eq_of_fields (links := quiet)

end Sys2Proof.Proofs
end

section
/-! A position that leaves a line (R18, R19), and the appearances added and dropped (R16 to R19). -/

set_option Elab.async false

namespace Sys2Proof.Machine

open Safety Laws

/-! ### What a position has in a line -/

theorem diff_filter {α : Type} [DecidableEq α] (f : α → Bool) (xs : List α) : xs.diff (xs.filter f) = xs.filter fun x => !f x := by
  induction xs with
  | nil => rfl
  | cons x xs ih =>
    cases h : f x with
    | true => simp [h, List.diff_cons, ih]
    | false =>
      have out : x ∉ xs.filter f := fun e => by simp [h] at e
      rw [List.filter_cons_of_neg (by simp [h]), List.cons_diff_of_not_mem out, ih, List.filter_cons_of_pos (by simp [h])]

theorem erase_of_find? {α : Type} [DecidableEq α] {f : α → Bool} {xs : List α} {x : α} (h : xs.find? f = some x) :
    xs.erase x = xs.eraseP f := by
  induction xs with
  | nil => rfl
  | cons y ys ih =>
    cases e : f y with
    | true =>
      have : y = x := by simpa [List.find?, e] using h
      simp [this, this ▸ e]
    | false =>
      have found : f x = true := List.find?_some h
      have ne : y ≠ x := by rintro rfl; simp [e] at found
      have := ih (by simpa [List.find?, e] using h)
      simp [ne, e, this]

/-- The record of a line that a position has left (R18, R19). -/
def positionLeft (x : Line) (p : Pos) : Line :=
  if RestsWithout x p then rested x
  else
    { x with
      monitors := x.monitors.filter fun m => m.pos != p
      occupants := x.occupants.eraseP fun o => o.pos == p }

/-- `v` is `s` with everything released that position `p` has in line `l`, which does not revert. -/
structure PositionLeft (s v : State) (l : LineNo) (p : Pos) : Prop where
  line : ∀ k, v.line k = if k = l then positionLeft (s.line l) p else s.line k
  selection : ∀ q m, v.selection q m =
    if ⟨q, m⟩ ∈ (s.line l).monitors ∧ (q = p ∨ RestsWithout (s.line l) p) then .none else s.selection q m
  freed : RestsWithout (s.line l) p → ∀ b, (s.line l).bridge = some b →
    v.bridge b = Bridge.free ∧ ∀ g, (v.leg g).attach ≠ some b
  detached : ∀ b, (s.line l).bridge = some b → ∀ m ∈ (s.line l).monitors, m.pos = p → (v.leg (monitorLeg m)).attach ≠ some b
  other : ∀ b, (s.line l).bridge ≠ some b → v.bridge b = s.bridge b
  stopped : RestsWithout (s.line l) p → (v.timer (.holdRecall l)).running = false ∧ (v.timer (.burst l)).running = false
  timer : ∀ id, id ≠ .holdRecall l → id ≠ .burst l → v.timer id = s.timer id
  frame : v = { s with lines := v.lines, selections := v.selections, bridges := v.bridges, legs := v.legs, timers := v.timers }

/-- The line at rest is left by every position. -/
theorem State.rest_positionLeft {s : State} {l : LineNo} {p : Pos} (h : RestsWithout (s.line l) p) : PositionLeft s (s.rest l) l p where
  line k := by rw [State.line_rest, positionLeft, if_pos h]
  selection q m := by rw [State.selection_rest]; simp only [h, or_true, and_true]
  freed _ b hb := by simpa using State.takeDown_frees hb
  detached b hb m _ _ := by rw [State.leg_rest]; exact (State.takeDown_frees hb).2 _
  other b hb := by rw [State.bridge_rest]; exact State.takeDown_bridge_ne hb
  stopped _ := by
    rw [State.timer_rest, State.timer_rest]
    exact ⟨(s.timer_takeDown l _).2 (.inl rfl), (s.timer_takeDown l _).2 (.inr rfl)⟩
  timer id ha hb := by rw [State.timer_rest]; exact (s.timer_takeDown l id).1 ha hb
  frame := State.eq_of_fields

/-! ### The monitors of a position (R18, R48) -/

theorem State.line_dropMonitorsOf (s : State) (l : LineNo) (p : Pos) (k : LineNo) :
    (s.dropMonitorsOf l p).line k =
      if k = l then { s.line l with monitors := (s.line l).monitors.filter fun m => m.pos != p } else s.line k := by
  simp only [State.dropMonitorsOf, State.line_dropMonitors, diff_filter]
  rfl

theorem State.selection_dropMonitorsOf (s : State) (l : LineNo) (p q : Pos) (m : UnitNo) :
    (s.dropMonitorsOf l p).selection q m = if ⟨q, m⟩ ∈ (s.line l).monitors ∧ q = p then .none else s.selection q m := by
  simp [State.dropMonitorsOf, State.selection_dropMonitors]

theorem State.dropMonitorsOf_legs_leave (s : State) (l : LineNo) (p : Pos) :
    LegsLeave s (s.dropMonitorsOf l p) (s.line l).bridge fun g => ∃ m ∈ (s.line l).monitors, m.pos = p ∧ g = monitorLeg m := by
  refine (s.dropMonitors_legs_leave l _).congr fun g => ?_
  simp [and_assoc]

theorem State.dropMonitorsOf_frame (s : State) (l : LineNo) (p : Pos) :
    s.dropMonitorsOf l p =
      { s with
        lines := (s.dropMonitorsOf l p).lines, selections := (s.dropMonitorsOf l p).selections
        bridges := (s.dropMonitorsOf l p).bridges, legs := (s.dropMonitorsOf l p).legs } := by
  unfold State.dropMonitorsOf
  exact State.eq_of_fields

/-! ### The position leaves, by what it has in the line -/

/-- A position without an occupant in the line. -/
theorem State.dropMonitorsOf_positionLeft {s : State} {l : LineNo} {p : Pos} (held : (s.line l).holdOwner ≠ some p)
    (none : ∀ o ∈ (s.line l).occupants, o.pos ≠ p) : PositionLeft s (s.dropMonitorsOf l p) l p := by
  have stays : ¬RestsWithout (s.line l) p := by
    rintro (h | h)
    · exact held h
    · obtain ⟨o, ho, e⟩ := List.mem_map.1 (show p ∈ (s.line l).occupants.map Occupant.pos by simp [h])
      exact none o ho e
  have left := s.dropMonitorsOf_legs_leave l p
  have frame := s.dropMonitorsOf_frame l p
  have timer (id : TimerId) : (s.dropMonitorsOf l p).timer id = s.timer id := by rw [frame]; rfl
  refine ⟨fun k => ?_, fun q m => ?_, fun h => absurd h stays, fun b hb m hm hp => left.detached _ ⟨m, hm, hp, rfl⟩ b hb, left.other,
    fun h => absurd h stays, fun id _ _ => timer id, ?_⟩
  · rw [State.line_dropMonitorsOf, positionLeft, if_neg stays, List.eraseP_of_forall_not fun o ho => by simpa using none o ho]
  · rw [State.selection_dropMonitorsOf]
    simp only [stays, or_false]
  · rw [frame]

/-- The record of a line that a position with an occupant among others has left. -/
theorem State.without_positionLeft {s : State} {l : LineNo} {o : Occupant}
    (held : (s.line l).holdOwner ≠ some o.pos) (found : (s.line l).occupants.find? (fun y => y.pos == o.pos) = some o)
    (more : (s.line l).occupants.erase o ≠ []) : PositionLeft s ((s.dropMonitorsOf l o.pos).without l o) l o.pos := by
  have stays : ¬RestsWithout (s.line l) o.pos := by
    rintro (h | h)
    · exact held h
    · have one : (s.line l).occupants.length = 1 := by simpa using congrArg List.length h
      have := List.length_erase_of_mem (List.mem_of_find?_eq_some found)
      exact more (List.length_eq_zero_iff.1 (by omega))
  have monitors := s.dropMonitorsOf_legs_leave l o.pos
  have occupant := (s.dropMonitorsOf l o.pos).without_legs_leave l o
  have own := s.line_dropMonitorsOf l o.pos
  rw [own, if_pos rfl] at occupant
  have left := monitors.trans occupant
  have frame : (s.dropMonitorsOf l o.pos).without l o = _ := State.without_frame _ l o
  refine ⟨fun k => ?_, fun q m => ?_, fun h => absurd h stays, fun b hb m hm hp => left.detached _ (.inl ⟨m, hm, hp, rfl⟩) b hb,
    left.other, fun h => absurd h stays, fun id _ _ => ?_, ?_⟩
  · rw [State.line_without, own, own, positionLeft, if_neg stays, ← erase_of_find? found]
    simp only [if_true]
    split
    · rfl
    · rfl
  · have : ((s.dropMonitorsOf l o.pos).without l o).selection q m = (s.dropMonitorsOf l o.pos).selection q m := by rw [frame]; rfl
    rw [this, State.selection_dropMonitorsOf]
    simp only [stays, or_false]
  · rw [frame]
    have : (s.dropMonitorsOf l o.pos).timer id = s.timer id := by rw [State.dropMonitorsOf_frame]; rfl
    exact this
  · unfold State.without State.dropMonitorsOf
    exact State.eq_of_fields

/-- The sole occupant's position takes the line to rest. -/
theorem State.without_rest_positionLeft {s : State} {l : LineNo} {o : Occupant} (sole : (s.line l).occupants = [o]) :
    PositionLeft s (((s.dropMonitorsOf l o.pos).without l o).rest l) l o.pos := by
  have rests : RestsWithout (s.line l) o.pos := .inr (by rw [sole]; rfl)
  have own := s.line_dropMonitorsOf l o.pos
  have monitors := s.dropMonitorsOf_legs_leave l o.pos
  have occupant := (s.dropMonitorsOf l o.pos).without_legs_leave l o
  rw [own, if_pos rfl] at occupant
  have left := monitors.trans occupant
  generalize hw : (s.dropMonitorsOf l o.pos).without l o = w at left
  have frame : w = { s with lines := w.lines, selections := w.selections, bridges := w.bridges, legs := w.legs } := by
    subst hw
    unfold State.without State.dropMonitorsOf
    exact State.eq_of_fields
  have line (k : LineNo) : w.line k =
      if k = l then { s.line l with occupants := [], monitors := (s.line l).monitors.filter fun m => m.pos != o.pos }
      else s.line k := by
    rw [← hw, State.line_without, own, own]
    simp only [if_true, sole, List.erase_cons_head]
    split <;> rfl
  have selection (q : Pos) (m : UnitNo) : w.selection q m = (s.dropMonitorsOf l o.pos).selection q m := by
    rw [← hw, State.without_frame]; rfl
  have timer (id : TimerId) : w.timer id = s.timer id := by rw [frame]; rfl
  have bridge : (w.line l).bridge = (s.line l).bridge := by rw [line, if_pos rfl]
  have rest := State.rest_positionLeft (s := w) (l := l) (p := o.pos)
  refine ⟨fun k => ?_, fun q m => ?_, fun _ b hb => ?_, fun b hb m _ _ => ?_, fun b hb => ?_, fun _ => ?_, fun id ha hb => ?_, ?_⟩
  · rw [State.line_rest, line, line, if_pos rfl, positionLeft, if_pos rests]
    split <;> rfl
  · rw [State.selection_rest, selection, State.selection_dropMonitorsOf, line, if_pos rfl]
    simp only [rests, or_true, and_true, List.mem_filter]
    by_cases e : q = o.pos <;> simp [e]
  · rw [State.bridge_rest]
    simpa using State.takeDown_frees (bridge.trans hb)
  · rw [State.leg_rest]; exact (State.takeDown_frees (bridge.trans hb)).2 _
  · rw [State.bridge_rest, State.takeDown_bridge_ne (by rwa [bridge])]; exact left.other b hb
  · rw [State.timer_rest, State.timer_rest]
    exact ⟨(w.timer_takeDown l _).2 (.inl rfl), (w.timer_takeDown l _).2 (.inr rfl)⟩
  · rw [State.timer_rest, (w.timer_takeDown l id).1 ha hb, timer]
  · rw [frame]; exact State.eq_of_fields

/-- Everything that a position has in a line is released, where the line does not revert (R18, R19). -/
def State.leavePosition (s : State) (l : LineNo) (p : Pos) : State :=
  ((if (s.line l).holdOwner = some p then s.returnToRest l else s).dropMonitorsOf l p).releasePosition l p

theorem State.leavePosition_left {s : State} {l : LineNo} (p : Pos) (stays : Stays s l) : PositionLeft s (s.leavePosition l p) l p := by
  unfold State.leavePosition
  by_cases held : (s.line l).holdOwner = some p
  · have still : s.returnToRest l = s.rest l := (s.rest_restedTo l).stays stays
    have own : (s.rest l).line l = rested (s.line l) := (s.line_rest l l).trans (if_pos rfl)
    have monitors : (s.rest l).dropMonitorsOf l p = s.rest l := by
      rw [State.dropMonitorsOf, own]; rfl
    have occupants : (s.rest l).releasePosition l p = s.rest l := by
      rw [State.releasePosition, own]; rfl
    rw [if_pos held, still, monitors, occupants]
    exact State.rest_positionLeft (.inl held)
  · rw [if_neg held, State.releasePosition, State.line_dropMonitorsOf, if_pos rfl]
    dsimp only
    split
    · rename_i none
      exact State.dropMonitorsOf_positionLeft held fun o ho e => by simpa [e] using List.find?_eq_none.1 none o ho
    · rename_i o found
      obtain rfl : o.pos = p := by simpa using List.find?_some found
      have own := s.line_dropMonitorsOf l o.pos
      have occupants : ((s.dropMonitorsOf l o.pos).line l).occupants = (s.line l).occupants := by rw [own, if_pos rfl]
      by_cases sole : (s.line l).occupants = [o]
      · rw [State.releaseOccupant_last (occupants.trans sole)]
        have rests := (s.dropMonitorsOf l o.pos).without_rest_restedTo l o
        have stays' : Stays (s.dropMonitorsOf l o.pos) l := by
          have slots : (s.dropMonitorsOf l o.pos).slots = s.slots := by rw [State.dropMonitorsOf_frame]
          unfold Stays
          rw [own, if_pos rfl, State.isStandby_congr slots]
          exact stays
        rw [State.returnToRest, rests.stays stays']
        exact State.without_rest_positionLeft sole
      · have more := erase_ne_nil_of_ne (List.mem_of_find?_eq_some found) sole
        rw [State.releaseOccupant_more (by rwa [occupants])]
        exact State.without_positionLeft held found more

/-! ### ADD-APPEARANCE and DROP-APPEARANCE, decided (R16, R17) -/

theorem mem_insertAppearance (a b : Appearance) (as : List Appearance) : b ∈ insertAppearance a as ↔ b = a ∨ b ∈ as := by
  simp only [insertAppearance, List.mem_append, List.mem_cons, List.mem_filter, decide_eq_true_eq]
  have := le_or_gt b.pos a.pos
  tauto

theorem State.addAppearance_bad {s : State} {w : CmdWords} (h : 191 < w.w1.toNat ∨ 47 < w.w2.toNat ∨ 63 < w.w3.toNat) :
    s.addAppearance w = refuse .badField s := by
  unfold State.addAppearance
  split
  · rename_i hl hp hk
    rcases h with h | h | h
    · rw [toFin?_out h] at hl; cases hl
    · rw [toFin?_out h] at hp; cases hp
    · rw [toFin?_out h] at hk; cases hk
  · rfl

theorem State.dropAppearance_bad {s : State} {w : CmdWords} (h : 191 < w.w1.toNat ∨ 47 < w.w2.toNat) :
    s.dropAppearance w = refuse .badField s := by
  unfold State.dropAppearance
  split
  · rename_i hl hp
    rcases h with h | h
    · rw [toFin?_out h] at hl; cases hl
    · rw [toFin?_out h] at hp; cases hp
  · rfl

/-- The appearance that ADD-APPEARANCE puts in (R16). -/
def State.appear (s : State) (l : LineNo) (a : Appearance) : State :=
  (s.setLine l { s.line l with appearances := insertAppearance a (s.line l).appearances }).setKey a.pos a.key (some l)

theorem State.addAppearance_at {s : State} {w : CmdWords} {l : LineNo} {p : Pos} {k : Key} (hl : w.w1 = word l.val)
    (hp : w.w2 = word p.val) (hk : w.w3 = word k.val) :
    s.addAppearance w =
      if (s.line l).state = .vacant then refuse .vacant s
      else
        match (s.line l).appearanceAt p with
        | some a =>
          if a.key = k then
            (some .done, s.setLine l
              { s.line l with
                appearances := (s.line l).appearances.map fun y => if y.pos = p then { y with ring := bit w.w4 0 } else y })
          else refuse .exists s
        | none =>
          if (s.keyLine p k).isSome then refuse .keyTaken s
          else (some .done, (s.appear l ⟨p, k, bit w.w4 0⟩).enqueueAt p ⟨.key k, .lineState, (s.line l).content⟩) := by
  simp only [State.addAppearance, hl, hp, hk, toFin?_word (by decide : 192 ≤ 65536) l, toFin?_word (by decide : 48 ≤ 65536) p,
    toFin?_word (by decide : 64 ≤ 65536) k] <;> rfl

theorem State.dropAppearance_at {s : State} {w : CmdWords} {l : LineNo} {p : Pos} (hl : w.w1 = word l.val) (hp : w.w2 = word p.val) :
    s.dropAppearance w =
      if (s.line l).state = .vacant then refuse .vacant s
      else
        match (s.line l).appearanceAt p with
        | none => refuse .notFound s
        | some a =>
          (some .done,
            (finishAct none [] s ((s.leavePosition l p).removeAppearance l a)).enqueueAt p ⟨.key a.key, .lineState, .vacant⟩) := by
  simp only [State.dropAppearance, hl, hp, toFin?_word (by decide : 192 ≤ 65536) l, toFin?_word (by decide : 48 ≤ 65536) p] <;> rfl

theorem State.line_removeAppearance (s : State) (l : LineNo) (a : Appearance) (k : LineNo) :
    (s.removeAppearance l a).line k =
      if k = l then { s.line l with appearances := (s.line l).appearances.filter fun y => y.pos != a.pos } else s.line k := by
  simp [State.removeAppearance, State.line_setLine]

theorem State.removeAppearance_frame (s : State) (l : LineNo) (a : Appearance) :
    s.removeAppearance l a =
      { s with lines := (s.removeAppearance l a).lines, directories := (s.removeAppearance l a).directories } := by
  unfold State.removeAppearance
  exact State.eq_of_fields

theorem positionLeft_appearances (x : Line) (p : Pos) : (positionLeft x p).appearances = x.appearances := by
  unfold positionLeft
  split <;> rfl

end Sys2Proof.Machine

namespace Sys2Proof.Proofs

open Machine Safety Laws

/-- Settles O28: what the position leaves is said once (`State.leavePosition_left`), by what it has in the line. -/
theorem appearancesAddedAndDropped : Obligations.AppearancesAddedAndDropped := by
  refine ⟨fun s w ready bad => congrArg Host.Outcome.next (command_refused s _ w _ ready (State.dropAppearance_bad bad)),
    fun s w ready bad => congrArg Host.Outcome.next (command_refused s _ w _ ready (State.addAppearance_bad bad)),
    fun s w l p k ready hl hp hk => ?_, fun s w l p ready hl hp => ?_⟩
  · have decided := State.addAppearance_at (s := loaded s 0x04#8 w) hl hp hk
    refine ⟨fun vacant => congrArg Host.Outcome.next (command_refused s _ w _ ready (decided.trans (if_pos vacant))),
      fun live => ?_⟩
    replace decided := decided.trans (if_neg live)
    refine ⟨fun a found other => ?_, fun new taken => ?_, fun a found same => ?_, fun new free => ?_⟩
    · rw [loaded_line, found] at decided
      exact congrArg Host.Outcome.next (command_refused s _ w _ ready (decided.trans (if_neg other)))
    · rw [loaded_line, new] at decided
      exact congrArg Host.Outcome.next
        (command_refused s _ w _ ready (decided.trans (if_pos (Option.isSome_iff_ne_none.2 taken))))
    · rw [loaded_line, found] at decided
      exact congrArg Host.Outcome.next ((command_done s _ 0x04#8 w _ ready (decided.trans (if_pos same))).trans rfl)
    · rw [loaded_line, new] at decided
      have runs := command_done s _ 0x04#8 w _ ready (decided.trans (if_neg (by simp [free])))
      refine ⟨_, congrArg Host.Outcome.next runs, rfl, fun a => ?_, ?_, fun l' hl' => ?_, ?_, fun q j other => ?_, ?_, fun q hq => ?_, ?_⟩
      · simp [State.complete, State.appear, mem_insertAppearance]
      · simp [State.complete, State.appear]
      · simp [State.complete, State.appear, State.line_setLine, hl']
      · simp [State.complete, State.appear, State.keyLine_setKey]
      · simp [State.complete, State.appear, State.keyLine_setKey, other]
      · simp [State.complete, State.appear]
      · simp [State.complete, State.appear, State.link_setLink, hq]
      · unfold State.complete State.appear; exact State.eq_of_fields
  · have decided := State.dropAppearance_at (s := loaded s 0x05#8 w) hl hp
    refine ⟨fun vacant => congrArg Host.Outcome.next (command_refused s _ w _ ready (decided.trans (if_pos vacant))),
      fun live missing => ?_, fun a live found stays => ?_⟩
    · rw [loaded_line, if_neg live, missing] at decided
      exact congrArg Host.Outcome.next (command_refused s _ w _ ready decided)
    rw [loaded_line, if_neg live, found] at decided
    obtain rfl : a.pos = p := by simpa using List.find?_some found
    have left := State.leavePosition_left (s := loaded s 0x05#8 w) a.pos stays
    generalize (loaded s 0x05#8 w).leavePosition l a.pos = v at decided left
    have frame := left.frame
    have links : (v.removeAppearance l a).links = s.links := by rw [frame]; rfl
    have runs : s.command 0x05#8 w =
        (completed s 0x05#8 w [] (v.removeAppearance l a) .done).enqueueAt a.pos ⟨.key a.key, .lineState, .vacant⟩ :=
      command_done s _ 0x05#8 w _ ready decided
    have shown (q : Pos) : (completed s 0x05#8 w [] (v.removeAppearance l a) .done).link q =
        told none [] s ((completed s 0x05#8 w [] (v.removeAppearance l a) .done).enqueueAt a.pos
          ⟨.key a.key, .lineState, .vacant⟩) q :=
      (completed_told s _ w [] .done links q).trans (told_congr {} {} rfl none []).symm
    have bridge (b : BridgeNo) : (v.removeAppearance l a).bridge b = v.bridge b := rfl
    have timer (id : TimerId) : (v.removeAppearance l a).timer id = v.timer id := rfl
    have selection (q : Pos) (m : UnitNo) : (v.removeAppearance l a).selection q m = v.selection q m := rfl
    have leg (g : LegNo) : (v.removeAppearance l a).leg g = v.leg g := rfl
    have key (q : Pos) (j : Key) : v.keyLine q j = s.keyLine q j := by rw [frame]; rfl
    refine ⟨_, congrArg Host.Outcome.next runs, ?_, ?_, fun k hk => ?_, fun q m => ?_,
      fun b hb => ⟨fun rests => ⟨?_, fun g => ?_⟩, fun m hm hp => ?_, fun b' hb' => ?_⟩, fun rests => ?_, fun id ha hb => ?_, ?_,
      fun q j other => ?_, ?_, fun q hq => ?_, ?_⟩
    · exact completed_mp s _ w [] .done (by rw [frame]; rfl)
    · rw [State.enqueueAt_eq, State.line_setLink, completed_line, State.line_removeAppearance, if_pos rfl, left.line, if_pos rfl,
        positionLeft_appearances]
      rfl
    · rw [State.enqueueAt_eq, State.line_setLink, completed_line, State.line_removeAppearance, if_neg hk, left.line, if_neg hk]
      rfl
    · rw [State.enqueueAt_eq, State.selection_setLink, completed_selection, selection]; exact left.selection q m
    · rw [State.enqueueAt_eq, State.bridge_setLink, completed_bridge, bridge, (left.freed rests b hb).1, Bridge.settle_free]
    · rw [State.enqueueAt_eq, State.leg_setLink, completed_leg, leg]; exact (left.freed rests b hb).2 g
    · rw [State.enqueueAt_eq, State.leg_setLink, completed_leg, leg]; exact left.detached b hb m hm hp
    · rw [State.enqueueAt_eq, State.bridge_setLink, completed_bridge, bridge, left.other b' fun e => hb' (Option.some.inj (e.symm.trans hb))]
      rfl
    · simpa [timer] using left.stopped rests
    · rw [State.enqueueAt_eq, State.timer_setLink, completed_timer, timer]; exact left.timer id ha hb
    · simp [State.removeAppearance, State.keyLine_setKey]
    · simp [State.removeAppearance, State.keyLine_setKey, other, key]
    · exact (State.link_setLink_self _ a.pos _).trans (congrArg (Link.indicate · _) (shown a.pos))
    · exact (State.link_setLink_ne _ _ hq).trans (shown q)
    · rw [State.removeAppearance_frame, frame]
      exact State.eq_of_fields

end Sys2Proof.Proofs
end

section
/-! RETIRE-LINE and RETIRE-CHANNEL (R20, R70): the record taken down, its namings removed, and the sweep started. -/

set_option Elab.async false

namespace Sys2Proof.Machine

open Safety Laws

/-! ### What a serving keeps (R141, R142) -/

/-- The serving of one slot is a claim of that slot, STANDBY, by a channel or a waiting line, or nothing. -/
theorem State.serveOne_induct {P : State → Prop} {s : State} (sl : SlotNo)
    (channel : ∀ c, (s.slot sl).state = .standby → P (s.claimChannel c sl))
    (line : ∀ l, (s.slot sl).state = .standby → P (s.regainLine l sl)) (same : P s) : P (s.serveOne sl).1 := by
  unfold State.serveOne
  split
  · rename_i standby
    (repeat' split)
    · exact channel _ standby
    · exact same
    · exact line _ standby
    · exact same
    · exact line _ standby
    · exact same
  · exact same

/-- What claims of STANDBY slots and reversions keep, a serving keeps. -/
theorem State.serve_induct {P : State → Prop} (channel : ∀ t c sl, (t.slot sl).state = .standby → P t → P (t.claimChannel c sl))
    (line : ∀ t l sl, (t.slot sl).state = .standby → P t → P (t.regainLine l sl))
    (revert : ∀ t l, t.revertible l = true → P t → P (t.revert l)) (fuel : Nat) {s : State} (sl : SlotNo) (h : P s) :
    P (State.serve fuel s sl) := by
  induction fuel generalizing s sl with
  | zero => exact h
  | succ n ih =>
    have one : P (s.serveOne sl).1 :=
      State.serveOne_induct sl (fun c st => channel s c sl st h) (fun l st => line s l sl st h) h
    unfold State.serve
    generalize s.serveOne sl = r at one
    obtain ⟨s1, o⟩ := r
    cases o with
    | none => exact one
    | some l =>
      dsimp only
      split
      · rename_i reverts
        split
        · exact revert s1 l reverts one
        · exact ih _ (revert s1 l reverts one)
      · exact one

/-- A leg that joins a bridge leaves every bridge's state and owner. -/
theorem State.bridge_joinOwn_held (s : State) (o : Option BridgeNo) (g : LegNo) (b : BridgeNo) :
    ((s.joinOwn o g).bridge b).state = (s.bridge b).state ∧ ((s.joinOwn o g).bridge b).owner = (s.bridge b).owner := by
  cases o with
  | none => exact ⟨rfl, rfl⟩
  | some n =>
    by_cases h : b = n
    · subst h
      obtain ⟨r, e⟩ := s.bridge_join b g
      simp only [State.joinOwn, e, Bridge.addContributor]
      split <;> exact ⟨rfl, rfl⟩
    · simp [State.joinOwn, State.bridge_join_ne _ _ h]

/-- A serving frees no bridge and gives none away. -/
theorem State.bridge_serveFreed_held (s : State) (o : Option SlotNo) (b : BridgeNo) :
    ((s.serveFreed o).bridge b).state = (s.bridge b).state ∧ ((s.serveFreed o).bridge b).owner = (s.bridge b).owner := by
  cases o with
  | none => exact ⟨rfl, rfl⟩
  | some sl =>
    refine State.serve_induct (P := fun t => (t.bridge b).state = (s.bridge b).state ∧ (t.bridge b).owner = (s.bridge b).owner)
      (fun t c n _ h => ?_) (fun t l n _ h => ?_) (fun t l _ h => by rwa [t.bridge_revert]) _ sl ⟨rfl, rfl⟩
    · have held := ((t.takeSlot n (.channel c)).modChannel c fun x => { x with noTrunk := false }).bridge_joinOwn_held
        (t.channel c).bridge (trunkLeg n) b
      simp only [State.takeSlot, State.modChannel_eq, State.modSlot_eq, State.bridge_setChannel, State.bridge_setSlot] at held
      rw [State.claimChannel]
      exact ⟨held.1.trans h.1, held.2.trans h.2⟩
    · unfold State.regainLine
      dsimp only
      split
      · simpa [State.claimLine, State.takeSlot] using h
      · have held := ((t.claimLine l n).modLine l fun x => { x with marks := { x.marks with noRoute := false } }).bridge_joinOwn_held
          (t.line l).bridge (trunkLeg n) b
        simp only [State.claimLine, State.takeSlot, State.modLine_eq, State.modSlot_eq, State.bridge_setLine, State.bridge_setSlot] at held
        simp only [State.claimLine, State.takeSlot, State.modLine_eq, State.modSlot_eq]
        exact ⟨held.1.trans h.1, held.2.trans h.2⟩

/-- A slot that is not STANDBY, and no line's alternate, stays as it is while slots are served. -/
theorem State.slot_serveFreed {s : State} {n : SlotNo} (o : Option SlotNo) (busy : (s.slot n).state ≠ .standby)
    (alternate : ∀ l, (s.line l).alternate ≠ some n) : (s.serveFreed o).slot n = s.slot n := by
  cases o with
  | none => rfl
  | some sl =>
    refine (State.serve_induct (P := fun t => t.slot n = s.slot n ∧ ∀ l, (t.line l).alternate ≠ some n)
      (fun t c m standby h => ⟨?_, fun k => ?_⟩) (fun t l m standby h => ⟨?_, fun k => ?_⟩)
      (fun t l reverts h => ⟨?_, fun k => ?_⟩) _ sl ⟨rfl, alternate⟩).1
    · have ne : n ≠ m := by rintro rfl; exact busy (h.1 ▸ standby)
      simp [State.claimChannel, State.takeSlot, State.slot_setSlot, ne, h.1]
    · rw [(t.claimChannel_naming c m).alternate]; exact h.2 k
    · have ne : n ≠ m := by rintro rfl; exact busy (h.1 ▸ standby)
      unfold State.regainLine
      dsimp only
      split <;> simp [State.slot_claimLine, ne, h.1]
    · rw [(t.regainLine_naming l m).alternate]; exact h.2 k
    · obtain ⟨-, standby⟩ : ((t.line l).state = .idle ∧ (t.line l).route = .alternate) ∧ t.isStandby (t.line l).primary = true := by
        simpa [State.revertible] using reverts
      cases e : (t.line l).primary with
      | none => simp [e, State.isStandby] at standby
      | some m =>
        have ne : n ≠ m := by
          rintro rfl
          rw [e, State.isStandby, beq_iff_eq, h.1] at standby
          exact busy standby
        rw [State.slot_revert e, if_neg ne, State.slot_dropSlot, if_neg (h.2 l)]
        exact h.1
    · rw [(t.revert_naming l).alternate]; exact h.2 k

/-! ### The namings of a line removed (R131) -/

/-- Timers cancelled: those named are stopped, the others stand. -/
theorem State.timer_cancelTimers (s : State) (ts : List TimerId) (id : TimerId) :
    (id ∉ ts → (s.cancelTimers ts).timer id = s.timer id) ∧
      (id ∈ ts ∨ (s.timer id).running = false → ((s.cancelTimers ts).timer id).running = false) := by
  induction ts generalizing s with
  | nil => exact ⟨fun _ => rfl, fun h => h.resolve_left (by simp)⟩
  | cons t rest ih =>
    have later := ih (s.cancelTimer t)
    rw [State.cancelTimer_eq] at later
    refine ⟨fun h => ?_, fun h => later.2 ?_⟩
    · rw [List.mem_cons, not_or] at h
      exact (later.1 h.2).trans (State.timer_setTimer_ne _ _ h.1)
    · by_cases e : id = t
      · subst e; simp
      · rw [State.timer_setTimer_ne _ _ e]
        rcases h with h | h
        · exact .inl ((List.mem_cons.1 h).resolve_left e)
        · exact .inr h

theorem State.timer_unnameSlot (s : State) (sl : SlotNo) (f : Slot → Slot) (id : TimerId) :
    (id ≠ .faultConfirm sl → id ≠ .restore sl → (s.unnameSlot sl f).timer id = s.timer id) ∧
      ((s.timer id).running = false → ((s.unnameSlot sl f).timer id).running = false) := by
  unfold State.unnameSlot
  dsimp only
  split
  · exact ⟨fun _ _ => rfl, fun h => h⟩
  · have two := (s.setSlot sl { f (s.slot sl) with state := .unassigned, claimant := none }).timer_cancelTimers
      [.faultConfirm sl, .restore sl] id
    exact ⟨fun ha hb => (two.1 (by simp [ha, hb])).trans rfl, fun h => two.2 (.inr h)⟩

theorem State.slot_unnameSlot_ne (s : State) {sl n : SlotNo} (f : Slot → Slot) (h : n ≠ sl) :
    (s.unnameSlot sl f).slot n = s.slot n := by
  unfold State.unnameSlot
  dsimp only
  split <;> simp [State.slot_setSlot, h]

/-- A slot that loses its last naming is UNASSIGNED, with its timers stopped. -/
theorem State.unnameSlot_last {s : State} {sl : SlotNo} {f : Slot → Slot} (h : (f (s.slot sl)).named = false) :
    (s.unnameSlot sl f).slot sl = { f (s.slot sl) with state := .unassigned, claimant := none } ∧
      ((s.unnameSlot sl f).timer (.faultConfirm sl)).running = false ∧ ((s.unnameSlot sl f).timer (.restore sl)).running = false := by
  have two := (s.setSlot sl { f (s.slot sl) with state := .unassigned, claimant := none }).timer_cancelTimers
    [.faultConfirm sl, .restore sl]
  unfold State.unnameSlot
  dsimp only
  rw [if_neg (by simp [h])]
  exact ⟨by simp, (two _).2 (.inl (by simp)), (two _).2 (.inl (by simp))⟩

/-- A timer that is no slot's. -/
abbrev NotSlotTimer (id : TimerId) : Prop := ∀ n, id ≠ .faultConfirm n ∧ id ≠ .restore n

theorem State.timer_unnamePrimary {s : State} {id : TimerId} (sl : Option SlotNo) (h : NotSlotTimer id) :
    (s.unnamePrimary sl).timer id = s.timer id := by
  cases sl with
  | none => rfl
  | some n => exact (s.timer_unnameSlot n _ id).1 (h n).1 (h n).2

theorem State.timer_unnameAlternate {s : State} {id : TimerId} (sl : Option SlotNo) (l : LineNo) (h : NotSlotTimer id) :
    (s.unnameAlternate sl l).timer id = s.timer id := by
  cases sl with
  | none => rfl
  | some n => exact (s.timer_unnameSlot n _ id).1 (h n).1 (h n).2

/-! ### RETIRE-LINE (R20) -/

/-- A record whose sweep has started. -/
def retiring (x : Line) : Line := { x with state := .retiring, route := .none, primary := none, alternate := none }

/-- A line that is RETIRING gives up its active slot and its namings. -/
def State.giveUp (s : State) (l : LineNo) (active primary alternate : Option SlotNo) : State :=
  (((s.setLine l (retiring (s.line l))).dropSlot active).unnamePrimary primary).unnameAlternate alternate l

section
variable (s : State) (l : LineNo) (active primary alternate : Option SlotNo)

theorem State.line_giveUp (k : LineNo) : (s.giveUp l active primary alternate).line k = if k = l then retiring (s.line l) else s.line k := by
  simp [State.giveUp, State.line_setLine]

theorem State.giveUp_frame :
    s.giveUp l active primary alternate =
      { s with
        lines := (s.giveUp l active primary alternate).lines, slots := (s.giveUp l active primary alternate).slots
        timers := (s.giveUp l active primary alternate).timers } := by
  unfold State.giveUp
  exact State.eq_of_fields

theorem State.timer_giveUp {id : TimerId} (h : NotSlotTimer id) : (s.giveUp l active primary alternate).timer id = s.timer id := by
  rw [State.giveUp, State.timer_unnameAlternate _ _ h, State.timer_unnamePrimary _ h]
  simp

/-- The namers of a slot once a line has given its namings up (R131). -/
theorem State.namers_giveUp (n : SlotNo) :
    ((s.giveUp l active primary alternate).slot n).primaryNamer = (if primary = some n then none else (s.slot n).primaryNamer) ∧
      ((s.giveUp l active primary alternate).slot n).altLines =
        (if alternate = some n then (s.slot n).altLines.filter (fun m => m != l) else (s.slot n).altLines) := by
  have dropped : (((s.setLine l (retiring (s.line l))).dropSlot active).slot n).primaryNamer = (s.slot n).primaryNamer ∧
      (((s.setLine l (retiring (s.line l))).dropSlot active).slot n).altLines = (s.slot n).altLines := by
    rw [State.slot_dropSlot]
    split <;> exact ⟨rfl, rfl⟩
  unfold State.giveUp
  rw [(State.unnameAlternate_slot ..).1, (State.unnameAlternate_slot ..).2, (State.unnamePrimary_slot ..).1,
    (State.unnamePrimary_slot ..).2, dropped.1, dropped.2]
  exact ⟨rfl, rfl⟩

/-- The retired line's primary is UNASSIGNED where no line names it as alternate. -/
theorem State.giveUp_unassigned {n : SlotNo} (h : primary = some n) (none : (s.slot n).altLines = []) (apart : alternate ≠ some n) :
    ((s.giveUp l active primary alternate).slot n).state = .unassigned ∧
      ((s.giveUp l active primary alternate).slot n).claimant = .none ∧
      ((s.giveUp l active primary alternate).timer (.faultConfirm n)).running = false ∧
      ((s.giveUp l active primary alternate).timer (.restore n)).running = false := by
  subst h
  have unnamed : ({ ((s.setLine l (retiring (s.line l))).dropSlot active).slot n with primaryNamer := .none } : Slot).named = false := by
    rw [State.slot_dropSlot]
    split <;> simp [Slot.named, none]
  obtain ⟨slot, confirm, restore⟩ := State.unnameSlot_last (f := fun x => { x with primaryNamer := .none }) unnamed
  unfold State.giveUp
  simp only [State.unnamePrimary]
  cases alternate with
  | none => exact ⟨by rw [State.unnameAlternate, slot], by rw [State.unnameAlternate, slot], confirm, restore⟩
  | some a =>
    have ne : n ≠ a := fun e => apart (by rw [e])
    simp only [State.unnameAlternate]
    rw [State.slot_unnameSlot_ne _ _ ne, slot]
    exact ⟨rfl, rfl, (State.timer_unnameSlot ..).2 confirm, (State.timer_unnameSlot ..).2 restore⟩

end

theorem State.line_retireLive_ne (s : State) {l k : LineNo} (h : k ≠ l) : (s.retireLive l).line k = s.line k := by
  unfold State.retireLive
  split
  · rw [State.line_endAlert, if_neg h]
  · rw [State.modLine_eq, State.line_setLine_ne _ _ h, State.line_takeDown, if_neg h]
  · rw [State.modLine_eq, State.line_setLine_ne _ _ h, State.line_takeDown, if_neg h]
  · rfl

theorem State.retireLine_bad {s : State} {w : CmdWords} (h : 191 < w.w1.toNat) : s.retireLine w = refuse .badField s := by
  rw [State.retireLine, toFin?_out h]

/-- The state to which RETIRE-LINE leads before its indications. -/
def State.lineRetired (s : State) (l : LineNo) : State :=
  ((s.retireLive l).giveUp l (s.line l).activeSlot (s.line l).primary (s.line l).alternate).serveFreed (s.line l).activeSlot

theorem State.retireLine_at {s : State} {w : CmdWords} {l : LineNo} (h : w.w1 = word l.val) :
    s.retireLine w =
      if (s.line l).state = .vacant then refuse .vacant s
      else if (s.line l).state ≠ .idle ∧ (s.line l).state ≠ .lockout ∧ w.maskBit 8 = false then refuse .inUse s
      else (none, (finishAct none [] s (s.lineRetired l)).modMp fun m => { m with job := some (.retireLine l 0) }) := by
  simp only [State.retireLine, h, toFin?_word (by decide : 192 ≤ 65536) l] <;> rfl

/-- What RETIRE-LINE leads to, said of the state after the live state is taken down. -/
structure LineRetired (s v : State) (l : LineNo) : Prop where
  line : v.line l = retiring ((s.retireLive l).line l)
  selections : v.selections = (s.retireLive l).selections
  generators : v.generators = (s.retireLive l).generators
  timer : ∀ id, NotSlotTimer id → v.timer id = (s.retireLive l).timer id
  bridge : ∀ b, (v.bridge b).state = ((s.retireLive l).bridge b).state ∧ (v.bridge b).owner = ((s.retireLive l).bridge b).owner
  unnamed : ∀ n, (s.line l).primary = some n → (v.slot n).primaryNamer = none
  unassigned : NamesAgree s → ∀ n, (s.line l).primary = some n → (s.slot n).altLines = [] →
    (v.slot n).state = .unassigned ∧ (v.slot n).claimant = none ∧
      (v.timer (.faultConfirm n)).running = false ∧ (v.timer (.restore n)).running = false
  altLines : ∀ n, (s.line l).alternate = some n → (v.slot n).altLines = (s.slot n).altLines.filter fun x => x != l

theorem State.lineRetired_retired (s : State) (l : LineNo) : LineRetired s (s.lineRetired l) l := by
  have naming := s.retireLive_naming l
  unfold State.lineRetired
  generalize ht : s.retireLive l = t at naming
  have line := t.line_giveUp l (s.line l).activeSlot (s.line l).primary (s.line l).alternate
  have namers := t.namers_giveUp l (s.line l).activeSlot (s.line l).primary (s.line l).alternate
  have frame := t.giveUp_frame l (s.line l).activeSlot (s.line l).primary (s.line l).alternate
  have timer (id : TimerId) (h : NotSlotTimer id) := t.timer_giveUp l (s.line l).activeSlot (s.line l).primary (s.line l).alternate h
  have unassigned (n : SlotNo) := t.giveUp_unassigned l (s.line l).activeSlot (s.line l).primary (s.line l).alternate (n := n)
  generalize t.giveUp l (s.line l).activeSlot (s.line l).primary (s.line l).alternate = r at line namers frame timer unassigned
  have served := r.serveFreed_naming (s.line l).activeSlot
  refine ⟨?_, ?_, ?_, fun id h => ?_, fun b => ?_, fun n hn => ?_, fun agree n hn empty => ?_, fun n hn => ?_⟩
  · rw [ht, ← if_pos (c := l = l) rfl (t := retiring (t.line l)) (e := t.line l), ← line]
    cases (s.line l).activeSlot with
    | none => rfl
    | some sl =>
      refine State.line_serve _ ?_ sl
      rw [line, if_pos rfl]
      exact ⟨rfl, by simp [retiring]⟩
  · rw [ht, State.serveFreed_selections, frame]
  · rw [ht, State.serveFreed_generators, frame]
  · rw [ht, State.timer_serveFreed, timer id h]
  · have bridge : t.bridge b = r.bridge b := by rw [frame]; rfl
    rw [ht, bridge]
    exact r.bridge_serveFreed_held _ b
  · rw [served.namer, (namers n).1, if_pos hn]
  · obtain ⟨altNamed, -, -, -, -, -, -⟩ := agree
    have noAlternate (k : LineNo) : (s.line k).alternate ≠ some n := fun e => by simpa [empty] using (altNamed n k).2 e
    obtain ⟨state, claimant, confirm, restore⟩ := unassigned n hn (by rw [naming.altLines, empty]) (noAlternate l)
    rw [State.slot_serveFreed _ (by rw [state]; nofun) fun k => ?_, State.timer_serveFreed, State.timer_serveFreed]
    · exact ⟨state, claimant, confirm, restore⟩
    · rw [line]
      split
      · simp [retiring]
      · rw [naming.alternate]; exact noAlternate k
  · rw [served.altLines, (namers n).2, if_pos hn, naming.altLines]

/-! The live state taken down, by the state of the line (R20). -/

section
variable {s v : State} {l : LineNo}

theorem State.retireLive_rest (h : (s.line l).state = .idle ∨ (s.line l).state = .lockout) : s.retireLive l = s := by
  unfold State.retireLive
  rcases h with h | h <;> simp [h]

theorem State.retireLive_alerting (h : (s.line l).state = .alerting) : s.retireLive l = s.endAlert l := by
  unfold State.retireLive
  simp [h]

theorem State.retireLive_used (h : (s.line l).state = .connected ∨ (s.line l).state = .held) :
    s.retireLive l = (s.takeDown l).modLine l fun x => { x with marks := { x.marks with noRoute := false } } := by
  unfold State.retireLive
  rcases h with h | h <;> simp [h]

theorem LineRetired.of_rest (retired : LineRetired s v l) (rest : (s.line l).state = .idle ∨ (s.line l).state = .lockout) :
    v.line l = retiring (s.line l) ∧ v.selections = s.selections ∧ v.generators = s.generators := by
  have same := State.retireLive_rest rest
  exact ⟨by rw [retired.line, same], by rw [retired.selections, same], by rw [retired.generators, same]⟩

theorem LineRetired.of_alerting (retired : LineRetired s v l) (alerting : (s.line l).state = .alerting) :
    v.line l = retiring { s.line l with refGen := none } ∧ (v.timer (.ringTimeout l)).running = false ∧
      v.selections = s.selections ∧
      ∀ n : GenNo, (s.line l).refGen = some n → (v.generator n).refs = (s.generator n).refs - 1 := by
  have ended := State.retireLive_alerting alerting
  refine ⟨?_, ?_, ?_, fun n hn => ?_⟩
  · rw [retired.line, ended, State.line_endAlert, if_pos rfl]
  · rw [retired.timer _ (fun n => by simp), ended]
    exact (s.timer_endAlert l (.ringTimeout l)).2
  · rw [retired.selections, ended, State.endAlert_selections]
  · have generator : v.generator n = (s.endAlert l).generator n := by simp only [State.generator, retired.generators, ended]
    rw [generator, State.generator_endAlert hn, if_pos rfl]
    exact (Generator.dropRef_refs _).1

theorem LineRetired.of_used (retired : LineRetired s v l) (used : (s.line l).state = .connected ∨ (s.line l).state = .held) :
    v.line l = retiring (rested (s.line l)) ∧
      (∀ (q : Pos) (m : UnitNo), v.selection q m = if ⟨q, m⟩ ∈ (s.line l).monitors then .none else s.selection q m) ∧
      (v.timer (.holdRecall l)).running = false ∧ (v.timer (.burst l)).running = false ∧
      ∀ b : BridgeNo, (s.line l).bridge = some b → (v.bridge b).state = .free ∧ (v.bridge b).owner = none := by
  have taken := State.retireLive_used used
  have stopped (id : TimerId) := (s.timer_takeDown l id).2
  refine ⟨?_, fun q m => ?_, ?_, ?_, fun b hb => ?_⟩
  · rw [retired.line, taken, State.modLine_eq, State.line_setLine_self, State.line_takeDown, if_pos rfl]
    rfl
  · have selection : v.selection q m = (s.takeDown l).selection q m := by
      rw [State.selection, retired.selections, taken]; rfl
    rw [selection, State.selection_takeDown]
  · rw [retired.timer _ (fun n => by simp), taken]; exact stopped _ (.inl rfl)
  · rw [retired.timer _ (fun n => by simp), taken]; exact stopped _ (.inr rfl)
  · have held := retired.bridge b
    rw [taken, State.modLine_eq, State.bridge_setLine, (State.takeDown_frees hb).1] at held
    exact held

end

theorem State.lineRetired_frame (s : State) (l : LineNo) :
    (s.lineRetired l).directories = s.directories ∧ (s.lineRetired l).inFlight = s.inFlight ∧
      (s.lineRetired l).reports = s.reports ∧ (s.lineRetired l).pointer = s.pointer ∧ (s.lineRetired l).links = s.links ∧
      (s.lineRetired l).mp = s.mp := by
  have live : (s.retireLive l).directories = s.directories ∧ (s.retireLive l).inFlight = s.inFlight ∧
      (s.retireLive l).reports = s.reports ∧ (s.retireLive l).pointer = s.pointer ∧ (s.retireLive l).links = s.links ∧
      (s.retireLive l).mp = s.mp := by
    unfold State.retireLive
    split <;> simp
  unfold State.lineRetired
  rw [State.giveUp_frame]
  simpa using live

end Sys2Proof.Machine
end

section
/-! RETIRE-LINE and RETIRE-CHANNEL, settled. -/

set_option Elab.async false

namespace Sys2Proof.Machine

open Safety Laws

/-! ### RETIRE-CHANNEL (R70) -/

theorem State.retireChannel_bad {s : State} {w : CmdWords} (h : 31 < w.w1.toNat) : s.retireChannel w = refuse .badField s := by
  rw [State.retireChannel, toFin?_out h]

/-- VACANT told of a channel to every position that qualified for it in `s` (R70). -/
def State.tellVacant (s t : State) (c : ChanNo) : State :=
  ((List.finRange 48).filter fun p => s.qualifies c p).foldl (fun t p => t.enqueueAt p ⟨.channel c, .channelState, .vacant⟩) t

theorem State.retireChannel_at {s : State} {w : CmdWords} {c : ChanNo} (h : w.w1 = word c.val) :
    s.retireChannel w =
      if (s.channel c).state = .vacant then refuse .vacant s
      else if (s.channel c).state = .opened ∧ w.maskBit 8 = false then refuse .inUse s
      else (none, (s.tellVacant (s.takeDownChannel c) c).modMp fun m => { m with job := some (.retireChannel c 0) }) := by
  simp only [State.retireChannel, h, toFin?_word (by decide : 32 ≤ 65536) c] <;> rfl

theorem filter_finRange_eq {n : Nat} (i : Fin n) : ((List.finRange n).filter fun j => j == i) = [i] := by
  rw [List.filter_beq, List.count_eq_one_of_mem (List.nodup_finRange n) (List.mem_finRange i)]
  rfl

theorem State.link_tellVacant (s t : State) (c : ChanNo) (q : Pos) :
    (s.tellVacant t c).link q =
      if s.qualifies c q = true then (t.link q).indicate ⟨.channel c, .channelState, .vacant⟩ else t.link q := by
  rw [State.tellVacant, foldl_enqueueAt_link fun p : Pos => p, List.filter_filter]
  have one : ((List.finRange 48).filter fun p => p == q && s.qualifies c p) = if s.qualifies c q then [q] else [] := by
    have same : ∀ p : Pos, (p == q && s.qualifies c p) = (s.qualifies c q && p == q) := fun p => by
      by_cases e : p = q
      · subst e; simp
      · have : (p == q) = false := beq_eq_false_iff_ne.2 e
        rw [this, Bool.and_false, Bool.false_and]
    simp only [same]
    cases s.qualifies c q <;> simp [filter_finRange_eq]
  rw [one]
  split <;> rfl

/-- Telling VACANT changes the links alone. -/
theorem State.tellVacant_frame (s t : State) (c : ChanNo) : s.tellVacant t c = { t with links := (s.tellVacant t c).links } := by
  have keeps {α : Type} (f : State → α) (h : ∀ t p i, f (State.enqueueAt t p i) = f t) : f (s.tellVacant t c) = f t :=
    foldl_keeps f _ (fun _ _ => h _ _ _) _ _
  exact State.eq_of_fields (keeps _ (by simp)) (keeps _ (by simp)) (keeps _ (by simp)) (keeps _ (by simp)) (keeps _ (by simp))
    (keeps _ (by simp)) (keeps _ (by simp)) (keeps _ (by simp)) (keeps _ (by simp)) (keeps _ (by simp)) (keeps _ (by simp)) rfl
    (keeps _ (by simp)) (keeps _ (by simp)) (keeps _ (by simp)) (keeps _ (by simp))

/-- A channel whose sweep has started. -/
def Channel.retired (x : Channel) : Channel :=
  { x with talkers := [], queue := [], bridge := none, trunk := none, noTrunk := false, state := .retiring }

section
variable (s : State) (c : ChanNo)

theorem State.channel_takeDownChannel (k : ChanNo) :
    (s.takeDownChannel c).channel k = if k = c then (s.channel c).retired else s.channel k := by
  unfold State.takeDownChannel
  dsimp only
  rw [State.modChannel_eq, State.channel_setChannel]
  split
  · simp [Channel.retired]
  · simp

theorem State.takeDownChannel_frame :
    s.takeDownChannel c =
      { s with
        channels := (s.takeDownChannel c).channels, bridges := (s.takeDownChannel c).bridges, legs := (s.takeDownChannel c).legs
        slots := (s.takeDownChannel c).slots, timers := (s.takeDownChannel c).timers } := by
  unfold State.takeDownChannel
  exact State.eq_of_fields

theorem State.takeDownChannel_slot (n : SlotNo) :
    ((s.channel c).trunk ≠ some n → (s.takeDownChannel c).slot n = s.slot n) ∧
      ((s.channel c).trunk = some n → (s.slot n).altLines = [] →
        (s.takeDownChannel c).slot n = { s.slot n with state := .unassigned, claimant := none, primaryNamer := none }) := by
  have before : ((s.cancelTimers ((s.channel c).talkers.map fun e => .silence c e.pos)).freeOwn (s.channel c).bridge).slot n = s.slot n := by
    simp
  unfold State.takeDownChannel
  dsimp only
  rw [State.modChannel_eq, State.slot_setChannel]
  generalize (s.cancelTimers _).freeOwn (s.channel c).bridge = t at before ⊢
  refine ⟨fun h => ?_, fun h empty => ?_⟩
  · cases e : (s.channel c).trunk with
    | none => exact before
    | some m =>
      rw [State.unnamePrimary, State.slot_unnameSlot_ne _ _ fun e' => h (by rw [e, e'])]
      exact before
  · rw [h, State.unnamePrimary, (State.unnameSlot_last (by simp [Slot.named, before, empty])).1, before]

theorem State.takeDownChannel_frees {b : BridgeNo} (h : (s.channel c).bridge = some b) :
    (s.takeDownChannel c).bridge b = Bridge.free ∧ ∀ g, ((s.takeDownChannel c).leg g).attach ≠ some b := by
  unfold State.takeDownChannel
  dsimp only
  rw [h, State.modChannel_eq, State.bridge_setChannel, State.bridge_unnamePrimary]
  refine ⟨(State.bridge_freeBridge ..).trans (if_pos rfl), fun g => ?_⟩
  rw [State.leg_setChannel, State.leg_unnamePrimary]
  exact State.freeBridge_detaches _ b g

theorem State.takeDownChannel_silence {e : FloorEntry} (h : e ∈ (s.channel c).talkers) :
    ((s.takeDownChannel c).timer (.silence c e.pos)).running = false := by
  unfold State.takeDownChannel
  dsimp only
  rw [State.modChannel_eq, State.timer_setChannel, State.timer_unnamePrimary _ fun n => by simp, State.timer_freeOwn]
  exact (State.timer_cancelTimers ..).2 (.inl (List.mem_map.2 ⟨e, h, rfl⟩))

end

end Sys2Proof.Machine

namespace Sys2Proof.Proofs

open Machine Safety Laws

/-- Settles O27: `LineRetired` says what the retire of a line leads to after its live state is taken down, case by case. -/
theorem retiresStartSweeps : Obligations.RetiresStartSweeps := by
  refine ⟨fun s w ready => ⟨fun bad => congrArg Host.Outcome.next (command_refused s _ w _ ready (State.retireLine_bad bad)),
    fun bad => congrArg Host.Outcome.next (command_refused s _ w _ ready (State.retireChannel_bad bad))⟩,
    fun s w l ready hl => ?_, fun s w c ready hc => ?_⟩
  · have decided := State.retireLine_at (s := loaded s 0x03#8 w) hl
    refine ⟨fun vacant => congrArg Host.Outcome.next (command_refused s _ w _ ready (decided.trans (if_pos vacant))),
      fun live unforced => ?_, fun allowed => ?_⟩
    · have kept : (s.line l).state ≠ .vacant ∧ (s.line l).state ≠ .idle ∧ (s.line l).state ≠ .lockout := by
        rcases live with h | h | h <;> simp [h]
      exact congrArg Host.Outcome.next (command_refused s _ w _ ready
        (decided.trans ((if_neg kept.1).trans (if_pos ⟨kept.2.1, kept.2.2, unforced⟩))))
    · have notVacant : (s.line l).state ≠ .vacant := by
        rcases allowed with h | h | ⟨h | h | h, -⟩ <;> simp [h]
      have forced : ¬((s.line l).state ≠ .idle ∧ (s.line l).state ≠ .lockout ∧ w.maskBit 8 = false) := by
        rcases allowed with h | h | ⟨-, h⟩ <;> simp [h]
      have retired := (loaded s 0x03#8 w).lineRetired_retired l
      obtain ⟨directories, inFlight, reports, pointer, links, mp⟩ := (loaded s 0x03#8 w).lineRetired_frame l
      generalize (loaded s 0x03#8 w).lineRetired l = v at decided retired directories inFlight reports pointer links mp
      have runs := command_runs s _ 0x03#8 w ready (decided.trans ((if_neg notVacant).trans (if_neg forced)))
      have link (q : Pos) : v.link q = (loaded s 0x03#8 w).link q := by simp only [State.link, links]
      refine ⟨_, congrArg Host.Outcome.next runs, ?_, fun q => ?_, fun rest => ?_, fun alerting => ?_, fun used => ?_, fun n hn => ⟨?_, ?_⟩,
        fun n hn => ?_, ?_, ?_, ?_, ?_⟩
      · simp only [State.modMp, State.finishAct_mp, mp]; rfl
      · exact (finishAct_link none [] _ v q (link q)).trans (told_congr {} {} rfl none []).symm
      · simpa [retiring] using retired.of_rest rest
      · simpa [retiring] using retired.of_alerting alerting
      · obtain ⟨line, selection, held, burst, bridge⟩ := retired.of_used used
        refine ⟨by simpa [retiring, rested] using line, fun q m => ?_, by simpa using held, by simpa using burst, fun b hb => ?_⟩
        · rw [State.selection_modMp, State.selection_finishAct]
          exact selection q m
        · simpa [finishAct_bridge] using bridge b hb
      · simpa using retired.unnamed n hn
      · intro agree empty
        simpa using retired.unassigned (s := loaded s 0x03#8 w) agree n hn empty
      · simpa using retired.altLines n hn
      · simpa using directories
      · simpa using inFlight
      · simpa using reports
      · simpa using pointer
  · have decided := State.retireChannel_at (s := loaded s 0x09#8 w) hc
    refine ⟨fun vacant => congrArg Host.Outcome.next (command_refused s _ w _ ready (decided.trans (if_pos vacant))),
      fun opened unforced => ?_, fun allowed => ?_⟩
    · have notVacant : (s.channel c).state ≠ .vacant := by simp [opened]
      exact congrArg Host.Outcome.next (command_refused s _ w _ ready
        (decided.trans ((if_neg notVacant).trans (if_pos ⟨opened, unforced⟩))))
    · have notVacant : (s.channel c).state ≠ .vacant := by
        rcases allowed with h | ⟨h, -⟩ <;> simp [h]
      have forced : ¬((s.channel c).state = .opened ∧ w.maskBit 8 = false) := by
        rcases allowed with h | ⟨-, h⟩ <;> simp [h]
      have runs := command_runs s _ 0x09#8 w ready (decided.trans ((if_neg notVacant).trans (if_neg forced)))
      have channel := (loaded s 0x09#8 w).channel_takeDownChannel c
      have slot := (loaded s 0x09#8 w).takeDownChannel_slot c
      have told := (loaded s 0x09#8 w).link_tellVacant ((loaded s 0x09#8 w).takeDownChannel c) c
      have frees (b : BridgeNo) (h : (s.channel c).bridge = some b) := (loaded s 0x09#8 w).takeDownChannel_frees c h
      have silence (e : FloorEntry) (h : e ∈ (s.channel c).talkers) := (loaded s 0x09#8 w).takeDownChannel_silence c h
      have frame := (loaded s 0x09#8 w).takeDownChannel_frame c
      have tells := (loaded s 0x09#8 w).tellVacant_frame ((loaded s 0x09#8 w).takeDownChannel c) c
      generalize (loaded s 0x09#8 w).takeDownChannel c = v at runs channel slot told frees silence frame tells
      generalize (loaded s 0x09#8 w).tellVacant v c = x at runs told tells
      have link (q : Pos) : v.link q = s.link q := by rw [frame]; rfl
      refine ⟨_, congrArg Host.Outcome.next runs, ?_, ?_, fun q => ?_, fun b hb => ?_, fun n hn empty => ?_, fun n hn => ?_,
        fun e he => ?_, fun k hk => ?_, ?_⟩
      · rw [tells, frame]; rfl
      · rw [tells]; exact (channel c).trans (if_pos rfl)
      · refine (told q).trans ?_
        rw [link]; rfl
      · rw [tells]; exact frees b hb
      · rw [tells]; exact (slot n).2 hn empty
      · rw [tells]; exact (slot n).1 hn
      · rw [tells]; exact silence e he
      · rw [tells]; exact (channel k).trans (if_neg hk)
      · rw [tells, frame]; rfl

end Sys2Proof.Proofs
end

section
/-! Ring starts (R42, R135), and confirmed faults with failover and the loss of a route (R64, R136, R138 to R140). -/

set_option Elab.async false

namespace Sys2Proof.Machine

open Safety Laws

/-! ### A ring start, by the state of the line (R42) -/

theorem Generator.addRef_refs (g : Generator) :
    g.addRef.refs = g.refs + 1 ∧ (g.refs = 0 → g.addRef.state = .on ∧ g.addRef.phaseFrames = 160 * g.onSetting) := by
  unfold Generator.addRef
  split
  · rename_i h; exact ⟨by simp [h], fun _ => ⟨rfl, rfl⟩⟩
  · rename_i h; exact ⟨rfl, fun e => absurd e h⟩

section
variable {s : State} {l : LineNo}

/-- A line that takes no ring start. -/
theorem State.ringStart_ignored
    (h : (s.line l).kind = .nailed ∨ (s.line l).state ≠ .idle ∧ (s.line l).state ≠ .alerting ∧ (s.line l).state ≠ .connected) :
    s.ringStart l = s := by
  unfold State.ringStart
  dsimp only
  split
  · rfl
  · rename_i kind
    obtain ⟨idle, alerting, connected⟩ := h.resolve_left kind
    split
    · rename_i e; exact absurd e idle
    · rename_i e; exact absurd e alerting
    · rename_i e; exact absurd e connected
    · rfl

theorem State.ringStart_idle (kind : (s.line l).kind ≠ .nailed) (idle : (s.line l).state = .idle) :
    s.ringStart l =
      ((s.setGenerator (s.line l).cadence (s.generator (s.line l).cadence).addRef).setLine l
        { s.line l with state := .alerting, refGen := some (s.line l).cadence }).setTimer (.ringTimeout l)
        ((s.timer (.ringTimeout l)).start (1000 * (s.line l).ringTimeout)) := by
  unfold State.ringStart
  dsimp only
  rw [if_neg kind, idle]
  rfl

/-- An ALERTING line whose reference is on the cadence now set, or on none. -/
theorem State.ringStart_retriggered (kind : (s.line l).kind ≠ .nailed) (alerting : (s.line l).state = .alerting)
    (same : (s.line l).refGen = none ∨ (s.line l).refGen = some (s.line l).cadence) :
    s.ringStart l = s.setTimer (.ringTimeout l) ((s.timer (.ringTimeout l)).start (1000 * (s.line l).ringTimeout)) := by
  unfold State.ringStart
  dsimp only
  rw [if_neg kind, alerting]
  rcases same with e | e
  · rw [e]; rfl
  · rw [e]; exact if_pos rfl

/-- An ALERTING line whose reference moves to the cadence now set. -/
theorem State.ringStart_moved {n : GenNo} (kind : (s.line l).kind ≠ .nailed) (alerting : (s.line l).state = .alerting)
    (ref : (s.line l).refGen = some n) (other : n ≠ (s.line l).cadence) :
    s.ringStart l =
      (((s.setTimer (.ringTimeout l) ((s.timer (.ringTimeout l)).start (1000 * (s.line l).ringTimeout))).setGenerator n
        (s.generator n).dropRef).setGenerator (s.line l).cadence (s.generator (s.line l).cadence).addRef).setLine l
        { s.line l with refGen := some (s.line l).cadence } := by
  unfold State.ringStart
  dsimp only
  rw [if_neg kind]
  split
  · rename_i e; rw [alerting] at e; cases e
  · simp only [ref]
    rw [if_neg other]
    simp [State.generator_setGenerator_ne _ _ other.symm]
  · rename_i e; rw [alerting] at e; cases e
  · rename_i e _; exact absurd alerting e

theorem State.ringStart_connected (kind : (s.line l).kind ≠ .nailed) (connected : (s.line l).state = .connected) :
    s.ringStart l = s.setLine l { s.line l with marks := { (s.line l).marks with farSignal := true } } := by
  unfold State.ringStart
  dsimp only
  rw [if_neg kind]
  split
  · rename_i e; rw [connected] at e; cases e
  · rename_i e; rw [connected] at e; cases e
  · rfl
  · rename_i e; exact absurd connected e

/-- The reference of an ALERTING line moves to the cadence now set. -/
theorem State.line_ringStart_alerting (kind : (s.line l).kind ≠ .nailed) (alerting : (s.line l).state = .alerting) :
    (s.ringStart l).line l = { s.line l with refGen := (s.line l).refGen.map fun _ => (s.line l).cadence } := by
  by_cases same : (s.line l).refGen = none ∨ (s.line l).refGen = some (s.line l).cadence
  · have kept : (s.line l).refGen.map (fun _ => (s.line l).cadence) = (s.line l).refGen := by
      rcases same with e | e <;> rw [e] <;> rfl
    rw [State.ringStart_retriggered kind alerting same, kept]
    rfl
  · obtain ⟨n, ref⟩ : ∃ n, (s.line l).refGen = some n := Option.ne_none_iff_exists'.1 fun e => same (.inl e)
    have other : n ≠ (s.line l).cadence := fun e => same (.inr (by rw [ref, e]))
    rw [State.ringStart_moved kind alerting ref other, ref]
    simp

/-- The ring timeout starts, or starts again, and no other timer does (R42). -/
theorem State.timer_ringStart (kind : (s.line l).kind ≠ .nailed) (h : (s.line l).state = .idle ∨ (s.line l).state = .alerting)
    (id : TimerId) :
    (s.ringStart l).timer id =
      if id = .ringTimeout l then (s.timer (.ringTimeout l)).start (1000 * (s.line l).ringTimeout) else s.timer id := by
  have written (t : State) (x : Timer) (same : ∀ i, t.timer i = s.timer i) :
      (t.setTimer (.ringTimeout l) x).timer id = if id = .ringTimeout l then x else s.timer id := by
    split
    · rename_i e; subst e; simp
    · rename_i e; rw [State.timer_setTimer_ne _ _ e, same]
  rcases h with idle | alerting
  · rw [State.ringStart_idle kind idle]
    exact written _ _ fun _ => rfl
  · by_cases same : (s.line l).refGen = none ∨ (s.line l).refGen = some (s.line l).cadence
    · rw [State.ringStart_retriggered kind alerting same]
      exact written _ _ fun _ => rfl
    · obtain ⟨n, ref⟩ : ∃ n, (s.line l).refGen = some n := Option.ne_none_iff_exists'.1 fun e => same (.inl e)
      have other : n ≠ (s.line l).cadence := fun e => same (.inr (by rw [ref, e]))
      rw [State.ringStart_moved kind alerting ref other]
      exact written s _ fun _ => rfl

theorem State.line_ringStart_ne {k : LineNo} (h : k ≠ l) : (s.ringStart l).line k = s.line k := by
  unfold State.ringStart
  dsimp only
  (repeat' split) <;> simp [State.line_setLine, h]

end

theorem State.ringStart_frame (s : State) (l : LineNo) :
    s.ringStart l =
      { s with lines := (s.ringStart l).lines, timers := (s.ringStart l).timers, generators := (s.ringStart l).generators } :=
  State.eq_of_fields

theorem State.deliverRing_discards {s : State} {sl : SlotNo}
    (h : (s.slot sl).state ≠ .active ∨ ∀ l : LineNo, (s.slot sl).claimant ≠ some (.line l)) : s.deliverRing sl = s := by
  unfold State.deliverRing
  split
  · rename_i l active claimed
    exact absurd claimed (h.resolve_left (not_not_intro active) l)
  · rfl

theorem State.deliverRing_delivers {s : State} {sl : SlotNo} {l : LineNo} (active : (s.slot sl).state = .active)
    (claimed : (s.slot sl).claimant = some (.line l)) : s.deliverRing sl = finishAct none [] s (s.ringStart l) := by
  unfold State.deliverRing
  rw [active, claimed]

/-- An act without a change tells nobody. -/
theorem told_same (s : State) (own : Option Pos) (q : Pos) : told own [] s s q = s.link q := by
  simp [told, toldLines]

/-! ### Legs of a trunk (R64, R104) -/

theorem trunkLeg_inj {m n : SlotNo} (h : trunkLeg m = trunkLeg n) : m = n := by
  have := congrArg Fin.val h
  simp only [trunkLeg] at this
  exact Fin.ext (by omega)

theorem State.contributors_leave (s : State) (b : BridgeNo) (g : LegNo) :
    ((s.leave b g).bridge b).contributors = (s.bridge b).contributors.erase g := by
  obtain ⟨r, e⟩ := s.bridge_leave b g
  rw [e]; rfl

theorem State.leave_detaches (s : State) (b : BridgeNo) (g : LegNo) : ((s.leave b g).leg g).attach ≠ some b :=
  (s.leaveOwn_legs_leave (some b) g).detached g rfl b rfl

/-! ### A confirmed fault (R136) -/

/-- A slot in FAULT without a claimant. -/
def State.faulted (s : State) (sl : SlotNo) : State := s.setSlot sl { s.slot sl with state := .fault, claimant := none }

@[simp] theorem State.faulted_lines (s : State) (sl : SlotNo) : (s.faulted sl).lines = s.lines := rfl
@[simp] theorem State.faulted_directories (s : State) (sl : SlotNo) : (s.faulted sl).directories = s.directories := rfl
@[simp] theorem State.faulted_channels (s : State) (sl : SlotNo) : (s.faulted sl).channels = s.channels := rfl
@[simp] theorem State.faulted_selections (s : State) (sl : SlotNo) : (s.faulted sl).selections = s.selections := rfl
@[simp] theorem State.faulted_legs (s : State) (sl : SlotNo) : (s.faulted sl).legs = s.legs := rfl
@[simp] theorem State.faulted_generators (s : State) (sl : SlotNo) : (s.faulted sl).generators = s.generators := rfl
@[simp] theorem State.faulted_timers (s : State) (sl : SlotNo) : (s.faulted sl).timers = s.timers := rfl
@[simp] theorem State.faulted_inFlight (s : State) (sl : SlotNo) : (s.faulted sl).inFlight = s.inFlight := rfl
@[simp] theorem State.faulted_reports (s : State) (sl : SlotNo) : (s.faulted sl).reports = s.reports := rfl
@[simp] theorem State.faulted_links (s : State) (sl : SlotNo) : (s.faulted sl).links = s.links := rfl
@[simp] theorem State.faulted_pointer (s : State) (sl : SlotNo) : (s.faulted sl).pointer = s.pointer := rfl
@[simp] theorem State.faulted_frameCount (s : State) (sl : SlotNo) : (s.faulted sl).frameCount = s.frameCount := rfl
@[simp] theorem State.faulted_mp (s : State) (sl : SlotNo) : (s.faulted sl).mp = s.mp := rfl
@[simp] theorem State.faulted_pending (s : State) (sl : SlotNo) : (s.faulted sl).pending = s.pending := rfl
@[simp] theorem State.line_faulted (s : State) (sl : SlotNo) (l : LineNo) : (s.faulted sl).line l = s.line l := rfl
@[simp] theorem State.channel_faulted (s : State) (sl : SlotNo) (c : ChanNo) : (s.faulted sl).channel c = s.channel c := rfl
@[simp] theorem State.bridge_faulted (s : State) (sl : SlotNo) (b : BridgeNo) : (s.faulted sl).bridge b = s.bridge b := rfl
@[simp] theorem State.generator_faulted (s : State) (sl : SlotNo) (n : GenNo) : (s.faulted sl).generator n = s.generator n := rfl
@[simp] theorem State.leg_faulted (s : State) (sl : SlotNo) (g : LegNo) : (s.faulted sl).leg g = s.leg g := rfl

theorem State.slot_faulted (s : State) (sl n : SlotNo) :
    (s.faulted sl).slot n = if n = sl then { s.slot sl with state := .fault, claimant := none } else s.slot n := by
  simp [State.faulted, State.slot_setSlot]

theorem State.confirmFault_unclaimed {s : State} {sl : SlotNo} (h : (s.slot sl).claimant = none) :
    s.confirmFault sl = (s.faulted sl).post .route := by
  unfold State.confirmFault
  rw [h]; rfl

theorem State.confirmFault_line {s : State} {sl : SlotNo} {l : LineNo} (h : (s.slot sl).claimant = some (.line l)) :
    s.confirmFault sl = (finishAct none [] s ((s.faulted sl).lineFault l sl)).post .route := by
  unfold State.confirmFault
  rw [h]; rfl

theorem State.confirmFault_channel {s : State} {sl : SlotNo} {c : ChanNo} (h : (s.slot sl).claimant = some (.channel c)) :
    s.confirmFault sl = (finishAct none [c] s ((s.faulted sl).channelFault c sl)).post .route := by
  unfold State.confirmFault
  rw [h]; rfl

/-- The other slot of a line is STANDBY, or there is none (R138, R139). -/
theorem State.lineFault_failover {s : State} {l : LineNo} {sl n : SlotNo} (other : (s.line l).otherSlot = some n)
    (standby : (s.slot n).state = .standby) : s.lineFault l sl = s.failover l sl n := by
  unfold State.lineFault
  rw [other]
  exact if_pos standby

theorem State.lineFault_loses {s : State} {l : LineNo} {sl : SlotNo}
    (h : ∀ n, (s.line l).otherSlot = some n → (s.slot n).state ≠ .standby) : s.lineFault l sl = s.loseRoute l sl := by
  unfold State.lineFault
  split
  · rename_i n e; exact if_neg (h n e)
  · rfl

section
variable {s : State} {l : LineNo} {sl : SlotNo}

/-- A line whose other slot is STANDBY takes it, once its own is in FAULT. -/
theorem State.faulted_lineFault_takes {n : SlotNo} (other : (s.line l).otherSlot = some n) (apart : n ≠ sl)
    (standby : (s.slot n).state = .standby) : (s.faulted sl).lineFault l sl = (s.faulted sl).failover l sl n :=
  State.lineFault_failover other (by rw [State.slot_faulted, if_neg apart]; exact standby)

/-- A line without another STANDBY slot loses its route. -/
theorem State.faulted_lineFault_loses
    (h : ∀ n : SlotNo, (s.line l).otherSlot = some n → n = sl ∨ (s.slot n).state ≠ .standby) :
    (s.faulted sl).lineFault l sl = (s.faulted sl).loseRoute l sl :=
  State.lineFault_loses fun n other => by
    rw [State.slot_faulted]
    split
    · nofun
    · rename_i apart; exact (h n other).resolve_left apart

end

/-! ### Failover (R104, R138, R139) -/

section
variable (s : State) (l : LineNo) (sl n : SlotNo)

theorem State.line_failover (k : LineNo) :
    (s.failover l sl n).line k = if k = l then { s.line l with route := (s.line l).routeOf n } else s.line k := by
  simp only [State.failover, State.line_joinOwn, State.line_leaveOwn, State.line_claimLine]

theorem State.slot_failover (m : SlotNo) :
    (s.failover l sl n).slot m = if m = n then { s.slot n with state := .active, claimant := some (.line l) } else s.slot m := by
  simp only [State.failover, State.slot_joinOwn, State.slot_leaveOwn, State.slot_claimLine]

/-- The trunk member of the line's bridge is replaced, the new leg last (R104). -/
theorem State.failover_bridge {b : BridgeNo} (hb : (s.line l).bridge = some b) (ne : sl ≠ n) :
    (trunkLeg n ∉ (s.bridge b).contributors →
        ((s.failover l sl n).bridge b).contributors = (s.bridge b).contributors.erase (trunkLeg sl) ++ [trunkLeg n]) ∧
      ((s.failover l sl n).leg (trunkLeg n)).attach = some b ∧ ((s.failover l sl n).leg (trunkLeg sl)).attach ≠ some b := by
  have claimed : (s.claimLine l n).bridge b = s.bridge b := by simp [State.claimLine, State.takeSlot]
  simp only [State.failover, hb, State.leaveOwn, State.joinOwn]
  refine ⟨fun out => ?_, by simp [State.leg_join], ?_⟩
  · rw [State.contributors_join, State.contributors_leave, claimed, if_neg fun e => out (List.mem_of_mem_erase e)]
  · rw [State.leg_join, if_neg fun e => ne (trunkLeg_inj e)]
    exact State.leave_detaches _ b _

/-! ### The loss of a route (R138, R139) -/

theorem State.line_loseRoute_ne {k : LineNo} (h : k ≠ l) : (s.loseRoute l sl).line k = s.line k := by
  unfold State.loseRoute
  split
  · simp [State.line_setLine, h]
  · simp [State.line_setLine, h]
  · rw [State.modLine_eq, State.line_setLine_ne _ _ h, State.line_endAlert, if_neg h]

variable {s l}

theorem State.loseRoute_used (h : (s.line l).state = .connected ∨ (s.line l).state = .held) :
    s.loseRoute l sl =
      (s.setLine l { s.line l with route := .none, marks := { (s.line l).marks with noRoute := true } }).leaveOwn
        (s.line l).bridge (trunkLeg sl) := by
  unfold State.loseRoute
  rcases h with h | h <;> rw [h] <;> rfl

/-- The trunk leg is off the bridge of a line that goes on without a route (R139). -/
theorem State.loseRoute_bridge {b : BridgeNo} (used : (s.line l).state = .connected ∨ (s.line l).state = .held)
    (hb : (s.line l).bridge = some b) :
    ((s.loseRoute l sl).bridge b).contributors = (s.bridge b).contributors.erase (trunkLeg sl) ∧
      ((s.loseRoute l sl).leg (trunkLeg sl)).attach ≠ some b := by
  rw [State.loseRoute_used sl used, hb]
  exact ⟨State.contributors_leave .., State.leave_detaches _ b _⟩

/-- The record of a line in LOCKOUT without a route. -/
def lockedOut (x : Line) : Line := { x with state := .lockout, route := .none, currentPrivacy := x.defaultPrivacy, refGen := none }

theorem State.loseRoute_rest (h : (s.line l).state = .idle ∨ (s.line l).state = .alerting) :
    s.loseRoute l sl = (s.endAlert l).setLine l (lockedOut (s.line l)) := by
  have locked : ((s.endAlert l).line l).enterLockout = lockedOut (s.line l) := by
    rw [State.line_endAlert, if_pos rfl]; rfl
  unfold State.loseRoute
  rcases h with h | h <;> rw [h] <;> exact congrArg ((s.endAlert l).setLine l) locked

end

theorem State.line_lineFault_ne (s : State) {l k : LineNo} (sl : SlotNo) (h : k ≠ l) : (s.lineFault l sl).line k = s.line k := by
  unfold State.lineFault
  (repeat' split)
  · rw [State.line_failover, if_neg h]
  · exact s.line_loseRoute_ne l sl h
  · exact s.line_loseRoute_ne l sl h

/-- The slot in FAULT is not taken again. -/
theorem State.slot_faulted_lineFault (s : State) (l : LineNo) (sl : SlotNo) :
    ((s.faulted sl).lineFault l sl).slot sl = { s.slot sl with state := .fault, claimant := none } := by
  have own := (s.slot_faulted sl sl).trans (if_pos rfl)
  unfold State.lineFault
  (repeat' split)
  · rename_i n _ standby
    have ne : sl ≠ n := by rintro rfl; rw [own] at standby; cases standby
    rw [State.slot_failover, if_neg ne, own]
  · rw [State.slot_loseRoute, own]
  · rw [State.slot_loseRoute, own]

/-! ### The fault of a channel's trunk (R64) -/

theorem State.channel_channelFault (s : State) (c : ChanNo) (sl : SlotNo) (k : ChanNo) :
    (s.channelFault c sl).channel k = if k = c then { s.channel c with noTrunk := true } else s.channel k := by
  simp [State.channelFault, State.channel_setChannel]

theorem State.channelFault_bridge {s : State} {c : ChanNo} {b : BridgeNo} (sl : SlotNo) (h : (s.channel c).bridge = some b) :
    ((s.channelFault c sl).bridge b).contributors = (s.bridge b).contributors.erase (trunkLeg sl) ∧
      ((s.channelFault c sl).leg (trunkLeg sl)).attach ≠ some b := by
  simp only [State.channelFault, h, State.leaveOwn]
  exact ⟨State.contributors_leave .., State.leave_detaches _ b _⟩

end Sys2Proof.Machine
end

section
/-! Qualified ring starts and confirmed faults, settled. -/

set_option Elab.async false

namespace Sys2Proof.Machine

open Safety Laws

/-- The indications of an expiry's act that posts an event after them. -/
theorem expired_posted_told {s v : State} {t : TimerId} (cs : List ChanNo) (e : Event) (links : v.links = s.links) :
    ToldAll cs s ((finishAct none cs (expired s t) v).post e) := fun q =>
  (expired_told cs links q).trans (told_congr (s := s) {} {} rfl none cs).symm

end Sys2Proof.Machine

namespace Sys2Proof.Proofs

open Machine Safety Laws

/-- Settles O47: a ring start by the state of the line, and a confirmed fault by the claimant and its other slot. -/
theorem ringStartsAndFaultsAct : Obligations.RingStartsAndFaultsAct := by
  refine ⟨fun s sl running current ringing => ?_, fun s sl running current absent freed => ?_⟩
  · have acts : s.takeExpiry (.qualify sl) (!s.resetting && (s.slot sl).ringActive) (fun t => t.deliverRing sl) =
        (expired s (.qualify sl)).deliverRing sl := by
      rw [running, ringing]; exact takeExpiry_acts s _ _ current
    by_cases discards : (s.slot sl).state ≠ .active ∨ ∀ l : LineNo, (s.slot sl).claimant ≠ some (.line l)
    · have still := State.deliverRing_discards (s := expired s (.qualify sl)) discards
      refine ⟨_, congrArg Host.Outcome.next (acts.trans still), rfl, fun q => ?_, fun _ => rfl, fun l active claimed => ?_⟩
      · exact ((told_congr (s := s) (t := s) {} {} rfl none []).trans (told_same s none q)).symm
      · exact absurd claimed (discards.resolve_left (not_not_intro active) l)
    · obtain ⟨active, l, claimed⟩ : (s.slot sl).state = .active ∧ ∃ l : LineNo, (s.slot sl).claimant = some (.line l) := by
        simpa using discards
      have delivers := State.deliverRing_delivers (s := expired s (.qualify sl)) active claimed
      refine ⟨_, congrArg Host.Outcome.next (acts.trans delivers), by simp, expired_told [] (by simp), fun h => absurd h discards,
        fun k _ hk => ?_⟩
      cases Option.some.inj (hk.symm.trans claimed)
      refine ⟨fun ignored => ?_, fun kind idle => ?_, fun kind alerting => ⟨?_, fun same => ?_, fun n ref other => ⟨?_, ?_⟩⟩,
        fun kind ringable => ?_, fun kind connected => ?_, fun k hk => ?_, ?_⟩
      · rw [State.ringStart_ignored (s := expired s (.qualify sl)) ignored]
        have quiet : (finishAct none [] (expired s (.qualify sl)) (expired s (.qualify sl))).links = s.links :=
          State.links_eq fun q => (finishAct_link none [] _ _ q rfl).trans (told_same _ none q)
        exact State.eq_of_fields (bridges := by simp [finishAct_bridges]) (links := quiet)
      · rw [State.ringStart_idle (s := expired s (.qualify sl)) kind idle]
        refine ⟨by simp, ?_, fun first => ?_, fun n hn => ?_⟩
        · simp [Generator.addRef_refs]
        · simpa using (Generator.addRef_refs (s.generator (s.line l).cadence)).2 first
        · simp [State.generator_setGenerator_ne _ _ hn]
      · exact (State.line_finishAct ..).trans (State.line_ringStart_alerting (s := expired s (.qualify sl)) kind alerting)
      · rw [State.ringStart_retriggered (s := expired s (.qualify sl)) kind alerting same]
        simp
      · rw [State.ringStart_moved (s := expired s (.qualify sl)) kind alerting ref other]
        simp [State.generator_setGenerator_ne _ _ other, Generator.dropRef_refs]
      · rw [State.ringStart_moved (s := expired s (.qualify sl)) kind alerting ref other]
        simp [Generator.addRef_refs]
      · have started := State.timer_ringStart (s := expired s (.qualify sl)) kind ringable
        refine ⟨?_, fun id hid => ?_⟩
        · rw [State.timer_finishAct, started, if_pos rfl]; rfl
        · rw [State.timer_finishAct, started, if_neg hid]; rfl
      · rw [State.ringStart_connected (s := expired s (.qualify sl)) kind connected]
        simp
      · rw [State.line_finishAct, State.line_ringStart_ne hk]; rfl
      · exact State.eq_of_fields (bridges := by simp [finishAct_bridges])
  · have stands : ((!s.resetting || s.routesTaken) && !(s.slot sl).alive &&
        ((s.slot sl).state == .standby || (s.slot sl).state == .active)) = true := by
      rcases running with h | h <;> rcases freed with f | f <;> simp [h, f, absent]
    have acts : s.takeExpiry (.faultConfirm sl) ((!s.resetting || s.routesTaken) && !(s.slot sl).alive &&
        ((s.slot sl).state == .standby || (s.slot sl).state == .active)) (fun t => t.confirmFault sl) =
        (expired s (.faultConfirm sl)).confirmFault sl := by
      rw [stands]; exact takeExpiry_acts s _ _ current
    have slots (n : SlotNo) := (expired s (.faultConfirm sl)).slot_faulted sl n
    cases claimant : (s.slot sl).claimant with
    | none =>
      have confirmed := State.confirmFault_unclaimed (s := expired s (.faultConfirm sl)) claimant
      refine ⟨_, congrArg Host.Outcome.next (acts.trans confirmed), rfl, rfl, ?_, fun _ => rfl, nofun, nofun⟩
      exact (slots sl).trans (if_pos rfl)
    | some owner =>
      cases owner with
      | line l =>
        have confirmed := State.confirmFault_line (s := expired s (.faultConfirm sl)) claimant
        refine ⟨_, congrArg Host.Outcome.next (acts.trans confirmed), by simp, by simp [State.post]; rfl, ?_, nofun,
          fun k hk => ?_, nofun⟩
        · rw [State.slot_post, State.slot_finishAct, State.slot_faulted_lineFault]; rfl
        cases hk
        refine ⟨expired_posted_told [] .route (by simp), fun k hk => ?_, by simp, fun n other apart standby => ?_, fun none => ?_⟩
        · rw [State.line_post, State.line_finishAct, State.line_lineFault_ne _ _ hk]; rfl
        · have member (b : BridgeNo) (hb : (s.line l).bridge = some b) :=
            State.failover_bridge ((expired s (.faultConfirm sl)).faulted sl) l sl n hb apart.symm
          rw [State.faulted_lineFault_takes (s := expired s (.faultConfirm sl)) other apart standby]
          refine ⟨?_, ?_, fun m hm hn => ?_, fun b hb => ⟨fun _ out => ?_, ?_, ?_⟩, by simp, by simp⟩
          · rw [State.line_post, State.line_finishAct, State.line_failover, if_pos rfl]; rfl
          · rw [State.slot_post, State.slot_finishAct, State.slot_failover, if_pos rfl, slots, if_neg apart]; rfl
          · rw [State.slot_post, State.slot_finishAct, State.slot_failover, if_neg hn, slots, if_neg hm]; rfl
          · rw [State.bridge_post, finishAct_bridge, Bridge.settle_contributors]; exact (member b hb).1 out
          · rw [State.leg_post, State.leg_finishAct]; exact (member b hb).2.1
          · rw [State.leg_post, State.leg_finishAct]; exact (member b hb).2.2
        · rw [State.faulted_lineFault_loses (s := expired s (.faultConfirm sl)) none]
          refine ⟨fun n hn => ?_, fun used => ?_, fun rest => ?_⟩
          · rw [State.slot_post, State.slot_finishAct, State.slot_loseRoute, slots, if_neg hn]; rfl
          · have member (b : BridgeNo) (hb : (s.line l).bridge = some b) :=
              State.loseRoute_bridge (s := (expired s (.faultConfirm sl)).faulted sl) sl used hb
            have lost := State.loseRoute_used (s := (expired s (.faultConfirm sl)).faulted sl) sl used
            refine ⟨?_, fun b hb => ⟨?_, ?_⟩, by simp [lost], by simp [lost]⟩
            · rw [State.line_post, State.line_finishAct, lost]; simp
            · rw [State.bridge_post, finishAct_bridge, Bridge.settle_contributors]; exact (member b hb).1
            · rw [State.leg_post, State.leg_finishAct]; exact (member b hb).2
          · rw [State.loseRoute_rest (s := (expired s (.faultConfirm sl)).faulted sl) sl rest]
            refine ⟨by simp [lockedOut], ?_, fun n hn => ?_, by simp⟩
            · simpa using (((expired s (.faultConfirm sl)).faulted sl).timer_endAlert l (.ringTimeout l)).2
            · have dropped := State.generator_endAlert (s := (expired s (.faultConfirm sl)).faulted sl) (l := l) hn n
              rw [if_pos rfl] at dropped
              simp [dropped, Generator.dropRef_refs]
      | channel c =>
        have confirmed := State.confirmFault_channel (s := expired s (.faultConfirm sl)) claimant
        refine ⟨_, congrArg Host.Outcome.next (acts.trans confirmed), by simp, by simp [State.post]; rfl, ?_, nofun, nofun,
          fun k hk => ?_⟩
        · rw [State.slot_post, State.slot_finishAct, State.slot_channelFault]; exact (slots sl).trans (if_pos rfl)
        cases hk
        have channel := ((expired s (.faultConfirm sl)).faulted sl).channel_channelFault c sl
        have member (b : BridgeNo) (hb : (s.channel c).bridge = some b) :=
          State.channelFault_bridge (s := (expired s (.faultConfirm sl)).faulted sl) (b := b) sl hb
        refine ⟨expired_posted_told [c] .route (by simp), ?_, fun k hk => ?_, fun n hn => ?_, fun b hb => ⟨?_, ?_⟩, ?_⟩
        · rw [State.channel_post, State.channel_finishAct]; exact (channel c).trans (if_pos rfl)
        · rw [State.channel_post, State.channel_finishAct]; exact (channel k).trans (if_neg hk)
        · rw [State.slot_post, State.slot_finishAct, State.slot_channelFault]; exact (slots n).trans (if_neg hn)
        · rw [State.bridge_post, finishAct_bridge, Bridge.settle_contributors]; exact (member b hb).1
        · rw [State.leg_post, State.leg_finishAct]; exact (member b hb).2
        · exact State.eq_of_fields

end Sys2Proof.Proofs
end

section
/-! A completed restore (R137): the slot is served to its channel, to a waiting line, or by reversion (R141 to R143). -/

set_option Elab.async false

namespace Sys2Proof.Machine

open Safety Laws

/-! ### A STANDBY slot served, by who takes it (R141) -/

section
variable {s : State} {sl : SlotNo} (fuel : Nat) (standby : (s.slot sl).state = .standby)
include standby

theorem State.serve_channel {c : ChanNo} (namer : (s.slot sl).primaryNamer = some (.channel c)) :
    State.serve (fuel + 1) s sl = if s.channelWaits c sl then s.claimChannel c sl else s := by
  rw [State.serve, State.serveOne, if_pos standby, namer]

/-- The line that names the slot as primary reverts to it, and nobody seeks the alternate it gives up. -/
theorem State.serve_reverts {l : LineNo} {a : SlotNo} (waits : s.waitingLine sl = none)
    (namer : (s.slot sl).primaryNamer = some (.line l)) (reverts : s.revertible l = true)
    (alternate : (s.line l).alternate = some a) (free : Unsought (s.revert l) a) : State.serve (fuel + 1) s sl = s.revert l := by
  rw [State.serve, State.serveOne, if_pos standby, namer, waits]
  simp only [reverts, if_true, alternate]
  exact State.serve_unsought fuel free

variable (notChannel : ∀ c : ChanNo, (s.slot sl).primaryNamer ≠ some (.channel c))
include notChannel

/-- A waiting line takes the slot, and then does not revert. -/
theorem State.serve_waiting {l : LineNo} (waits : s.waitingLine sl = some l) (stays : (s.regainLine l sl).revertible l = false) :
    State.serve (fuel + 1) s sl = s.regainLine l sl := by
  have one : s.serveOne sl = (s.regainLine l sl, some l) := by
    rw [State.serveOne, if_pos standby, waits]
    split
    · rename_i c e; exact absurd e (notChannel c)
    · rfl
    · rfl
  rw [State.serve, one]
  exact if_neg (by simp [stays])

/-- A slot that nobody takes. -/
theorem State.serve_nobody (waits : s.waitingLine sl = none)
    (stays : ∀ l : LineNo, (s.slot sl).primaryNamer = some (.line l) → s.revertible l = false) :
    State.serve (fuel + 1) s sl = s := by
  cases namer : (s.slot sl).primaryNamer with
  | none =>
    rw [State.serve, State.serveOne, if_pos standby, namer, waits]
  | some owner =>
    cases owner with
    | channel c => exact absurd namer (notChannel c)
    | line l =>
      rw [State.serve, State.serveOne, if_pos standby, namer, waits]
      exact if_neg (by simp [stays l namer])

end

/-- The lowest-numbered line that waits for a slot (R141). -/
theorem State.waitingLine_some {s : State} {sl : SlotNo} {l : LineNo} (waits : (s.line l).waiting = true)
    (names : (s.line l).names sl = true) (lowest : ∀ k, k < l → (s.line k).waiting = true → (s.line k).names sl = false) :
    s.waitingLine sl = some l := by
  unfold State.waitingLine
  rw [List.find?_eq_some_iff_getElem]
  refine ⟨by simp [waits, names], l.val, by simp, by simp, fun j hj => ?_⟩
  simp only [List.getElem_finRange, Fin.cast_mk]
  have below : (⟨j, by omega⟩ : LineNo) < l := hj
  cases w : (s.line ⟨j, by omega⟩).waiting with
  | false => simp
  | true => simp [lowest _ below w]

theorem State.waitingLine_none {s : State} {sl : SlotNo} (h : ∀ l, (s.line l).waiting = true → (s.line l).names sl = false) :
    s.waitingLine sl = none :=
  List.find?_eq_none.2 fun l _ => by
    cases w : (s.line l).waiting with
    | false => simp
    | true => simp [h l w]

/-! ### A route regained (R143) -/

section
variable {s : State} {l : LineNo} {sl : SlotNo}

theorem State.regainLine_lockout (h : (s.line l).state = .lockout) :
    s.regainLine l sl =
      (s.claimLine l sl).setLine l
        { s.line l with state := .idle, currentPrivacy := (s.line l).defaultPrivacy, route := (s.line l).routeOf sl } := by
  have idle : ((s.claimLine l sl).line l).enterIdle =
      { s.line l with state := .idle, currentPrivacy := (s.line l).defaultPrivacy, route := (s.line l).routeOf sl } := by
    rw [State.line_claimLine, if_pos rfl]; rfl
  unfold State.regainLine
  rw [h, ← idle]
  rfl

theorem State.regainLine_used (h : (s.line l).state = .connected ∨ (s.line l).state = .held) :
    s.regainLine l sl =
      ((s.claimLine l sl).setLine l
        { s.line l with marks := { (s.line l).marks with noRoute := false }, route := (s.line l).routeOf sl }).joinOwn
        (s.line l).bridge (trunkLeg sl) := by
  have regained : (s.claimLine l sl).line l = { s.line l with route := (s.line l).routeOf sl } := by
    rw [State.line_claimLine, if_pos rfl]
  have joined : s.regainLine l sl =
      ((s.claimLine l sl).setLine l { (s.claimLine l sl).line l with
        marks := { ((s.claimLine l sl).line l).marks with noRoute := false } }).joinOwn (s.line l).bridge (trunkLeg sl) := by
    unfold State.regainLine
    rcases h with h | h <;> rw [h] <;> rfl
  rw [joined, regained]

theorem State.slot_regainLine (n : SlotNo) :
    (s.regainLine l sl).slot n = if n = sl then { s.slot sl with state := .active, claimant := some (.line l) } else s.slot n := by
  unfold State.regainLine
  dsimp only
  split <;> simp [State.slot_claimLine]

/-- A waiting line that has regained a route does not revert, where the route is its primary or its primary is not to be had. -/
theorem State.regainLine_stays (waits : (s.line l).waiting = true)
    (h : (s.line l).primary = some sl ∨ s.isStandby (s.line l).primary = false) : (s.regainLine l sl).revertible l = false := by
  cases state : (s.line l).state with
  | lockout =>
    have line : (s.regainLine l sl).line l =
        { s.line l with state := .idle, currentPrivacy := (s.line l).defaultPrivacy, route := (s.line l).routeOf sl } := by
      rw [State.regainLine_lockout state, State.line_setLine_self]
    rw [State.revertible, line]
    cases e : (s.line l).primary with
    | none => simp [State.isStandby]
    | some m =>
      by_cases same : m = sl
      · simp [Line.routeOf, e, same]
      · have busy : (s.slot m).state ≠ .standby := by
          have := h.resolve_left (by rw [e]; simpa using same)
          simpa [State.isStandby, e] using this
        simp [State.isStandby, State.slot_regainLine, same, busy]
  | connected => rw [State.revertible, State.regainLine_used (.inl state)]; simp [state]
  | held => rw [State.revertible, State.regainLine_used (.inr state)]; simp [state]
  | _ => simp [Line.waiting, state] at waits

end

/-- The trunk leg of a slot that joins a bridge (R64, R143). -/
theorem State.joinOwn_trunk {s : State} {o : Option BridgeNo} {b : BridgeNo} (sl : SlotNo) (h : o = some b) :
    (trunkLeg sl ∉ (s.bridge b).contributors →
        ((s.joinOwn o (trunkLeg sl)).bridge b).contributors = (s.bridge b).contributors ++ [trunkLeg sl]) ∧
      ((s.joinOwn o (trunkLeg sl)).leg (trunkLeg sl)).attach = some b := by
  subst h
  exact ⟨fun out => (State.contributors_join ..).trans (if_neg out), by simp [State.joinOwn, State.leg_join]⟩

theorem State.claimChannel_bridge {s : State} {c : ChanNo} {b : BridgeNo} (sl : SlotNo) (h : (s.channel c).bridge = some b) :
    (trunkLeg sl ∉ (s.bridge b).contributors →
        ((s.claimChannel c sl).bridge b).contributors = (s.bridge b).contributors ++ [trunkLeg sl]) ∧
      ((s.claimChannel c sl).leg (trunkLeg sl)).attach = some b :=
  State.joinOwn_trunk (s := (s.takeSlot sl (.channel c)).modChannel c fun x => { x with noTrunk := false }) sl h

theorem State.regainLine_bridge {s : State} {l : LineNo} {b : BridgeNo} (sl : SlotNo)
    (used : (s.line l).state = .connected ∨ (s.line l).state = .held) (h : (s.line l).bridge = some b) :
    (trunkLeg sl ∉ (s.bridge b).contributors →
        ((s.regainLine l sl).bridge b).contributors = (s.bridge b).contributors ++ [trunkLeg sl]) ∧
      ((s.regainLine l sl).leg (trunkLeg sl)).attach = some b := by
  rw [State.regainLine_used used]
  exact State.joinOwn_trunk (s := (s.claimLine l sl).setLine l
    { s.line l with marks := { (s.line l).marks with noRoute := false }, route := (s.line l).routeOf sl }) sl h

/-! ### The restore (R137) -/

/-- A slot back in STANDBY, before it is served. -/
def State.restored (s : State) (sl : SlotNo) : State := s.setSlot sl { s.slot sl with state := .standby }

@[simp] theorem State.restored_lines (s : State) (sl : SlotNo) : (s.restored sl).lines = s.lines := rfl
@[simp] theorem State.restored_channels (s : State) (sl : SlotNo) : (s.restored sl).channels = s.channels := rfl
@[simp] theorem State.restored_selections (s : State) (sl : SlotNo) : (s.restored sl).selections = s.selections := rfl
@[simp] theorem State.restored_legs (s : State) (sl : SlotNo) : (s.restored sl).legs = s.legs := rfl
@[simp] theorem State.restored_timers (s : State) (sl : SlotNo) : (s.restored sl).timers = s.timers := rfl
@[simp] theorem State.restored_inFlight (s : State) (sl : SlotNo) : (s.restored sl).inFlight = s.inFlight := rfl
@[simp] theorem State.restored_links (s : State) (sl : SlotNo) : (s.restored sl).links = s.links := rfl
@[simp] theorem State.restored_mp (s : State) (sl : SlotNo) : (s.restored sl).mp = s.mp := rfl
@[simp] theorem State.line_restored (s : State) (sl : SlotNo) (l : LineNo) : (s.restored sl).line l = s.line l := rfl
@[simp] theorem State.channel_restored (s : State) (sl : SlotNo) (c : ChanNo) : (s.restored sl).channel c = s.channel c := rfl

theorem State.slot_restored (s : State) (sl n : SlotNo) :
    (s.restored sl).slot n = if n = sl then { s.slot sl with state := .standby } else s.slot n := by
  simp [State.restored, State.slot_setSlot]

theorem State.completeRestore_eq (s : State) (sl : SlotNo) :
    s.completeRestore sl =
      (finishAct none (s.slot sl).namingChannel s ((s.restored sl).serveFreed (some sl))).post .route := rfl

section
variable {s : State} {sl : SlotNo}

theorem State.restored_standby : ((s.restored sl).slot sl).state = .standby := by
  rw [State.slot_restored, if_pos rfl]

theorem State.restored_namer : ((s.restored sl).slot sl).primaryNamer = (s.slot sl).primaryNamer := by
  rw [State.slot_restored, if_pos rfl]

/-- Its channel claims the slot where it names it and is not its claimant (R132). -/
theorem State.serve_restored_channel {c : ChanNo} (namer : (s.slot sl).primaryNamer = some (.channel c)) :
    (s.restored sl).serveFreed (some sl) =
      if (s.channel c).trunk = some sl ∧ (s.slot sl).claimant ≠ some (.channel c) then (s.restored sl).claimChannel c sl
      else s.restored sl := by
  have served : (s.restored sl).serveFreed (some sl) = _ :=
    State.serve_channel _ State.restored_standby (State.restored_namer.trans namer)
  rw [served]
  exact if_congr (by simp [State.channelWaits, State.slot_restored]) rfl rfl

/-- Nobody waits for the slot (R141). -/
theorem State.restored_nobody (h : ∀ l : LineNo, (s.line l).waiting = true → (s.line l).names sl = false) :
    (s.restored sl).waitingLine sl = none :=
  State.waitingLine_none h

theorem State.serve_restored_reverts {l : LineNo} {a : SlotNo}
    (nobody : ∀ l : LineNo, (s.line l).waiting = true → (s.line l).names sl = false)
    (namer : (s.slot sl).primaryNamer = some (.line l)) (idle : (s.line l).state = .idle) (route : (s.line l).route = .alternate)
    (primary : (s.line l).primary = some sl) (alternate : (s.line l).alternate = some a) (ne : a ≠ sl) (free : Unsought s a) :
    (s.restored sl).serveFreed (some sl) = (s.restored sl).revert l := by
  have reverts : (s.restored sl).revertible l = true := by
    simp [State.revertible, idle, route, primary, State.isStandby, State.restored_standby]
  have free' : Unsought (s.restored sl) a := ⟨by rw [State.slot_restored, if_neg ne]; exact free.1, free.2⟩
  exact State.serve_reverts _ State.restored_standby (State.restored_nobody nobody) (State.restored_namer.trans namer) reverts
    alternate (State.revert_unsought idle primary ne.symm free')

theorem State.slot_restored_revert {l : LineNo} {a : SlotNo} (primary : (s.line l).primary = some sl)
    (alternate : (s.line l).alternate = some a) (ne : a ≠ sl) (n : SlotNo) :
    ((s.restored sl).revert l).slot n =
      if n = sl then { s.slot sl with state := .active, claimant := some (.line l) }
      else if n = a then { s.slot a with state := .standby, claimant := none } else s.slot n := by
  rw [State.slot_revert (s := s.restored sl) primary, State.line_restored, alternate, State.slot_dropSlot, State.slot_dropSlot]
  by_cases e : n = sl
  · rw [if_pos e, if_pos e, if_neg (by simpa using ne), State.slot_restored, if_pos rfl]
  · rw [if_neg e, if_neg e]
    by_cases e' : n = a
    · subst e'; rw [if_pos rfl, if_pos rfl, State.slot_restored, if_neg e]
    · rw [if_neg (by simpa using Ne.symm e'), if_neg e', State.slot_restored, if_neg e]

variable (notChannel : ∀ c : ChanNo, (s.slot sl).primaryNamer ≠ some (.channel c))
include notChannel

theorem State.serve_restored_waiting {l : LineNo} (waiting : (s.line l).waiting = true) (names : (s.line l).names sl = true)
    (lowest : ∀ k : LineNo, k < l → (s.line k).waiting = true → (s.line k).names sl = false)
    (settled : (s.line l).primary = some sl ∨ s.isStandby (s.line l).primary = false) :
    (s.restored sl).serveFreed (some sl) = (s.restored sl).regainLine l sl := by
  have other : (s.line l).primary = some sl ∨ (s.restored sl).isStandby (s.line l).primary = false := by
    by_cases same : (s.line l).primary = some sl
    · exact .inl same
    · refine .inr ?_
      have busy := settled.resolve_left same
      cases e : (s.line l).primary with
      | none => rfl
      | some m =>
        have ne : m ≠ sl := fun h => same (by rw [e, h])
        rw [e] at busy
        simpa [State.isStandby, State.slot_restored, ne] using busy
  exact State.serve_waiting _ State.restored_standby (fun c e => notChannel c (State.restored_namer.symm.trans e))
    (State.waitingLine_some (s := s.restored sl) waiting names lowest)
    (State.regainLine_stays (s := s.restored sl) waiting other)

theorem State.serve_restored_nobody (nobody : ∀ l : LineNo, (s.line l).waiting = true → (s.line l).names sl = false)
    (settled : ∀ l : LineNo, (s.slot sl).primaryNamer = some (.line l) → ¬((s.line l).state = .idle ∧ (s.line l).route = .alternate)) :
    (s.restored sl).serveFreed (some sl) = s.restored sl := by
  refine State.serve_nobody _ State.restored_standby (fun c e => notChannel c (State.restored_namer.symm.trans e))
    (State.restored_nobody nobody) fun l named => ?_
  have stays := settled l (State.restored_namer.symm.trans named)
  rw [← Bool.not_eq_true]
  simp only [State.revertible, State.line_restored, Bool.and_eq_true, beq_iff_eq]
  exact fun h => stays h.1

theorem Slot.namingChannel_none : (s.slot sl).namingChannel = [] := by
  unfold Slot.namingChannel
  split
  · rename_i c e; exact absurd e (notChannel c)
  · rfl

end

end Sys2Proof.Machine
end

section
/-! A completed restore, settled. -/

set_option Elab.async false

namespace Sys2Proof.Proofs

open Machine Safety Laws

/-- Settles O48: the slot is STANDBY again (`State.restored`) and served, by who takes it (`State.serve_restored_channel` and the
rest). -/
theorem restoresServeSlot : Obligations.RestoresServeSlot := by
  intro s sl running current alive fault
  have stands : ((!s.resetting || s.routesTaken) && (s.slot sl).alive && (s.slot sl).state == .fault) = true := by
    rcases running with h | h <;> simp [h, alive, fault]
  have acts : s.takeExpiry (.restore sl) ((!s.resetting || s.routesTaken) && (s.slot sl).alive && (s.slot sl).state == .fault)
      (fun t => t.completeRestore sl) = (expired s (.restore sl)).completeRestore sl := by
    rw [stands]; exact takeExpiry_acts s _ _ current
  have told (cs : List ChanNo) := expired_posted_told (s := s) (t := .restore sl) cs .route
    (v := ((expired s (.restore sl)).restored sl).serveFreed (some sl)) (by simp)
  have restored (n : SlotNo) (hn : n ≠ sl) : ((expired s (.restore sl)).restored sl).slot n = s.slot n :=
    (State.slot_restored ..).trans (if_neg hn)
  have own : ((expired s (.restore sl)).restored sl).slot sl = { s.slot sl with state := .standby } :=
    (State.slot_restored ..).trans (if_pos rfl)
  refine ⟨_, congrArg Host.Outcome.next (acts.trans (State.completeRestore_eq ..)), by simp, by simp [State.post]; rfl, by simp,
    fun c named => ?_, fun notChannel => ?_⟩
  · have naming : ((expired s (.restore sl)).slot sl).namingChannel = [c] := by simp [Slot.namingChannel, named]
    have served := State.serve_restored_channel (s := expired s (.restore sl)) named
    rw [naming]
    refine ⟨told [c], ?_⟩
    by_cases claims : (s.channel c).trunk = some sl ∧ (s.slot sl).claimant ≠ some (.channel c)
    · rw [served.trans (if_pos claims)]
      refine ⟨by simp, fun n hn => ?_, fun k hk => ?_, fun _ _ => ⟨?_, ?_, fun b hb => ?_⟩, fun other => absurd claims.1 other⟩
      · simp [State.claimChannel, State.takeSlot, State.slot_setSlot, hn, restored]
      · simp [State.claimChannel, State.takeSlot, State.channel_setChannel, hk]
      · simp [State.claimChannel, State.takeSlot]
      · simp [State.claimChannel, State.takeSlot, own]
      · rw [State.bridge_post, finishAct_bridge, Bridge.settle_contributors, State.leg_post, State.leg_finishAct]
        exact State.claimChannel_bridge (s := (expired s (.restore sl)).restored sl) sl hb
    · rw [served.trans (if_neg claims)]
      refine ⟨by simp, fun n hn => ?_, fun k _ => by simp, fun mine free => absurd ⟨mine, free⟩ claims, fun _ => ⟨by simp, ?_⟩⟩
      · rw [State.slot_post, State.slot_finishAct, restored n hn]
      · rw [State.slot_post, State.slot_finishAct, own]
  · rw [Slot.namingChannel_none (s := expired s (.restore sl)) notChannel]
    refine ⟨told [], fun l waiting names lowest settled => ?_, fun nobody =>
      ⟨fun l a named idle route primary alternate ne free => ?_, fun settled => ?_⟩⟩
    · rw [State.serve_restored_waiting (s := expired s (.restore sl)) notChannel waiting names lowest settled]
      refine ⟨?_, by simp, fun n hn => ?_, fun k hk => ?_, fun lockout => ?_, fun used => ⟨?_, fun b hb => ?_⟩⟩
      · rw [State.slot_post, State.slot_finishAct, State.slot_regainLine, if_pos rfl, own]
      · rw [State.slot_post, State.slot_finishAct, State.slot_regainLine, if_neg hn, restored n hn]
      · rw [State.line_post, State.line_finishAct, State.line_regainLine_ne _ _ hk]; rfl
      · rw [State.regainLine_lockout (s := (expired s (.restore sl)).restored sl) lockout]
        refine ⟨?_, by simp [State.claimLine, State.takeSlot]⟩
        rw [State.line_post, State.line_finishAct, State.line_setLine_self]; rfl
      · rw [State.regainLine_used (s := (expired s (.restore sl)).restored sl) used]
        rw [State.line_post, State.line_finishAct, State.line_joinOwn, State.line_setLine_self]; rfl
      · rw [State.bridge_post, finishAct_bridge, Bridge.settle_contributors, State.leg_post, State.leg_finishAct]
        exact State.regainLine_bridge (s := (expired s (.restore sl)).restored sl) sl used hb
    · rw [State.serve_restored_reverts (s := expired s (.restore sl)) nobody named idle route primary alternate ne free]
      have slot := State.slot_restored_revert (s := expired s (.restore sl)) primary alternate ne
      refine ⟨?_, ?_, ?_, fun n hn ha => ?_, fun k hk => ?_, by simp, by simp⟩
      · rw [State.line_post, State.line_finishAct, State.line_revert (s := (expired s (.restore sl)).restored sl) primary]; rfl
      · rw [State.slot_post, State.slot_finishAct, slot, if_pos rfl]; rfl
      · rw [State.slot_post, State.slot_finishAct, slot, if_neg ne, if_pos rfl]; rfl
      · rw [State.slot_post, State.slot_finishAct, slot, if_neg hn, if_neg ha]; rfl
      · rw [State.line_post, State.line_finishAct, State.line_revert_ne _ hk]; rfl
    · rw [State.serve_restored_nobody (s := expired s (.restore sl)) notChannel nobody settled]
      have quiet : (finishAct none [] (expired s (.restore sl)) ((expired s (.restore sl)).restored sl)).links = s.links :=
        State.links_eq fun q => (finishAct_link none [] _ _ q rfl).trans
          ((told_congr (s := s) (t := s) {} {} rfl none []).trans (told_same s none q))
      unfold State.restored at quiet ⊢
      exact State.eq_of_fields (bridges := by simp [finishAct_bridges]) (slots := by simp [State.setSlot]) (links := quiet)

end Sys2Proof.Proofs
end

section
/-! Requests that may touch channels: the state after the answer, and what it tells. Then key lookups and QUERY. -/

set_option Elab.async false

namespace Sys2Proof.Machine

open Safety

/-! ### The state after the answer -/

/-- The state after a request of position `p` whose act may touch the channels `cs`, decided as `r` with `v` the state before the
indications of the act. -/
def answeredOn (s : State) (p : Pos) (cs : List ChanNo) (code : Byte) (r : AnswerResult) (v : State) : State :=
  (finishAct none cs (taken s p) v).answer p ⟨code, r⟩

/-- Channels told of change the links alone. -/
theorem answeredOn_eq (s : State) (p : Pos) (cs : List ChanNo) (k : Byte) (r : AnswerResult) (v : State) :
    answeredOn s p cs k r v = { answered s p k r v with links := (answeredOn s p cs k r v).links } := by
  unfold answeredOn
  exact State.eq_of_fields (bridges := by simp [finishAct_bridges])

section
variable (s : State) (p : Pos) (cs : List ChanNo) (k : Byte) (r : AnswerResult) (v : State)

@[simp] theorem answeredOn_lines : (answeredOn s p cs k r v).lines = v.lines := by rw [answeredOn_eq]; simp
@[simp] theorem answeredOn_channels : (answeredOn s p cs k r v).channels = v.channels := by rw [answeredOn_eq]; simp
@[simp] theorem answeredOn_selections : (answeredOn s p cs k r v).selections = v.selections := by rw [answeredOn_eq]; simp
@[simp] theorem answeredOn_line (l : LineNo) : (answeredOn s p cs k r v).line l = v.line l := by
  simp only [State.line, answeredOn_lines]
@[simp] theorem answeredOn_channel (c : ChanNo) : (answeredOn s p cs k r v).channel c = v.channel c := by
  simp only [State.channel, answeredOn_channels]
@[simp] theorem answeredOn_selection (q : Pos) (n : UnitNo) : (answeredOn s p cs k r v).selection q n = v.selection q n := by
  simp only [State.selection, answeredOn_selections]
@[simp] theorem answeredOn_leg (g : LegNo) : (answeredOn s p cs k r v).leg g = v.leg g := by
  rw [answeredOn_eq]; exact answered_leg s p k r v g
@[simp] theorem answeredOn_bridge (b : BridgeNo) : (answeredOn s p cs k r v).bridge b = (v.bridge b).settle := by
  rw [answeredOn_eq]; exact answered_bridge s p k r v b

end

/-! ### The request, served -/

theorem unitField_byte (n : UnitNo) : unitField (fieldByte n.val) = some n := by
  have h := n.isLt
  simp only [unitField, fieldByte, toFin?, BitVec.toNat_ofNat, show n.val % 2 ^ 8 = n.val by omega, h, dif_pos]

theorem channelField_byte (c : ChanNo) : channelField (fieldByte c.val) = some c := by
  have h := c.isLt
  simp only [channelField, fieldByte, toFin?, BitVec.toNat_ofNat, show c.val % 2 ^ 8 = c.val by omega, h, dif_pos]

/-- The message of a request is read back as the request (R172, R197). -/
theorem decode_message (t : TurretRequest) : decodeRequest t.message = some t := by
  cases t <;> simp [TurretRequest.message, TurretRequest.code, TurretRequest.fields, decodeRequest, keyField_byte,
    handsetField_byte, boolField_byte, unitField_byte, channelField_byte]

/-- A request other than TALK-OFF, served: its owner's decision, the indications of the act, and the answer (R171-R173). -/
theorem exec_request {s : State} {p : Pos} {t : TurretRequest} {r : AnswerResult} {v : State} (ready : Ready s p t.message)
    (running : s.resetting = false) (decided : (taken s p).decideOwner p t = (r, v)) (other : t.ownOff p = none := by rfl) :
    exec (t.command p) s = .next (answeredOn s p (s.requestChannels p t) t.code r v) := by
  have served : s.serveRequest p t.message = answeredOn s p (s.requestChannels p t) t.code r v := by
    rw [s.serveRequest_ready p _ ready, State.decide_owner (taken s p) p _ t running (decode_message t), decided, other]
    rfl
  rw [← served]
  cases t <;> rfl

/-! ### The answer and the indications -/

theorem SameButIndications.of_links {s t : State} (h : t.links = s.links) : SameButIndications s t := fun q => by
  simp only [State.link, h]

theorem answeredOn_answered {s v : State} {p : Pos} (cs : List ChanNo) (k : Byte) (r : AnswerResult)
    (same : SameButIndications (taken s p) v) (pointer : v.pointer = p + 1 := by simp) :
    Answered s (answeredOn s p cs k r v) p ⟨k, r⟩ :=
  answered_of_same s _ p _ (by simp [pointer]) fun q => (finishAct_same none cs (taken s p) v q).trans (same q)

/-- Two links take indications alike: they agree on their state and their queue of indications. -/
abbrev QueuesAlike (x y : Link) : Prop := x.state = y.state ∧ x.indications = y.indications

theorem QueuesAlike.indicate {x y : Link} (h : QueuesAlike x y) (i : Indication) : QueuesAlike (x.indicate i) (y.indicate i) :=
  indicateAll_congr (fun _ : Unit => i) [()] h.1 h.2

theorem QueuesAlike.foldl {β : Type} {op : Link → β → Link}
    (step : ∀ {x y : Link} (b : β), QueuesAlike x y → QueuesAlike (op x b) (op y b))
    (bs : List β) {x y : Link} (h : QueuesAlike x y) : QueuesAlike (bs.foldl op x) (bs.foldl op y) := by
  induction bs generalizing x y with
  | nil => exact h
  | cons b rest ih => exact ih (step b h)

theorem QueuesAlike.toldLine {x y : Link} (u : State) (q : Pos) (l : LineNo) (h : QueuesAlike x y) :
    QueuesAlike (toldLine u q x l) (toldLine u q y l) := indicateAll_congr _ _ h.1 h.2

theorem QueuesAlike.toldChannel {x y : Link} (own : Option Pos) (s u : State) (q : Pos) (c : ChanNo) (h : QueuesAlike x y) :
    QueuesAlike (toldChannel own false s u q x c) (toldChannel own false s u q y c) := by
  unfold Safety.toldChannel
  split
  · exact h.indicate _
  · exact h

/-- The taking of a request changes no indication of the act. -/
theorem told_taken (s u : State) (p q : Pos) (own : Option Pos) (cs : List ChanNo) :
    (told own cs (taken s p) u q).indications = (told own cs s u q).indications :=
  have lines : QueuesAlike (toldLines (taken s p) u q) (toldLines s u q) :=
    QueuesAlike.foldl (fun l => QueuesAlike.toldLine u q l) _ (taken_link_state s p q)
  (QueuesAlike.foldl (fun c => QueuesAlike.toldChannel own s u q c) cs lines).2

/-- The indications after a request: those of the lines and of the channels that it has changed. -/
theorem answeredOn_indications {s v : State} {p : Pos} (cs : List ChanNo) (k : Byte) (r : AnswerResult)
    (links : v.links = (taken s p).links := by simp) (q : Pos) :
    ((answeredOn s p cs k r v).link q).indications = (told none cs s (answeredOn s p cs k r v) q).indications := by
  have link : v.link q = (taken s p).link q := by simp only [State.link, links]
  have act : ((answeredOn s p cs k r v).link q).indications = ((finishAct none cs (taken s p) v).link q).indications := by
    rw [answeredOn, State.link_answer]
    split
    · rename_i h; subst h; rfl
    · rfl
  have shown : told none cs (taken s p) v q = told none cs (taken s p) (answeredOn s p cs k r v) q :=
    told_congr (s := taken s p) {} ⟨by simp, by simp, by simp⟩ rfl _ _
  rw [act, finishAct_link none cs (taken s p) v q link, shown, told_taken]

/-- An act without a change tells nobody of any channel. -/
theorem told_unchanged (s : State) (own : Option Pos) (cs : List ChanNo) (q : Pos) : told own cs s s q = s.link q := by
  have quiet : ∀ x c, toldChannel own false s s q x c = x := fun x c => by simp [toldChannel]
  calc told own cs s s q = toldLines s s q := foldl_keeps id (toldChannel own false s s q) quiet cs _
    _ = s.link q := by simp [toldLines]

/-- A request that changes nothing. -/
theorem answeredOn_unmoved (s : State) (p : Pos) (cs : List ChanNo) (k : Byte) (r : AnswerResult)
    (h : r ≠ .refused .noBridge := by simp) : Unmoved s (answeredOn s p cs k r (taken s p)) p ⟨k, r⟩ := by
  refine ⟨answeredOn_answered cs k r fun _ => rfl, fun q => ?_, ?_⟩
  · have shown : told none cs s (answeredOn s p cs k r (taken s p)) q = told none cs s s q :=
      told_congr (s := s) (t := s) {} ⟨by simp, by simp, by simp⟩ rfl _ _
    rw [answeredOn_indications cs k r rfl, shown, told_unchanged]
  · rw [if_neg h, answeredOn_eq]
    exact State.eq_of_fields

/-! ### Key lookups (R24) -/

theorem State.lookup_empty {s : State} {p : Pos} {k : Key} (h : s.keyLine p k = none) : s.lookup p k = .error .notAppearing := by
  simp [State.lookup, h]

theorem State.lookup_vacant {s : State} {p : Pos} {k : Key} {l : LineNo} (h : s.keyLine p k = some l)
    (gone : (s.line l).state = .vacant ∨ (s.line l).state = .retiring) : s.lookup p k = .error .vacant := by
  rcases gone with gone | gone <;> simp [State.lookup, h, gone]

theorem State.lookup_lockout {s : State} {p : Pos} {k : Key} {l : LineNo} (h : s.keyLine p k = some l)
    (lockout : (s.line l).state = .lockout) : s.lookup p k = .error .outOfService := by
  simp [State.lookup, h, lockout]

/-- The refusals of a lookup: none is NO-BRIDGE. -/
theorem State.lookup_reasons {s : State} {p : Pos} {k : Key} {e : Reason} (h : s.lookup p k = .error e) :
    e = .notAppearing ∨ e = .vacant ∨ e = .outOfService := by
  unfold State.lookup at h
  split at h
  · cases h; exact .inl rfl
  · split at h <;> cases h
    · exact .inr (.inl rfl)
    · exact .inr (.inl rfl)
    · exact .inr (.inr rfl)

/-- A request refused by the lookup of its key. -/
theorem answeredOn_lookup {s : State} {p : Pos} {k : Key} {e : Reason} (h : s.lookup p k = .error e) (cs : List ChanNo) (code : Byte) :
    Unmoved s (answeredOn s p cs code (.refused e) (taken s p)) p ⟨code, .refused e⟩ :=
  answeredOn_unmoved s p cs code _ (by rcases State.lookup_reasons h with rfl | rfl | rfl <;> simp)

/-- The requests that name a key are refused by its lookup before anything else (R24). -/
theorem State.decideOwner_lookup {s : State} {p : Pos} {k : Key} {t : TurretRequest} {e : Reason}
    (h : t ∈ [.privacy k true, .privacy k false, .signal k, .acknowledge k, .queryLine k, .seize k .left, .seize k .right,
      .retrieve k .left, .retrieve k .right]) (refused : s.lookup p k = .error e) :
    s.decideOwner p t = (.refused e, s) := by
  fin_cases h <;>
    simp [State.decideOwner, State.privacyKey, State.signalKey, State.acknowledgeKey, State.queryKey, State.seizeKey, refused]

/-! ### QUERY (R49, R62) -/

/-- An act that changes no line and may touch no channel tells nobody: the headroom floor is all (R116). -/
theorem finishAct_settles {s v : State} (own : Option Pos) (lines : v.lines = s.lines) : finishAct own [] s v = v.settleBridges := by
  have none : changedLines s v.settleBridges = [] :=
    List.filter_eq_nil_iff.2 fun l _ => by simp [State.line, lines]
  simp [finishAct, notifyLines, none]

/-- A request answered with one indication at its position, and no more. -/
theorem answeredOn_query (s : State) (p : Pos) (k : Byte) (i : Indication) :
    Answered s (answeredOn s p [] k .accepted ((taken s p).enqueueAt p i)) p ⟨k, .accepted⟩ ∧
      ((answeredOn s p [] k .accepted ((taken s p).enqueueAt p i)).link p).indications = ((s.link p).indicate i).indications ∧
      (∀ q : Pos, q ≠ p → (answeredOn s p [] k .accepted ((taken s p).enqueueAt p i)).link q = s.link q) ∧
      answeredOn s p [] k .accepted ((taken s p).enqueueAt p i) =
        { s with
          bridges := tabMap Bridge.settle s.bridges
          links := (answeredOn s p [] k .accepted ((taken s p).enqueueAt p i)).links
          pointer := (answeredOn s p [] k .accepted ((taken s p).enqueueAt p i)).pointer } := by
  have act : answeredOn s p [] k .accepted ((taken s p).enqueueAt p i) =
      ((taken s p).enqueueAt p i).settleBridges.answer p ⟨k, .accepted⟩ := by
    rw [answeredOn, finishAct_settles none (by simp)]
  refine ⟨answeredOn_answered [] k .accepted (State.enqueueAt_same _ p i), ?_, fun q hq => ?_, ?_⟩
  · rw [act, State.link_answer]
    simpa using (QueuesAlike.indicate (taken_link_state s p p) i).2
  · rw [act, State.link_answer, if_neg hq, State.link_settleBridges, State.enqueueAt_eq, State.link_setLink_ne _ _ hq, taken_link,
      if_neg hq]
  · rw [answeredOn_eq]
    exact State.eq_of_fields

theorem State.queryKey_ok {s : State} {p : Pos} {k : Key} {l : LineNo} (h : s.lookup p k = .ok l) :
    s.queryKey p k = (.accepted, s.enqueueAt p ⟨.key k, .lineState, (s.line l).content⟩) := by
  simp [State.queryKey, h]

theorem State.queryChannel_concerns {s : State} {p : Pos} {c : ChanNo} (live : (s.channel c).live = true)
    (concerns : p ∈ (s.channel c).listen ∨ p ∈ (s.channel c).talk ∨ ∃ n : UnitNo, (s.channel c).memberUnit p = some n) :
    s.queryChannel p c =
      (.accepted, s.enqueueAt p ⟨.channel c, .channelState, .channel (s.channel c).view (s.positionView c p)⟩) := by
  have content : s.channelContent c p = .channel (s.channel c).view (s.positionView c p) := if_pos live
  rcases concerns with listens | talks | ⟨n, member⟩
  · simp [State.queryChannel, live, content, listens]
  · simp [State.queryChannel, live, content, talks]
  · simp [State.queryChannel, live, content, member]

/-- The content of a LINE-STATE of a line that is neither VACANT nor RETIRING (R7). -/
theorem Line.content_live {x : Line} (live : x.state ≠ .vacant) (kept : x.state ≠ .retiring) : x.content = .line x.view := by
  unfold Line.content
  split
  · exact absurd ‹_› live
  · exact absurd ‹_› kept
  · rfl

end Sys2Proof.Machine

namespace Sys2Proof.Proofs

open Machine Safety

/-- Settles O18: the lookup is the first check of every key request, and an accepted QUERY is one indication. -/
theorem keysAreLookedUpAndQueried : Obligations.KeysAreLookedUpAndQueried := by
  refine ⟨fun s p k t named ready running => ?_, fun s p k l ready running key live kept inService => ?_,
    fun s p c ready running => ?_⟩
  · have other : t.ownOff p = none := by fin_cases named <;> rfl
    cases found : s.lookup p k with
    | error e =>
      have same (e' : Reason) (h : s.lookup p k = .error e') :
          Unmoved s (answeredOn s p (s.requestChannels p t) t.code (.refused e) (taken s p)) p ⟨t.code, .refused e'⟩ := by
        cases h.symm.trans found
        exact answeredOn_lookup found _ _
      exact ⟨_, exec_request ready running (State.decideOwner_lookup named found) other, fun none => same _ (State.lookup_empty none),
        fun l key => ⟨fun gone => same _ (State.lookup_vacant key gone), fun lockout => same _ (State.lookup_lockout key lockout)⟩⟩
    | ok l =>
      have never {P : Prop} (e : Reason) (h : s.lookup p k = .error e) : P := by cases h.symm.trans found
      exact ⟨_, exec_request ready running rfl other, fun none => never _ (State.lookup_empty none),
        fun l key => ⟨fun gone => never _ (State.lookup_vacant key gone), fun lockout => never _ (State.lookup_lockout key lockout)⟩⟩
  · have decided := State.queryKey_ok (s := taken s p) (State.lookup_ok key live kept inService)
    rw [taken_line, Line.content_live live kept] at decided
    exact ⟨_, exec_request (t := .queryLine k) ready running decided, answeredOn_query s p _ _⟩
  · have served {r : AnswerResult} {v : State} (e : (taken s p).queryChannel p c = (r, v)) :
        exec ((TurretRequest.queryChannel c).command p) s = .next (answeredOn s p [] 0x09#8 r v) := exec_request ready running e
    by_cases live : (s.channel c).live = true
    case neg =>
      exact ⟨_, served (r := .refused .vacant) (v := taken s p) (by simp [State.queryChannel, live]),
        fun _ => answeredOn_unmoved s p _ _ _, fun h => absurd h live, fun h => absurd h live⟩
    by_cases concerns : p ∈ (s.channel c).listen ∨ p ∈ (s.channel c).talk ∨ ∃ n : UnitNo, (s.channel c).memberUnit p = some n
    · have decided := State.queryChannel_concerns (s := taken s p) live concerns
      refine ⟨_, served decided, fun h => absurd h (by simp [live]), fun _ noListen noTalk noMember => ?_,
        fun _ _ => answeredOn_query s p _ _⟩
      simp [noListen, noTalk, noMember] at concerns
    · obtain ⟨noListen, noTalk, noMember⟩ := not_or.1 concerns |>.imp_right not_or.1
      refine ⟨_, served (r := .refused .noPermission) (v := taken s p) ?_, fun h => absurd h (by simp [live]),
        fun _ _ _ _ => answeredOn_unmoved s p _ _ _, fun _ h => absurd h concerns⟩
      simp_all [State.queryChannel, Option.eq_none_iff_forall_ne_some]

end Sys2Proof.Proofs
end

section
/-! The release of a speaker unit's selection (R48, R56, R60), and SPEAKER in its line and clear forms. -/

set_option Elab.async false

namespace Sys2Proof.Machine

open Safety

/-! ### A leg that leaves, and a channel that closes (R56, R95, R101) -/

/-- A bridge that a leg has left as contributor and receiver. -/
def bridgeLeft (s : State) (b : BridgeNo) (g : LegNo) : Bridge :=
  { s.bridge b with
    contributors := (s.bridge b).contributors.erase g
    micPeaks := (s.bridge b).micPeaks.filter fun m => m.1 != g
    receivers := if (s.leg g).attach = some b then (s.bridge b).receivers - 1 else (s.bridge b).receivers }

theorem bridgeLeft_settle (s : State) (b : BridgeNo) (g : LegNo) : (bridgeLeft s b g).settle = bridgeWithout s b g := rfl

theorem State.bridge_leave_self (s : State) (b : BridgeNo) (g : LegNo) : (s.leave b g).bridge b = bridgeLeft s b g := by
  by_cases h : (s.leg g).attach = some b
  · simp [State.leave, bridgeLeft, h, Bridge.dropContributor]
  · simp [State.leave, bridgeLeft, h, Bridge.dropContributor]

theorem State.bridge_closeChannel (s : State) (c : ChanNo) (b : BridgeNo) :
    (s.closeChannel c).bridge b = if (s.channel c).bridge = some b then Bridge.free else s.bridge b := by
  simp only [State.closeChannel, State.modChannel_eq, State.bridge_setChannel]
  cases (s.channel c).bridge with
  | none => simp [State.freeOwn]
  | some n => simp [State.freeOwn, State.bridge_freeBridge, eq_comm]

theorem State.leg_closeChannel {s : State} {c : ChanNo} {b : BridgeNo} (h : (s.channel c).bridge = some b) (g : LegNo) :
    (s.closeChannel c).leg g = if (s.leg g).attach = some b then { s.leg g with attach := none } else s.leg g := by
  simp only [State.closeChannel, State.modChannel_eq, State.leg_setChannel, h, State.freeOwn, State.leg_freeBridge]

theorem State.channel_closeChannel (s : State) (c d : ChanNo) :
    (s.closeChannel c).channel d = if d = c then { s.channel c with state := .closed, bridge := none } else s.channel d := by
  simp [State.closeChannel, State.channel_setChannel]

/-- A channel has no receiver where no unit selects it. -/
theorem State.hasReceiver_eq_false {s : State} {c : ChanNo} :
    s.hasReceiver c = false ↔ ∀ (q : Pos) (m : UnitNo), s.selection q m ≠ .channel c := by
  simp [State.hasReceiver, State.anySelects, State.selects]

/-! ### The release of a selection (R48, R60) -/

@[simp] theorem taken_designated (s : State) (p q : Pos) (n : UnitNo) : (taken s p).designated q n = s.designated q n := rfl

theorem State.releaseSelection_none {s : State} {p : Pos} {n : UnitNo} (h : s.selection p n = .none) :
    s.releaseSelection p n = s := by
  simp [State.releaseSelection, h]

theorem State.releaseSelection_line {s : State} {p : Pos} {n : UnitNo} {l : LineNo} (h : s.selection p n = .line l) :
    s.releaseSelection p n = s.dropMonitor l ⟨p, n⟩ := by
  simp [State.releaseSelection, h]

/-- The state with a unit off the bridge of its channel, before the channel closes. -/
def State.unselect (s : State) (p : Pos) (n : UnitNo) (c : ChanNo) : State :=
  (s.leaveOwn (s.channel c).bridge (unitLeg p n)).setSelection p n .none

/-- The channel closes where the unit was its last receiver and it has no talker (R56). -/
theorem State.releaseSelection_channel {s : State} {p : Pos} {n : UnitNo} {c : ChanNo} (h : s.selection p n = .channel c) :
    s.releaseSelection p n = if Unheard s c p n then (s.unselect p n c).closeChannel c else s.unselect p n c := by
  have deaf : (s.unselect p n c).hasReceiver c = false ↔
      ∀ (q : Pos) (m : UnitNo), s.selection q m = .channel c → q = p ∧ m = n := by
    rw [State.hasReceiver_eq_false]
    refine forall₂_congr fun q m => ?_
    simp only [State.unselect, State.selection_setSelection, State.selection_leaveOwn]
    by_cases own : q = p ∧ m = n <;> simp [own]
  have released : s.releaseSelection p n = (s.unselect p n c).closeIfUnused c := by
    simp [State.releaseSelection, h, State.unselect]
  exact released.trans (if_congr (by rw [deaf]; simp [State.unselect]) rfl rfl)

section
variable (s : State) (p : Pos) (n : UnitNo)

theorem State.selection_releaseSelection (q : Pos) (m : UnitNo) :
    (s.releaseSelection p n).selection q m = if q = p ∧ m = n then .none else s.selection q m := by
  cases h : s.selection p n with
  | none =>
    rw [State.releaseSelection_none h]
    split
    · rename_i e; rw [e.1, e.2, h]
    · rfl
  | line l => simp [State.releaseSelection_line h, State.dropMonitor, State.selection_setSelection]
  | channel c =>
    rw [State.releaseSelection_channel h]
    split <;> simp [State.unselect, State.selection_setSelection]

theorem State.line_releaseSelection (x : LineNo) :
    (s.releaseSelection p n).line x =
      if s.selection p n = .line x then { s.line x with monitors := (s.line x).monitors.erase ⟨p, n⟩ } else s.line x := by
  cases h : s.selection p n with
  | none => simp [State.releaseSelection_none h]
  | line l =>
    rw [State.releaseSelection_line h, State.line_dropMonitor]
    by_cases e : x = l
    · subst e; simp
    · simp [e, Ne.symm e]
  | channel c =>
    rw [State.releaseSelection_channel h]
    split <;> simp [State.unselect]

theorem State.channel_releaseSelection (y : ChanNo) :
    (s.releaseSelection p n).channel y =
      if s.selection p n = .channel y ∧ Unheard s y p n then { s.channel y with state := .closed, bridge := none }
      else s.channel y := by
  cases h : s.selection p n with
  | none => simp [State.releaseSelection_none h]
  | line l => simp [State.releaseSelection_line h]
  | channel c =>
    rw [State.releaseSelection_channel h]
    by_cases unheard : Unheard s c p n
    · rw [if_pos unheard, State.channel_closeChannel]
      by_cases e : y = c
      · subst e; rw [if_pos rfl, if_pos ⟨rfl, unheard⟩]; simp [State.unselect]
      · rw [if_neg e, if_neg fun k => e (by simpa using k.1.symm)]; simp [State.unselect]
    · rw [if_neg unheard, if_neg]
      · simp [State.unselect]
      · rintro ⟨e, k⟩; cases e; exact unheard k

/-! The bridge that the unit leaves is freed or has lost the leg; the others stand. -/

variable {s p n}

theorem State.bridge_releaseSelection_channel {y : ChanNo} {b : BridgeNo} (selected : s.selection p n = .channel y)
    (own : (s.channel y).bridge = some b) :
    (s.releaseSelection p n).bridge b = if Unheard s y p n then Bridge.free else bridgeLeft s b (unitLeg p n) := by
  rw [State.releaseSelection_channel selected]
  split
  · rw [State.bridge_closeChannel, if_pos (by simpa [State.unselect] using own)]
  · simp [State.unselect, own, State.leaveOwn, State.bridge_leave_self]

theorem State.bridge_releaseSelection_line {x : LineNo} {b : BridgeNo} (selected : s.selection p n = .line x)
    (own : (s.line x).bridge = some b) : (s.releaseSelection p n).bridge b = bridgeLeft s b (unitLeg p n) := by
  rw [State.releaseSelection_line selected, State.dropMonitor, State.bridge_setSelection, own]
  exact State.bridge_leave_self _ b _

theorem State.bridge_releaseSelection_other {b : BridgeNo}
    (noChannel : ∀ y, s.selection p n = .channel y → (s.channel y).bridge ≠ some b)
    (noLine : ∀ x, s.selection p n = .line x → (s.line x).bridge ≠ some b) :
    (s.releaseSelection p n).bridge b = s.bridge b := by
  cases h : s.selection p n with
  | none => rw [State.releaseSelection_none h]
  | line l =>
    rw [State.releaseSelection_line h]
    exact ((State.leaveOwn_legs_leave _ _ _).other b (noLine l h)).trans rfl
  | channel c =>
    have left : (s.unselect p n c).bridge b = s.bridge b := (s.leaveOwn_legs_leave _ _).other b (noChannel c h)
    rw [State.releaseSelection_channel h]
    split
    · rw [State.bridge_closeChannel, if_neg (by simpa [State.unselect] using noChannel c h), left]
    · exact left

/-! The unit's own leg is off the bridge; another leg is detached only from the bridge of a channel that closes. -/

theorem State.leg_releaseSelection_unheard {y : ChanNo} {b : BridgeNo} {g : LegNo} (selected : s.selection p n = .channel y)
    (unheard : Unheard s y p n) (own : (s.channel y).bridge = some b) (other : g ≠ unitLeg p n) :
    (s.releaseSelection p n).leg g = if (s.leg g).attach = some b then { s.leg g with attach := none } else s.leg g := by
  have left : (s.unselect p n y).leg g = s.leg g := (s.leaveOwn_legs_leave _ _).stays g other
  rw [State.releaseSelection_channel selected, if_pos unheard, State.leg_closeChannel (by simpa [State.unselect] using own), left]

theorem State.leg_releaseSelection_heard {g : LegNo} (heard : ∀ y, s.selection p n = .channel y → ¬Unheard s y p n)
    (other : g ≠ unitLeg p n) : (s.releaseSelection p n).leg g = s.leg g := by
  cases h : s.selection p n with
  | none => rw [State.releaseSelection_none h]
  | line l =>
    rw [State.releaseSelection_line h]
    exact ((State.leaveOwn_legs_leave _ _ _).stays g other).trans rfl
  | channel c =>
    rw [State.releaseSelection_channel h, if_neg (heard c h)]
    exact (s.leaveOwn_legs_leave _ _).stays g other

theorem State.releaseSelection_detaches_channel {y : ChanNo} {b : BridgeNo} (selected : s.selection p n = .channel y)
    (own : (s.channel y).bridge = some b) : ((s.releaseSelection p n).leg (unitLeg p n)).attach ≠ some b := by
  have left : ((s.unselect p n y).leg (unitLeg p n)).attach ≠ some b := (s.leaveOwn_legs_leave _ _).detached _ rfl b own
  rw [State.releaseSelection_channel selected]
  split
  · rw [State.leg_closeChannel (b := b) (by simpa [State.unselect] using own), if_neg left]
    exact left
  · exact left

theorem State.releaseSelection_detaches_line {x : LineNo} {b : BridgeNo} (selected : s.selection p n = .line x)
    (own : (s.line x).bridge = some b) : ((s.releaseSelection p n).leg (unitLeg p n)).attach ≠ some b := by
  rw [State.releaseSelection_line selected]
  exact (State.leaveOwn_legs_leave _ _ _).detached _ rfl b own

/-! ### The release, in the words of the statements -/

variable {u : State}

/-- An act that goes on from the release of a selection, but for channel `c`, line `l` and the unit itself. -/
theorem State.releaseSelection_released {c : Option ChanNo} {l : Option LineNo}
    (channels : ∀ y, c ≠ some y → u.channel y = (s.releaseSelection p n).channel y)
    (lines : ∀ x, l ≠ some x → u.line x = (s.releaseSelection p n).line x)
    (selections : ∀ q m, ¬(q = p ∧ m = n) → u.selection q m = (s.releaseSelection p n).selection q m) : Released s u p n c l :=
  ⟨fun y hy => (channels y hy).trans (s.channel_releaseSelection p n y),
    fun x hx => (lines x hx).trans (s.line_releaseSelection p n x),
    fun q m h => (selections q m h).trans ((s.selection_releaseSelection p n q m).trans (if_neg h))⟩

/-- The bridges at the end of an act that goes on from the release of a selection, but for bridge `used`. -/
theorem State.releaseSelection_bridgesReleased {used : Option BridgeNo}
    (settled : ∀ b, used ≠ some b → u.bridge b = ((s.releaseSelection p n).bridge b).settle) : BridgesReleased s u p n used := by
  refine fun b hb => ⟨fun y selected own => ?_, fun x selected own => ?_, fun noChannel noLine => ?_⟩
  · rw [settled b hb, State.bridge_releaseSelection_channel selected own]
    split <;> rfl
  · rw [settled b hb, State.bridge_releaseSelection_line selected own, bridgeLeft_settle]
  · rw [settled b hb, State.bridge_releaseSelection_other noChannel noLine]

/-- The legs of an act that goes on from the release of a selection, but for the unit's own and that of trunk `trunk`. -/
theorem State.releaseSelection_legsReleased {trunk : Option SlotNo}
    (same : ∀ g, g ≠ unitLeg p n → (∀ sl, trunk = some sl → g ≠ trunkLeg sl) → u.leg g = (s.releaseSelection p n).leg g) :
    LegsReleased s u p n trunk :=
  ⟨fun heard g hg ht => (same g hg ht).trans (State.leg_releaseSelection_heard heard hg),
    fun _ selected unheard _ own g hg ht => (same g hg ht).trans (State.leg_releaseSelection_unheard selected unheard own hg)⟩

end

/-! ### SPEAKER, line form (R47) -/

theorem State.speakerLine_lookup {s : State} {p : Pos} {n : UnitNo} {k : Key} {e : Reason} (free : s.designated p n = none)
    (refused : s.lookup p k = .error e) : s.speakerLine p n k = (.refused e, s) := by
  simp [State.speakerLine, free, refused]

/-- The checks of the line itself, in the order of R47. -/
theorem State.speakerLine_ok {s : State} {p : Pos} {n : UnitNo} {k : Key} {l : LineNo} (free : s.designated p n = none)
    (found : s.lookup p k = .ok l) :
    s.speakerLine p n k =
      if (s.line l).monitors.contains ⟨p, n⟩ then (.accepted, s)
      else if (s.line l).state ≠ .connected then (.refused .notOccupant, s)
      else if (s.line l).currentPrivacy = .secluded then (.refused .secluded, s)
      else if 8 ≤ (s.line l).monitors.length then (.refused .full, s)
      else (.accepted, s.monitorLine p n l) := by
  rw [State.speakerLine, if_neg (by simp [free]), found]
  rfl

theorem State.monitorLine_eq {s : State} {l : LineNo} {b : BridgeNo} (p : Pos) (n : UnitNo) (own : (s.line l).bridge = some b) :
    s.monitorLine p n l =
      (((s.releaseSelection p n).setLine l
        { (s.releaseSelection p n).line l with
          monitors := ((s.releaseSelection p n).line l).monitors ++ [⟨p, n⟩] }).listen b (unitLeg p n)).setSelection p n (.line l) := by
  simp [State.monitorLine, own]

/-- A unit that does not monitor the line yet becomes its last monitor, whatever it selected before. -/
theorem State.line_monitorLine {s : State} {l : LineNo} {b : BridgeNo} {p : Pos} {n : UnitNo} (own : (s.line l).bridge = some b)
    (new : ⟨p, n⟩ ∉ (s.line l).monitors) :
    (s.monitorLine p n l).line l = { s.line l with monitors := (s.line l).monitors ++ [⟨p, n⟩] } := by
  rw [State.monitorLine_eq p n own, State.line_setSelection, State.line_listen, State.line_setLine_self, State.line_releaseSelection]
  split
  · rw [List.erase_of_not_mem new]
  · rfl

theorem State.monitorLine_frame {s : State} {l : LineNo} {b : BridgeNo} (p : Pos) (n : UnitNo) (own : (s.line l).bridge = some b) :
    s.monitorLine p n l =
      { s with
        lines := (s.monitorLine p n l).lines, channels := (s.monitorLine p n l).channels
        selections := (s.monitorLine p n l).selections, bridges := (s.monitorLine p n l).bridges
        legs := (s.monitorLine p n l).legs } := by
  rw [State.monitorLine_eq p n own]
  exact State.eq_of_fields

end Sys2Proof.Machine

namespace Sys2Proof.Proofs

open Machine Safety

/-- Settles O21: the release of the selection, said once for the records, the bridges and the legs. -/
theorem speakerClearReleasesUnit : Obligations.SpeakerClearReleasesUnit := by
  intro s p n ready running
  have served {r : AnswerResult} {v : State} (e : (taken s p).speakerClear p n = (r, v)) :
      exec ((TurretRequest.speakerClear n).command p) s = .next (answeredOn s p (selectedChannel s p n) 0x0C#8 r v) :=
    exec_request ready running e
  cases fixed : s.designated p n with
  | some c =>
    have decided : (taken s p).speakerClear p n = (.refused .unitFixed, taken s p) := if_pos (congrArg Option.isSome fixed)
    exact ⟨_, served decided, fun _ => answeredOn_unmoved s p _ _ _, nofun, nofun⟩
  | none =>
    have decided : (taken s p).speakerClear p n = (.accepted, (taken s p).releaseSelection p n) :=
      if_neg (by simp [fixed])
    refine ⟨_, served decided, nofun, fun _ nothing => ?_, fun _ _ => ?_⟩
    · rw [State.releaseSelection_none (s := taken s p) nothing]
      exact answeredOn_unmoved s p _ _ _
    · have links : ((taken s p).releaseSelection p n).links = (taken s p).links := by simp
      refine ⟨answeredOn_answered _ _ _ (.of_links links), answeredOn_indications _ _ _ links, ?_,
        State.releaseSelection_released (s := taken s p) (by simp) (by simp) (by simp),
        State.releaseSelection_legsReleased (s := taken s p) (by simp),
        State.releaseSelection_bridgesReleased (s := taken s p) (by simp), fun y b selected own => ?_, fun x b selected own => ?_, ?_⟩
      · rw [answeredOn_selection, State.selection_releaseSelection, if_pos ⟨rfl, rfl⟩]
      · rw [answeredOn_leg]; exact State.releaseSelection_detaches_channel (s := taken s p) selected own
      · rw [answeredOn_leg]; exact State.releaseSelection_detaches_line (s := taken s p) selected own
      · rw [answeredOn_eq]; exact State.eq_of_fields

/-- Settles O19: the checks of R47 in their order, then the release of the selection and the new monitor. -/
theorem speakerMonitorsLine : Obligations.SpeakerMonitorsLine := by
  intro s p n k ready running
  obtain ⟨⟨r, v⟩, decided⟩ : ∃ d, (taken s p).speakerLine p n k = d := ⟨_, rfl⟩
  have unmoved {r' : AnswerResult} (e : (taken s p).speakerLine p n k = (r', taken s p))
      (h : r' ≠ .refused .noBridge := by simp) :
      Unmoved s (answeredOn s p (selectedChannel s p n) 0x0A#8 r v) p ⟨0x0A#8, r'⟩ := by
    cases decided.symm.trans e
    exact answeredOn_unmoved s p _ _ _ h
  refine ⟨_, exec_request (t := .speakerLine n k) ready running decided, fun fixed => unmoved (if_pos fixed), fun free =>
    ⟨fun empty => ?_, fun l key => ⟨fun gone => ?_, fun lockout => ?_, fun used new => ?_, fun connected => ?_⟩⟩⟩
  · exact unmoved (State.speakerLine_lookup (s := taken s p) free (State.lookup_empty empty))
  · exact unmoved (State.speakerLine_lookup (s := taken s p) free (State.lookup_vacant key gone))
  · exact unmoved (State.speakerLine_lookup (s := taken s p) free (State.lookup_lockout key lockout))
  · have found : (taken s p).lookup p k = .ok l := by
      rcases used with h | h | h <;> exact State.lookup_ok key (by simp [h]) (by simp [h]) (by simp [h])
    have unconnected : (s.line l).state ≠ .connected := by rcases used with h | h | h <;> simp [h]
    exact unmoved ((State.speakerLine_ok (s := taken s p) free found).trans (by simp [new, unconnected]))
  · have found : (taken s p).lookup p k = .ok l := State.lookup_ok key (by simp [connected]) (by simp [connected]) (by simp [connected])
    have checks := State.speakerLine_ok (s := taken s p) free found
    simp only [taken_line, connected] at checks
    refine ⟨fun old => unmoved (checks.trans (by simp [old])), fun new secluded => unmoved (checks.trans (by simp [new, secluded])),
      fun new shared full => unmoved (checks.trans (by simp [new, shared, full])), fun b new shared room own => ?_⟩
    cases decided.symm.trans (checks.trans (by simp [new, shared, Nat.not_le.2 room]) : _ = (.accepted, (taken s p).monitorLine p n l))
    have line := State.line_monitorLine (s := taken s p) (p := p) own new
    have frame := (taken s p).monitorLine_frame p n own
    have links : ((taken s p).monitorLine p n l).links = (taken s p).links := by rw [frame]
    have leg (g : LegNo) (hg : g ≠ unitLeg p n) :
        ((taken s p).monitorLine p n l).leg g = ((taken s p).releaseSelection p n).leg g := by
      simp [State.monitorLine_eq (s := taken s p) p n own, State.leg_listen, hg]
    have bridge (b' : BridgeNo) (hb : b' ≠ b) :
        ((taken s p).monitorLine p n l).bridge b' = ((taken s p).releaseSelection p n).bridge b' := by
      simp [State.monitorLine_eq (s := taken s p) p n own, State.bridge_listen, hb]
    refine ⟨answeredOn_answered _ _ _ (.of_links links) (by rw [frame]; rfl), answeredOn_indications _ _ _ links, ?_,
      State.releaseSelection_released (s := taken s p) (fun y _ => ?_) (fun x hx => ?_) (fun q m h => ?_),
      State.releaseSelection_bridgesReleased (s := taken s p) (fun b' hb => ?_), ?_, ?_, fun noChannel noLine => ?_,
      State.releaseSelection_legsReleased (s := taken s p) (fun g hg _ => ?_), ?_⟩
    · rw [answeredOn_line, line]; rfl
    · simp [State.monitorLine_eq (s := taken s p) p n own]
    · have other : x ≠ l := fun e => hx (by rw [e])
      simp [State.monitorLine_eq (s := taken s p) p n own, State.line_setLine, other]
    · simp [State.monitorLine_eq (s := taken s p) p n own, State.selection_setSelection, h]
    · rw [answeredOn_bridge, bridge b' fun e => hb (by rw [e])]
    · simp [State.monitorLine_eq (s := taken s p) p n own, State.selection_setSelection]
    · simp [State.monitorLine_eq (s := taken s p) p n own, State.leg_listen]
    · have kept := State.bridge_releaseSelection_other (s := taken s p) noChannel noLine
      rw [answeredOn_bridge, Bridge.settle_contributors, State.monitorLine_eq (s := taken s p) p n own,
        State.bridge_setSelection, State.bridge_listen]
      split <;> simp [kept]
    · rw [answeredOn_leg, leg g hg]
    · rw [answeredOn_eq, frame]
      exact State.eq_of_fields

end Sys2Proof.Proofs
end

section
/-! Bridges and legs that only lose what they have, and the removal of a position's floor entries (R56, R78, R79, R81, R84). -/

set_option Elab.async false

namespace Sys2Proof.Machine

open Safety

/-! ### Bridges and legs that only lose what they have -/

/-- Between `s` and `t` no bridge has been allocated and no leg attached. -/
structure Fades (s t : State) : Prop where
  freed : ∀ b, (s.bridge b).state = .free → (t.bridge b).state = .free
  attached : ∀ g b, (t.leg g).attach = some b → (s.leg g).attach = some b

theorem Fades.refl (s : State) : Fades s s := ⟨fun _ => id, fun _ _ => id⟩

theorem Fades.trans {s t u : State} (h : Fades s t) (k : Fades t u) : Fades s u :=
  ⟨fun b => k.freed b ∘ h.freed b, fun g b => h.attached g b ∘ k.attached g b⟩

theorem Fades.same {s t : State} (legs : t.legs = s.legs := by simp) (bridges : t.bridges = s.bridges := by simp) : Fades s t :=
  ⟨fun b => by simp [State.bridge, bridges], fun g b => by simp [State.leg, legs]⟩

/-- Records other than legs and bridges may change beside it. -/
theorem Fades.after {s t t' : State} (h : Fades s t) (legs : t'.legs = t.legs := by simp)
    (bridges : t'.bridges = t.bridges := by simp) : Fades s t' := h.trans (.same legs bridges)

theorem Fades.before {s s' t : State} (h : Fades s' t) (legs : s'.legs = s.legs := by simp)
    (bridges : s'.bridges = s.bridges := by simp) : Fades s t := (Fades.same legs bridges).trans h

theorem Fades.foldl {β : Type} {op : State → β → State} (step : ∀ s b, Fades s (op s b)) (bs : List β) (s : State) :
    Fades s (bs.foldl op s) :=
  List.foldlRecOn (motive := Fades s) bs op (.refl s) fun t h b _ => h.trans (step t b)

/-- A bridge that is FREE, with no leg attached to it, stays so. -/
theorem Fades.free {s t : State} (h : Fades s t) {b : BridgeNo}
    (free : (s.bridge b).state = .free ∧ ∀ g, (s.leg g).attach ≠ some b) :
    (t.bridge b).state = .free ∧ ∀ g, (t.leg g).attach ≠ some b :=
  ⟨h.freed b free.1, fun g => mt (h.attached g b) (free.2 g)⟩

theorem State.leaveOwn_fades (s : State) (b : Option BridgeNo) (g : LegNo) : Fades s (s.leaveOwn b g) := by
  refine ⟨fun n free => ((s.leaveOwn_legs_leave b g).state n).trans free, fun g' n => ?_⟩
  cases b with
  | none => exact id
  | some m =>
    rw [State.leaveOwn, State.leg_leave]
    split
    · exact nofun
    · exact id

theorem State.freeOwn_fades (s : State) (b : Option BridgeNo) : Fades s (s.freeOwn b) := by
  cases b with
  | none => exact .refl s
  | some m =>
    refine ⟨fun n free => ?_, fun g n => ?_⟩
    · rw [State.freeOwn, State.bridge_freeBridge]
      split
      · rfl
      · exact free
    · rw [State.freeOwn, State.leg_freeBridge]
      split
      · exact nofun
      · exact id

theorem State.closeIfUnused_fades (s : State) (c : ChanNo) : Fades s (s.closeIfUnused c) := by
  unfold State.closeIfUnused State.closeChannel
  split
  · exact (s.freeOwn_fades (s.channel c).bridge).after
  · exact .refl s

/-! ### The queue head granted (R79) -/

/-- The queue entry that a free talker place goes to. -/
def headGrants (x : Channel) : List FloorEntry := if x.talkers.length < x.maxTalkers then x.queue.take 1 else []

/-- A channel whose free talker place has gone to the queue head. -/
def headGranted (x : Channel) : Channel :=
  if x.talkers.length < x.maxTalkers then { x with talkers := x.talkers ++ x.queue.take 1, queue := x.queue.drop 1 } else x

/-- A grant of the queue head: the entry is the last talker, or nothing changes. -/
theorem State.grantHead_cases (s : State) (c : ChanNo) :
    (headGrants (s.channel c) = [] ∧ headGranted (s.channel c) = s.channel c ∧ s.grantHead c = s) ∨
      ∃ e rest, headGrants (s.channel c) = [e] ∧
        headGranted (s.channel c) = { s.channel c with talkers := (s.channel c).talkers ++ [e], queue := rest } ∧
        s.grantHead c = (s.setChannel c { s.channel c with queue := rest }).addTalker c e := by
  unfold State.grantHead headGrants headGranted
  cases queue : (s.channel c).queue with
  | nil =>
    refine .inl ⟨by simp, ?_, rfl⟩
    split
    · rw [List.take_nil, List.append_nil, List.drop_nil, ← queue]
    · rfl
  | cons e rest =>
    by_cases room : (s.channel c).talkers.length < (s.channel c).maxTalkers
    · exact .inr ⟨e, rest, by simp [room], by simp [room], by simp [room]⟩
    · exact .inl ⟨by simp [room], by simp [room], by simp [room]⟩

theorem State.channel_addTalker (s : State) (c : ChanNo) (e : FloorEntry) (d : ChanNo) :
    (s.addTalker c e).channel d =
      if d = c then { s.channel c with talkers := (s.channel c).talkers ++ [e] } else s.channel d := by
  simp [State.addTalker, State.channel_setChannel]

theorem State.timer_addTalker (s : State) (c : ChanNo) (e : FloorEntry) (id : TimerId) :
    (s.addTalker c e).timer id =
      if id = .silence c e.pos ∧ e.latched = true ∧ (s.channel c).silence ≠ 0 then
        (s.timer id).start (1000 * (s.channel c).silence)
      else s.timer id := by
  by_cases starts : e.latched = true ∧ (s.channel c).silence ≠ 0
  · by_cases own : id = .silence c e.pos
    · subst own
      simp [State.addTalker, State.startSilence, starts]
    · simp [State.addTalker, State.startSilence, starts, own, State.timer_setTimer_ne]
  · rw [if_neg fun h => starts h.2]
    simp [State.addTalker, State.startSilence, starts]

theorem State.addTalker_fades (s : State) (c : ChanNo) (e : FloorEntry) : Fades s (s.addTalker c e) := by
  have speaks : Fades s ((s.setChannel c { s.channel c with talkers := (s.channel c).talkers ++ [e] }).speakOn c e.pos) := by
    refine ⟨fun b free => ?_, fun g b => by simp⟩
    unfold State.speakOn
    split
    · exact free
    · rw [State.bridge_speak]
      split
      · rename_i own; rw [← own.1]; exact free
      · exact free
  unfold State.addTalker State.startSilence
  split
  · exact speaks.after
  · exact speaks

theorem State.grantHead_fades (s : State) (c : ChanNo) : Fades s (s.grantHead c) := by
  obtain ⟨-, -, e⟩ | ⟨e, rest, -, -, h⟩ := s.grantHead_cases c
  · rw [e]; exact .refl s
  · rw [h]; exact (State.addTalker_fades _ c e).before

theorem State.channel_grantHead (s : State) (c d : ChanNo) :
    (s.grantHead c).channel d = if d = c then headGranted (s.channel c) else s.channel d := by
  obtain ⟨-, kept, e⟩ | ⟨e, rest, -, granted, h⟩ := s.grantHead_cases c
  · rw [e, kept]
    split
    · rename_i own; rw [own]
    · rfl
  · rw [h, granted, State.channel_addTalker, State.channel_setChannel_self]
    split
    · rfl
    · rename_i other; exact State.channel_setChannel_ne _ _ other

/-- The silence timer of a latched talker starts; no other timer changes (R81). -/
theorem State.timer_grantHead (s : State) (c : ChanNo) :
    (∀ id, (∀ e ∈ headGrants (s.channel c), id ≠ .silence c e.pos) → (s.grantHead c).timer id = s.timer id) ∧
      ∀ e ∈ headGrants (s.channel c), (s.grantHead c).timer (.silence c e.pos) =
        if e.latched = true ∧ (s.channel c).silence ≠ 0 then (s.timer (.silence c e.pos)).start (1000 * (s.channel c).silence)
        else s.timer (.silence c e.pos) := by
  obtain ⟨none, -, h⟩ | ⟨e, rest, one, -, h⟩ := s.grantHead_cases c
  · rw [none, h]
    exact ⟨fun _ _ => rfl, nofun⟩
  · rw [one, h]
    simp only [State.timer_addTalker, State.channel_setChannel_self, State.timer_setChannel, List.mem_singleton]
    refine ⟨fun id other => if_neg fun own => other e rfl own.1, ?_⟩
    rintro e rfl
    simp

/-! ### The entry of a position removed (R78, R84) -/

/-- A talker removed, before the queue head is granted. -/
def withoutTalker (x : Channel) (p : Pos) : Channel := { x with talkers := x.talkers.filter fun e => e.pos != p }

theorem floorWithout_talking {x : Channel} {p : Pos} (h : x.talking p = true) : floorWithout x p = headGranted (withoutTalker x p) :=
  if_pos h

theorem granted_talking {x : Channel} {p : Pos} (h : x.talking p = true) : granted x p = headGrants (withoutTalker x p) :=
  if_congr (by simp [h, withoutTalker]) rfl rfl

theorem granted_silent {x : Channel} {p : Pos} (h : x.talking p ≠ true) : granted x p = [] := if_neg fun k => h k.1

theorem floorWithout_silent {x : Channel} {p : Pos} (h : x.talking p ≠ true) :
    floorWithout x p = { x with queue := x.queue.filter fun e => e.pos != p } := if_neg h

theorem floorWithout_frame (x : Channel) (p : Pos) :
    floorWithout x p = { x with talkers := (floorWithout x p).talkers, queue := (floorWithout x p).queue } := by
  unfold floorWithout
  dsimp only
  (repeat' split) <;> rfl

/-- Without an entry of the position nothing is removed. -/
theorem floorAfter_absent {x : Channel} {p : Pos} (silent : x.talking p ≠ true) (unqueued : x.queued p ≠ true) (heard : Bool) :
    floorAfter x p heard = x := by
  have others : x.queue.filter (fun e => e.pos != p) = x.queue :=
    List.filter_eq_self.2 fun e he => bne_iff_ne.2 fun own => unqueued (List.any_eq_true.2 ⟨e, he, beq_iff_eq.2 own⟩)
  rw [floorAfter, if_neg fun k => silent k.1, floorWithout_silent silent, others]

/-- A talker that leaves, before the queue head is granted. -/
def State.hush (s : State) (c : ChanNo) (p : Pos) : State := (s.setChannel c (withoutTalker (s.channel c) p)).silenceMic c p

theorem State.removeTalker_eq (s : State) (c : ChanNo) (p : Pos) : s.removeTalker c p = (s.hush c p).grantHead c := by
  rw [State.removeTalker, State.modChannel_eq]
  rfl

theorem State.channel_hush (s : State) (c : ChanNo) (p : Pos) (d : ChanNo) :
    (s.hush c p).channel d = if d = c then withoutTalker (s.channel c) p else s.channel d := by
  simp [State.hush, State.channel_setChannel]

theorem State.timer_hush (s : State) (c : ChanNo) (p : Pos) :
    ((s.hush c p).timer (.silence c p)).running = false ∧ ∀ id, id ≠ .silence c p → (s.hush c p).timer id = s.timer id := by
  simp +contextual [State.hush, State.silenceMic, State.timer_setTimer_ne]

theorem State.hush_fades (s : State) (c : ChanNo) (p : Pos) : Fades s (s.hush c p) :=
  (State.leaveOwn_fades _ _ _).before

theorem State.channel_removeTalker {s : State} {c : ChanNo} {p : Pos} (talks : (s.channel c).talking p = true) (d : ChanNo) :
    (s.removeTalker c p).channel d = if d = c then floorWithout (s.channel c) p else s.channel d := by
  rw [State.removeTalker_eq, State.channel_grantHead, State.channel_hush, State.channel_hush, if_pos rfl, floorWithout_talking talks]
  split <;> rfl

theorem State.timer_removeTalker {s : State} {c : ChanNo} {p : Pos} (talks : (s.channel c).talking p = true) :
    FloorTimers s (s.removeTalker c p) c p ∧
      ∀ id, id ≠ .silence c p → (∀ e ∈ granted (s.channel c) p, id ≠ .silence c e.pos) →
        (s.removeTalker c p).timer id = s.timer id := by
  obtain ⟨stopped, others⟩ := s.timer_hush c p
  obtain ⟨kept, started⟩ := (s.hush c p).timer_grantHead c
  rw [State.channel_hush, if_pos rfl, ← granted_talking talks] at kept started
  rw [State.removeTalker_eq]
  refine ⟨⟨fun _ other => ?_, fun e he other => ?_⟩, fun id own other => (kept id other).trans (others id own)⟩
  · rw [kept _ fun e he k => other e he (by injection k with _ k; exact k.symm)]
    exact stopped
  · rw [started e he, others _ (by simpa using other)]
    rfl

/-- An OPEN channel closes where it has lost its last talker and has no receiver (R56). -/
theorem State.removeEntry_talking {s : State} {c : ChanNo} {p : Pos} (talks : (s.channel c).talking p = true) :
    s.removeEntry c p =
      if Closes (s.channel c) p (s.hasReceiver c) then (s.removeTalker c p).closeChannel c else s.removeTalker c p := by
  have heard : (s.removeTalker c p).hasReceiver c = s.hasReceiver c := by
    simp only [State.hasReceiver, State.anySelects, State.selects, State.selection_removeTalker]
  rw [State.removeEntry, if_pos talks]
  refine if_congr ?_ rfl rfl
  rw [heard, State.channel_removeTalker talks, if_pos rfl, floorWithout_frame]
  exact ⟨fun h => ⟨talks, h⟩, fun h => h.2⟩

theorem State.removeEntry_silent {s : State} {c : ChanNo} {p : Pos} (silent : (s.channel c).talking p ≠ true) :
    s.removeEntry c p = s.setChannel c (floorWithout (s.channel c) p) := by
  rw [State.removeEntry, if_neg silent, floorWithout_silent silent, State.modChannel_eq]

/-- What the removal of position `p`'s entry leaves of the floor of channel `d`. -/
structure EntryRemoved (s t : State) (d : ChanNo) (p : Pos) : Prop where
  channel : t.channel d = floorAfter (s.channel d) p (s.hasReceiver d)
  timers : FloorTimers s t d p
  frees : ∀ b, (s.channel d).bridge = some b → Closes (s.channel d) p (s.hasReceiver d) →
    (t.bridge b).state = .free ∧ ∀ g, (t.leg g).attach ≠ some b

/-- The floor of channel `d` is the same in two states. -/
structure SameFloor (s t : State) (d : ChanNo) : Prop where
  channel : t.channel d = s.channel d
  timers : ∀ q, t.timer (.silence d q) = s.timer (.silence d q)
  heard : t.hasReceiver d = s.hasReceiver d

theorem SameFloor.refl (s : State) (d : ChanNo) : SameFloor s s d := ⟨rfl, fun _ => rfl, rfl⟩

theorem SameFloor.trans {s t u : State} {d : ChanNo} (h : SameFloor s t d) (k : SameFloor t u d) : SameFloor s u d :=
  ⟨k.channel.trans h.channel, fun q => (k.timers q).trans (h.timers q), k.heard.trans h.heard⟩

theorem EntryRemoved.before {s s' t : State} {d : ChanNo} {p : Pos} (h : SameFloor s s' d) (k : EntryRemoved s' t d p) :
    EntryRemoved s t d p := by
  obtain ⟨channel, timers, frees⟩ := k
  simp only [FloorTimers, h.channel, h.heard, h.timers] at channel timers frees
  exact ⟨channel, timers, frees⟩

theorem EntryRemoved.after {s t t' : State} {d : ChanNo} {p : Pos} (h : EntryRemoved s t d p) (same : SameFloor t t' d)
    (fades : Fades t t') : EntryRemoved s t' d p :=
  ⟨same.channel.trans h.channel,
    ⟨fun talks other => by rw [same.timers]; exact h.timers.1 talks other,
      fun e he other => by rw [same.timers]; exact h.timers.2 e he other⟩,
    fun b own closes => fades.free (h.frees b own closes)⟩

/-- A channel without an entry of the position has none to remove. -/
theorem EntryRemoved.absent {s : State} {d : ChanNo} {p : Pos} (silent : (s.channel d).talking p ≠ true)
    (unqueued : (s.channel d).queued p ≠ true) : EntryRemoved s s d p :=
  ⟨(floorAfter_absent silent unqueued _).symm, ⟨fun talks => absurd talks silent, by simp [granted_silent silent]⟩,
    fun _ _ closes => absurd closes.1 silent⟩

theorem State.removeEntry_removed (s : State) (c : ChanNo) (p : Pos) : EntryRemoved s (s.removeEntry c p) c p := by
  by_cases talks : (s.channel c).talking p = true
  · have left := State.channel_removeTalker talks c
    rw [if_pos rfl] at left
    have timers := (State.timer_removeTalker talks).1
    rw [State.removeEntry_talking talks]
    by_cases closes : Closes (s.channel c) p (s.hasReceiver c)
    · rw [if_pos closes]
      refine ⟨?_, by simpa [FloorTimers] using timers, fun b own _ => ?_⟩
      · rw [State.channel_closeChannel, if_pos rfl, left, floorAfter, if_pos closes]
      · have own' : ((s.removeTalker c p).channel c).bridge = some b := by rw [left, floorWithout_frame]; exact own
        refine ⟨by rw [State.bridge_closeChannel, if_pos own']; rfl, fun g => ?_⟩
        rw [State.leg_closeChannel own']
        split
        · exact nofun
        · assumption
    · rw [if_neg closes]
      exact ⟨by rw [left, floorAfter, if_neg closes], timers, fun _ _ k => absurd k closes⟩
  · have kept (heard : Bool) : ¬Closes (s.channel c) p heard := fun k => talks k.1
    rw [State.removeEntry_silent talks]
    exact ⟨by rw [State.channel_setChannel_self, floorAfter, if_neg (kept _)],
      ⟨fun k => absurd k talks, by simp [granted_silent talks]⟩, fun _ _ k => absurd k (kept _)⟩

theorem State.removeEntry_fades (s : State) (c : ChanNo) (p : Pos) : Fades s (s.removeEntry c p) := by
  unfold State.removeEntry
  split
  · rw [State.removeTalker_eq]
    exact ((s.hush_fades c p).trans (State.grantHead_fades _ c)).trans (State.closeIfUnused_fades _ c)
  · exact .same

/-- The removal of an entry leaves the floor of another channel alone, and every timer that is not of its floor. -/
theorem State.timer_removeEntry {s : State} {c : ChanNo} (p : Pos) {id : TimerId} (other : ∀ q, id ≠ .silence c q) :
    (s.removeEntry c p).timer id = s.timer id := by
  by_cases talks : (s.channel c).talking p = true
  · have kept := (State.timer_removeTalker talks).2 id (other p) fun e _ => other e.pos
    rw [State.removeEntry_talking talks]
    split
    · rw [State.timer_closeChannel, kept]
    · exact kept
  · rw [State.removeEntry_silent talks, State.timer_setChannel]

theorem State.removeEntry_sameFloor {s : State} {c d : ChanNo} (p : Pos) (other : d ≠ c) : SameFloor s (s.removeEntry c p) d := by
  refine ⟨?_, fun q => State.timer_removeEntry p fun q' e => ?_, ?_⟩
  · by_cases talks : (s.channel c).talking p = true
    · rw [State.removeEntry_talking talks]
      split
      · rw [State.channel_closeChannel, if_neg other, State.channel_removeTalker talks, if_neg other]
      · rw [State.channel_removeTalker talks, if_neg other]
    · rw [State.removeEntry_silent talks, State.channel_setChannel_ne _ _ other]
  · injection e with e; exact other e
  · simp only [State.hasReceiver, State.anySelects, State.selects, State.selection_removeEntry]

/-! ### Every entry of a position removed (R178 step 3) -/

theorem State.foldl_removeEntry_sameFloor {d : ChanNo} (p : Pos) {cs : List ChanNo} (h : d ∉ cs) (s : State) :
    SameFloor s (cs.foldl (fun t c => t.removeEntry c p) s) d :=
  List.foldlRecOn (motive := fun t => SameFloor s t d) cs _ (.refl s d) fun _ k _ hc =>
    k.trans (State.removeEntry_sameFloor p fun e => h (e ▸ hc))

theorem State.foldl_removeEntry_fades (p : Pos) (cs : List ChanNo) (s : State) :
    Fades s (cs.foldl (fun t c => t.removeEntry c p) s) := .foldl (fun t c => t.removeEntry_fades c p) cs s

theorem State.foldl_removeEntry_removed {d : ChanNo} (p : Pos) {cs : List ChanNo} (distinct : cs.Nodup) (h : d ∈ cs) (s : State) :
    EntryRemoved s (cs.foldl (fun t c => t.removeEntry c p) s) d p := by
  induction cs generalizing s with
  | nil => cases h
  | cons c rest ih =>
    obtain ⟨out, distinct⟩ := List.nodup_cons.1 distinct
    rw [List.foldl_cons]
    by_cases own : d = c
    · subst own
      exact (s.removeEntry_removed d p).after (State.foldl_removeEntry_sameFloor p out _) (State.foldl_removeEntry_fades p rest _)
    · exact (ih distinct ((List.mem_cons.1 h).resolve_left own) _).before (State.removeEntry_sameFloor p own)

theorem State.dropEntries_removed (s : State) (p : Pos) (d : ChanNo) : EntryRemoved s (s.dropEntries p) d p := by
  unfold State.dropEntries
  by_cases entry : (s.channel d).talking p = true ∨ (s.channel d).queued p = true
  · exact State.foldl_removeEntry_removed p ((List.nodup_finRange 32).filter _) (by simpa using entry) s
  · obtain ⟨silent, unqueued⟩ := not_or.1 entry
    exact (EntryRemoved.absent silent unqueued).after (State.foldl_removeEntry_sameFloor p (by simp [silent, unqueued]) s)
      (State.foldl_removeEntry_fades p _ s)

theorem State.dropEntries_fades (s : State) (p : Pos) : Fades s (s.dropEntries p) := s.foldl_removeEntry_fades p _

/-- Timers other than those of the floors stand. -/
theorem State.timer_dropEntries (s : State) (p : Pos) {id : TimerId} (other : ∀ c q, id ≠ .silence c q) :
    (s.dropEntries p).timer id = s.timer id :=
  List.foldlRecOn (motive := fun t : State => t.timer id = s.timer id) _ _ rfl fun _ h c _ =>
    (State.timer_removeEntry p (other c)).trans h

end Sys2Proof.Machine
end

section
/-! Position teardown (R178): the handsets leave their lines, the monitors end, and the floor entries go, where no line that is left
reverts. -/

set_option Elab.async false

namespace Sys2Proof.Machine

open Safety

/-! ### One handset leaves its current line (R33) -/

/-- A line that an occupant has left: at rest where it was the last. -/
def vacated (x : Line) (o : Occupant) : Line :=
  if x.occupants.erase o = [] then rested x else { x with occupants := x.occupants.erase o }

theorem vacated_occupants (x : Line) (o : Occupant) : (vacated x o).occupants = x.occupants.erase o := by
  unfold vacated
  split
  · rename_i h; exact h.symm
  · rfl

/-- A line that still has an occupant has lost the one entry alone. -/
theorem vacated_used {x : Line} {o : Occupant} (used : (vacated x o).occupants ≠ []) :
    vacated x o = { x with occupants := x.occupants.erase o } :=
  if_neg (vacated_occupants x o ▸ used)

theorem State.vacate_eq (s : State) (l : LineNo) (o : Occupant) :
    s.vacate l o = if (s.line l).occupants.erase o = [] then (s.without l o).rest l else s.without l o := by
  unfold State.vacate
  exact if_congr (by simp) rfl rfl

theorem State.line_vacate (s : State) (l : LineNo) (o : Occupant) (k : LineNo) :
    (s.vacate l o).line k = if k = l then vacated (s.line l) o else s.line k := by
  rw [State.vacate_eq, vacated]
  by_cases last : (s.line l).occupants.erase o = []
  · rw [if_pos last, if_pos last, (s.without_rest_restedTo l o).line]
  · rw [if_neg last, if_neg last, State.line_without]

theorem State.line_vacateHandset (s : State) (o : Occupant) (k : LineNo) :
    (s.vacateHandset o).line k = if s.currentLine o = some k then vacated (s.line k) o else s.line k := by
  unfold State.vacateHandset
  cases current : s.currentLine o with
  | none => rfl
  | some l =>
    dsimp only
    rw [State.line_vacate]
    by_cases own : k = l
    · subst own; simp
    · simp [own, Ne.symm own]

/-- A line that still has an occupant has lost its entry of the handset at most. -/
theorem State.line_vacateHandset_used {s : State} {o : Occupant} {k : LineNo} (used : ((s.vacateHandset o).line k).occupants ≠ []) :
    (s.vacateHandset o).line k = { s.line k with occupants := ((s.vacateHandset o).line k).occupants } := by
  rw [State.line_vacateHandset] at used ⊢
  split
  · rename_i own
    rw [if_pos own] at used
    rw [vacated_used used]
  · rfl

theorem State.occupants_vacateHandset (s : State) (o : Occupant) (k : LineNo) :
    ((s.vacateHandset o).line k).occupants =
      if s.currentLine o = some k then (s.line k).occupants.erase o else (s.line k).occupants := by
  rw [State.line_vacateHandset]
  split
  · exact vacated_occupants _ _
  · rfl

/-- Another handset keeps its current line. -/
theorem State.currentLine_vacateHandset (s : State) {o o' : Occupant} (other : o' ≠ o) :
    (s.vacateHandset o).currentLine o' = s.currentLine o' := by
  have occupies (l : LineNo) : ((s.vacateHandset o).line l).occupants.contains o' = (s.line l).occupants.contains o' := by
    rw [State.occupants_vacateHandset]
    split
    · rw [Bool.eq_iff_iff]; simp [List.mem_erase_of_ne other]
    · rfl
  simp only [State.currentLine, occupies]

theorem State.dropMonitor_fades (s : State) (l : LineNo) (m : Monitor) : Fades s (s.dropMonitor l m) :=
  (State.leaveOwn_fades (s.setLine l { s.line l with monitors := (s.line l).monitors.erase m }) (s.line l).bridge
    (unitLeg m.pos m.unit)).before.after rfl rfl

theorem State.takeDown_fades (s : State) (l : LineNo) : Fades s (s.takeDown l) := by
  have handsets : Fades s (s.leaveHandsets (s.line l).bridge (s.line l).occupants) :=
    .foldl (fun t o => t.leaveOwn_fades _ _) _ s
  have monitors (t : State) : Fades t (t.dropMonitors l (s.line l).monitors) := .foldl (fun t m => t.dropMonitor_fades l m) _ t
  have timers (t : State) : Fades t (t.cancelTimers [.holdRecall l, .burst l]) := .same
  have freed (t : State) : Fades t (t.freeOwn (s.line l).bridge) := t.freeOwn_fades _
  exact (((handsets.trans (monitors _)).trans (timers _)).trans (freed _)).after rfl rfl

theorem State.rest_fades (s : State) (l : LineNo) : Fades s (s.rest l) := by
  rw [State.rest_eq]
  exact (s.takeDown_fades l).after rfl rfl

theorem State.without_fades (s : State) (l : LineNo) (o : Occupant) : Fades s (s.without l o) :=
  (State.leaveOwn_fades _ _ _).before

theorem State.vacateHandset_fades (s : State) (o : Occupant) : Fades s (s.vacateHandset o) := by
  unfold State.vacateHandset
  split
  · exact .refl s
  · rw [State.vacate_eq]
    split
    · exact (s.without_fades _ o).trans (State.rest_fades _ _)
    · exact s.without_fades _ o

/-- The handset's leg is off the bridge of the line it has left. -/
theorem State.vacateHandset_detaches {s : State} {o : Occupant} {l : LineNo} {b : BridgeNo} (current : s.currentLine o = some l)
    (own : (s.line l).bridge = some b) : ((s.vacateHandset o).leg (occupantLeg o)).attach ≠ some b := by
  have left : ((s.without l o).leg (occupantLeg o)).attach ≠ some b := (s.without_legs_leave l o).detached _ rfl b own
  unfold State.vacateHandset
  rw [current]
  dsimp only
  rw [State.vacate_eq]
  split
  · exact mt ((State.rest_fades _ l).attached _ b) left
  · exact left

/-! ### Lines brought to rest -/

/-- The lines `rests` have been brought to rest between `s` and `t`: their monitors have ended, their timers are stopped, and their
bridges are FREE. -/
structure LinesRest (s t : State) (rests : LineNo → Prop) : Prop where
  gone : ∀ r q m, rests r → ⟨q, m⟩ ∈ (s.line r).monitors → t.selection q m = .none
  kept : ∀ q m, (∀ r, rests r → ⟨q, m⟩ ∉ (s.line r).monitors) → t.selection q m = s.selection q m
  stopped : ∀ l, rests l → (t.timer (.holdRecall l)).running = false ∧ (t.timer (.burst l)).running = false
  timer : ∀ id, (∀ l, rests l → id ≠ .holdRecall l ∧ id ≠ .burst l) → t.timer id = s.timer id
  freed : ∀ l b, rests l → (s.line l).bridge = some b → (t.bridge b).state = .free ∧ ∀ g, (t.leg g).attach ≠ some b
  fades : Fades s t

theorem LinesRest.trans {s t u : State} {first next : LineNo → Prop} (h : LinesRest s t first) (k : LinesRest t u next)
    (same : ∀ l, next l → (t.line l).monitors = (s.line l).monitors ∧ (t.line l).bridge = (s.line l).bridge) :
    LinesRest s u fun l => first l ∨ next l where
  gone r q m rests mem := by
    by_cases ends : ∃ r', next r' ∧ ⟨q, m⟩ ∈ (t.line r').monitors
    · obtain ⟨r', rests', mem'⟩ := ends
      exact k.gone r' q m rests' mem'
    · rw [k.kept q m fun r' rests' mem' => ends ⟨r', rests', mem'⟩]
      rcases rests with rests | rests
      · exact h.gone r q m rests mem
      · exact absurd ⟨r, rests, (same r rests).1 ▸ mem⟩ ends
  kept q m out :=
    (k.kept q m fun r rests mem => out r (.inr rests) ((same r rests).1 ▸ mem)).trans
      (h.kept q m fun r rests => out r (.inl rests))
  stopped l rests := by
    by_cases again : next l
    · exact k.stopped l again
    · have ne (l' : LineNo) (hl : next l') : l ≠ l' := fun e => again (e ▸ hl)
      rw [k.timer (.holdRecall l) fun l' hl => by simpa using ne l' hl, k.timer (.burst l) fun l' hl => by simpa using ne l' hl]
      exact h.stopped l (rests.resolve_right again)
  timer id out := (k.timer id fun l rests => out l (.inr rests)).trans (h.timer id fun l rests => out l (.inl rests))
  freed l b rests own := by
    rcases rests with rests | rests
    · exact k.fades.free (h.freed l b rests own)
    · exact k.freed l b rests ((same l rests).2.trans own)
  fades := h.fades.trans k.fades

theorem LinesRest.congr {s t : State} {rests rests' : LineNo → Prop} (h : LinesRest s t rests) (e : ∀ l, rests l ↔ rests' l) :
    LinesRest s t rests' := by
  have : rests = rests' := funext fun l => propext (e l)
  exact this ▸ h

/-- A handset is the last to leave its current line `l`. -/
abbrev LastOut (s : State) (o : Occupant) (l : LineNo) : Prop := s.currentLine o = some l ∧ (s.line l).occupants.erase o = []

theorem State.vacateHandset_rests (s : State) (o : Occupant) : LinesRest s (s.vacateHandset o) (LastOut s o) := by
  have fades := s.vacateHandset_fades o
  unfold State.vacateHandset at fades ⊢
  cases current : s.currentLine o with
  | none =>
    have never (r : LineNo) : ¬LastOut s o r := fun last => nomatch current.symm.trans last.1
    exact ⟨fun r _ _ h => absurd h (never r), fun _ _ _ => rfl, fun r h => absurd h (never r), fun _ _ => rfl,
      fun r _ h => absurd h (never r), .refl s⟩
  | some l =>
    rw [current] at fades
    dsimp only at fades ⊢
    rw [State.vacate_eq] at fades ⊢
    have monitors : ((s.without l o).line l).monitors = (s.line l).monitors := by simp [State.line_without]
    have bridge : ((s.without l o).line l).bridge = (s.line l).bridge := by simp [State.line_without]
    have selection (q : Pos) (m : UnitNo) : (s.without l o).selection q m = s.selection q m := by rw [State.without_frame]; rfl
    have timer (id : TimerId) : (s.without l o).timer id = s.timer id := by rw [State.without_frame]; rfl
    by_cases last : (s.line l).occupants.erase o = []
    · rw [if_pos last] at fades ⊢
      have rests (r : LineNo) : l = r ↔ LastOut s o r :=
        ⟨fun e => e ▸ ⟨current, last⟩, fun h => Option.some.inj (current.symm.trans h.1)⟩
      refine LinesRest.congr (rests := fun r => l = r)
        ⟨fun r q m own mem => ?_, fun q m out => ?_, fun r own => ?_, fun id out => ?_, fun r b own hb => ?_, fades⟩ rests
      · subst own; rw [State.selection_rest, monitors, if_pos mem]
      · rw [State.selection_rest, monitors, if_neg (out l rfl), selection]
      · subst own
        simp only [State.timer_rest]
        exact ⟨((s.without l o).timer_takeDown l _).2 (.inl rfl), ((s.without l o).timer_takeDown l _).2 (.inr rfl)⟩
      · rw [State.timer_rest, ((s.without l o).timer_takeDown l id).1 (out l rfl).1 (out l rfl).2, timer]
      · subst own
        obtain ⟨free, off⟩ := State.takeDown_frees (bridge.trans hb)
        simp only [State.bridge_rest, State.leg_rest]
        exact ⟨by rw [free]; rfl, off⟩
    · rw [if_neg last] at fades ⊢
      have never (r : LineNo) : ¬LastOut s o r := fun ⟨own, empty⟩ => by
        cases current.symm.trans own; exact last empty
      exact ⟨fun r _ _ h => absurd h (never r), fun q m _ => selection q m, fun r h => absurd h (never r), fun id _ => timer id,
        fun r _ h => absurd h (never r), fades⟩

/-! ### Both handsets leave (R178 step 1) -/

/-- The state with both handsets of a position off their lines, before the Trunk Unit's part. -/
def State.handsetsOut (s : State) (p : Pos) : State := (s.vacateHandset ⟨p, .left⟩).vacateHandset ⟨p, .right⟩

theorem State.currentLine_right (s : State) (p : Pos) :
    (s.vacateHandset ⟨p, .left⟩).currentLine ⟨p, .right⟩ = s.currentLine ⟨p, .right⟩ := s.currentLine_vacateHandset (by simp)

/-- The line that the right handset leaves is in use until then. -/
theorem State.line_before_right {s : State} {p : Pos} {l : LineNo} (current : s.currentLine ⟨p, .right⟩ = some l) :
    (s.vacateHandset ⟨p, .left⟩).line l =
      { s.line l with occupants := ((s.vacateHandset ⟨p, .left⟩).line l).occupants } :=
  State.line_vacateHandset_used
    (List.ne_nil_of_mem (State.mem_of_currentLine ((s.currentLine_right p).trans current)))

/-- The occupants that both handsets leave behind. -/
theorem occupantsLeft_eq (s : State) (p : Pos) (l : LineNo) :
    occupantsLeft s p l =
      if s.currentLine ⟨p, .right⟩ = some l then ((s.vacateHandset ⟨p, .left⟩).line l).occupants.erase ⟨p, .right⟩
      else ((s.vacateHandset ⟨p, .left⟩).line l).occupants := by
  rw [State.occupants_vacateHandset]
  rfl

theorem leftAtRest_iff (s : State) (p : Pos) (l : LineNo) :
    LastOut s ⟨p, .left⟩ l ∨ LastOut (s.vacateHandset ⟨p, .left⟩) ⟨p, .right⟩ l ↔ LeftAtRest s p l := by
  rw [LeftAtRest, occupantsLeft_eq, LastOut, LastOut, State.currentLine_right, State.occupants_vacateHandset]
  by_cases left : s.currentLine ⟨p, .left⟩ = some l <;> by_cases right : s.currentLine ⟨p, .right⟩ = some l <;> simp [left, right]

theorem State.handsetsOut_rests (s : State) (p : Pos) : LinesRest s (s.handsetsOut p) (LeftAtRest s p) := by
  refine ((s.vacateHandset_rests ⟨p, .left⟩).trans ((s.vacateHandset ⟨p, .left⟩).vacateHandset_rests ⟨p, .right⟩)
    fun l last => ?_).congr (leftAtRest_iff s p)
  rw [State.line_before_right ((s.currentLine_right p).symm.trans last.1)]
  exact ⟨rfl, rfl⟩

theorem State.line_handsetsOut (s : State) (p : Pos) (l : LineNo) :
    (s.handsetsOut p).line l =
      if LeftAtRest s p l then rested (s.line l) else { s.line l with occupants := occupantsLeft s p l } := by
  have occupants := occupantsLeft_eq s p l
  rw [State.handsetsOut, State.line_vacateHandset, State.currentLine_right]
  by_cases right : s.currentLine ⟨p, .right⟩ = some l
  · rw [if_pos right] at occupants ⊢
    rw [State.line_before_right right, vacated]
    simp only [← occupants]
    exact if_congr ⟨fun empty => ⟨.inr right, empty⟩, fun h => h.2⟩ rfl rfl
  · rw [if_neg right, State.occupants_vacateHandset] at occupants
    rw [if_neg right, State.line_vacateHandset]
    by_cases left : s.currentLine ⟨p, .left⟩ = some l
    · rw [if_pos left] at occupants ⊢
      rw [vacated]
      simp only [← occupants]
      exact if_congr ⟨fun empty => ⟨.inl left, empty⟩, fun h => h.2⟩ rfl rfl
    · rw [if_neg left] at occupants ⊢
      rw [if_neg fun h : LeftAtRest s p l => h.1.elim left right, occupants]

/-- A handset's leg is off the bridge of the line it has left. -/
theorem State.handsetsOut_detaches {s : State} {p : Pos} {h : Handset} {l : LineNo} {b : BridgeNo}
    (current : s.currentLine ⟨p, h⟩ = some l) (own : (s.line l).bridge = some b) :
    ((s.handsetsOut p).leg (handsetLeg p h)).attach ≠ some b := by
  cases h with
  | left => exact mt ((State.vacateHandset_fades _ _).attached _ b) (State.vacateHandset_detaches (o := ⟨p, .left⟩) current own)
  | right =>
    refine State.vacateHandset_detaches (o := ⟨p, .right⟩) ((s.currentLine_right p).trans current) ?_
    rw [State.line_before_right current]
    exact own

theorem State.atRestAll_stays {s : State} {ls : List LineNo} (h : ∀ l ∈ ls, s.revertible l = false) : s.atRestAll ls = s := by
  have none : ls.foldl State.revertAtRest (s, []) = (s, []) := by
    refine List.foldlRecOn (motive := fun r => r = (s, ([] : List SlotNo))) ls _ rfl ?_
    rintro _ rfl l hl
    simp [State.revertAtRest, h l hl]
  simp [State.atRestAll, none]

/-- Where no line that the handsets leave reverts, the Trunk Unit has no part (R142). -/
theorem State.releaseHandsets_stays {s : State} {p : Pos}
    (stays : ∀ (h : Handset) (l : LineNo), s.currentLine ⟨p, h⟩ = some l → Stays s l) : s.releaseHandsets p = s.handsetsOut p := by
  refine State.atRestAll_stays (s := s.handsetsOut p) fun l hl => ?_
  obtain ⟨current, empty⟩ := List.mem_filter.1 hl
  have slots : (s.handsetsOut p).slots = s.slots := by simp [State.handsetsOut]
  obtain ⟨h, current⟩ : ∃ h, s.currentLine ⟨p, h⟩ = some l := by
    simp only [List.mem_filterMap, List.mem_cons, List.not_mem_nil, or_false] at current
    obtain ⟨o, rfl | rfl, current⟩ := current
    · exact ⟨.left, current⟩
    · exact ⟨.right, current⟩
  have left : occupantsLeft s p l = [] := by
    have := List.isEmpty_iff.1 empty
    change ((s.handsetsOut p).line l).occupants = [] at this
    rw [State.line_handsetsOut] at this
    split at this
    · rename_i rests; exact rests.2
    · exact this
  have rests : LeftAtRest s p l := ⟨by cases h <;> simp [current], left⟩
  rw [← Bool.not_eq_true, State.revertible_rested ((s.line_handsetsOut p l).trans (if_pos rests)), State.isStandby_congr slots]
  exact not_not_intro (stays h l current)

end Sys2Proof.Machine
end

section
/-! Position teardown (R178): the monitors of the position end, its floor entries go, and what all this leaves. -/

set_option Elab.async false

namespace Sys2Proof.Machine

open Safety

/-! ### The monitors of a position end (R178 step 2) -/

/-- The monitor that a unit is, if it is one, ends (R48). -/
def State.endMonitor (p : Pos) (s : State) (n : UnitNo) : State :=
  match s.selection p n with
  | .line l => s.dropMonitor l ⟨p, n⟩
  | _ => s

theorem State.dropAllMonitors_eq (s : State) (p : Pos) : s.dropAllMonitors p = (List.finRange 8).foldl (State.endMonitor p) s := rfl

/-- The monitors of a line once units `us` of position `p`, those that monitor it, are removed. -/
def monitorsWithout (s : State) (p : Pos) (l : LineNo) (us : List UnitNo) : List Monitor :=
  us.foldl (fun ms n => if s.selection p n = .line l then ms.erase ⟨p, n⟩ else ms) (s.line l).monitors

/-- Units `us` of position `p` monitor no line any more, and all that they monitored has lost them. -/
structure MonitorsEnded (s t : State) (p : Pos) (us : List UnitNo) : Prop where
  ended : ∀ m ∈ us, ∀ l, s.selection p m = .line l → t.selection p m = .none
  kept : ∀ q m, ¬(q = p ∧ m ∈ us ∧ ∃ l, s.selection p m = .line l) → t.selection q m = s.selection q m
  line : ∀ l, t.line l = { s.line l with monitors := monitorsWithout s p l us }
  detached : ∀ m ∈ us, ∀ l b, s.selection p m = .line l → (s.line l).bridge = some b → (t.leg (unitLeg p m)).attach ≠ some b
  fades : Fades s t

theorem State.endMonitor_ended (s : State) (p : Pos) (n : UnitNo) : MonitorsEnded s (State.endMonitor p s n) p [n] := by
  unfold State.endMonitor
  split
  · rename_i k selected
    refine ⟨fun m hm l _ => ?_, fun q m out => ?_, fun l => ?_, fun m hm l b hl hb => ?_, s.dropMonitor_fades k _⟩
    · cases List.mem_singleton.1 hm
      simp [State.dropMonitor, State.selection_setSelection]
    · have other : ¬(q = p ∧ m = n) := fun ⟨hq, hm⟩ => out ⟨hq, by simp [hm], k, hm ▸ selected⟩
      simp [State.dropMonitor, State.selection_setSelection, other]
    · rw [State.line_dropMonitor, monitorsWithout, List.foldl_cons, List.foldl_nil, selected]
      by_cases own : l = k
      · subst own; simp
      · simp [own, Ne.symm own]
    · cases List.mem_singleton.1 hm
      cases selected.symm.trans hl
      exact (State.leaveOwn_legs_leave _ _ _).detached _ rfl b hb
  · rename_i none
    refine ⟨fun m hm l hl => ?_, fun _ _ _ => rfl, fun l => ?_, fun m hm l _ hl => ?_, .refl s⟩
    · cases List.mem_singleton.1 hm
      exact absurd hl (none l)
    · rw [monitorsWithout, List.foldl_cons, List.foldl_nil, if_neg (none l)]
    · cases List.mem_singleton.1 hm
      exact absurd hl (none l)

theorem MonitorsEnded.cons {s t u : State} {p : Pos} {n : UnitNo} {us : List UnitNo} (h : MonitorsEnded s t p [n])
    (k : MonitorsEnded t u p us) (out : n ∉ us) : MonitorsEnded s u p (n :: us) := by
  have later (m : UnitNo) (hm : m ∈ us) : t.selection p m = s.selection p m :=
    h.kept p m fun e => out (by rw [← List.mem_singleton.1 e.2.1]; exact hm)
  refine ⟨fun m hm l hl => ?_, fun q m other => ?_, fun l => ?_, fun m hm l b hl hb => ?_, h.fades.trans k.fades⟩
  · rcases List.mem_cons.1 hm with rfl | hm
    · rw [k.kept p m fun e => out e.2.1]
      exact h.ended m (List.mem_singleton.2 rfl) l hl
    · exact k.ended m hm l ((later m hm).trans hl)
  · rw [k.kept q m fun ⟨hq, hm, l, hl⟩ => other ⟨hq, List.mem_cons_of_mem _ hm, l, (later m hm).symm.trans hl⟩]
    exact h.kept q m fun ⟨hq, hm, selected⟩ => other ⟨hq, by rw [List.mem_singleton.1 hm]; exact List.mem_cons_self, selected⟩
  · have first : (t.line l).monitors =
        if s.selection p n = .line l then (s.line l).monitors.erase ⟨p, n⟩ else (s.line l).monitors := by
      rw [h.line]; rfl
    have rest : monitorsWithout t p l us = monitorsWithout s p l (n :: us) := by
      rw [monitorsWithout, monitorsWithout, List.foldl_cons, first]
      exact List.foldl_ext _ _ _ fun ms m hm => by rw [later m hm]
    rw [k.line, rest, h.line]
  · rcases List.mem_cons.1 hm with rfl | hm
    · exact mt (k.fades.attached _ b) (h.detached m (List.mem_singleton.2 rfl) l b hl hb)
    · exact k.detached m hm l b ((later m hm).trans hl) (by rw [h.line]; exact hb)

theorem State.foldl_endMonitor_ended (p : Pos) {us : List UnitNo} (distinct : us.Nodup) (s : State) :
    MonitorsEnded s (us.foldl (State.endMonitor p) s) p us := by
  induction us generalizing s with
  | nil => exact ⟨nofun, fun _ _ _ => rfl, fun _ => rfl, nofun, .refl s⟩
  | cons n rest ih =>
    obtain ⟨out, distinct⟩ := List.nodup_cons.1 distinct
    exact (s.endMonitor_ended p n).cons (ih distinct _) out

theorem State.dropAllMonitors_ended (s : State) (p : Pos) : MonitorsEnded s (s.dropAllMonitors p) p (List.finRange 8) :=
  State.foldl_endMonitor_ended p (List.nodup_finRange 8) s

/-! ### The position out of its lines and channels (R178 steps 1 to 3) -/

/-- The state with a position out of its lines and channels, where no line that it leaves reverts. -/
def State.positionOut (s : State) (p : Pos) : State := ((s.handsetsOut p).dropAllMonitors p).dropEntries p

section
variable (s : State) (p : Pos)

theorem State.selection_handsetsOut_gone {q : Pos} {m : UnitNo} (gone : MonitorGone s p ⟨q, m⟩) :
    (s.handsetsOut p).selection q m = .none := by
  obtain ⟨r, rests, mem⟩ := gone
  exact (s.handsetsOut_rests p).gone r q m rests mem

theorem State.selection_handsetsOut_kept {q : Pos} {m : UnitNo} (kept : ¬MonitorGone s p ⟨q, m⟩) :
    (s.handsetsOut p).selection q m = s.selection q m :=
  (s.handsetsOut_rests p).kept q m fun r rests mem => kept ⟨r, rests, mem⟩

/-- The units that still monitor a line once the handsets have left. -/
theorem State.monitors_handsetsOut (m : UnitNo) (l : LineNo) :
    (s.handsetsOut p).selection p m = .line l ↔ s.selection p m = .line l ∧ ¬MonitorGone s p ⟨p, m⟩ := by
  by_cases gone : MonitorGone s p ⟨p, m⟩
  · simp [s.selection_handsetsOut_gone p gone, gone]
  · simp [s.selection_handsetsOut_kept p gone, gone]

theorem State.selection_positionOut (q : Pos) (m : UnitNo) :
    (s.positionOut p).selection q m =
      if MonitorGone s p ⟨q, m⟩ ∨ (q = p ∧ ∃ l : LineNo, s.selection p m = .line l) then .none else s.selection q m := by
  have ends := (s.handsetsOut p).dropAllMonitors_ended p
  rw [State.positionOut, State.selection_dropEntries]
  by_cases gone : MonitorGone s p ⟨q, m⟩
  · rw [if_pos (.inl gone), ends.kept q m, s.selection_handsetsOut_gone p gone]
    rintro ⟨rfl, -, l, selected⟩
    exact ((s.monitors_handsetsOut q m l).1 selected).2 gone
  · by_cases own : q = p ∧ ∃ l : LineNo, s.selection p m = .line l
    · obtain ⟨rfl, l, selected⟩ := id own
      rw [if_pos (.inr own)]
      exact ends.ended m (List.mem_finRange m) l ((s.monitors_handsetsOut q m l).2 ⟨selected, gone⟩)
    · rw [if_neg (not_or.2 ⟨gone, own⟩), ends.kept q m, s.selection_handsetsOut_kept p gone]
      rintro ⟨hq, -, l, selected⟩
      exact own ⟨hq, l, ((s.monitors_handsetsOut p m l).1 selected).1⟩

theorem State.line_positionOut (l : LineNo) :
    (s.positionOut p).line l =
      if LeftAtRest s p l then rested (s.line l)
      else { s.line l with occupants := occupantsLeft s p l, monitors := monitorsLeft s p l } := by
  rw [State.positionOut, State.line_dropEntries, ((s.handsetsOut p).dropAllMonitors_ended p).line]
  have line := s.line_handsetsOut p l
  by_cases rests : LeftAtRest s p l
  · rw [if_pos rests] at line ⊢
    have empty : monitorsWithout (s.handsetsOut p) p l (List.finRange 8) = [] := by
      rw [monitorsWithout, line]
      exact List.foldlRecOn (motive := (· = [])) _ _ rfl fun ms h n _ => by simp [h]
    rw [empty, line]
    rfl
  · rw [if_neg rests] at line ⊢
    have left : monitorsWithout (s.handsetsOut p) p l (List.finRange 8) = monitorsLeft s p l := by
      rw [monitorsWithout, line]
      exact List.foldl_ext _ _ _ fun ms n _ => if_congr (s.monitors_handsetsOut p n l) rfl rfl
    rw [left, line]

theorem State.channel_before_entries (c : ChanNo) : ((s.handsetsOut p).dropAllMonitors p).channel c = s.channel c := by
  simp [State.handsetsOut]

theorem State.hasReceiver_positionOut (c : ChanNo) :
    (s.positionOut p).hasReceiver c = ((s.handsetsOut p).dropAllMonitors p).hasReceiver c := by
  simp only [State.positionOut, State.hasReceiver, State.anySelects, State.selects, State.selection_dropEntries]

theorem State.channel_positionOut (c : ChanNo) :
    (s.positionOut p).channel c = floorAfter (s.channel c) p ((s.positionOut p).hasReceiver c) := by
  rw [State.hasReceiver_positionOut, ← s.channel_before_entries p c]
  exact (State.dropEntries_removed _ p c).channel

/-- The timers of a line that has come to rest are stopped; those of another line stand, and so does every timer but of the floors. -/
theorem State.timer_handsetsOut {id : TimerId} (other : ∀ l, LeftAtRest s p l → id ≠ .holdRecall l ∧ id ≠ .burst l) :
    ((s.handsetsOut p).dropAllMonitors p).timer id = s.timer id := by
  rw [State.timer_dropAllMonitors]
  exact (s.handsetsOut_rests p).timer id other

theorem State.floorTimers_positionOut (c : ChanNo) : FloorTimers s (s.positionOut p) c p := by
  obtain ⟨stopped, started⟩ := (State.dropEntries_removed ((s.handsetsOut p).dropAllMonitors p) p c).timers
  rw [State.channel_before_entries] at stopped started
  refine ⟨stopped, fun e he other => (started e he other).trans ?_⟩
  rw [s.timer_handsetsOut p (by simp)]

theorem State.positionOut_stops {l : LineNo} (rests : LeftAtRest s p l) :
    ((s.positionOut p).timer (.holdRecall l)).running = false ∧ ((s.positionOut p).timer (.burst l)).running = false := by
  rw [State.positionOut, State.timer_dropEntries _ p (by simp), State.timer_dropEntries _ p (by simp), State.timer_dropAllMonitors,
    State.timer_dropAllMonitors]
  exact (s.handsetsOut_rests p).stopped l rests

theorem State.positionOut_keeps {l : LineNo} (used : ¬LeftAtRest s p l) :
    (s.positionOut p).timer (.holdRecall l) = s.timer (.holdRecall l) ∧ (s.positionOut p).timer (.burst l) = s.timer (.burst l) := by
  have ne (k : LineNo) (rests : LeftAtRest s p k) : l ≠ k := fun e => used (e ▸ rests)
  rw [State.positionOut, State.timer_dropEntries _ p (by simp), State.timer_dropEntries _ p (by simp)]
  exact ⟨s.timer_handsetsOut p fun k rests => by simpa using ne k rests, s.timer_handsetsOut p fun k rests => by simpa using ne k rests⟩

/-- What the handsets have freed or detached stays so. -/
theorem State.handsetsOut_fades : Fades (s.handsetsOut p) (s.positionOut p) :=
  ((s.handsetsOut p).dropAllMonitors_ended p).fades.trans (State.dropEntries_fades _ p)

variable {s p} {b : BridgeNo}

theorem State.positionOut_frees_line {l : LineNo} (rests : LeftAtRest s p l) (own : (s.line l).bridge = some b) :
    ((s.positionOut p).bridge b).state = .free ∧ ∀ g, ((s.positionOut p).leg g).attach ≠ some b :=
  (s.handsetsOut_fades p).free ((s.handsetsOut_rests p).freed l b rests own)

theorem State.positionOut_detaches_handset {l : LineNo} {h : Handset} (current : s.currentLine ⟨p, h⟩ = some l)
    (own : (s.line l).bridge = some b) : ((s.positionOut p).leg (handsetLeg p h)).attach ≠ some b :=
  mt ((s.handsetsOut_fades p).attached _ b) (State.handsetsOut_detaches current own)

theorem State.positionOut_detaches_unit {l : LineNo} {m : UnitNo} (selected : s.selection p m = .line l)
    (own : (s.line l).bridge = some b) (kept : ¬MonitorGone s p ⟨p, m⟩) :
    ((s.positionOut p).leg (unitLeg p m)).attach ≠ some b := by
  by_cases rests : LeftAtRest s p l
  · exact (State.positionOut_frees_line rests own).2 _
  · have bridge : ((s.handsetsOut p).line l).bridge = some b := by rw [State.line_handsetsOut, if_neg rests]; exact own
    exact mt ((State.dropEntries_fades _ p).attached _ b)
      (((s.handsetsOut p).dropAllMonitors_ended p).detached m (List.mem_finRange m) l b
        ((s.monitors_handsetsOut p m l).2 ⟨selected, kept⟩) bridge)

theorem State.positionOut_frees_channel {c : ChanNo} (own : (s.channel c).bridge = some b)
    (closes : Closes (s.channel c) p ((s.positionOut p).hasReceiver c)) :
    ((s.positionOut p).bridge b).state = .free ∧ ∀ g, ((s.positionOut p).leg g).attach ≠ some b := by
  rw [State.hasReceiver_positionOut] at closes
  refine (State.dropEntries_removed ((s.handsetsOut p).dropAllMonitors p) p c).frees b ?_ ?_
  · rw [State.channel_before_entries]; exact own
  · rw [State.channel_before_entries]; exact closes

/-- An act that leads to the records, bridge states, legs and timers of the torn-down position, and tells the others of it. -/
theorem State.positionOut_tornDown {u : State} (lines : u.lines = (s.positionOut p).lines)
    (channels : u.channels = (s.positionOut p).channels) (selections : u.selections = (s.positionOut p).selections)
    (bridges : ∀ b, (u.bridge b).state = ((s.positionOut p).bridge b).state) (legs : u.legs = (s.positionOut p).legs)
    (timers : ∀ id, id ≠ .grace p → u.timer id = (s.positionOut p).timer id)
    (tells : ∀ q : Pos, q ≠ p → u.link q = told none (List.finRange 32) s u q) (directories : u.directories = s.directories)
    (generators : u.generators = s.generators) (slots : u.slots = s.slots) (reports : u.reports = s.reports)
    (pointer : u.pointer = s.pointer) (frameCount : u.frameCount = s.frameCount) : TornDown s u p := by
  have line (l : LineNo) : u.line l = (s.positionOut p).line l := by simp only [State.line, lines]
  have channel (c : ChanNo) : u.channel c = (s.positionOut p).channel c := by simp only [State.channel, channels]
  have selection (q : Pos) (m : UnitNo) : u.selection q m = (s.positionOut p).selection q m := by
    simp only [State.selection, selections]
  have leg (g : LegNo) : u.leg g = (s.positionOut p).leg g := by simp only [State.leg, legs]
  have heard (c : ChanNo) : u.hasReceiver c = (s.positionOut p).hasReceiver c := by
    simp only [State.hasReceiver, State.anySelects, State.selects, selection]
  refine ⟨fun l => (line l).trans (s.line_positionOut p l), fun c => ?_, fun q m => (selection q m).trans (s.selection_positionOut p q m),
    fun l b own => ⟨fun rests => ?_, fun h current => ?_, fun m selected kept => ?_⟩, fun c b own closes => ?_, fun c => ?_,
    fun l rests => ?_, fun l used => ?_, tells, directories, generators, slots, reports, pointer, frameCount⟩
  · rw [channel, heard]; exact s.channel_positionOut p c
  · simp only [bridges, leg]; exact State.positionOut_frees_line rests own
  · rw [leg]; exact State.positionOut_detaches_handset current own
  · rw [leg]; exact State.positionOut_detaches_unit selected own kept
  · rw [heard] at closes
    simp only [bridges, leg]
    exact State.positionOut_frees_channel own closes
  · have floor := s.floorTimers_positionOut p c
    simpa only [FloorTimers, timers _ (show TimerId.silence c _ ≠ .grace p by simp)] using floor
  · rw [timers _ (by simp), timers _ (by simp)]; exact s.positionOut_stops p rests
  · rw [timers _ (by simp), timers _ (by simp)]; exact s.positionOut_keeps p used

end

end Sys2Proof.Machine
end

section
/-! SET-POSITION (R164, R190): its decision, the link that it disables, and what the teardown does to the event flags. -/

set_option Elab.async false

namespace Sys2Proof.Machine

open Safety Laws

/-! ### The decision (R190) -/

theorem boolArg_isSome (w : Word) : (boolArg w).isSome = true ↔ w.toNat ≤ 1 := by
  unfold boolArg
  split
  · rename_i h; simp [h]
  · rename_i h0
    split
    · rename_i h; simp [h]
    · rename_i h1
      simp only [Option.isSome_none, Bool.false_eq_true, false_iff, not_le]
      bv_omega

theorem State.setPosition_bad {s : State} {w : CmdWords}
    (h : 47 < w.w1.toNat ∨ w.maskBelow 10 = false ∨ w.maskBit 8 = true ∧ 1 < w.w2.toNat ∨ w.maskBit 9 = true ∧ 1 < w.w3.toNat) :
    s.setPosition w = refuse .badField s := by
  have bad {v : Word} (big : 1 < v.toNat) : (boolArg v).isSome = false :=
    Bool.eq_false_iff.2 fun ok => absurd ((boolArg_isSome v).1 ok) (Nat.not_le.2 big)
  unfold State.setPosition
  split
  · rfl
  · rename_i p found
    refine if_pos ?_
    rcases h with out | unknown | ⟨mask, big⟩ | ⟨mask, big⟩
    · rw [toFin?_out out] at found; cases found
    · simp [unknown]
    · simp [maskedOk, mask, bad big]
    · simp [maskedOk, mask, bad big]

/-- The switch action that SET-POSITION leaves. -/
def switchAfter (w : CmdWords) (old : SwitchAction) : SwitchAction :=
  if w.maskBit 9 = true then (if w.w3 = 1#16 then .hold else .release) else old

/-- The state with the switch action of a position written. -/
def State.setSwitch (s : State) (p : Pos) (a : SwitchAction) : State := s.setLink p { s.link p with switchAction := a }

/-- A link written as it stands. -/
theorem State.setLink_link (s : State) (p : Pos) : s.setLink p (s.link p) = s := by
  simp [State.setLink, State.link]

/-- With its operands in range, SET-POSITION writes the switch action, then enables or disables the link. -/
theorem State.setPosition_at {s : State} {w : CmdWords} {p : Pos} (hp : w.w1 = word p.val) (known : w.maskBelow 10 = true)
    (enable : w.maskBit 8 = true → w.w2.toNat ≤ 1) (switch : w.maskBit 9 = true → w.w3.toNat ≤ 1) :
    s.setPosition w =
      (some .done,
        if w.maskBit 8 then
          (if w.w2 = 1#16 then (s.setSwitch p (switchAfter w (s.link p).switchAction)).enableLink p
            else (s.setSwitch p (switchAfter w (s.link p).switchAction)).disableLink p)
        else s.setSwitch p (switchAfter w (s.link p).switchAction)) := by
  have ok {b : Bool} {v : Word} (small : b = true → v.toNat ≤ 1) : maskedOk b (boolArg v) = true := by
    cases b with
    | false => rfl
    | true => exact (boolArg_isSome v).2 (small rfl)
  have written : (if w.maskBit 9 then
      s.modLink p fun x => { x with switchAction := if w.w3 = 1#16 then .hold else .release } else s) =
      s.setSwitch p (switchAfter w (s.link p).switchAction) := by
    unfold State.setSwitch switchAfter
    cases w.maskBit 9 with
    | true => rfl
    | false => exact (s.setLink_link p).symm
  simp only [State.setPosition, hp, toFin?_word (by decide : 48 ≤ 65536) p, written]
  rw [if_neg (by simp [known, ok enable, ok switch])]

theorem State.enableLink_disabled {s : State} {p : Pos} (disabled : (s.link p).state = .disabled) :
    s.enableLink p = s.setLink p { s.link p with state := .hunt, goodCount := 0, huntBytes := [] } := by
  simp [State.enableLink, disabled]

theorem State.enableLink_enabled {s : State} {p : Pos} (enabled : (s.link p).state ≠ .disabled) : s.enableLink p = s := by
  unfold State.enableLink
  rw [State.modLink_eq]
  split
  · exact absurd ‹_› enabled
  · exact s.setLink_link p
  · exact s.setLink_link p

theorem State.disableLink_disabled {s : State} {p : Pos} (disabled : (s.link p).state = .disabled) : s.disableLink p = s := by
  simp [State.disableLink, disabled]

/-! ### A link disabled (R164) -/

/-- A link that is DISABLED after a teardown. -/
def cutOff (x : Link) : Link :=
  { x with
    state := .disabled, requests := [], answers := [], indications := [], assembly := .between
    transmit := [], huntBytes := [], rawLeft := 0, rawRight := 0, rawMic := 0 }

/-- The completed command that has torn position `p` down from `s` to the records of `v`, and disabled its link. -/
def State.disconnected (s v : State) (p : Pos) : State :=
  ((((finishAct none (List.finRange 32) s v).modLink p Link.emptied).cancelTimer (.grace p)).modLink p fun x =>
    { x with state := .disabled, huntBytes := [], rawLeft := 0, rawRight := 0, rawMic := 0 }).complete .done

theorem State.disableLink_enabled {s : State} {p : Pos} (enabled : (s.link p).state ≠ .disabled) :
    (s.disableLink p).complete .done = s.disconnected (((s.releaseHandsets p).dropAllMonitors p).dropEntries p) p := by
  unfold State.disableLink
  split
  · exact absurd ‹_› enabled
  · rfl
  · rfl

section
variable (s v : State) (p : Pos)

@[simp] theorem disconnected_lines : (s.disconnected v p).lines = v.lines := by simp [State.disconnected, State.complete]
@[simp] theorem disconnected_directories : (s.disconnected v p).directories = v.directories := by
  simp [State.disconnected, State.complete]
@[simp] theorem disconnected_channels : (s.disconnected v p).channels = v.channels := by simp [State.disconnected, State.complete]
@[simp] theorem disconnected_selections : (s.disconnected v p).selections = v.selections := by
  simp [State.disconnected, State.complete]
@[simp] theorem disconnected_legs : (s.disconnected v p).legs = v.legs := by simp [State.disconnected, State.complete]
@[simp] theorem disconnected_slots : (s.disconnected v p).slots = v.slots := by simp [State.disconnected, State.complete]
@[simp] theorem disconnected_generators : (s.disconnected v p).generators = v.generators := by
  simp [State.disconnected, State.complete]
@[simp] theorem disconnected_inFlight : (s.disconnected v p).inFlight = v.inFlight := by simp [State.disconnected, State.complete]
@[simp] theorem disconnected_reports : (s.disconnected v p).reports = v.reports := by simp [State.disconnected, State.complete]
@[simp] theorem disconnected_pointer : (s.disconnected v p).pointer = v.pointer := by simp [State.disconnected, State.complete]
@[simp] theorem disconnected_frameCount : (s.disconnected v p).frameCount = v.frameCount := by
  simp [State.disconnected, State.complete]
@[simp] theorem disconnected_bridge (b : BridgeNo) : (s.disconnected v p).bridge b = (v.bridge b).settle := by
  simp [State.disconnected, State.complete, finishAct_bridge]

/-- MP at the end: the command has completed, and the act's events stay posted (R188). -/
theorem disconnected_mp :
    (s.disconnected v p).mp =
      { v.mp with result := .done, slot := .done, job := none, flags := v.mp.flags ||| Event.done.mask } := by
  simp [State.disconnected, State.complete, State.post, State.modMp]

theorem timer_disconnected (id : TimerId) :
    (id ≠ .grace p → (s.disconnected v p).timer id = v.timer id) ∧ ((s.disconnected v p).timer (.grace p)).running = false := by
  simp +contextual [State.disconnected, State.complete, State.timer_setTimer_ne]

variable {s v} {p}

theorem link_disconnected_ne {q : Pos} (links : v.links = s.links) (other : q ≠ p) :
    (s.disconnected v p).link q = told none (List.finRange 32) s v q := by
  have act : (s.disconnected v p).link q = (finishAct none (List.finRange 32) s v).link q := by
    simp [State.disconnected, State.complete, State.link_setLink, other]
  rw [act, finishAct_link none _ s v q (by simp only [State.link, links])]

theorem link_disconnected_core {q : Pos} (links : v.links = s.links) (other : q ≠ p) :
    linkCore ((s.disconnected v p).link q) = linkCore (s.link q) ∧
      ((s.disconnected v p).link q).requests = (s.link q).requests ∧
        ((s.disconnected v p).link q).answers = (s.link q).answers := by
  have act : (s.disconnected v p).link q = (finishAct none (List.finRange 32) s v).link q := by
    simp [State.disconnected, State.complete, State.link_setLink, other]
  have same := finishAct_same none (List.finRange 32) s v q
  rw [show v.link q = s.link q by simp only [State.link, links]] at same
  have core := congrArg linkCore same
  have requests := congrArg Link.requests same
  have answers := congrArg Link.answers same
  rw [act]
  exact ⟨core, requests, answers⟩

theorem link_disconnected_self (links : v.links = s.links) : (s.disconnected v p).link p = cutOff (s.link p) := by
  have act : (s.disconnected v p).link p = cutOff ((finishAct none (List.finRange 32) s v).link p) := by
    simp [State.disconnected, State.complete, cutOff, Link.emptied]
  have same := finishAct_same none (List.finRange 32) s v p
  rw [show v.link p = s.link p by simp only [State.link, links]] at same
  have cut := congrArg cutOff same
  rw [act]
  exact cut

end

theorem State.positionOut_links (s : State) (p : Pos) : (s.positionOut p).links = s.links := by
  simp [State.positionOut, State.handsetsOut]

theorem State.positionOut_mp (s : State) (p : Pos) : (s.positionOut p).mp = s.mp := by
  simp [State.positionOut, State.handsetsOut]

theorem State.positionOut_inFlight (s : State) (p : Pos) : (s.positionOut p).inFlight = s.inFlight := by
  simp [State.positionOut, State.handsetsOut]

/-- The teardown, told and completed. -/
theorem State.disconnected_tornDown (s : State) (p : Pos) : TornDown s (s.disconnected (s.positionOut p) p) p := by
  have links := s.positionOut_links p
  refine State.positionOut_tornDown (by simp) (by simp) (by simp) (by simp) (by simp) (fun id other => (timer_disconnected ..).1 other)
    (fun q hq => ?_) ?_ ?_ ?_ ?_ ?_ ?_
  · rw [link_disconnected_ne links hq]
    exact told_congr (s := s) (t := s.disconnected (s.positionOut p) p) {} ⟨by simp, by simp, by simp⟩ rfl _ _
  all_goals simp [State.positionOut, State.handsetsOut]

/-- A teardown reads no link but those that it tells, and nothing of MP. -/
theorem tornDown_of_links {s u : State} {ls : Vector Link 48} {m : Management} {p : Pos}
    (h : TornDown { s with links := ls, mp := m } u p) (same : ∀ q, q ≠ p → ls[q] = s.links[q]) : TornDown s u p := by
  obtain ⟨lines, channels, selections, lineBridges, channelBridges, floors, stopped, kept, tells, rest⟩ := h
  refine ⟨lines, channels, selections, lineBridges, channelBridges, floors, stopped, kept, fun q hq => ?_, rest⟩
  rw [tells q hq]
  exact told_congr (s := s) (s' := { s with links := ls, mp := m }) (t := u) (t' := u) ⟨rfl, rfl, rfl⟩ ⟨rfl, rfl, rfl⟩ (same q hq)
    _ _

/-! ### The events of a teardown (R147) -/

/-- A reversion posts ROUTE, and posts it again without effect. -/
theorem State.revertAtRest_mp (r : State × List SlotNo) (l : LineNo) :
    (State.revertAtRest r l).1.mp = r.1.mp ∨
      (State.revertAtRest r l).1.mp = { r.1.mp with flags := r.1.mp.flags ||| Event.route.mask } := by
  unfold State.revertAtRest
  split
  · exact .inr (by simp [State.post])
  · exact .inl rfl

theorem State.atRestAll_mp (s : State) (ls : List LineNo) :
    (s.atRestAll ls).mp = s.mp ∨ (s.atRestAll ls).mp = { s.mp with flags := s.mp.flags ||| Event.route.mask } := by
  have reverted : (ls.foldl State.revertAtRest (s, [])).1.mp = s.mp ∨
      (ls.foldl State.revertAtRest (s, [])).1.mp = { s.mp with flags := s.mp.flags ||| Event.route.mask } := by
    refine List.foldlRecOn (motive := fun r : State × List SlotNo =>
      r.1.mp = s.mp ∨ r.1.mp = { s.mp with flags := s.mp.flags ||| Event.route.mask }) ls _ (.inl rfl) fun r h l _ => ?_
    rcases State.revertAtRest_mp r l with e | e <;> rcases h with h | h
    · exact .inl (e.trans h)
    · exact .inr (e.trans h)
    · exact .inr (e.trans (by rw [h]))
    · exact .inr (e.trans (by rw [h]; simp [BitVec.or_assoc]))
  have served : (s.atRestAll ls).mp = (ls.foldl State.revertAtRest (s, [])).1.mp :=
    foldl_keeps State.mp _ (fun t sl => State.serve_mp t _ sl) _ _
  rwa [served]

theorem State.releaseHandsets_mp (s : State) (p : Pos) :
    (s.releaseHandsets p).mp = s.mp ∨ (s.releaseHandsets p).mp = { s.mp with flags := s.mp.flags ||| Event.route.mask } := by
  have left : (s.handsetsOut p).mp = s.mp := by simp [State.handsetsOut]
  rw [← left]
  exact (s.handsetsOut p).atRestAll_mp _

/-- An event that has been posted is flagged (R186). -/
theorem flags_posted (f m : BitVec 7) : (f ||| m) &&& m = m := by
  ext i hi
  simp +contextual

/-- The posting of one event leaves the flag of another (R186). -/
theorem flags_post_apart (f : BitVec 7) {m k : BitVec 7} (apart : m &&& k = 0#7) : (f ||| m) &&& k = f &&& k := by
  rw [BitVec.and_or_distrib_right, apart, BitVec.or_zero]

/-- A completed teardown posts DONE, and no LINK event (R188, R190). -/
theorem disconnected_flags (s : State) (p : Pos) :
    (s.disconnected (((s.releaseHandsets p).dropAllMonitors p).dropEntries p) p).flagged .done = true ∧
      (s.flagged .link = false →
        (s.disconnected (((s.releaseHandsets p).dropAllMonitors p).dropEntries p) p).flagged .link = false) := by
  simp only [State.flagged, disconnected_mp, State.dropEntries_mp, State.dropAllMonitors_mp]
  refine ⟨by rw [flags_posted]; rfl, fun clear => ?_⟩
  rw [flags_post_apart _ rfl]
  rcases s.releaseHandsets_mp p with e | e
  · rwa [e]
  · rwa [e, flags_post_apart _ rfl]

end Sys2Proof.Machine

namespace Sys2Proof.Proofs

open Machine Safety Laws

/-- Settles O36: the decision by the operands; a disable by the records that the teardown leaves (`State.positionOut_tornDown`). -/
theorem setPositionSwitchesLink : Obligations.SetPositionSwitchesLink := by
  refine ⟨fun s w ready bad => congrArg Host.Outcome.next (command_refused s _ w _ ready (State.setPosition_bad bad)),
    fun s w p a ready hp known enable switch action => ?_⟩
  have decided := State.setPosition_at (s := loaded s 0x12#8 w) hp known enable switch
  rw [loaded_link, show switchAfter w (s.link p).switchAction = a from action.symm] at decided
  have completes (t : State) (e : (loaded s 0x12#8 w).setPosition w = (some .done, t)) :
      exec (.setPosition w) s = .next (t.complete .done) :=
    congrArg Host.Outcome.next (command_done s t 0x12#8 w .done ready e)
  have own : ((loaded s 0x12#8 w).setSwitch p a).link p = { s.link p with switchAction := a } := State.link_setLink_self _ p _
  refine ⟨fun masked on disabled => ?_, fun stands => ?_, fun masked off enabled => ?_⟩
  · rw [if_pos masked, if_pos on, State.enableLink_disabled (by rw [own]; exact disabled), own, State.setSwitch,
      State.setLink_twice] at decided
    exact completes _ decided
  · have same : (loaded s 0x12#8 w).setPosition w = (some .done, (loaded s 0x12#8 w).setSwitch p a) := by
      rw [decided]
      rcases stands with unmasked | ⟨on, enabled⟩ | ⟨off, disabled⟩
      · rw [if_neg (by simp [unmasked])]
      · rw [if_pos on, State.enableLink_enabled (by rw [own]; exact enabled), ite_self]
      · rw [if_neg (c := w.w2 = 1#16) (by simp [off]), State.disableLink_disabled (by rw [own]; exact disabled), ite_self]
    exact completes _ same
  · rw [if_pos masked, if_neg (by simp [off])] at decided
    have served := completes _ decided
    rw [State.disableLink_enabled (by rw [own]; exact enabled)] at served
    have link (q : Pos) (hq : q ≠ p) : ((loaded s 0x12#8 w).setSwitch p a).link q = s.link q := State.link_setLink_ne _ _ hq
    refine ⟨_, served, ?_, fun q hq => ?_, (timer_disconnected _ _ p (.grace p)).2, ?_, ?_, ?_, (disconnected_flags _ p).1,
      fun clear => (disconnected_flags _ p).2 clear, fun stays => ?_⟩
    · rw [link_disconnected_self (by simp), own]; rfl
    · rw [← link q hq]; exact link_disconnected_core (by simp) hq
    · simp [State.setSwitch]
    · rw [disconnected_mp]
    · rw [disconnected_mp]
    · have out : ((((loaded s 0x12#8 w).setSwitch p a).releaseHandsets p).dropAllMonitors p).dropEntries p =
          ((loaded s 0x12#8 w).setSwitch p a).positionOut p := by
        rw [State.releaseHandsets_stays (s := (loaded s 0x12#8 w).setSwitch p a) stays]; rfl
      rw [out]
      refine ⟨tornDown_of_links (State.disconnected_tornDown ((loaded s 0x12#8 w).setSwitch p a) p) link, ?_, ?_⟩
      · rw [disconnected_mp, State.positionOut_mp]; rfl
      · rw [disconnected_inFlight, State.positionOut_inFlight]; rfl

end Sys2Proof.Proofs
end

section
/-! Act 3 of FLOOR-RESET (R72, R89, R106): the channels give up their live state. -/

set_option Elab.async false

namespace Sys2Proof.Machine

open Safety

theorem State.channel_resetChannels (s : State) (c : ChanNo) : s.resetChannels.channel c = (s.channel c).resetLive := by
  simp [State.resetChannels, State.channel, State.cancelSilenceTimers, State.freeBridges]

theorem State.bridge_resetChannels (s : State) (b : BridgeNo) :
    s.resetChannels.bridge b = if (s.bridge b).channelOwned then Bridge.free else s.bridge b := by
  simp only [State.resetChannels, State.bridge, State.cancelSilenceTimers, State.freeBridges, Fin.getElem_fin, getElem_tabMap]
  rfl

theorem State.leg_resetChannels (s : State) (g : LegNo) : s.resetChannels.leg g = s.detached Bridge.channelOwned (s.leg g) := by
  simp [State.resetChannels, State.leg, State.cancelSilenceTimers, State.freeBridges]

theorem State.selection_resetChannels (s : State) (p : Pos) (n : UnitNo) :
    s.resetChannels.selection p n = if s.designations.contains (p, n) then s.selection p n else .none := by
  simp only [State.resetChannels, State.selection, State.cancelSilenceTimers, State.freeBridges, Fin.getElem_fin, getElem_tabMapIdx]

/-- A silence timer. -/
def isSilenceTimer : TimerId → Bool
  | .silence _ _ => true
  | _ => false

theorem State.timer_resetChannels (s : State) (t : TimerId) :
    s.resetChannels.timer t = if isSilenceTimer t then (s.timer t).cancel (s.expiryInFlight t) else s.timer t := by
  cases t <;>
    simp [State.resetChannels, State.timer, State.cancelSilenceTimers, State.freeBridges, isSilenceTimer, State.expiryInFlight]

theorem Bridge.channelOwned_iff (b : Bridge) : b.channelOwned = true ↔ ∃ c, b.owner = some (.channel c) := by
  unfold Bridge.channelOwned
  split <;> simp_all

/-- A channel that gives up its live state, written on the record. -/
theorem Channel.resetLive_eq (x : Channel) :
    x.resetLive =
      { x with
        talkers := [], queue := [], bridge := none
        state := if x.state = .opened then .closed else x.state } := by
  unfold Channel.resetLive
  split <;> simp_all

/-- The designated units are those of the members of live GROUP channels. -/
theorem State.mem_designations (s : State) (p : Pos) (n : UnitNo) :
    (p, n) ∈ s.designations ↔
      ∃ c : ChanNo, (s.channel c).live = true ∧ (s.channel c).kind = .group ∧ ⟨p, n⟩ ∈ (s.channel c).members := by
  simp only [State.designations, List.mem_flatMap, List.mem_filter, List.mem_finRange, true_and, Bool.and_eq_true, beq_iff_eq,
    List.mem_map, Prod.mk.injEq, and_assoc]
  refine exists_congr fun c => and_congr_right fun _ => and_congr_right fun _ => ⟨?_, fun h => ⟨_, h, rfl, rfl⟩⟩
  rintro ⟨m, hm, rfl, rfl⟩
  exact hm

end Sys2Proof.Machine

namespace Sys2Proof.Proofs

open Machine Safety

/-- Settles O39: each part of the state after the act, read through the act's own table functions. -/
theorem floorResetClosesChannels : Obligations.FloorResetClosesChannels := by
  intro s job
  have act : s.resetAct .channels (fun t => t.resetChannels.setJob (.floorReset .routes)) =
      (s.resetChannels.setJob (.floorReset .routes)).settleBridges := if_pos job
  have bridge : ∀ b, (s.resetChannels.setJob (.floorReset .routes)).settleBridges.bridge b =
      (if (s.bridge b).channelOwned then Bridge.free else s.bridge b).settle := fun b => by
    rw [State.bridge_settleBridges, ← State.bridge_resetChannels]; rfl
  refine ⟨_, congrArg Host.Outcome.next act, rfl, fun c => ?_, fun c p => ?_, fun t other => ?_, fun b c owned => ?_,
    fun b free => ?_, fun p n => ?_, rfl, rfl⟩
  · exact (s.channel_resetChannels c).trans (Channel.resetLive_eq _)
  · exact (congrArg Timer.running (s.timer_resetChannels (.silence c p))).trans (Timer.cancel_running _ _)
  · refine (s.timer_resetChannels t).trans (if_neg ?_)
    cases t with
    | silence c p => exact absurd rfl (other c p)
    | _ => exact nofun
  · have gone := (Bridge.channelOwned_iff _).2 ⟨c, owned⟩
    refine ⟨by rw [bridge, if_pos gone, Bridge.settle_free], fun g => ?_⟩
    exact (s.leg_resetChannels g).symm ▸ s.detached_attach Bridge.channelOwned (s.leg g) b gone
  · have kept : ¬(s.bridge b).channelOwned = true := fun e => let ⟨c, owned⟩ := (Bridge.channelOwned_iff _).1 e; free c owned
    rw [bridge, if_neg kept]
  · refine (s.selection_resetChannels p n).trans (if_congr ?_ rfl rfl)
    rw [List.contains_iff_mem]
    exact s.mem_designations p n

end Sys2Proof.Proofs
end

section
/-! CREATE-CHANNEL (R63, R65): the record, the trunk slot that comes to name it, and the claim. -/

set_option Elab.async false

namespace Sys2Proof.Machine

open Safety Laws

/-! ### The decision (R65) -/

theorem State.trunkClaimed_iff (s : State) (c : ChanNo) (sl : Option SlotNo) : s.trunkClaimed c sl = true ↔ TrunkTaken s c sl := by
  cases sl with
  | none => simp [State.trunkClaimed, TrunkTaken]
  | some n => simp [State.trunkClaimed, TrunkTaken]

/-- The record of a channel that is created, before it claims its trunk slot. -/
def createdChannel (w : CmdWords) (maximum : Nat) (m : Headroom) (trunk : Option SlotNo) : Channel :=
  { Channel.vacant with
    kind := channelKindArg (bit w.w2 0), state := .closed, maxTalkers := maximum, trunk := trunk
    silence := (clampArg 0 255 w.w4).1, threshold := (clampArg 0 32767 w.w5).1, headroom := m, noTrunk := trunk.isSome }

/-- The state in which a new channel has named its trunk slot. -/
def State.trunkNamed (s : State) (c : ChanNo) (x : Channel) : State := (s.setChannel c x).namePrimary x.trunk (.channel c)

/-- The fields of CREATE-CHANNEL that lie in their ranges. -/
structure ChannelFields (w : CmdWords) (c : ChanNo) (maximum : Nat) (m : Headroom) (trunk : Option SlotNo) : Prop where
  channelArg : w.w1 = word c.val
  maximumArg : maximumArg w.w2 = some maximum
  modeArg : headroomArg w.w2 = some m
  trunkArg : slotArg w.w3 = some trunk
  group : bit w.w2 0 = true → trunk = none

theorem State.createChannel_at (s : State) {w : CmdWords} {c : ChanNo} {maximum : Nat} {m : Headroom} {trunk : Option SlotNo}
    (h : ChannelFields w c maximum m trunk) :
    s.createChannel w =
      if (s.channel c).state ≠ .vacant then refuse .exists s
      else if s.trunkClaimed c trunk then refuse .slotClaimed s
      else
        (some (clampedResult ((clampArg 0 255 w.w4).2 || (clampArg 0 32767 w.w5).2)),
          (s.trunkNamed c (createdChannel w maximum m trunk)).claimTrunk c trunk) := by
  obtain ⟨channelArg, maximumArg, modeArg, trunkArg, group⟩ := h
  have lone : ¬(channelKindArg (bit w.w2 0) = .group ∧ trunk.isSome = true) := by
    rintro ⟨kind, named⟩
    cases set : bit w.w2 0 with
    | false => simp [set, channelKindArg] at kind
    | true => simp [group set] at named
  unfold State.createChannel
  simp only [channelArg, toFin?_word (by decide : 32 ≤ 65536) c, maximumArg, modeArg, trunkArg, if_neg lone]
  rfl

theorem State.createChannel_bad (s : State) {w : CmdWords} (h : CreateChannelBad w) : s.createChannel w = refuse .badField s := by
  unfold State.createChannel
  split
  · rename_i c maximum m trunk channelArg maximumArg' modeArg trunkArg
    refine if_pos ?_
    rcases h with h | h | h | h | ⟨group, named⟩
    · rw [toFin?_out h] at channelArg; cases channelArg
    · simp [maximumArg, h] at maximumArg'
    · simp [headroomArg, h, toFin?] at modeArg
    · rw [slotArg_out h] at trunkArg; cases trunkArg
    · have some : trunk ≠ none := fun e => slotArg_some named (e ▸ trunkArg)
      exact ⟨by rw [group]; rfl, Option.isSome_iff_ne_none.2 some⟩
  · rfl

/-! ### The naming and the claim (R63, R131) -/

theorem State.slot_trunkNamed (s : State) (c : ChanNo) (x : Channel) (n : SlotNo) :
    (s.trunkNamed c x).slot n =
      if x.trunk = some n then { s.slot n with primaryNamer := some (.channel c), state := namedState (s.slot n) }
      else s.slot n := State.slot_namePrimary ..

theorem State.channel_trunkNamed (s : State) (c : ChanNo) (x : Channel) (d : ChanNo) :
    (s.trunkNamed c x).channel d = if d = c then x else s.channel d := by
  simp [State.trunkNamed, State.channel_setChannel]

theorem State.timer_trunkNamed (s : State) (c : ChanNo) (x : Channel) :
    (∀ n, x.trunk = some n → (s.trunkNamed c x).timer (.faultConfirm n) = confirmAtNaming s n) ∧
      ∀ id, (∀ n, x.trunk = some n → id ≠ .faultConfirm n) → (s.trunkNamed c x).timer id = s.timer id :=
  ⟨fun n h => ((State.timer_namePrimary _ _ _ (.faultConfirm n)).1 n h).trans (confirmAtNaming_congr rfl rfl rfl),
    fun id other => (State.timer_namePrimary _ _ _ id).2 other⟩

/-- A channel without a bridge claims its slot where that is STANDBY: no leg joins (R63, R64). -/
theorem State.claimTrunk_closed {s : State} {c : ChanNo} (closed : (s.channel c).bridge = none) (sl : Option SlotNo) :
    s.claimTrunk c sl =
      match sl with
      | none => s
      | some n =>
        if (s.slot n).state = .standby then (s.takeSlot n (.channel c)).setChannel c { s.channel c with noTrunk := false }
        else s := by
  cases sl with
  | none => rfl
  | some n =>
    unfold State.claimTrunk State.claimChannel
    rw [closed]
    rfl

/-- What a new channel with record `x` leaves once it has named its trunk slot and claimed it where it could. -/
structure TrunkSettled (s v : State) (c : ChanNo) (x : Channel) (trunk : Option SlotNo) : Prop where
  claimed : ∀ n, trunk = some n → Claimable s n →
    v.channel c = { x with noTrunk := false } ∧
      v.slot n = { s.slot n with state := .active, claimant := some (.channel c), primaryNamer := some (.channel c) }
  unclaimed : ∀ n, trunk = some n → ¬Claimable s n →
    v.channel c = x ∧ v.slot n = { s.slot n with primaryNamer := some (.channel c) }
  without : trunk = none → v.channel c = x
  otherSlot : ∀ n, trunk ≠ some n → v.slot n = s.slot n
  otherChannel : ∀ d, d ≠ c → v.channel d = s.channel d
  timers : ∀ id, v.timer id = (s.trunkNamed c x).timer id
  frame : v = { s with channels := v.channels, slots := v.slots, timers := v.timers }

theorem State.trunkNamed_frame (s : State) (c : ChanNo) (x : Channel) :
    s.trunkNamed c x =
      { s with
        channels := (s.trunkNamed c x).channels, slots := (s.trunkNamed c x).slots, timers := (s.trunkNamed c x).timers } := by
  unfold State.trunkNamed
  exact State.eq_of_fields

theorem State.claimTrunk_settled (s : State) (c : ChanNo) {x : Channel} {trunk : Option SlotNo} (names : x.trunk = trunk)
    (closed : x.bridge = none) : TrunkSettled s ((s.trunkNamed c x).claimTrunk c trunk) c x trunk := by
  have own := s.channel_trunkNamed c x c
  rw [if_pos rfl] at own
  have frame := s.trunkNamed_frame c x
  have slot (k : SlotNo) (other : trunk ≠ some k) : (s.trunkNamed c x).slot k = s.slot k :=
    (s.slot_trunkNamed c x k).trans (if_neg (by rwa [names]))
  have channel (d : ChanNo) (other : d ≠ c) : (s.trunkNamed c x).channel d = s.channel d :=
    (s.channel_trunkNamed c x d).trans (if_neg other)
  rw [State.claimTrunk_closed (by rw [own]; exact closed)]
  cases trunk with
  | none => exact ⟨nofun, nofun, fun _ => own, slot, channel, fun _ => rfl, frame⟩
  | some n =>
    have named := s.slot_trunkNamed c x n
    rw [if_pos names] at named
    have standby : ((s.trunkNamed c x).slot n).state = .standby ↔ Claimable s n := by rw [named]; exact namedState_standby
    dsimp only
    by_cases can : Claimable s n
    · rw [if_pos (standby.2 can)]
      refine ⟨?_, ?_, nofun, fun k other => ?_, fun d other => ?_, fun id => by simp [State.takeSlot], ?_⟩
      · rintro _ ⟨⟩ _
        exact ⟨by rw [State.channel_setChannel_self, own], by simp [State.takeSlot, named]⟩
      · rintro _ ⟨⟩ cannot
        exact absurd can cannot
      · have ne : k ≠ n := fun e => other (by rw [e])
        simp [State.takeSlot, State.slot_setSlot, ne, slot k other]
      · rw [State.channel_setChannel_ne _ _ other]
        exact channel d other
      · rw [frame]; rfl
    · rw [if_neg fun h => can (standby.1 h)]
      refine ⟨?_, ?_, nofun, slot, channel, fun _ => rfl, frame⟩
      · rintro _ ⟨⟩ h
        exact absurd h can
      · rintro _ ⟨⟩ _
        refine ⟨own, named.trans ?_⟩
        rw [namedState, if_neg fun h => can (.inl h)]

end Sys2Proof.Machine

namespace Sys2Proof.Proofs

open Machine Safety Laws

/-- Settles O30: the decision in the order of R65, and what the naming and the claim leave (`State.claimTrunk_settled`). -/
theorem createChannelIsClosed : Obligations.CreateChannelIsClosed := by
  refine ⟨fun s w ready bad => congrArg Host.Outcome.next (command_refused s _ w _ ready (State.createChannel_bad _ bad)),
    fun s w c maximum m trunk ready channelArg maximumArg modeArg trunkArg group => ?_⟩
  have decided := (loaded s 0x07#8 w).createChannel_at ⟨channelArg, maximumArg, modeArg, trunkArg, group⟩
  have taken := (loaded s 0x07#8 w).trunkClaimed_iff c trunk
  refine ⟨fun live => congrArg Host.Outcome.next (command_refused s _ w _ ready (decided.trans (if_pos live))), fun vacant claimed =>
    congrArg Host.Outcome.next (command_refused s _ w _ ready
      (decided.trans ((if_neg (not_not_intro vacant)).trans (if_pos (taken.2 claimed))))), fun vacant unclaimed => ?_⟩
  have runs := command_done s _ 0x07#8 w _ ready
    (decided.trans ((if_neg (not_not_intro vacant)).trans (if_neg fun e => unclaimed (taken.1 e))))
  have settled := (loaded s 0x07#8 w).claimTrunk_settled c (x := createdChannel w maximum m trunk) (trunk := trunk) rfl rfl
  have timers := (loaded s 0x07#8 w).timer_trunkNamed c (createdChannel w maximum m trunk)
  have record : createdChannel w maximum m trunk =
      { Channel.vacant with
        kind := channelKindArg (bit w.w2 0), state := .closed, maxTalkers := maximum, trunk := trunk
        silence := min 255 w.w4.toNat, threshold := min 32767 w.w5.toNat, headroom := m, noTrunk := trunk.isSome } := by
    simp [createdChannel, clampArg, clamp_eq]
  generalize createdChannel w maximum m trunk = x at settled timers runs record
  have names : x.trunk = trunk := by rw [record]
  rw [names] at timers
  generalize ((loaded s 0x07#8 w).trunkNamed c x).claimTrunk c trunk = v at settled runs
  obtain ⟨claims, fails, without, otherSlot, otherChannel, timer, frame⟩ := settled
  refine ⟨_, congrArg Host.Outcome.next runs, ?_, ?_, fun none => ?_, fun n hn => ⟨?_, fun can => ?_, fun cannot => ?_⟩,
    otherSlot, fun id other => (timer id).trans (timers.2 id other), otherChannel, ?_⟩
  · have result : clampedResult ((clampArg 0 255 w.w4).2 || (clampArg 0 32767 w.w5).2) =
        if 255 < w.w4.toNat ∨ 32767 < w.w5.toNat then .doneClamped else .done := by
      simp [clampedResult, clampArg_snd]
    rw [frame, result]; rfl
  · have noTrunk : v.channel c = { x with noTrunk := (v.channel c).noTrunk } := by
      cases trunk with
      | none => rw [without rfl]
      | some n =>
        by_cases can : Claimable s n
        · rw [(claims n rfl can).1]
        · rw [(fails n rfl can).1]
    exact noTrunk.trans (by rw [record]; rfl)
  · subst none
    exact (congrArg Channel.noTrunk (without rfl)).trans (by rw [record]; rfl)
  · exact (timer _).trans (timers.1 n hn)
  · obtain ⟨channel, slot⟩ := claims n hn can
    exact ⟨congrArg Channel.noTrunk channel, slot⟩
  · obtain ⟨channel, slot⟩ := fails n hn cannot
    exact ⟨(congrArg Channel.noTrunk channel).trans (by rw [record, hn]; rfl), slot⟩
  · rw [frame]; rfl

end Sys2Proof.Proofs
end

section
/-! A channel that opens (R54, R99), and units that come to listen to a bridge (R95). -/

set_option Elab.async false

namespace Sys2Proof.Machine

open Safety

/-! ### Leg numbers (R91) -/

theorem unitLeg_inj {p q : Pos} {m n : UnitNo} (e : unitLeg p m = unitLeg q n) : p = q ∧ m = n := by
  have := congrArg Fin.val e
  simp only [unitLeg] at this
  exact ⟨Fin.ext (by omega), Fin.ext (by omega)⟩

theorem trunkLeg_ne_unitLeg (sl : SlotNo) (p : Pos) (n : UnitNo) : trunkLeg sl ≠ unitLeg p n := by
  intro e
  have := congrArg Fin.val e
  simp only [trunkLeg, unitLeg] at this
  omega

/-! ### The lowest-numbered FREE bridge (R99) -/

theorem State.lowestFree_eq_some {s : State} {b : BridgeNo} :
    s.lowestFree = some b ↔ Lowest (fun k => (s.bridge k).state = .free) b := by
  rw [State.lowestFree, ← Fin.find?_eq_find?_finRange, Fin.find?_eq_some_iff]
  simp

theorem State.lowestFree_eq_none {s : State} : s.lowestFree = none ↔ ∀ b, (s.bridge b).state ≠ .free := by
  simp [State.lowestFree]

/-! ### A bridge at the end of an act (R116) -/

@[simp] theorem Bridge.settle_receivers (b : Bridge) : b.settle.receivers = b.receivers := by
  unfold Bridge.settle
  (repeat' split) <;> rfl

theorem Bridge.settle_with_receivers (b : Bridge) (n : Nat) : { b with receivers := n }.settle = { b.settle with receivers := n } := by
  obtain ⟨state, _, gs, _, ⟨kind, _⟩, shift, _⟩ := b
  cases state with
  | free => rfl
  | inUse =>
    cases kind with
    | fixed => rfl
    | auto =>
      by_cases low : shift < headroomFloor gs.length <;> simp [Bridge.settle, Bridge.count, low]

/-- A bridge just allocated, with two contributors at most, has its shift already. -/
theorem Bridge.settle_allocated (o : Owner) (m : Headroom) {gs : List LegNo} (few : gs.length ≤ 2) :
    { Bridge.allocated o m with contributors := gs }.settle = { Bridge.allocated o m with contributors := gs } := by
  have floor : headroomFloor gs.length = 0 := if_pos few
  obtain ⟨kind, hf⟩ := m
  cases kind <;> simp [Bridge.settle, Bridge.allocated, Bridge.count, floor, Bridge.free]

/-! ### Several legs that listen (R95) -/

/-- Legs that come to listen to a bridge, one after the other. -/
def State.listenAll (s : State) (b : BridgeNo) (gs : List LegNo) : State := gs.foldl (fun t g => t.listen b g) s

theorem State.leg_listenAll (s : State) (b : BridgeNo) (gs : List LegNo) (g : LegNo) :
    (s.listenAll b gs).leg g = if g ∈ gs then { s.leg g with attach := some b } else s.leg g := by
  induction gs generalizing s with
  | nil => rfl
  | cons first rest ih =>
    refine (ih (s.listen b first)).trans ?_
    by_cases own : g = first
    · subst own; simp [State.leg_listen]
    · simp [State.leg_listen, own]

theorem State.bridge_listenAll_ne (s : State) {b b' : BridgeNo} (gs : List LegNo) (other : b' ≠ b) :
    (s.listenAll b gs).bridge b' = s.bridge b' :=
  foldl_keeps (fun t : State => t.bridge b') _ (fun t g => (t.bridge_listen b b' g).trans (if_neg fun h => other h.1)) gs s

/-- Listening changes the receiver count of the bridge alone. -/
theorem State.bridge_listenAll (s : State) (b : BridgeNo) (gs : List LegNo) :
    (s.listenAll b gs).bridge b = { s.bridge b with receivers := ((s.listenAll b gs).bridge b).receivers } := by
  refine List.foldlRecOn (motive := fun t : State => t.bridge b = { s.bridge b with receivers := (t.bridge b).receivers }) gs _ rfl
    fun t h g _ => ?_
  rw [State.bridge_listen]
  split
  · rw [h]
  · exact h

/-- Each leg that was not attached to the bridge is one more receiver. -/
theorem State.receivers_listenAll {s : State} {b : BridgeNo} {gs : List LegNo} (distinct : gs.Nodup)
    (detached : ∀ g ∈ gs, (s.leg g).attach ≠ some b) :
    ((s.listenAll b gs).bridge b).receivers = (s.bridge b).receivers + gs.length := by
  induction gs generalizing s with
  | nil => rfl
  | cons g rest ih =>
    obtain ⟨out, distinct⟩ := List.nodup_cons.1 distinct
    refine (ih (s := s.listen b g) distinct fun g' hg' => ?_).trans ?_
    · rw [State.leg_listen, if_neg fun e : g' = g => out (e ▸ hg')]
      exact detached g' (List.mem_cons_of_mem _ hg')
    · rw [State.bridge_listen, if_pos ⟨rfl, detached g List.mem_cons_self⟩, List.length_cons, Nat.add_right_comm]
      rfl

theorem State.listenAll_frame (s : State) (b : BridgeNo) (gs : List LegNo) :
    s.listenAll b gs = { s with bridges := (s.listenAll b gs).bridges, legs := (s.listenAll b gs).legs } := by
  refine List.foldlRecOn (motive := fun t : State => t = { s with bridges := t.bridges, legs := t.legs }) gs _ rfl fun t h g _ => ?_
  rw [h]
  exact State.eq_of_fields

/-! ### A channel that opens (R54) -/

section
variable (s : State) (c : ChanNo) (b : BridgeNo)

theorem State.channel_openChannel (d : ChanNo) :
    (s.openChannel c b).channel d =
      if d = c then { s.channel c with state := .opened, bridge := some b } else s.channel d := by
  simp [State.openChannel, State.allocate, State.channel_setChannel]

theorem State.leg_openChannel (g : LegNo) :
    (s.openChannel c b).leg g =
      if ∃ sl, s.liveTrunk c = some sl ∧ g = trunkLeg sl then { s.leg g with attach := some b } else s.leg g := by
  unfold State.openChannel
  cases live : s.liveTrunk c with
  | none => simp [State.joinTrunk, State.allocate]
  | some sl =>
    by_cases own : g = trunkLeg sl
    · subst own; simp [State.joinTrunk, State.joinOwn, State.leg_join, State.allocate]
    · simp [State.joinTrunk, State.joinOwn, State.leg_join, State.allocate, own]

theorem State.bridge_openChannel_ne {b' : BridgeNo} (other : b' ≠ b) : (s.openChannel c b).bridge b' = s.bridge b' := by
  unfold State.openChannel
  cases s.liveTrunk c with
  | none => simp [State.joinTrunk, State.allocate, State.bridge_setBridge, other]
  | some sl => simp [State.joinTrunk, State.joinOwn, State.bridge_join_ne, State.allocate, State.bridge_setBridge, other]

/-- The bridge of a channel that has opened: as it was allocated, with the ACTIVE trunk as contributor. -/
theorem State.bridge_openChannel :
    ∃ r, (s.openChannel c b).bridge b =
      { Bridge.allocated (.channel c) (s.channel c).headroom with
        contributors := (s.liveTrunk c).toList.map trunkLeg, receivers := r } := by
  unfold State.openChannel
  rw [State.modChannel_eq, State.bridge_setChannel]
  cases s.liveTrunk c with
  | none => exact ⟨0, State.bridge_setBridge_self s b _⟩
  | some sl =>
    obtain ⟨r, joined⟩ := (s.allocate b (.channel c) (s.channel c).headroom).bridge_join b (trunkLeg sl)
    refine ⟨r, joined.trans ?_⟩
    simp [State.allocate, Bridge.addContributor, Bridge.allocated, Bridge.free]

/-- Without an ACTIVE trunk no leg joins. -/
theorem State.openChannel_silent (silent : s.liveTrunk c = none) :
    (s.openChannel c b).bridge b = Bridge.allocated (.channel c) (s.channel c).headroom := by
  rw [State.openChannel, silent]
  exact State.bridge_setBridge_self s b _

theorem State.openChannel_frame :
    s.openChannel c b =
      { s with
        channels := (s.openChannel c b).channels, bridges := (s.openChannel c b).bridges, legs := (s.openChannel c b).legs } :=
  State.eq_of_fields

/-- Whether a channel's trunk is ACTIVE for it depends on the slots and on the trunk that it names (R54). -/
theorem State.liveTrunk_congr {s t : State} {c : ChanNo} (trunk : (t.channel c).trunk = (s.channel c).trunk)
    (slots : t.slots = s.slots) : t.liveTrunk c = s.liveTrunk c := by
  have slot (n : SlotNo) : t.slot n = s.slot n := by simp only [State.slot, slots]
  unfold State.liveTrunk
  rw [trunk]
  simp only [slot]

end

end Sys2Proof.Machine
end

section
/-! Act 5 of FLOOR-RESET (R54, R72): the GROUP channels reopen in ascending order on bridges 0, 1, 2 … -/

set_option Elab.async false

namespace Sys2Proof.Machine

open Safety

/-- The legs of the units that a channel's members designate. -/
def memberLegs (x : Channel) : List LegNo := x.members.map fun m => unitLeg m.pos m.unit

theorem memberLegs_nodup {x : Channel} (distinct : x.members.Nodup) : (memberLegs x).Nodup :=
  distinct.map fun m n e => by
    obtain ⟨pos, unit⟩ := unitLeg_inj e
    cases m; cases n; cases pos; cases unit; rfl

/-- A member designates the unit of a leg just where it is the member of that unit. -/
theorem mem_memberLegs {x : Channel} {m : Member} : unitLeg m.pos m.unit ∈ memberLegs x ↔ m ∈ x.members := by
  refine ⟨fun h => ?_, fun h => List.mem_map.2 ⟨m, h, rfl⟩⟩
  obtain ⟨n, hn, e⟩ := List.mem_map.1 h
  obtain ⟨pos, unit⟩ := unitLeg_inj e
  cases m; cases n; cases pos; cases unit
  exact hn

/-! ### One group reopens -/

/-- A GROUP channel that reopens on bridge `b`, its members' units listening. -/
def State.reopenOn (s : State) (c : ChanNo) (b : BridgeNo) : State := (s.openChannel c b).listenAll b (memberLegs (s.channel c))

theorem State.reopenGroup_eq {s : State} (c : ChanNo) {b : BridgeNo} (lowest : s.lowestFree = some b) :
    s.reopenGroup c = s.reopenOn c b := by
  rw [State.reopenGroup, lowest, State.reopenOn, State.listenAll, memberLegs, List.foldl_map]

section
variable (s : State) (c : ChanNo) (b : BridgeNo)

theorem State.channel_reopenOn (d : ChanNo) :
    (s.reopenOn c b).channel d = if d = c then { s.channel c with state := .opened, bridge := some b } else s.channel d := by
  rw [← State.channel_openChannel, State.reopenOn, State.listenAll_frame]
  rfl

theorem State.bridge_reopenOn_ne {b' : BridgeNo} (other : b' ≠ b) : (s.reopenOn c b).bridge b' = s.bridge b' := by
  rw [State.reopenOn, State.bridge_listenAll_ne _ _ other, State.bridge_openChannel_ne _ _ _ other]

theorem State.bridge_reopenOn :
    { (s.reopenOn c b).bridge b with receivers := 0 } =
      { Bridge.allocated (.channel c) (s.channel c).headroom with contributors := (s.liveTrunk c).toList.map trunkLeg } := by
  obtain ⟨r, opened⟩ := s.bridge_openChannel c b
  rw [State.reopenOn, State.bridge_listenAll, opened]
  rfl

/-- Every member's unit is a receiver, where none listened before and no trunk joins. -/
theorem State.receivers_reopenOn (silent : s.liveTrunk c = none) (distinct : (s.channel c).members.Nodup)
    (detached : ∀ m ∈ (s.channel c).members, (s.leg (unitLeg m.pos m.unit)).attach = none) :
    ((s.reopenOn c b).bridge b).receivers = (s.channel c).members.length := by
  rw [State.reopenOn, State.receivers_listenAll (memberLegs_nodup distinct), State.openChannel_silent _ _ _ silent, memberLegs,
    List.length_map]
  · exact Nat.zero_add _
  · intro g hg
    obtain ⟨m, hm, rfl⟩ := List.mem_map.1 hg
    rw [State.leg_openChannel, if_neg (by simp [silent]), detached m hm]
    exact nofun

theorem State.leg_reopenOn_member {m : Member} (member : m ∈ (s.channel c).members) :
    (s.reopenOn c b).leg (unitLeg m.pos m.unit) = { s.leg (unitLeg m.pos m.unit) with attach := some b } := by
  have untouched : ¬∃ sl, s.liveTrunk c = some sl ∧ unitLeg m.pos m.unit = trunkLeg sl := fun ⟨sl, _, e⟩ =>
    trunkLeg_ne_unitLeg sl _ _ e.symm
  rw [State.reopenOn, State.leg_listenAll, if_pos (mem_memberLegs.2 member), State.leg_openChannel, if_neg untouched]

/-- Any other leg but the trunk's stays as it is. -/
theorem State.leg_reopenOn_other {g : LegNo} (units : g ∉ memberLegs (s.channel c))
    (trunk : ∀ sl, s.liveTrunk c = some sl → g ≠ trunkLeg sl) : (s.reopenOn c b).leg g = s.leg g := by
  rw [State.reopenOn, State.leg_listenAll, if_neg units, State.leg_openChannel, if_neg fun ⟨sl, live, e⟩ => trunk sl live e]

theorem State.reopenOn_frame :
    s.reopenOn c b =
      { s with channels := (s.reopenOn c b).channels, bridges := (s.reopenOn c b).bridges, legs := (s.reopenOn c b).legs } := by
  unfold State.reopenOn
  rw [State.listenAll_frame, State.openChannel_frame]

end

/-! ### The groups in their order -/

/-- The groups `gs` have reopened between `s` and `t`, the first on bridge 0, the second on bridge 1, and so on. -/
structure GroupsOpened (s t : State) (gs : List ChanNo) : Prop where
  channel : ∀ (b : BridgeNo) c, gs[b.val]? = some c → t.channel c = { s.channel c with state := .opened, bridge := some b }
  bridge : ∀ (b : BridgeNo) c, gs[b.val]? = some c →
    { t.bridge b with receivers := 0 } =
      { Bridge.allocated (.channel c) (s.channel c).headroom with contributors := (s.liveTrunk c).toList.map trunkLeg }
  member : ∀ (b : BridgeNo) c, gs[b.val]? = some c → ∀ m ∈ (s.channel c).members,
    (∀ d ∈ gs, d ≠ c → m ∉ (s.channel d).members) →
    t.leg (unitLeg m.pos m.unit) = { s.leg (unitLeg m.pos m.unit) with attach := some b }
  receivers : ∀ (b : BridgeNo) c, gs[b.val]? = some c → (∀ g, (s.leg g).attach = none) → (s.channel c).members.Nodup →
    (∀ m ∈ (s.channel c).members, ∀ d ∈ gs, d ≠ c → m ∉ (s.channel d).members) → s.liveTrunk c = none →
    (t.bridge b).receivers = (s.channel c).members.length
  rest : ∀ b : BridgeNo, gs[b.val]? = none → t.bridge b = s.bridge b
  others : ∀ c, c ∉ gs → t.channel c = s.channel c
  legs : ∀ g, (∀ c ∈ gs, g ∉ memberLegs (s.channel c) ∧ ∀ sl, s.liveTrunk c = some sl → g ≠ trunkLeg sl) → t.leg g = s.leg g
  frame : t = { s with channels := t.channels, bridges := t.bridges, legs := t.legs }

theorem GroupsOpened.nil (s : State) : GroupsOpened s s [] :=
  ⟨nofun, nofun, nofun, nofun, fun _ _ => rfl, fun _ _ => rfl, fun _ _ => rfl, rfl⟩

/-- The bridges before the number of groups are in use, and the next one is the lowest that is FREE. -/
theorem GroupsOpened.lowestFree {s t : State} {gs : List ChanNo} (h : GroupsOpened s t gs) (free : ∀ b, s.bridge b = Bridge.free)
    {b : BridgeNo} (next : b.val = gs.length) : t.lowestFree = some b := by
  refine State.lowestFree_eq_some.2 ⟨?_, fun k below => ?_⟩
  · have unused : t.bridge b = Bridge.free := (h.rest b (List.getElem?_eq_none (by omega))).trans (free b)
    exact congrArg Bridge.state unused
  · have lt : k.val < gs.length := next ▸ below
    have used := congrArg Bridge.state (h.bridge k _ (List.getElem?_eq_getElem lt))
    exact fun e => nomatch used.symm.trans e

theorem getElem?_snoc {α : Type} {gs : List α} {c d : α} {i : Nat} (h : (gs ++ [c])[i]? = some d) :
    gs[i]? = some d ∨ i = gs.length ∧ d = c := by
  rcases Nat.lt_trichotomy i gs.length with lt | rfl | gt
  · exact .inl (by rwa [List.getElem?_append_left lt] at h)
  · exact .inr ⟨rfl, by simpa using h.symm⟩
  · rw [List.getElem?_eq_none (by simp; omega)] at h
    cases h

/-- One more group, on the next bridge. -/
theorem GroupsOpened.snoc {s t : State} {gs : List ChanNo} {c : ChanNo} {b : BridgeNo} (h : GroupsOpened s t gs) (new : c ∉ gs)
    (next : b.val = gs.length) : GroupsOpened s (t.reopenOn c b) (gs ++ [c]) := by
  have own : t.channel c = s.channel c := h.others c new
  have trunk : t.liveTrunk c = s.liveTrunk c := State.liveTrunk_congr (by rw [own]) (by rw [h.frame])
  have earlier {k : BridgeNo} {d : ChanNo} (at_ : gs[k.val]? = some d) : k ≠ b ∧ d ≠ c := by
    refine ⟨?_, fun e : d = c => new (e ▸ List.mem_of_getElem? at_)⟩
    rintro rfl
    rw [next, List.getElem?_eq_none le_rfl] at at_
    cases at_
  have notTrunk (m : Member) (sl : SlotNo) : unitLeg m.pos m.unit ≠ trunkLeg sl := (trunkLeg_ne_unitLeg sl m.pos m.unit).symm
  have before {m : Member} (alone : ∀ d ∈ gs ++ [c], d ≠ c → m ∉ (s.channel d).members) :
      t.leg (unitLeg m.pos m.unit) = s.leg (unitLeg m.pos m.unit) :=
    h.legs _ fun d hd => ⟨fun e => alone d (List.mem_append_left _ hd) (fun e : d = c => new (e ▸ hd)) (mem_memberLegs.1 e),
      fun sl _ => notTrunk m sl⟩
  refine ⟨fun k d at_ => ?_, fun k d at_ => ?_, fun k d at_ m member alone => ?_, fun k d at_ detached distinct alone silent => ?_,
    fun k at_ => ?_, fun d out => ?_, fun g untouched => ?_, ?_⟩
  · rw [State.channel_reopenOn]
    rcases getElem?_snoc at_ with old | ⟨e, rfl⟩
    · rw [if_neg (earlier old).2, h.channel k d old]
    · rw [if_pos rfl, own, Fin.ext (next.trans e.symm)]
  · rcases getElem?_snoc at_ with old | ⟨e, rfl⟩
    · rw [State.bridge_reopenOn_ne _ _ _ (earlier old).1, h.bridge k d old]
    · rw [Fin.ext (e.trans next.symm), State.bridge_reopenOn, own, trunk]
  · rcases getElem?_snoc at_ with old | ⟨e, rfl⟩
    · rw [State.leg_reopenOn_other _ _ _ ?_ fun sl _ => notTrunk m sl]
      · exact h.member k d old m member fun d' hd' => alone d' (List.mem_append_left _ hd')
      · rw [own, mem_memberLegs]
        exact alone c (by simp) (earlier old).2.symm
    · rw [Fin.ext (e.trans next.symm), State.leg_reopenOn_member _ _ _ (by rw [own]; exact member), before alone]
  · rcases getElem?_snoc at_ with old | ⟨e, rfl⟩
    · rw [State.bridge_reopenOn_ne _ _ _ (earlier old).1]
      exact h.receivers k d old detached distinct (fun m hm d' hd' => alone m hm d' (List.mem_append_left _ hd')) silent
    · rw [Fin.ext (e.trans next.symm), State.receivers_reopenOn _ _ _ (by rw [trunk, silent]) (by rw [own]; exact distinct), own]
      intro m hm
      rw [before (alone m (own ▸ hm)), detached]
  · rw [List.getElem?_eq_none_iff, List.length_append, List.length_singleton] at at_
    have later : k ≠ b := fun e => by rw [e] at at_; omega
    rw [State.bridge_reopenOn_ne _ _ _ later, h.rest k (List.getElem?_eq_none (by omega))]
  · rw [List.mem_append, List.mem_singleton, not_or] at out
    rw [State.channel_reopenOn, if_neg out.2, h.others d out.1]
  · obtain ⟨units, trunks⟩ := untouched c (by simp)
    rw [State.leg_reopenOn_other _ _ _ (by rw [own]; exact units) (by rw [trunk]; exact trunks)]
    exact h.legs g fun d hd => untouched d (List.mem_append_left _ hd)
  · rw [State.reopenOn_frame, h.frame]

/-- All the groups, as many as there are bridges at most. -/
theorem State.reopenGroups {s : State} (free : ∀ b, s.bridge b = Bridge.free) {gs : List ChanNo} (distinct : gs.Nodup)
    (few : gs.length ≤ 96) : GroupsOpened s (gs.foldl State.reopenGroup s) gs := by
  induction gs using List.reverseRecOn with
  | nil => exact .nil s
  | append_singleton gs c ih =>
    rw [List.length_append, List.length_singleton] at few
    obtain ⟨distinct, -, apart⟩ := List.nodup_append.1 distinct
    have opened := ih distinct (by omega)
    have lowest := opened.lowestFree free (b := ⟨gs.length, by omega⟩) rfl
    rw [List.foldl_append, List.foldl_cons, List.foldl_nil, State.reopenGroup_eq c lowest]
    exact opened.snoc (fun hc => apart c hc c (by simp) rfl) rfl

theorem State.resetGroups_opened {s : State} (free : ∀ b, s.bridge b = Bridge.free) :
    GroupsOpened s s.resetGroups (groupsWithMembers s) :=
  State.reopenGroups free ((List.nodup_finRange 32).filter _)
    ((List.length_filter_le _ _).trans (by rw [List.length_finRange]; decide))

end Sys2Proof.Machine

namespace Sys2Proof.Proofs

open Machine Safety

/-- Settles O41: what the groups leave as they reopen one after the other (`GroupsOpened`), and the headroom floor, which asks nothing
of a bridge with one contributor at most. -/
theorem floorResetReopensGroups : Obligations.FloorResetReopensGroups := by
  intro s job free
  have act : s.resetAct .groups (fun t => t.resetGroups.setJob (.floorReset .completion)) =
      (s.resetGroups.setJob (.floorReset .completion)).settleBridges := if_pos job
  have opened := State.resetGroups_opened free
  have bridge (b : BridgeNo) : (s.resetGroups.setJob (.floorReset .completion)).settleBridges.bridge b =
      (s.resetGroups.bridge b).settle := State.bridge_settleBridges _ b
  have mp : s.resetGroups.mp = s.mp := by rw [opened.frame]
  have links : s.resetGroups.links = s.links := by rw [opened.frame]
  refine ⟨_, congrArg Host.Outcome.next act, ?_, fun b c at_ => ⟨opened.channel b c at_, ?_, opened.member b c at_, ?_⟩,
    fun b none => ?_, opened.others, fun g untouched => ?_, links, ?_⟩
  · rw [← mp]; rfl
  · rw [bridge, ← Bridge.settle_with_receivers, opened.bridge b c at_]
    refine Bridge.settle_allocated _ _ ?_
    cases s.liveTrunk c <;> simp
  · intro detached distinct alone silent
    rw [bridge, Bridge.settle_receivers]
    exact opened.receivers b c at_ detached distinct alone silent
  · rw [bridge, opened.rest b none, free]
    rfl
  · refine opened.legs g fun c hc => ⟨fun member => ?_, (untouched c hc).2⟩
    obtain ⟨m, hm, e⟩ := List.mem_map.1 member
    exact (untouched c hc).1 m hm e.symm
  · have frame := opened.frame
    generalize s.resetGroups = v at frame
    rw [frame]
    rfl

end Sys2Proof.Proofs
end

section
/-! A unit that comes to select a channel (R54, R55, R58): the bridge that it can have, and what the selection leaves. -/

set_option Elab.async false

namespace Sys2Proof.Machine

open Safety

/-! ### The bridge that can be had (R54, R55) -/

theorem State.mem_selectors {s : State} {c : ChanNo} {q : Pos} {m : UnitNo} :
    (q, m) ∈ s.selectors c ↔ s.selection q m = .channel c := by
  simp [State.selectors, State.selects]

theorem State.selectors_nodup (s : State) (c : ChanNo) : (s.selectors c).Nodup := by
  refine List.nodup_flatMap.2 ⟨fun p _ => ?_, (List.nodup_finRange 48).imp fun {p q} apart => ?_⟩
  · exact ((List.nodup_finRange 8).filter _).map fun _ _ e => (Prod.mk.inj e).2
  · rintro ⟨r, m⟩ hp hq
    simp only [List.mem_map, Prod.mk.injEq] at hp hq
    obtain ⟨_, -, rfl, -⟩ := hp
    obtain ⟨_, -, rfl, -⟩ := hq
    exact apart rfl

/-- The bridge of another channel is counted just where the release of the unit's selection closes it (R55, R56). -/
theorem State.countsChannel_iff (s : State) (p : Pos) (n : UnitNo) (c : ChanNo) :
    s.countsChannel p n c = true ↔ ∃ y, s.selection p n = .channel y ∧ y ≠ c ∧ Unheard s y p n := by
  have sole (y : ChanNo) (selected : s.selection p n = .channel y) :
      s.selectors y = [(p, n)] ↔ ∀ q m, s.selection q m = .channel y → q = p ∧ m = n := by
    rw [← List.perm_singleton, List.perm_ext_iff_of_nodup (s.selectors_nodup y) (List.nodup_singleton _), Prod.forall]
    simp only [State.mem_selectors, List.mem_singleton, Prod.mk.injEq]
    refine forall₂_congr fun q m => ⟨fun h => h.1, fun h => ⟨h, ?_⟩⟩
    rintro ⟨rfl, rfl⟩
    exact selected
  unfold State.countsChannel
  cases selected : s.selection p n with
  | channel y =>
    have only := sole y selected
    simp [Unheard, only, and_assoc]
  | none => simp
  | line l => simp

theorem State.canOpen_iff (s : State) (p : Pos) (n : UnitNo) (c : ChanNo) :
    s.canOpen p n c = true ↔
      (∃ b, (s.bridge b).state = .free) ∨ ∃ y, s.selection p n = .channel y ∧ y ≠ c ∧ Unheard s y p n := by
  rw [State.canOpen, Bool.or_eq_true, State.countsChannel_iff, ← Bool.not_eq_false, Option.isSome_eq_false_iff, Option.isNone_iff_eq_none,
    State.lowestFree_eq_none, not_forall]
  simp

/-- No bridge can be had where none is FREE and none is counted (R55). -/
theorem State.canOpen_eq_false {s : State} {p : Pos} {n : UnitNo} {c : ChanNo} (none : ∀ b, (s.bridge b).state ≠ .free)
    (counted : ∀ y, s.selection p n = .channel y → y = c ∨ ¬Unheard s y p n) : s.canOpen p n c = false := by
  rw [← Bool.not_eq_true, State.canOpen_iff]
  rintro (⟨b, free⟩ | ⟨y, selected, ne, unheard⟩)
  · exact none b free
  · exact (counted y selected).elim ne fun heard => heard unheard

/-- The bridges that are FREE once the unit's selection is released are those that it can have. -/
theorem State.releaseSelection_frees {s : State} {p : Pos} {n : UnitNo} {c : ChanNo} (other : s.selection p n ≠ .channel c)
    (b : BridgeNo) : ((s.releaseSelection p n).bridge b).state = .free ↔ HadBySelect s p n c b := by
  by_cases onChannel : ∃ y, s.selection p n = .channel y ∧ (s.channel y).bridge = some b
  · obtain ⟨y, selected, own⟩ := onChannel
    have ne : y ≠ c := fun e => other (e ▸ selected)
    rw [State.bridge_releaseSelection_channel selected own]
    by_cases unheard : Unheard s y p n
    · rw [if_pos unheard]
      exact ⟨fun _ => .inr ⟨y, selected, ne, unheard, own⟩, fun _ => rfl⟩
    · rw [if_neg unheard]
      refine ⟨.inl, fun had => had.resolve_right ?_⟩
      rintro ⟨y', selected', -, unheard', -⟩
      cases selected.symm.trans selected'
      exact unheard unheard'
  · have never : ¬∃ y, s.selection p n = .channel y ∧ y ≠ c ∧ Unheard s y p n ∧ (s.channel y).bridge = some b :=
      fun ⟨y, selected, _, _, own⟩ => onChannel ⟨y, selected, own⟩
    have state : ((s.releaseSelection p n).bridge b).state = (s.bridge b).state := by
      by_cases onLine : ∃ x, s.selection p n = .line x ∧ (s.line x).bridge = some b
      · obtain ⟨x, selected, own⟩ := onLine
        rw [State.bridge_releaseSelection_line selected own]
        rfl
      · rw [State.bridge_releaseSelection_other (fun y selected own => onChannel ⟨y, selected, own⟩)
          fun x selected own => onLine ⟨x, selected, own⟩]
    rw [state]
    exact ⟨.inl, fun had => had.resolve_right never⟩

theorem State.releaseSelection_lowest {s : State} {p : Pos} {n : UnitNo} {c : ChanNo} (other : s.selection p n ≠ .channel c)
    {b : BridgeNo} (lowest : Lowest (HadBySelect s p n c) b) : (s.releaseSelection p n).lowestFree = some b := by
  rw [State.lowestFree_eq_some]
  simpa only [Lowest, State.releaseSelection_frees other] using lowest

/-! ### The selection made -/

/-- The unit's selection is written, once the previous one is released. -/
def State.reselect (s : State) (p : Pos) (n : UnitNo) (c : ChanNo) : State :=
  (s.releaseSelection p n).setSelection p n (.channel c)

theorem State.channel_reselect {s : State} {p : Pos} {n : UnitNo} {c : ChanNo} (other : s.selection p n ≠ .channel c) :
    (s.reselect p n c).channel c = s.channel c := by
  rw [State.reselect, State.channel_setSelection, State.channel_releaseSelection, if_neg fun e => other e.1]

theorem State.liveTrunk_reselect {s : State} {p : Pos} {n : UnitNo} {c : ChanNo} (other : s.selection p n ≠ .channel c) :
    (s.reselect p n c).liveTrunk c = s.liveTrunk c :=
  State.liveTrunk_congr (by rw [State.channel_reselect other]) (by simp [State.reselect])

/-- A unit has come to select channel `c`, which is OPEN on bridge `b`, between `s` and `v`. -/
structure ChannelSelected (s v : State) (p : Pos) (n : UnitNo) (c : ChanNo) (b : BridgeNo) : Prop where
  channel : v.channel c = { s.channel c with state := .opened, bridge := some b }
  channels : ∀ y, y ≠ c → v.channel y = (s.releaseSelection p n).channel y
  lines : ∀ x, v.line x = (s.releaseSelection p n).line x
  selected : v.selection p n = .channel c
  selections : ∀ q m, ¬(q = p ∧ m = n) → v.selection q m = (s.releaseSelection p n).selection q m
  bridges : ∀ k, k ≠ b → v.bridge k = (s.releaseSelection p n).bridge k
  attached : (v.leg (unitLeg p n)).attach = some b
  legs : ∀ g, g ≠ unitLeg p n → (∀ sl, (if (s.channel c).state = .closed then s.liveTrunk c else none) = some sl → g ≠ trunkLeg sl) →
    v.leg g = (s.releaseSelection p n).leg g
  opens : (s.channel c).state = .closed →
    (∃ r, v.bridge b =
      { Bridge.allocated (.channel c) (s.channel c).headroom with
        contributors := (s.liveTrunk c).toList.map trunkLeg, receivers := r }) ∧
      ∀ sl, s.liveTrunk c = some sl → (v.leg (trunkLeg sl)).attach = some b
  stands : (s.channel c).state = .opened → s.selection p n = .none → (v.bridge b).contributors = (s.bridge b).contributors
  frame : v =
    { s with lines := v.lines, channels := v.channels, selections := v.selections, bridges := v.bridges, legs := v.legs }

section
variable {s : State} {p : Pos} {n : UnitNo} {c : ChanNo} {b : BridgeNo} (other : s.selection p n ≠ .channel c)
include other

/-- An OPEN channel is selected: the unit listens to its bridge. -/
theorem State.selectChannel_opened (opened : (s.channel c).state = .opened) (own : (s.channel c).bridge = some b) :
    s.selectChannel p n c = (s.reselect p n c).listen b (unitLeg p n) := by
  have channel := State.channel_reselect other
  unfold State.reselect at *
  unfold State.selectChannel
  dsimp only
  rw [channel, opened, own]

/-- A CLOSED channel is selected: it opens on the lowest-numbered bridge then FREE. -/
theorem State.selectChannel_closed (closed : (s.channel c).state = .closed) (lowest : Lowest (HadBySelect s p n c) b) :
    s.selectChannel p n c = ((s.reselect p n c).openChannel c b).listen b (unitLeg p n) := by
  have channel := State.channel_reselect other
  have free : (s.reselect p n c).lowestFree = some b := State.releaseSelection_lowest other lowest
  unfold State.reselect at *
  unfold State.selectChannel
  dsimp only
  rw [channel, closed, free]

theorem State.selectChannel_opened_selected (opened : (s.channel c).state = .opened) (own : (s.channel c).bridge = some b) :
    ChannelSelected s (s.selectChannel p n c) p n c b := by
  rw [State.selectChannel_opened other opened own]
  refine ⟨?_, fun y hy => ?_, fun x => ?_, ?_, fun q m hq => ?_, fun k hk => ?_, ?_, fun g hg _ => ?_, fun closed => ?_,
    fun _ nothing => ?_, ?_⟩
  · rw [State.channel_listen, State.channel_reselect other, ← opened, ← own]
  · rw [State.channel_listen]; rfl
  · rw [State.line_listen]; rfl
  · rw [State.selection_listen, State.reselect, State.selection_setSelection, if_pos ⟨rfl, rfl⟩]
  · rw [State.selection_listen, State.reselect, State.selection_setSelection, if_neg hq]
  · rw [State.bridge_listen, if_neg fun e => hk e.1]; rfl
  · rw [State.leg_listen, if_pos rfl]
  · rw [State.leg_listen, if_neg hg]; rfl
  · rw [opened] at closed; cases closed
  · rw [State.bridge_listen, State.reselect, State.releaseSelection_none nothing]
    split <;> rfl
  · unfold State.reselect
    exact State.eq_of_fields

theorem State.selectChannel_closed_selected (closed : (s.channel c).state = .closed) (lowest : Lowest (HadBySelect s p n c) b) :
    ChannelSelected s (s.selectChannel p n c) p n c b := by
  have live := State.liveTrunk_reselect other
  rw [State.selectChannel_closed other closed lowest]
  refine ⟨?_, fun y hy => ?_, fun x => ?_, ?_, fun q m hq => ?_, fun k hk => ?_, ?_, fun g hg trunk => ?_, fun _ => ⟨?_, ?_⟩,
    fun opened => ?_, ?_⟩
  · rw [State.channel_listen, State.channel_openChannel, if_pos rfl, State.channel_reselect other]
  · rw [State.channel_listen, State.channel_openChannel, if_neg hy]; rfl
  · rw [State.line_listen, State.line_openChannel]; rfl
  · rw [State.selection_listen, State.selection_openChannel, State.reselect, State.selection_setSelection, if_pos ⟨rfl, rfl⟩]
  · rw [State.selection_listen, State.selection_openChannel, State.reselect, State.selection_setSelection, if_neg hq]
  · rw [State.bridge_listen, if_neg fun e => hk e.1, State.bridge_openChannel_ne _ _ _ hk]; rfl
  · rw [State.leg_listen, if_pos rfl]
  · rw [if_pos closed] at trunk
    rw [State.leg_listen, if_neg hg, State.leg_openChannel, live, if_neg fun ⟨sl, h, e⟩ => trunk sl h e]; rfl
  · obtain ⟨r, bridge⟩ := (s.reselect p n c).bridge_openChannel c b
    rw [State.channel_reselect other, live] at bridge
    rw [State.bridge_listen]
    split
    · exact ⟨r + 1, by rw [bridge]⟩
    · exact ⟨r, bridge⟩
  · intro sl trunk
    rw [State.leg_listen, if_neg (trunkLeg_ne_unitLeg sl p n), State.leg_openChannel, live, if_pos ⟨sl, trunk, rfl⟩]
  · rw [opened] at closed; cases closed
  · unfold State.reselect
    exact State.eq_of_fields

end

/-- What the statements say of the release of the unit's previous selection, at the end `u` of an act that has made the new one. -/
theorem ChannelSelected.released {s v u : State} {p : Pos} {n : UnitNo} {c : ChanNo} {b : BridgeNo} (h : ChannelSelected s v p n c b)
    (channels : ∀ y, y ≠ c → u.channel y = v.channel y) (lines : ∀ x, u.line x = v.line x)
    (selections : ∀ q m, u.selection q m = v.selection q m) (bridges : ∀ k, u.bridge k = (v.bridge k).settle)
    (legs : ∀ g, u.leg g = v.leg g) :
    Released s u p n (some c) none ∧ BridgesReleased s u p n (some b) ∧
      LegsReleased s u p n (if (s.channel c).state = .closed then s.liveTrunk c else none) := by
  refine ⟨State.releaseSelection_released (fun y hy => ?_) (fun x _ => (lines x).trans (h.lines x)) fun q m hq =>
    (selections q m).trans (h.selections q m hq), State.releaseSelection_bridgesReleased fun k hk => ?_,
    State.releaseSelection_legsReleased fun g hg trunk => (legs g).trans (h.legs g hg trunk)⟩
  · have ne : y ≠ c := fun e => hy (by rw [e])
    exact (channels y ne).trans (h.channels y ne)
  · rw [bridges, h.bridges k fun e => hk (by rw [e])]

/-- A unit that selects another channel, or nothing, comes to select a channel for which a bridge can be had. -/
theorem State.selectChannel_selected {s : State} {p : Pos} {n : UnitNo} {c : ChanNo} {b : BridgeNo}
    (other : s.selection p n ≠ .channel c)
    (had : (s.channel c).state = .opened ∧ (s.channel c).bridge = some b ∨
      (s.channel c).state = .closed ∧ Lowest (HadBySelect s p n c) b) : ChannelSelected s (s.selectChannel p n c) p n c b := by
  rcases had with ⟨opened, own⟩ | ⟨closed, lowest⟩
  · exact State.selectChannel_opened_selected other opened own
  · exact State.selectChannel_closed_selected other closed lowest

/-- No request or command that opens a channel is refused for want of a bridge where one can be had (R54, R55). -/
theorem State.canOpen_of_had {s : State} {p : Pos} {n : UnitNo} {c : ChanNo} {b : BridgeNo}
    (had : (s.channel c).state = .opened ∧ (s.channel c).bridge = some b ∨
      (s.channel c).state = .closed ∧ Lowest (HadBySelect s p n c) b) :
    ¬((s.channel c).state = .closed ∧ s.canOpen p n c = false) := by
  rintro ⟨closed, none⟩
  have had : HadBySelect s p n c b := by
    rcases had with ⟨opened, -⟩ | ⟨-, lowest⟩
    · rw [opened] at closed; cases closed
    · exact lowest.1
  have can : s.canOpen p n c = true := by
    rw [State.canOpen_iff]
    rcases had with free | ⟨y, selected, ne, unheard, -⟩
    · exact .inl ⟨b, free⟩
    · exact .inr ⟨y, selected, ne, unheard⟩
  rw [none] at can
  cases can

/-! ### SPEAKER, channel form (R58) -/

/-- The checks of R58 that follow that of the unit, in their order. -/
theorem State.speakerChannel_free {s : State} {p : Pos} {n : UnitNo} (c : ChanNo) (free : s.designated p n = none) :
    s.speakerChannel p n c =
      if (s.channel c).live = false then (.refused .vacant, s)
      else if s.selection p n = .channel c then (.accepted, s)
      else if (s.channel c).mayListen p = false then (.refused .noPermission, s)
      else if (s.channel c).state = .closed ∧ s.canOpen p n c = false then (.refused .noBridge, s.post .pool)
      else (.accepted, s.selectChannel p n c) := by
  simp [State.speakerChannel, free]

/-- A request refused for want of a bridge posts POOL (R100). -/
theorem answeredOn_noBridge (s : State) (p : Pos) (cs : List ChanNo) (k : Byte) :
    Unmoved s (answeredOn s p cs k (.refused .noBridge) ((taken s p).post .pool)) p ⟨k, .refused .noBridge⟩ := by
  refine ⟨answeredOn_answered cs k _ (.of_links rfl), fun q => ?_, ?_⟩
  · have shown : told none cs s (answeredOn s p cs k (.refused .noBridge) ((taken s p).post .pool)) q = told none cs s s q :=
      told_congr (s := s) (t := s) {} ⟨by simp, by simp, by simp⟩ rfl _ _
    rw [answeredOn_indications cs k _ (v := (taken s p).post .pool) rfl, shown, told_unchanged]
  · rw [if_pos rfl, answeredOn_eq]
    exact State.eq_of_fields (mp := (answered_mp s p k (.refused .noBridge) ((taken s p).post .pool)).trans rfl)

/-- The channels that SPEAKER may touch where the unit does not select the channel yet: the one it leaves, then the one it selects
(log entry 14). -/
theorem State.requestChannels_speaker {s : State} {p : Pos} {n : UnitNo} {c : ChanNo} (other : s.selection p n ≠ .channel c) :
    s.requestChannels p (.speakerChannel n c) = selectedChannel s p n ++ [c] := by
  have ne : selectedChannel s p n ≠ [c] := by
    unfold selectedChannel
    split
    · rename_i d selected
      rintro ⟨⟩
      exact other selected
    · exact nofun
  exact if_neg ne

end Sys2Proof.Machine

namespace Sys2Proof.Proofs

open Machine Safety

/-- Settles O20: the checks of R58 in their order, then the selection made (`ChannelSelected`). -/
theorem speakerSelectsChannel : Obligations.SpeakerSelectsChannel := by
  intro s p n c ready running
  obtain ⟨⟨r, v⟩, decided⟩ : ∃ d, (taken s p).speakerChannel p n c = d := ⟨_, rfl⟩
  have served := exec_request (t := .speakerChannel n c) ready running decided
  have unmoved {r' : AnswerResult} (e : (taken s p).speakerChannel p n c = (r', taken s p))
      (h : r' ≠ .refused .noBridge := by simp) :
      Unmoved s (answeredOn s p (s.requestChannels p (.speakerChannel n c)) 0x0B#8 r v) p ⟨0x0B#8, r'⟩ := by
    cases decided.symm.trans e
    exact answeredOn_unmoved s p _ _ _ h
  refine ⟨_, served, fun fixed => unmoved (if_pos fixed), fun free gone => ?_, fun free live => ?_⟩
  · exact unmoved ((State.speakerChannel_free (s := taken s p) c free).trans (if_pos gone))
  have checks := (State.speakerChannel_free (s := taken s p) c free).trans (if_neg (by simp [live]))
  refine ⟨fun same => unmoved (checks.trans (if_pos same)), fun other barred => ?_, fun other allowed closed none counted => ?_,
    fun b other allowed had => ?_⟩
  · exact unmoved (checks.trans ((if_neg other).trans (if_pos barred)))
  · have full : (taken s p).canOpen p n c = false := State.canOpen_eq_false none fun y selected => .inr (counted y selected)
    have refused := checks.trans ((if_neg other).trans ((if_neg (by simp [allowed])).trans (if_pos ⟨closed, full⟩)))
    cases decided.symm.trans refused
    exact answeredOn_noBridge s p _ _
  · have accepted := checks.trans ((if_neg other).trans ((if_neg (by simp [allowed])).trans
      (if_neg (State.canOpen_of_had (s := taken s p) had))))
    cases decided.symm.trans accepted
    have selects : ChannelSelected (taken s p) ((taken s p).selectChannel p n c) p n c b := State.selectChannel_selected other had
    rw [State.requestChannels_speaker other]
    generalize (taken s p).selectChannel p n c = v at selects
    have frame := selects.frame
    have links : v.links = (taken s p).links := by rw [frame]
    obtain ⟨released, bridges, legs⟩ := selects.released
      (u := answeredOn s p (selectedChannel s p n ++ [c]) 0x0B#8 .accepted v) (fun y _ => by simp) (by simp) (by simp) (by simp)
      (by simp)
    refine ⟨answeredOn_answered _ _ _ (.of_links links) (by rw [frame]; rfl), answeredOn_indications _ _ _ links, ?_, released, bridges,
      ?_, ?_, fun closed => ⟨?_, fun sl trunk => ?_⟩, fun opened nothing => ?_, legs, ?_⟩
    · rw [answeredOn_channel, selects.channel]; rfl
    · rw [answeredOn_selection, selects.selected]
    · rw [answeredOn_leg, selects.attached]
    · obtain ⟨⟨r, fresh⟩, -⟩ := selects.opens closed
      rw [answeredOn_bridge, ← Bridge.settle_with_receivers, fresh]
      refine Bridge.settle_allocated _ _ ?_
      cases (taken s p).liveTrunk c <;> simp
    · rw [answeredOn_leg, (selects.opens closed).2 sl trunk]
    · rw [answeredOn_bridge, Bridge.settle_contributors, selects.stands opened nothing]; rfl
    · rw [answeredOn_eq, frame]
      exact State.eq_of_fields

end Sys2Proof.Proofs
end

section
/-! The entry of a position taken off the floor of a channel (R78, R79, R84): the bridge, its legs and the timers. -/

set_option Elab.async false

namespace Sys2Proof.Machine

open Safety

/-! ### A bridge up to what its legs do to it (R95, R124) -/

/-- A bridge without its contributors, their peaks and its receivers. -/
def Bridge.bare (x : Bridge) : Bridge := { x with contributors := [], receivers := 0, micPeaks := [] }

/-- A bridge without the peaks and the receivers. -/
def Bridge.unheard (x : Bridge) : Bridge := { x with receivers := 0, micPeaks := [] }

/-- The floor of R116 looks at no receiver and no peak. -/
theorem Bridge.settle_unheard (x : Bridge) : x.unheard.settle = x.settle.unheard := by
  unfold Bridge.unheard Bridge.settle Bridge.count
  dsimp only
  (repeat' split) <;> rfl

theorem Bridge.reachedBy_settle {x y : Bridge} (same : y.bare = x.bare) :
    ReachedBy { x with contributors := y.settle.contributors } y.settle := by
  have reached : y.unheard = { x with contributors := y.contributors }.unheard :=
    congrArg (fun z : Bridge => { z with contributors := y.contributors }) same
  have settled : y.settle.unheard = { x with contributors := y.contributors }.settle.unheard := by
    rw [← Bridge.settle_unheard, reached, Bridge.settle_unheard]
  rw [Bridge.settle_contributors]
  exact settled

/-! ### The talker that leaves, and the queue head that is granted -/

section
variable {s : State} {c : ChanNo} {b : BridgeNo} (own : (s.channel c).bridge = some b)
include own

theorem State.bridge_hush (p : Pos) :
    ((s.hush c p).bridge b).contributors = (s.bridge b).contributors.erase (micLeg p) ∧
      ((s.hush c p).bridge b).bare = (s.bridge b).bare ∧ ∀ k, k ≠ b → (s.hush c p).bridge k = s.bridge k := by
  have left : s.hush c p = ((s.setChannel c (withoutTalker (s.channel c) p)).cancelTimer (.silence c p)).leave b (micLeg p) := by
    simp only [State.hush, State.silenceMic, State.channel_setChannel_self, withoutTalker, own]
    rfl
  rw [left]
  refine ⟨?_, ?_, fun k other => ?_⟩
  · rw [State.bridge_leave_self]; rfl
  · rw [State.bridge_leave_self]; rfl
  · rw [State.bridge_leave_ne _ _ other]; rfl

theorem State.bridge_grantHead :
    ((s.grantHead c).bridge b).contributors = micsJoined (s.bridge b).contributors (headGrants (s.channel c)) ∧
      ((s.grantHead c).bridge b).bare = (s.bridge b).bare ∧ ∀ k, k ≠ b → (s.grantHead c).bridge k = s.bridge k := by
  obtain ⟨none, -, same⟩ | ⟨e, rest, one, -, granted⟩ := s.grantHead_cases c
  · rw [same, none]
    exact ⟨rfl, rfl, fun _ _ => rfl⟩
  · have spoken (k : BridgeNo) : (s.grantHead c).bridge k = (s.speak b (micLeg e.pos)).bridge k := by
      simp only [granted, State.addTalker, State.speakOn, State.modChannel_eq, State.channel_setChannel_self, own,
        State.bridge_startSilence, State.bridge_speak, State.bridge_setChannel]
      rfl
    simp only [spoken, State.bridge_speak, one, micsJoined, List.foldl_cons, List.foldl_nil, true_and]
    refine ⟨?_, ?_, fun k other => if_neg fun h => other h.1⟩
    · split <;> simp_all
    · split <;> rfl

theorem State.bridge_removeTalker {p : Pos} (talks : (s.channel c).talking p = true) :
    ((s.removeTalker c p).bridge b).contributors =
        micsJoined ((s.bridge b).contributors.erase (micLeg p)) (granted (s.channel c) p) ∧
      ((s.removeTalker c p).bridge b).bare = (s.bridge b).bare ∧ ∀ k, k ≠ b → (s.removeTalker c p).bridge k = s.bridge k := by
  have own' : ((s.hush c p).channel c).bridge = some b := by rw [State.channel_hush, if_pos rfl]; exact own
  obtain ⟨left, bare, others⟩ := State.bridge_hush own p
  obtain ⟨joined, bare', others'⟩ := State.bridge_grantHead own'
  rw [State.channel_hush, if_pos rfl, ← granted_talking talks, left] at joined
  rw [State.removeTalker_eq]
  exact ⟨joined, bare'.trans bare, fun k other => (others' k other).trans (others k other)⟩

end

theorem State.leg_removeTalker (s : State) (c : ChanNo) (p : Pos) {g : LegNo} (other : g ≠ micLeg p) :
    (s.removeTalker c p).leg g = s.leg g := by
  rw [State.removeTalker_eq, State.leg_grantHead]
  exact (State.leaveOwn_legs_leave _ _ (micLeg p)).stays g other

/-- The entry of a position goes off the floor: the state `u` is as the removal leaves it, with its bridges at the end of the act. -/
theorem State.floorMoved_removeEntry {s u : State} {c : ChanNo} {p : Pos}
    (settles : ∀ b, u.bridge b = ((s.removeEntry c p).bridge b).settle) (legs : ∀ g, u.leg g = (s.removeEntry c p).leg g)
    (timers : ∀ t, u.timer t = (s.removeEntry c p).timer t) : FloorMoved s u c p := by
  obtain ⟨-, floorTimers, -⟩ := s.removeEntry_removed c p
  simp only [FloorMoved, FloorTimers, settles, legs, timers] at floorTimers ⊢
  by_cases talks : (s.channel c).talking p = true
  · have others := (State.timer_removeTalker talks).2
    rw [State.removeEntry_talking talks] at floorTimers ⊢
    by_cases closes : Closes (s.channel c) p (s.hasReceiver c)
    · rw [if_pos closes] at floorTimers ⊢
      refine ⟨floorTimers, fun t own other => ?_, fun b own => ?_, fun k => absurd closes k⟩
      · rw [State.timer_closeChannel, others t (own talks) other]
      · have own' : ((s.removeTalker c p).channel c).bridge = some b := by
          rw [State.channel_removeTalker talks, if_pos rfl, floorWithout_frame]; exact own
        obtain ⟨-, -, kept⟩ := State.bridge_removeTalker own talks
        refine ⟨fun _ => ⟨?_, fun g => ?_⟩, fun k => absurd closes k, fun silent => absurd talks (by simp [silent]), fun k other => ?_⟩
        · rw [State.bridge_closeChannel, if_pos own', Bridge.settle_free]
        · rw [State.leg_closeChannel own']
          split
          · exact nofun
          · assumption
        · rw [State.bridge_closeChannel, own', if_neg fun e => other (Option.some.inj e).symm, kept k other]
    · rw [if_neg closes] at floorTimers ⊢
      refine ⟨floorTimers, fun t own other => others t (own talks) other, fun b own => ?_, fun _ g other => s.leg_removeTalker c p other⟩
      obtain ⟨joined, bare, kept⟩ := State.bridge_removeTalker own talks
      refine ⟨fun k => absurd k closes, fun _ _ => ⟨?_, Bridge.reachedBy_settle bare⟩, fun silent => absurd talks (by simp [silent]),
        fun k other => by rw [kept k other]⟩
      rw [Bridge.settle_contributors, joined]
  · rw [State.removeEntry_silent talks] at floorTimers ⊢
    exact ⟨floorTimers, fun _ _ _ => rfl, fun b own => ⟨fun k => absurd k.1 talks, fun _ k => absurd k talks, fun _ => rfl, fun _ _ => rfl⟩,
      fun _ _ _ => rfl⟩

theorem State.channel_removeEntry (s : State) (c : ChanNo) (p : Pos) (d : ChanNo) :
    (s.removeEntry c p).channel d = if d = c then floorAfter (s.channel c) p (s.hasReceiver c) else s.channel d := by
  split
  · rename_i own
    rw [own]
    exact (s.removeEntry_removed c p).channel
  · rename_i other
    exact (State.removeEntry_sameFloor p other).channel

/-- The removal of an entry touches channels, bridges, legs and timers only. -/
theorem State.removeEntry_frame (s : State) (c : ChanNo) (p : Pos) :
    s.removeEntry c p =
      { s with
        channels := (s.removeEntry c p).channels, bridges := (s.removeEntry c p).bridges, legs := (s.removeEntry c p).legs
        timers := (s.removeEntry c p).timers } := State.eq_of_fields

end Sys2Proof.Machine
end

section
/-! The units of a position released from a channel (R67, R69): they leave its bridge one after the other, and the channel closes with
the last one where it is left unused (R56). -/

set_option Elab.async false

namespace Sys2Proof.Machine

open Safety

/-- Units off the bridge of a channel, one after the other, before the channel closes. -/
def State.unselectAll (s : State) (p : Pos) (c : ChanNo) (us : List UnitNo) : State := us.foldl (fun t u => t.unselect p u c) s

section
variable (s : State) (p : Pos) (c : ChanNo)

theorem State.unselect_selection (n : UnitNo) (q : Pos) (m : UnitNo) :
    (s.unselect p n c).selection q m = if q = p ∧ m = n then .none else s.selection q m := by
  simp [State.unselect, State.selection_setSelection]

@[simp] theorem State.unselect_channels (n : UnitNo) : (s.unselect p n c).channels = s.channels := by simp [State.unselect]

@[simp] theorem State.unselect_channel (n : UnitNo) (d : ChanNo) : (s.unselect p n c).channel d = s.channel d := by
  simp [State.unselect]

theorem State.unselect_legs (n : UnitNo) : LegsLeave s (s.unselect p n c) (s.channel c).bridge (· = unitLeg p n) :=
  (s.leaveOwn_legs_leave (s.channel c).bridge (unitLeg p n)).after rfl rfl

theorem State.unselectAll_selection (us : List UnitNo) (q : Pos) (m : UnitNo) :
    (s.unselectAll p c us).selection q m = if q = p ∧ m ∈ us then .none else s.selection q m := by
  induction us generalizing s with
  | nil => simp [State.unselectAll]
  | cons u us ih =>
    rw [State.unselectAll, List.foldl_cons, ← State.unselectAll, ih, State.unselect_selection]
    by_cases here : q = p <;> by_cases own : m = u <;> by_cases later : m ∈ us <;> simp [here, own, later]

theorem State.unselectAll_lines (us : List UnitNo) : (s.unselectAll p c us).lines = s.lines :=
  List.foldlRecOn (motive := fun t : State => t.lines = s.lines) us _ rfl fun t h _ _ => by simpa [State.unselect] using h

/-- The units leave the bridge of the channel, and no other leg moves. -/
theorem State.unselectAll_legs (us : List UnitNo) :
    LegsLeave s (s.unselectAll p c us) (s.channel c).bridge (∃ u ∈ us, · = unitLeg p u) ∧
      (s.unselectAll p c us).channels = s.channels := by
  induction us generalizing s with
  | nil => exact ⟨.none rfl rfl (by simp), rfl⟩
  | cons u us ih =>
    obtain ⟨legs, channels⟩ := ih (s.unselect p u c)
    rw [State.unselect_channel] at legs
    exact ⟨((s.unselect_legs p c u).trans legs).congr (by simp), channels.trans (s.unselect_channels p c u)⟩

end

/-- The channel closes with the last of its units where no talker is left (R56). -/
theorem State.foldl_releaseSelection {s : State} {p : Pos} {c : ChanNo} {us : List UnitNo} (distinct : us.Nodup)
    (select : ∀ u ∈ us, s.selection p u = .channel c) :
    us.foldl (fun t u => t.releaseSelection p u) s =
      if us ≠ [] ∧ (s.channel c).state = .opened ∧ (s.channel c).talkers = [] ∧
          ∀ q m, s.selection q m = .channel c → q = p ∧ m ∈ us then
        (s.unselectAll p c us).closeChannel c
      else s.unselectAll p c us := by
  induction us generalizing s with
  | nil => simp [State.unselectAll]
  | cons u us ih =>
    obtain ⟨out, distinct⟩ := List.nodup_cons.1 distinct
    obtain ⟨selected, rest⟩ := List.forall_mem_cons.1 select
    rw [List.foldl_cons, State.releaseSelection_channel selected]
    by_cases last : Unheard s c p u
    · obtain ⟨opened, silent, sole⟩ := id last
      have alone : us = [] := List.eq_nil_iff_forall_not_mem.2 fun m mem => out ((sole p m (rest m mem)).2 ▸ mem)
      rw [if_pos last, alone, if_pos ⟨by simp, opened, silent, by simpa using sole⟩]
      rfl
    · have still : ∀ m ∈ us, (s.unselect p u c).selection p m = .channel c := fun m mem => by
        rw [State.unselect_selection, if_neg fun own : p = p ∧ m = u => out (own.2 ▸ mem)]
        exact rest m mem
      rw [if_neg last, ih distinct still]
      refine if_congr ?_ rfl rfl
      rw [State.unselect_channel]
      refine ⟨fun ⟨_, opened, silent, only⟩ => ⟨by simp, opened, silent, fun q m selects => ?_⟩,
        fun ⟨_, opened, silent, only⟩ => ⟨?_, opened, silent, fun q m selects => ?_⟩⟩
      · by_cases own : q = p ∧ m = u
        · exact ⟨own.1, List.mem_cons.2 (.inl own.2)⟩
        · have found := only q m (by rw [State.unselect_selection, if_neg own]; exact selects)
          exact ⟨found.1, List.mem_cons_of_mem u found.2⟩
      · rintro rfl
        exact last ⟨opened, silent, by simpa using only⟩
      · rw [State.unselect_selection] at selects
        split at selects
        · cases selects
        · rename_i other
          obtain ⟨here, mem⟩ := only q m selects
          exact ⟨here, (List.mem_cons.1 mem).resolve_left fun e => other ⟨here, e⟩⟩

/-- What the release of position `p`'s units from channel `c` leaves. -/
structure UnitsReleased (s t : State) (p : Pos) (c : ChanNo) : Prop where
  channel : t.channel c = unheardBy s c p
  channels : ∀ d, d ≠ c → t.channel d = s.channel d
  lines : t.lines = s.lines
  selection : ∀ q m, t.selection q m = if q = p ∧ s.selection p m = .channel c then .none else s.selection q m
  closes : ∀ b, (s.channel c).bridge = some b → (s.channel c).state = .opened → (t.channel c).state = .closed →
    t.bridge b = Bridge.free ∧ ∀ g, (t.leg g).attach ≠ some b
  leaves : ∀ b, (s.channel c).bridge = some b → ∀ m, s.selection p m = .channel c → (t.leg (unitLeg p m)).attach ≠ some b
  bridges : ∀ k, (s.channel c).bridge ≠ some k → t.bridge k = s.bridge k
  legs : (t.channel c).state = (s.channel c).state → ∀ g, (∀ m, s.selection p m = .channel c → g ≠ unitLeg p m) → t.leg g = s.leg g

theorem State.releaseUnits_released (s : State) (p : Pos) (c : ChanNo) : UnitsReleased s (s.releaseUnits p c) p c := by
  obtain ⟨us, hus⟩ : ∃ us, us = (List.finRange 8).filter fun u => s.selects p u c := ⟨_, rfl⟩
  have mem (m : UnitNo) : m ∈ us ↔ s.selection p m = .channel c := by simp [hus, State.selects]
  have distinct : us.Nodup := hus ▸ (List.nodup_finRange 8).filter _
  have folded : s.releaseUnits p c = us.foldl (fun t u => t.releaseSelection p u) s := by rw [State.releaseUnits, hus]
  rw [folded, State.foldl_releaseSelection distinct fun u hu => (mem u).1 hu]
  obtain ⟨left, channels⟩ := s.unselectAll_legs p c us
  have channel (d : ChanNo) : (s.unselectAll p c us).channel d = s.channel d := by simp only [State.channel, channels]
  have unused : (us ≠ [] ∧ (s.channel c).state = .opened ∧ (s.channel c).talkers = [] ∧
      ∀ q m, s.selection q m = .channel c → q = p ∧ m ∈ us) ↔
      (s.channel c).state = .opened ∧ (s.channel c).talkers = [] ∧ OnlyHeardBy s c p ∧ ∃ m, s.selection p m = .channel c := by
    have some_unit : us ≠ [] ↔ ∃ m, s.selection p m = .channel c := by
      rw [Ne, List.eq_nil_iff_forall_not_mem]
      simp [mem]
    have only : (∀ q m, s.selection q m = .channel c → q = p ∧ m ∈ us) ↔ OnlyHeardBy s c p :=
      forall₂_congr fun q m => ⟨fun h k => (h k).1, fun h k => ⟨h k, (mem m).2 (h k ▸ k)⟩⟩
    rw [some_unit, only]
    tauto
  have selection (q : Pos) (m : UnitNo) : (s.unselectAll p c us).selection q m =
      if q = p ∧ s.selection p m = .channel c then .none else s.selection q m := by rw [State.unselectAll_selection]; simp only [mem]
  by_cases closing : us ≠ [] ∧ (s.channel c).state = .opened ∧ (s.channel c).talkers = [] ∧
      ∀ q m, s.selection q m = .channel c → q = p ∧ m ∈ us
  · rw [if_pos closing]
    have closed : (((s.unselectAll p c us).closeChannel c).channel c).state = .closed := by
      rw [State.channel_closeChannel, if_pos rfl]
    refine ⟨?_, fun d other => ?_, ?_, fun q m => ?_, fun b own _ _ => ⟨?_, fun g => ?_⟩, fun b own m selected => ?_, fun k other => ?_,
      fun same => ?_⟩
    · rw [State.channel_closeChannel, if_pos rfl, channel, unheardBy, if_pos (unused.1 closing)]
    · rw [State.channel_closeChannel, if_neg other, channel]
    · rw [State.closeChannel_lines, State.unselectAll_lines]
    · rw [State.selection_closeChannel, selection]
    · rw [State.bridge_closeChannel, channel, if_pos own]
    · rw [State.leg_closeChannel ((channel c).symm ▸ own)]
      split
      · exact nofun
      · assumption
    · rw [State.leg_closeChannel ((channel c).symm ▸ own)]
      split
      · exact nofun
      · assumption
    · rw [State.bridge_closeChannel, channel, if_neg other, left.other k other]
    · rw [closed, closing.2.1] at same
      cases same
  · rw [if_neg closing]
    refine ⟨?_, fun d _ => channel d, s.unselectAll_lines p c us, selection, fun b own opened closed => ?_, fun b own m selected => ?_,
      left.other, fun _ g off => left.stays g ?_⟩
    · rw [channel, unheardBy, if_neg (mt unused.2 closing)]
    · rw [channel, opened] at closed
      cases closed
    · exact left.detached _ ⟨m, (mem m).2 selected, rfl⟩ b own
    · rintro ⟨m, hm, e⟩
      exact off m ((mem m).1 hm) e

end Sys2Proof.Machine
end

section
/-! PERMIT and UNPERMIT (R67, R85): the listen and talk sets of a HOOT channel. -/

set_option Elab.async false

namespace Sys2Proof.Machine

open Safety Laws

/-! ### The decisions (R67) -/

/-- A HOOT channel whose talk or listen set a position has joined. -/
def permitted (x : Channel) (p : Pos) (talks : Bool) : Channel :=
  if talks then { x with talk := insertAsc p x.talk } else { x with listen := insertAsc p x.listen }

/-- A talk set that a position has left. -/
def talkBarred (x : Channel) (p : Pos) : Channel := { x with talk := x.talk.filter fun q => q != p }

/-- A listen set that a position has left. -/
def listenBarred (x : Channel) (p : Pos) : Channel := { x with listen := x.listen.filter fun q => q != p }

section
variable (s : State) {w : CmdWords} {c : ChanNo} {p : Pos} (channelArg : w.w1 = word c.val) (posArg : w.w2 = word p.val)
include channelArg posArg

theorem State.permit_at :
    s.permit w =
      if (s.channel c).state = .vacant then refuse .vacant s
      else if (s.channel c).kind = .group then refuse .badField s
      else (some .done, finishAct none [c] s (s.setChannel c (permitted (s.channel c) p (w.maskBit 8)))) := by
  unfold State.permit
  simp only [channelArg, posArg, toFin?_word (by decide : 32 ≤ 65536) c, toFin?_word (by decide : 48 ≤ 65536) p, State.modChannel_eq]
  cases w.maskBit 8 <;> rfl

theorem State.unpermit_at :
    s.unpermit w =
      if (s.channel c).state = .vacant then refuse .vacant s
      else if (s.channel c).kind = .group then refuse .badField s
      else if w.maskBit 8 then
        if p ∈ (s.channel c).talk then
          (some .done, finishAct none [c] s ((s.removeEntry c p).setChannel c (talkBarred ((s.removeEntry c p).channel c) p)))
        else refuse .done s
      else if p ∈ (s.channel c).listen then
        (some .done, finishAct none [c] s ((s.releaseUnits p c).setChannel c (listenBarred ((s.releaseUnits p c).channel c) p)))
      else refuse .done s := by
  unfold State.unpermit
  simp only [channelArg, posArg, toFin?_word (by decide : 32 ≤ 65536) c, toFin?_word (by decide : 48 ≤ 65536) p, State.modChannel_eq,
    List.contains_iff_mem]
  rfl

end

theorem State.permits_bad (s : State) {w : CmdWords} (out : 31 < w.w1.toNat ∨ 47 < w.w2.toNat) :
    s.permit w = refuse .badField s ∧ s.unpermit w = refuse .badField s := by
  unfold State.permit State.unpermit
  rcases out with out | out
  · rw [toFin?_out out]; exact ⟨rfl, rfl⟩
  · rw [toFin?_out (n := 48) out]
    cases toFin? 32 w.w1.toNat <;> exact ⟨rfl, rfl⟩

/-- A command refused, as the outcome of its row. -/
theorem command_declined {s : State} {code : Byte} {w : CmdWords} {r : Result} (ready : s.mp.slot ≠ .busy)
    (decided : (loaded s code w).decideCommand code w = refuse r (loaded s code w)) :
    (.next (s.command code w) : Host.Outcome State Fault Refusal) = .next { s with mp := mpDone s.mp code w r } :=
  congrArg Host.Outcome.next (command_refused s code w r ready decided)

theorem mem_permitted_talk (x : Channel) (p q : Pos) (talks : Bool) :
    q ∈ (permitted x p talks).talk ↔ (q = p ∧ talks = true) ∨ q ∈ x.talk := by
  cases talks <;> simp [permitted, mem_insertAsc]

theorem mem_permitted_listen (x : Channel) (p q : Pos) (talks : Bool) :
    q ∈ (permitted x p talks).listen ↔ (q = p ∧ talks = false) ∨ q ∈ x.listen := by
  cases talks <;> simp [permitted, mem_insertAsc]

theorem permitted_frame (x : Channel) (p : Pos) (talks : Bool) :
    { permitted x p talks with talk := [], listen := [] } = { x with talk := [], listen := [] } := by
  cases talks <;> rfl

/-- The floor and the talk set are apart. -/
theorem talkBarred_floorAfter (x : Channel) (p : Pos) (heard : Bool) :
    talkBarred (floorAfter x p heard) p = { floorAfter x p heard with talk := x.talk.filter fun q => q != p } := by
  have kept : (floorAfter x p heard).talk = x.talk := by
    have without : (floorWithout x p).talk = x.talk := by rw [floorWithout_frame]
    unfold floorAfter
    split <;> exact without
  rw [talkBarred, kept]

/-- The release of the units leaves the listen set. -/
theorem listenBarred_unheardBy (s : State) (c : ChanNo) (p : Pos) :
    listenBarred (unheardBy s c p) p = { unheardBy s c p with listen := (s.channel c).listen.filter fun q => q != p } := by
  have kept : (unheardBy s c p).listen = (s.channel c).listen := by
    unfold unheardBy
    split <;> rfl
  rw [listenBarred, kept]

end Sys2Proof.Machine

namespace Sys2Proof.Proofs

open Machine Safety Laws

/-- Settles O33: the refusals of R67, the sets, and what the release of a listener's units and the removal of a talker's entry leave
(`State.releaseUnits_released`, `State.floorMoved_removeEntry`). -/
theorem permissionsChange : Obligations.PermissionsChange := by
  refine ⟨fun s w x ready hx => ?_, fun s w c p ready channelArg posArg live hoot => ?_⟩
  · simp only [List.mem_cons, List.not_mem_nil, or_false] at hx
    rcases hx with rfl | rfl
    · refine ⟨fun out => command_declined ready (State.permits_bad _ out).1, fun c p channelArg posArg => ?_⟩
      have decided := (loaded s 0x0C#8 w).permit_at channelArg posArg
      exact ⟨fun vacant => command_declined ready (decided.trans (if_pos vacant)),
        fun live group => command_declined ready (decided.trans ((if_neg live).trans (if_pos group)))⟩
    · refine ⟨fun out => command_declined ready (State.permits_bad _ out).2, fun c p channelArg posArg => ?_⟩
      have decided := (loaded s 0x0D#8 w).unpermit_at channelArg posArg
      exact ⟨fun vacant => command_declined ready (decided.trans (if_pos vacant)),
        fun live group => command_declined ready (decided.trans ((if_neg live).trans (if_pos group)))⟩
  · have lone : (s.channel c).kind ≠ .group := by simp [hoot]
    have permits := (loaded s 0x0C#8 w).permit_at channelArg posArg |>.trans ((if_neg live).trans (if_neg lone))
    have unpermits := (loaded s 0x0D#8 w).unpermit_at channelArg posArg |>.trans ((if_neg live).trans (if_neg lone))
    refine ⟨⟨_, congrArg Host.Outcome.next (command_done s _ _ w _ ready permits), ?_⟩, fun absent => ?_, fun talks mem => ?_,
      fun listens mem => ?_⟩
    · rw [← completed]
      obtain ⟨x, hx⟩ : ∃ x, permitted (s.channel c) p (w.maskBit 8) = x := ⟨_, rfl⟩
      simp only [loaded_channel, hx]
      refine ⟨completed_mp s _ w _ _ rfl, fun q => ?_, fun q => ?_, ?_, completed_told s _ w _ _ rfl, fun d other => ?_, ?_⟩
      · rw [completed_channel, State.channel_setChannel_self, ← hx, mem_permitted_talk]
      · rw [completed_channel, State.channel_setChannel_self, ← hx, mem_permitted_listen]
      · rw [completed_channel, State.channel_setChannel_self, ← hx, permitted_frame]
      · rw [completed_channel, State.channel_setChannel_ne _ _ other, loaded_channel]
      · exact State.eq_of_fields
    · refine command_declined ready (unpermits.trans ?_)
      split
      · rename_i talks
        rw [if_pos talks] at absent
        exact if_neg absent
      · rename_i listens
        rw [if_neg listens] at absent
        exact if_neg absent
    · refine ⟨_, congrArg Host.Outcome.next (command_done s _ _ w _ ready (unpermits.trans ((if_pos talks).trans (if_pos mem)))), ?_⟩
      rw [← completed]
      refine ⟨completed_mp s _ w _ _ (by simp), ?_, ?_, completed_told s _ w _ _ (by simp), fun d other => ?_, ?_⟩
      · rw [completed_channel, State.channel_setChannel_self, State.channel_removeEntry, if_pos rfl, talkBarred_floorAfter]
        rfl
      · exact State.floorMoved_removeEntry (s := loaded s 0x0D#8 w) (by simp) (by simp) (by simp)
      · rw [completed_channel, State.channel_setChannel_ne _ _ other, State.channel_removeEntry, if_neg other, loaded_channel]
      · exact State.eq_of_fields
    · refine ⟨_, congrArg Host.Outcome.next (command_done s _ _ w _ ready
        (unpermits.trans ((if_neg (by simp [listens])).trans (if_pos mem)))), ?_⟩
      rw [← completed]
      obtain ⟨channel, channels, lines, selection, closes, leaves, bridges, legs⟩ := (loaded s 0x0D#8 w).releaseUnits_released p c
      refine ⟨completed_mp s _ w _ _ (by simp), ?_, fun q m => ?_, fun b own => ⟨fun opened closed => ?_, fun m selected => ?_,
        fun k other => ?_⟩, fun same g off => ?_, completed_told s _ w _ _ (by simp), fun d other => ?_, ?_⟩
      · rw [completed_channel, State.channel_setChannel_self, channel, listenBarred_unheardBy]
        rfl
      · rw [completed_selection, State.selection_setChannel, selection]
        rfl
      · rw [completed_channel, State.channel_setChannel_self] at closed
        obtain ⟨free, none⟩ := closes b own opened closed
        refine ⟨?_, fun g => ?_⟩
        · rw [completed_bridge, State.bridge_setChannel, free, Bridge.settle_free]
        · rw [completed_leg, State.leg_setChannel]
          exact none g
      · rw [completed_leg, State.leg_setChannel]
        exact leaves b own m selected
      · rw [completed_bridge, State.bridge_setChannel, bridges k fun e => other (Option.some.inj (e.symm.trans own)), loaded_bridge]
      · rw [completed_channel, State.channel_setChannel_self] at same
        rw [completed_leg, State.leg_setChannel, legs same g off, loaded_leg]
      · rw [completed_channel, State.channel_setChannel_ne _ _ other, channels d other, loaded_channel]
      · exact State.eq_of_fields (lines := by simp [lines])

end Sys2Proof.Proofs
end

section
/-! ADD-MEMBER and DROP-MEMBER (R68, R69): the members of a GROUP channel. -/

set_option Elab.async false

namespace Sys2Proof.Machine

open Safety Laws

/-! ### The end of an act on the members of a group -/

/-- A command on the members of group `c` that completes DONE from state `t`, with the indications of the channels `cs` before it. -/
def membersDone (s : State) (code : Byte) (w : CmdWords) (c : ChanNo) (cs : List ChanNo) (t : State) : State :=
  (finishMembers c cs (loaded s code w) t).complete .done

section
variable (s : State) (k : Byte) (w : CmdWords) (c : ChanNo) (cs : List ChanNo) (t : State)

/-- It is a completed command but for whom it tells. -/
theorem membersDone_eq :
    membersDone s k w c cs t = { completed s k w cs t .done with links := (membersDone s k w c cs t).links } := by
  unfold membersDone completed State.complete
  exact State.eq_of_fields (bridges := by simp [finishMembers])
    (mp := by simp [State.post, State.modMp])

theorem membersDone_line (l : LineNo) : (membersDone s k w c cs t).line l = t.line l := by
  rw [membersDone_eq]
  exact completed_line s k w cs t .done ..

theorem membersDone_channel (d : ChanNo) : (membersDone s k w c cs t).channel d = t.channel d := by
  rw [membersDone_eq]
  exact completed_channel s k w cs t .done ..

theorem membersDone_selection (p : Pos) (n : UnitNo) : (membersDone s k w c cs t).selection p n = t.selection p n := by
  rw [membersDone_eq]
  exact completed_selection s k w cs t .done ..

theorem membersDone_leg (g : LegNo) : (membersDone s k w c cs t).leg g = t.leg g := by
  rw [membersDone_eq]
  exact completed_leg s k w cs t .done ..

theorem membersDone_bridge (b : BridgeNo) : (membersDone s k w c cs t).bridge b = (t.bridge b).settle := by
  rw [membersDone_eq]
  exact completed_bridge s k w cs t .done ..

theorem membersDone_timer (id : TimerId) : (membersDone s k w c cs t).timer id = t.timer id := by
  rw [membersDone_eq]
  exact completed_timer s k w cs t .done ..

end

/-- The indications of a channel depend on what the two ends of the act show. -/
theorem toldChannel_shown {s s' t t' : State} (hs : SameShown s s') (ht : SameShown t t') (own : Option Pos) (all : Bool) (q : Pos)
    (x : Link) (c : ChanNo) : toldChannel own all s' t' q x c = toldChannel own all s t q x c := by
  simp only [toldChannel, hs.channel, ht.channel, hs.qualifies, ht.qualifies, hs.positionView, ht.positionView, State.channelContent]

theorem membersDone_link {s t : State} (k : Byte) (w : CmdWords) (c : ChanNo) (cs : List ChanNo) (links : t.links = s.links) (q : Pos) :
    (membersDone s k w c cs t).link q =
      toldChannel none true s (membersDone s k w c cs t) q (told none cs s (membersDone s k w c cs t) q) c := by
  have link : t.link q = (loaded s k w).link q := by simp only [State.link, links, loaded_links]
  have shown : SameShown (membersDone s k w c cs t) t := by
    rw [membersDone_eq]
    exact ⟨by simp, by simp, by simp⟩
  calc (membersDone s k w c cs t).link q = (finishMembers c cs (loaded s k w) t).link q := rfl
    _ = toldChannel none true (loaded s k w) t q (told none cs (loaded s k w) t q) c := finishMembers_link c cs _ t q link
    _ = toldChannel none true s (membersDone s k w c cs t) q (told none cs (loaded s k w) t q) c := toldChannel_shown (s := s) {} shown ..
    _ = _ := by rw [told_congr (s := s) (s' := loaded s k w) {} shown rfl]

theorem membersDone_mp {s t : State} (k : Byte) (w : CmdWords) (c : ChanNo) (cs : List ChanNo) (mp : t.mp = (loaded s k w).mp) :
    (membersDone s k w c cs t).mp = mpDone s.mp k w .done := by
  rw [membersDone_eq]
  exact completed_mp s k w cs .done mp

/-! ### The decisions (R68, R69) -/

/-- A channel with one member more, the last of its list. -/
def withMember (x : Channel) (m : Member) : Channel := { x with members := x.members ++ [m] }

/-- A channel without the membership of a position. -/
def memberDropped (x : Channel) (p : Pos) : Channel := { x with members := x.members.filter fun m => m.pos != p }

@[simp] theorem memberDropped_state (x : Channel) (p : Pos) : (memberDropped x p).state = x.state := rfl

/-- The state in which a new member's unit selects the group. -/
def State.memberJoined (s : State) (p : Pos) (n : UnitNo) (c : ChanNo) : State :=
  (s.selectChannel p n c).setChannel c (withMember ((s.selectChannel p n c).channel c) ⟨p, n⟩)

/-- The state in which a member has left the floor, the bridge and the list of the group. -/
def State.memberLeft (s : State) (p : Pos) (c : ChanNo) : State :=
  ((s.removeEntry c p).releaseUnits p c).setChannel c (memberDropped (((s.removeEntry c p).releaseUnits p c).channel c) p)

/-- The channel that ADD-MEMBER tells of before the group: the one that the unit leaves (log entry 14). -/
def besideChannel (s : State) (p : Pos) (n : UnitNo) (c : ChanNo) : List ChanNo :=
  match s.selection p n with
  | .channel y => if y = c then [] else [y]
  | _ => []

theorem besideChannel_eq {s : State} {p : Pos} {n : UnitNo} {c : ChanNo} (other : s.selection p n ≠ .channel c) :
    besideChannel s p n c = selectedChannel s p n := by
  unfold besideChannel selectedChannel
  cases selected : s.selection p n with
  | channel y => exact if_neg fun own : y = c => other (own ▸ selected)
  | none => rfl
  | line l => rfl

section
variable (s : State) {w : CmdWords} {c : ChanNo} {p : Pos} (channelArg : w.w1 = word c.val) (posArg : w.w2 = word p.val)
include channelArg posArg

theorem State.addMember_member {n : UnitNo} (unitArg : w.w3 = word n.val) :
    ((s.channel c).state = .vacant → s.addMember w = refuse .vacant s) ∧
      ((s.channel c).state ≠ .vacant → (s.channel c).kind = .hoot → s.addMember w = refuse .badField s) ∧
      ((s.channel c).state ≠ .vacant → (s.channel c).kind = .group → ∀ m, (s.channel c).memberUnit p = some m →
        s.addMember w = refuse (if m = n then .done else .exists) s) := by
  unfold State.addMember
  simp only [channelArg, posArg, unitArg, toFin?_word (by decide : 32 ≤ 65536) c, toFin?_word (by decide : 48 ≤ 65536) p,
    toFin?_word (by decide : 8 ≤ 65536) n]
  refine ⟨fun vacant => if_pos vacant, fun live hoot => (if_neg live).trans (if_pos hoot), fun live group m member => ?_⟩
  rw [if_neg live, if_neg (by simp [group]), member]
  exact (apply_ite (refuse · s) ..).symm

theorem State.addMember_new {n : UnitNo} (unitArg : w.w3 = word n.val) (live : (s.channel c).state ≠ .vacant)
    (group : (s.channel c).kind = .group) (new : (s.channel c).memberUnit p = none) :
    s.addMember w =
      if s.designated p n ≠ none then refuse .inUse s
      else if 16 ≤ (s.channel c).members.length then refuse .listFull s
      else if (s.channel c).state = .closed ∧ s.canOpen p n c = false then (some .noBridge, s.post .pool)
      else (some .done, finishMembers c (besideChannel s p n c) s (s.memberJoined p n c)) := by
  have lone : (s.channel c).kind ≠ .hoot := by simp [group]
  unfold State.addMember
  simp only [channelArg, posArg, unitArg, toFin?_word (by decide : 32 ≤ 65536) c, toFin?_word (by decide : 48 ≤ 65536) p,
    toFin?_word (by decide : 8 ≤ 65536) n, if_neg live, if_neg lone, new, State.modChannel_eq]
  exact if_congr (by rw [Option.isSome_iff_ne_none]) rfl rfl

theorem State.dropMember_at :
    s.dropMember w =
      if (s.channel c).state = .vacant then refuse .vacant s
      else if (s.channel c).kind = .hoot ∨ (s.channel c).memberUnit p = none then refuse .notFound s
      else (some .done, finishMembers c [] s (s.memberLeft p c)) := by
  unfold State.dropMember
  simp only [channelArg, posArg, toFin?_word (by decide : 32 ≤ 65536) c, toFin?_word (by decide : 48 ≤ 65536) p, State.modChannel_eq]
  exact if_congr .rfl rfl (if_congr (by rw [Option.isNone_iff_eq_none]) rfl rfl)

end

theorem State.addMember_bad (s : State) {w : CmdWords} (out : 31 < w.w1.toNat ∨ 47 < w.w2.toNat ∨ 7 < w.w3.toNat) :
    s.addMember w = refuse .badField s := by
  unfold State.addMember
  split
  · rename_i c p n hc hp hn
    rcases out with out | out | out
    · rw [toFin?_out out] at hc; cases hc
    · rw [toFin?_out out] at hp; cases hp
    · rw [toFin?_out out] at hn; cases hn
  · rfl

theorem State.dropMember_bad (s : State) {w : CmdWords} (out : 31 < w.w1.toNat ∨ 47 < w.w2.toNat) :
    s.dropMember w = refuse .badField s := by
  unfold State.dropMember
  split
  · rename_i c p hc hp
    rcases out with out | out
    · rw [toFin?_out out] at hc; cases hc
    · rw [toFin?_out out] at hp; cases hp
  · rfl

/-- A command refused for want of a bridge posts POOL with DONE (R100, R188). -/
theorem command_noBridge {s : State} {code : Byte} {w : CmdWords} (ready : s.mp.slot ≠ .busy)
    (decided : (loaded s code w).decideCommand code w = (some .noBridge, (loaded s code w).post .pool)) :
    (.next (s.command code w) : Host.Outcome State Fault Refusal) = .next { s with mp := mpNoBridge s.mp code w } := by
  rw [command_done s _ code w _ ready decided]
  simp only [State.complete, State.post, State.modMp]
  rfl

/-! ### A member that joins and a member that leaves -/

theorem State.channel_memberJoined {s : State} {p : Pos} {n : UnitNo} {c : ChanNo} {b : BridgeNo}
    (selects : ChannelSelected s (s.selectChannel p n c) p n c b) (d : ChanNo) :
    (s.memberJoined p n c).channel d =
      if d = c then
        { s.channel c with state := .opened, bridge := some b, members := (s.channel c).members ++ [⟨p, n⟩] }
      else (s.selectChannel p n c).channel d := by
  rw [State.memberJoined, State.channel_setChannel, selects.channel]
  rfl

/-- The membership goes beside the floor and the state. -/
theorem memberDropped_withoutMember (s : State) (c : ChanNo) (p : Pos) :
    memberDropped (withoutMember s c p) p =
      { withoutMember s c p with members := (s.channel c).members.filter fun m => m.pos != p } := by
  have without : (floorWithout (s.channel c) p).members = (s.channel c).members := by rw [floorWithout_frame]
  have kept : (withoutMember s c p).members = (s.channel c).members := by
    unfold withoutMember
    split <;> exact without
  rw [memberDropped, kept]

/-- An act that changes no line tells of none. -/
theorem toldLines_of_lines {s u : State} (lines : u.lines = s.lines) (q : Pos) : toldLines s u q = s.link q := by
  simp [toldLines, State.line, lines]

/-- What a member leaves of the group once its floor entry and its units are gone, before its membership goes (R69). -/
structure MemberOut (s t : State) (p : Pos) (c : ChanNo) : Prop where
  channel : t.channel c = withoutMember s c p
  channels : ∀ d, d ≠ c → t.channel d = s.channel d
  lines : t.lines = s.lines
  selection : ∀ q m, t.selection q m = if q = p ∧ s.selection p m = .channel c then .none else s.selection q m
  floorTimers : FloorTimers s t c p
  timers : ∀ id, id ≠ .silence c p → (∀ e ∈ granted (s.channel c) p, id ≠ .silence c e.pos) → t.timer id = s.timer id
  bridge : ∀ b, (s.channel c).bridge = some b →
    ((s.channel c).state = .opened → (t.channel c).state = .closed →
      (t.bridge b).settle = Bridge.free ∧ ∀ g, (t.leg g).attach ≠ some b) ∧
    (∀ m, s.selection p m = .channel c → (t.leg (unitLeg p m)).attach ≠ some b) ∧
    ∀ k, k ≠ b → (t.bridge k).settle = (s.bridge k).settle

/-- The removal of the entry and the release of the units, each of which can close the channel, close it as `withoutMember` says. -/
theorem unheardBy_floorAfter {s t : State} {p : Pos} {c : ChanNo} (channel : t.channel c = floorAfter (s.channel c) p (s.hasReceiver c))
    (selection : ∀ q m, t.selection q m = s.selection q m) : unheardBy t c p = withoutMember s c p := by
  by_cases closing : Closes (s.channel c) p (s.hasReceiver c)
  · rw [floorAfter, if_pos closing] at channel
    obtain ⟨talks, opened, silent, deaf⟩ := closing
    have unselected := State.hasReceiver_eq_false.1 deaf
    calc unheardBy t c p = t.channel c := if_neg fun h => by rw [channel] at h; exact nomatch h.1
      _ = withoutMember s c p := channel.trans
        (if_pos ⟨opened, silent, fun q m selects => absurd selects (unselected q m), .inl talks⟩).symm
  · rw [floorAfter, if_neg closing] at channel
    have state : (floorWithout (s.channel c) p).state = (s.channel c).state := by rw [floorWithout_frame]
    unfold unheardBy withoutMember
    simp only [OnlyHeardBy, selection, channel, state]
    refine if_congr ?_ rfl rfl
    refine ⟨fun ⟨opened, silent, only, unit⟩ => ⟨opened, silent, only, .inr unit⟩, fun ⟨opened, silent, only, left⟩ =>
      ⟨opened, silent, only, left.elim (fun talks => ?_) id⟩⟩
    have heard : s.hasReceiver c ≠ false := fun deaf => closing ⟨talks, opened, silent, deaf⟩
    rw [Ne, State.hasReceiver_eq_false] at heard
    push Not at heard
    obtain ⟨q, m, selects⟩ := heard
    exact ⟨m, only q m selects ▸ selects⟩

theorem State.memberOut (s : State) (p : Pos) (c : ChanNo) : MemberOut s ((s.removeEntry c p).releaseUnits p c) p c := by
  have channel := s.channel_removeEntry c p
  have selection := s.selection_removeEntry c p
  have lines := s.removeEntry_lines c p
  have moved : FloorMoved s (s.removeEntry c p).settleBridges c p :=
    State.floorMoved_removeEntry (by simp [State.settleBridges, State.bridge]) (fun _ => rfl) (fun _ => rfl)
  have timer (id : TimerId) := (s.removeEntry c p).timer_releaseUnits p c id
  have released := (s.removeEntry c p).releaseUnits_released p c
  generalize (s.removeEntry c p).releaseUnits p c = u at *
  generalize s.removeEntry c p = t at *
  obtain ⟨floorTimers, timers, floorBridges, -⟩ := moved
  obtain ⟨left, others, sameLines, deselected, closes, leaves, bridges, legs⟩ := released
  have settled (b : BridgeNo) : t.settleBridges.bridge b = (t.bridge b).settle := by simp [State.settleBridges, State.bridge]
  have own := channel c
  rw [if_pos rfl] at own
  have ends : unheardBy t c p = withoutMember s c p := unheardBy_floorAfter own selection
  refine ⟨left.trans ends, fun d other => (others d other).trans ((channel d).trans (if_neg other)), sameLines.trans lines, fun q m => ?_,
    ?_, fun id own other => (timer id).trans (timers id (fun _ => own) other), fun b held => ?_⟩
  · rw [deselected, selection, selection]
  · simp only [FloorTimers, timer]
    exact floorTimers
  obtain ⟨freed, -, -, apart⟩ := floorBridges b held
  by_cases closing : Closes (s.channel c) p (s.hasReceiver c)
  · obtain ⟨-, -, -, deaf⟩ := id closing
    have unselected := State.hasReceiver_eq_false.1 deaf
    rw [floorAfter, if_pos closing] at own
    have bridge (k : BridgeNo) : u.bridge k = t.bridge k := bridges k (by rw [own]; exact nofun)
    have closed : (unheardBy t c p).state = (t.channel c).state := by
      rw [unheardBy, if_neg fun h => by rw [own] at h; exact nomatch h.1]
    have leg (g : LegNo) : u.leg g = t.leg g := legs (left ▸ closed) g fun m selects => absurd (selection p m ▸ selects) (unselected p m)
    refine ⟨fun _ _ => ?_, fun m selected => absurd selected (unselected p m), fun k other => ?_⟩
    · obtain ⟨free, none⟩ := freed closing
      exact ⟨by rw [bridge, ← settled, free], fun g => by rw [leg]; exact none g⟩
    · rw [bridge, ← settled, apart k other]
  · rw [floorAfter, if_neg closing, floorWithout_frame] at own
    have sameBridge : (t.channel c).bridge = (s.channel c).bridge := by rw [own]
    have sameState : (t.channel c).state = (s.channel c).state := by rw [own]
    rw [sameBridge, sameState] at closes
    rw [sameBridge] at leaves bridges
    refine ⟨fun opened closed => ?_, fun m selected => leaves b held m ((selection p m).trans selected), fun k other => ?_⟩
    · obtain ⟨free, none⟩ := closes b held opened closed
      exact ⟨by rw [free, Bridge.settle_free], none⟩
    · rw [bridges k fun e => other (Option.some.inj (e.symm.trans held)), ← settled, apart k other]

end Sys2Proof.Machine

namespace Sys2Proof.Proofs

open Machine Safety Laws

/-- Settles O32: the refusals of R68 and R69, the selection that a new member's unit makes (`ChannelSelected`), and what the floor and
the bridge keep of a member that leaves (`State.memberOut`). -/
theorem membersJoinAndLeave : Obligations.MembersJoinAndLeave := by
  refine ⟨fun s w ready => ⟨fun out => command_declined ready (State.addMember_bad _ out), fun out =>
    command_declined ready (State.dropMember_bad _ out)⟩, fun s w c p n ready channelArg posArg unitArg => ?_,
    fun s w c p ready channelArg posArg => ?_⟩
  · obtain ⟨vacant, hoot, member⟩ := (loaded s 0x0A#8 w).addMember_member channelArg posArg unitArg
    have new := (loaded s 0x0A#8 w).addMember_new channelArg posArg unitArg
    refine ⟨fun h => command_declined ready (vacant h), fun live h => command_declined ready (hoot live h), fun live group =>
      ⟨fun m h => command_declined ready (member live group m h), fun absent => ?_⟩, fun b group absent free room other had => ?_⟩
    · have decided := new live group absent
      refine ⟨fun fixed => command_declined ready (decided.trans (if_pos fixed)), fun free =>
        ⟨fun full => ?_, fun room closed none counted => ?_⟩⟩
      · exact command_declined ready (decided.trans ((if_neg (not_not_intro free)).trans (if_pos full)))
      · have full : (loaded s 0x0A#8 w).canOpen p n c = false := State.canOpen_eq_false none counted
        exact command_noBridge ready (decided.trans ((if_neg (not_not_intro free)).trans ((if_neg (not_le_of_gt room)).trans
          (if_pos ⟨closed, full⟩))))
    · have live : (s.channel c).state ≠ .vacant := by
        rintro h
        rcases had with ⟨k, -⟩ | ⟨k, -⟩ <;> simp [h] at k
      have decided := new live group absent |>.trans ((if_neg (not_not_intro free)).trans ((if_neg (not_le_of_gt room)).trans
        (if_neg (State.canOpen_of_had (s := loaded s 0x0A#8 w) had))))
      rw [besideChannel_eq (s := loaded s 0x0A#8 w) other] at decided
      refine ⟨_, congrArg Host.Outcome.next (command_done s _ _ w _ ready decided), ?_⟩
      rw [← membersDone]
      have selects : ChannelSelected (loaded s 0x0A#8 w) ((loaded s 0x0A#8 w).selectChannel p n c) p n c b :=
        State.selectChannel_selected other had
      have channel := State.channel_memberJoined selects
      obtain ⟨released, bridges, legs⟩ := selects.released
        (u := membersDone s 0x0A#8 w c (selectedChannel s p n) ((loaded s 0x0A#8 w).memberJoined p n c))
        (fun y hy => by rw [membersDone_channel, channel, if_neg hy]) (fun x => membersDone_line ..) (fun q m => membersDone_selection ..)
        (fun k => membersDone_bridge ..) (fun g => membersDone_leg ..)
      refine ⟨membersDone_mp _ w c _ (by simp [State.memberJoined]), ?_, released, bridges, ?_, ?_, legs, fun closed nothing => ?_,
        membersDone_link _ w c _ (by simp [State.memberJoined]), ?_⟩
      · rw [membersDone_channel, channel, if_pos rfl]; rfl
      · rw [membersDone_selection]; exact selects.selected
      · rw [membersDone_leg]; exact selects.attached
      · obtain ⟨⟨r, fresh⟩, -⟩ := selects.opens closed
        have bridge : ((loaded s 0x0A#8 w).memberJoined p n c).bridge b = _ := fresh
        have none : (loaded s 0x0A#8 w).liveTrunk c = .none := nothing
        rw [membersDone_bridge, bridge, ← Bridge.settle_with_receivers, none]
        exact Bridge.settle_allocated _ _ (gs := []) (by simp)
      · rw [membersDone_eq, State.memberJoined]
        exact State.eq_of_fields
  · have decided := (loaded s 0x0B#8 w).dropMember_at channelArg posArg
    refine ⟨fun vacant => command_declined ready (decided.trans (if_pos vacant)), fun live absent =>
      command_declined ready (decided.trans ((if_neg live).trans (if_pos absent))), fun live group member => ?_⟩
    refine ⟨_, congrArg Host.Outcome.next (command_done s _ _ w _ ready
      (decided.trans ((if_neg live).trans (if_neg (by simp [group, member]))))), ?_⟩
    rw [← membersDone]
    obtain ⟨channel, channels, lines, selection, floorTimers, timers, bridge⟩ := (loaded s 0x0B#8 w).memberOut p c
    simp only [loaded_channel, loaded_bridge, loaded_selection, loaded_timer, FloorTimers] at channels selection floorTimers timers bridge
    refine ⟨membersDone_mp _ w c _ (by simp [State.memberLeft]), ?_, fun q => ?_, fun q m => ?_, ?_, fun id own other => ?_,
      fun b held => ?_, fun d other => ?_, ?_⟩
    · rw [membersDone_channel, State.memberLeft, State.channel_setChannel_self, channel, memberDropped_withoutMember]
      rfl
    · have same : (membersDone s 0x0B#8 w c [] ((loaded s 0x0B#8 w).memberLeft p c)).lines = s.lines := by
        rw [membersDone_eq]
        simpa [State.memberLeft] using lines
      have quiet : told none [] s _ q = s.link q := toldLines_of_lines same q
      rw [membersDone_link _ w c [] (by simp [State.memberLeft]) q, quiet]
    · rw [membersDone_selection, State.memberLeft, State.selection_setChannel]
      exact (selection q m).trans (if_congr .rfl rfl rfl)
    · simp only [FloorTimers, membersDone_timer, State.memberLeft, State.timer_setChannel]
      exact floorTimers
    · rw [membersDone_timer, State.memberLeft, State.timer_setChannel, timers id own other]
    · simp only [membersDone_channel, membersDone_bridge, membersDone_leg, State.memberLeft, State.channel_setChannel_self,
        State.bridge_setChannel, State.leg_setChannel, memberDropped_state]
      exact bridge b held
    · rw [membersDone_channel, State.memberLeft, State.channel_setChannel_ne _ _ other, channels d other]
    · rw [membersDone_eq, State.memberLeft]
      exact State.eq_of_fields (lines := by simpa using lines)

end Sys2Proof.Proofs
end

section
/-! The silence expiry of a talker (R83) and the grace expiry of a link (R177), where no line that the position leaves reverts. -/

set_option Elab.async false

namespace Sys2Proof.Machine

open Safety Laws

/-! ### A silence expiry (R83) -/

/-- What a silence expiry leaves, told to the positions that qualify. -/
theorem State.silenced_leaves (s : State) (c : ChanNo) (p : Pos) :
    (s.silenced c p).channel c = floorAfter (s.channel c) p (s.hasReceiver c) ∧ FloorMoved s (s.silenced c p) c p ∧
      (∀ d, d ≠ c → (s.silenced c p).channel d = s.channel d) ∧
      ∀ q, (s.silenced c p).link q = toldChannel none false s (s.silenced c p) q (s.link q) c := by
  have channel (d : ChanNo) : (s.silenced c p).channel d = (s.removeEntry c p).channel d := by simp [State.silenced]
  refine ⟨?_, State.floorMoved_removeEntry (fun b => finishAct_bridge none [c] s _ b) (by simp [State.silenced]) (by simp [State.silenced]),
    fun d other => ?_, fun q => ?_⟩
  · rw [channel, State.channel_removeEntry, if_pos rfl]
  · rw [channel, State.channel_removeEntry, if_neg other]
  · calc (s.silenced c p).link q = toldChannel none false s (s.removeEntry c p) q (toldLines s (s.removeEntry c p) q) c :=
          finishAct_link none [c] s (s.removeEntry c p) q (by simp)
      _ = toldChannel none false s (s.removeEntry c p) q (s.link q) c := by rw [toldLines_of_lines (by simp) q]
      _ = toldChannel none false s (s.silenced c p) q (s.link q) c :=
          toldChannel_congr (fun d => (channel d).symm) (by simp [State.silenced]) q _ c

/-! ### The teardown of a grace expiry (R177, R178) -/

/-- The state that tears position `p` down from `s` to the records of `v`, with the LINK event. -/
def State.linkLost (s v : State) (p : Pos) : State := ((finishAct none (List.finRange 32) s v).modLink p Link.emptied).post .link

theorem State.graceOver_eq (s : State) (p : Pos) :
    s.graceOver p = s.linkLost (((s.releaseHandsets p).dropAllMonitors p).dropEntries p) p := rfl

section
variable {s v : State} {p : Pos}

theorem link_linkLost_ne {q : Pos} (other : q ≠ p) : (s.linkLost v p).link q = (s.disconnected v p).link q := by
  simp [State.linkLost, State.disconnected, State.complete, State.link_setLink, other]

theorem link_linkLost_self (links : v.links = s.links) : (s.linkLost v p).link p = (s.link p).emptied := by
  have act : (s.linkLost v p).link p = ((finishAct none (List.finRange 32) s v).link p).emptied := by simp [State.linkLost]
  have same := finishAct_same none (List.finRange 32) s v p
  rw [show v.link p = s.link p by simp only [State.link, links]] at same
  have emptied := congrArg Link.emptied same
  rw [act]
  exact emptied

theorem linkLost_mp : (s.linkLost v p).mp = { v.mp with flags := v.mp.flags ||| Event.link.mask } := by
  simp [State.linkLost, State.post]

end

/-- The teardown, told, with the LINK event. -/
theorem State.linkLost_tornDown (s : State) (p : Pos) : TornDown s (s.linkLost (s.positionOut p) p) p := by
  have links := s.positionOut_links p
  refine State.positionOut_tornDown (by simp [State.linkLost]) (by simp [State.linkLost]) (by simp [State.linkLost])
    (by simp [State.linkLost, finishAct_bridge]) (by simp [State.linkLost]) (by simp [State.linkLost]) (fun q hq => ?_) ?_ ?_ ?_ ?_ ?_ ?_
  · rw [link_linkLost_ne hq, link_disconnected_ne links hq]
    exact told_congr (s := s) (t := s.linkLost (s.positionOut p) p) {}
      ⟨by simp [State.linkLost], by simp [State.linkLost], by simp [State.linkLost]⟩ rfl _ _
  all_goals simp [State.linkLost, State.positionOut, State.handsetsOut]

/-- Where no line that the handsets leave reverts, the position is torn down, and MP posts LINK alone (R147, R177). -/
theorem State.graceOver_stays {s : State} {p : Pos}
    (stays : ∀ (h : Handset) (l : LineNo), s.currentLine ⟨p, h⟩ = some l → Stays s l) :
    TornDown s (s.graceOver p) p ∧ (s.graceOver p).mp = { s.mp with flags := s.mp.flags ||| Event.link.mask } := by
  rw [State.graceOver_eq, State.releaseHandsets_stays stays]
  refine ⟨s.linkLost_tornDown p, ?_⟩
  rw [linkLost_mp, ← State.positionOut, State.positionOut_mp]

/-- A teardown reads nothing of the expiries in flight. -/
theorem tornDown_of_inFlight {s u : State} {es : List Expiry} {p : Pos} (h : TornDown { s with inFlight := es } u p) :
    TornDown s u p := by
  obtain ⟨lines, channels, selections, lineBridges, channelBridges, floors, stopped, kept, tells, rest⟩ := h
  refine ⟨lines, channels, selections, lineBridges, channelBridges, floors, stopped, kept, fun q hq => (tells q hq).trans ?_, rest⟩
  exact told_congr (s := s) (s' := { s with inFlight := es }) (t := u) (t' := u) ⟨rfl, rfl, rfl⟩ ⟨rfl, rfl, rfl⟩ rfl _ _

end Sys2Proof.Machine
end

section
/-! Two lines that revert when both handsets of a position leave them (R141, R142): both alternates are free before either is served
(log entry 19), and a line without a route that names both takes the lower-numbered one. -/

set_option Elab.async false

namespace Sys2Proof.Machine

open Safety Laws

/-! ### Two free slots that one line waits for (R141, R143) -/

/-- Line `w` and no other waiting line or record seeks a slot, be it free or not. -/
structure Wanted (s : State) (sl : SlotNo) (w : LineNo) : Prop where
  namer : (s.slot sl).primaryNamer = none ∨ (s.slot sl).primaryNamer = some (.line w)
  names : (s.line w).names sl = true
  alone : ∀ l, l ≠ w → (s.line l).waiting = true → (s.line l).names sl = false

/-- A free slot that line `w` and no other waiting line or record seeks. -/
structure SoughtBy (s : State) (sl : SlotNo) (w : LineNo) : Prop extends Wanted s sl w where
  standby : (s.slot sl).state = .standby
  claimant : (s.slot sl).claimant = none

theorem SoughtBy.notChannel {s : State} {sl : SlotNo} {w : LineNo} (h : SoughtBy s sl w) (c : ChanNo) :
    (s.slot sl).primaryNamer ≠ some (.channel c) := by
  rcases h.namer with e | e <;> simp [e]

/-- A HELD line does not revert (R142). -/
theorem State.revertible_held {s : State} {l : LineNo} (held : (s.line l).state = .held) : s.revertible l = false := by
  simp [State.revertible, held]

theorem State.line_regainLine_held {s : State} {w : LineNo} (sl : SlotNo) (held : (s.line w).state = .held) :
    (s.regainLine w sl).line w =
      { s.line w with marks := { (s.line w).marks with noRoute := false }, route := (s.line w).routeOf sl } := by
  rw [State.regainLine_used (.inr held)]
  simp

/-- The line takes the slot that is served first, and then waits no more. -/
theorem State.serve_pair (fuel : Nat) {s : State} {c d : SlotNo} {w : LineNo} (apart : d ≠ c) (held : (s.line w).state = .held)
    (lost : (s.line w).marks.noRoute = true) (first : SoughtBy s c w) (second : SoughtBy s d w) :
    State.serve (fuel + 1) (State.serve (fuel + 1) s c) d = s.regainLine w c := by
  have waiting : (s.line w).waiting = true := by simp [Line.waiting, held, lost]
  have taker : s.waitingLine c = some w :=
    State.waitingLine_some waiting first.names fun k below => first.alone k (Fin.ne_of_lt below)
  have line := State.line_regainLine_held c held
  have held' : ((s.regainLine w c).line w).state = .held := by rw [line]; exact held
  have slot : (s.regainLine w c).slot d = s.slot d := by rw [State.slot_regainLine, if_neg apart]
  have nobody : (s.regainLine w c).waitingLine d = none := State.waitingLine_none fun l waits => by
    by_cases own : l = w
    · rw [own, line] at waits
      simp [Line.waiting, held] at waits
    · rw [s.line_regainLine_ne c own] at waits ⊢
      exact second.alone l own waits
  rw [State.serve_waiting fuel first.standby first.notChannel taker (State.revertible_held held')]
  refine State.serve_nobody fuel (by rw [slot]; exact second.standby) (by rw [slot]; exact second.notChannel) nobody fun l namer => ?_
  rw [slot] at namer
  rcases second.namer with e | e
  · rw [e] at namer; cases namer
  · cases e.symm.trans namer
    exact State.revertible_held held'

/-! ### Two reversions (R142) -/

/-- Slots that become free are kept ascending (R141). -/
theorem insertAsc_pair {n : Nat} {a b : Fin n} (apart : a ≠ b) : insertAsc b (insertAsc a []) = [min a b, max a b] := by
  rcases lt_or_gt_of_ne apart with below | above
  · simp [insertAsc, below, below.le, not_lt_of_gt below]
  · simp [insertAsc, above, above.le, not_lt_of_gt above]

/-- A line that reverts from alternate `a` to primary `n`. -/
structure Reverts (s : State) (l : LineNo) (a n : SlotNo) : Prop where
  idle : (s.line l).state = .idle
  route : (s.line l).route = .alternate
  alternate : (s.line l).alternate = some a
  primary : (s.line l).primary = some n
  standby : (s.slot n).state = .standby

theorem Reverts.revertible {s : State} {l : LineNo} {a n : SlotNo} (h : Reverts s l a n) : s.revertible l = true := by
  simp [State.revertible, State.isStandby, h.idle, h.route, h.primary, h.standby]

/-- The state after the reversion of a line at rest, with its event (R142, R147). -/
def State.reverted (s : State) (l : LineNo) : State := (s.revert l).post .route

theorem State.line_reverted_ne (s : State) {l k : LineNo} (other : k ≠ l) : (s.reverted l).line k = s.line k :=
  s.line_revert_ne other

theorem Reverts.revertAtRest {s : State} {l : LineNo} {a n : SlotNo} (h : Reverts s l a n) (freed : List SlotNo) :
    State.revertAtRest (s, freed) l = (s.reverted l, insertAsc a freed) := by
  simp [State.revertAtRest, State.reverted, h.revertible, h.alternate]

theorem Reverts.line {s : State} {l : LineNo} {a n : SlotNo} (h : Reverts s l a n) :
    (s.reverted l).line l = { s.line l with route := .primary } := State.line_revert h.primary

theorem Reverts.slot {s : State} {l : LineNo} {a n : SlotNo} (h : Reverts s l a n) {sl : SlotNo} (other : sl ≠ n) :
    (s.reverted l).slot sl = if sl = a then { s.slot sl with state := .standby, claimant := none } else s.slot sl := by
  have reverted : (s.reverted l).slot sl = (s.dropSlot (s.line l).alternate).slot sl :=
    (State.slot_revert h.primary sl).trans (if_neg other)
  rw [reverted, State.slot_dropSlot, h.alternate]
  simp [eq_comm]

/-- The second of two lines still reverts after the first. -/
theorem Reverts.later {s : State} {x y : LineNo} {a b m n : SlotNo} (h : Reverts s x a m) (k : Reverts s y b n) (line : y ≠ x)
    (other : n ≠ m) (free : n ≠ a) : Reverts (s.reverted x) y b n := by
  have same := s.line_reverted_ne line
  have slot : (s.reverted x).slot n = s.slot n := (h.slot other).trans (if_neg free)
  exact ⟨by rw [same]; exact k.idle, by rw [same]; exact k.route, by rw [same]; exact k.alternate, by rw [same]; exact k.primary,
    by rw [slot]; exact k.standby⟩

/-- A reversion changes nothing of who seeks a slot other than the primary that it takes. -/
theorem Wanted.reverted {s : State} {l w : LineNo} {a n sl : SlotNo} (h : Wanted s sl w) (k : Reverts s l a n) (line : w ≠ l)
    (other : sl ≠ n) : Wanted (s.reverted l) sl w := by
  refine ⟨?_, by rw [s.line_reverted_ne line]; exact h.names, fun j hj waits => ?_⟩
  · have kept : ((s.reverted l).slot sl).primaryNamer = (s.slot sl).primaryNamer := by
      rw [k.slot other]
      split <;> rfl
    rw [kept]
    exact h.namer
  · by_cases own : j = l
    · rw [own, k.line] at waits
      simp [Line.waiting, k.idle] at waits
    · rw [s.line_reverted_ne own] at waits ⊢
      exact h.alone j hj waits

section
variable {s : State} {x y w : LineNo} {a b m n : SlotNo} (first : Reverts s x a m) (next : Reverts (s.reverted x) y b n)
include first next

/-- Both alternates are free before either is served (log entry 19). -/
theorem sought_after_both {sl : SlotNo} (wanted : Wanted s sl w) (own : sl = a ∨ sl = b) (lineX : w ≠ x) (lineY : w ≠ y)
    (slotX : sl ≠ m) (slotY : sl ≠ n) : SoughtBy ((s.reverted x).reverted y) sl w := by
  have free : (((s.reverted x).reverted y).slot sl).state = .standby ∧ (((s.reverted x).reverted y).slot sl).claimant = none := by
    rw [next.slot slotY, first.slot slotX]
    rcases own with rfl | rfl
    · by_cases same : sl = b <;> simp [same]
    · simp
  exact ⟨(wanted.reverted first lineX slotX).reverted next lineY slotY, free.1, free.2⟩

theorem revertAtRest_both (apart : a ≠ b) :
    [x, y].foldl State.revertAtRest (s, []) = ((s.reverted x).reverted y, [min a b, max a b]) := by
  rw [List.foldl_cons, first.revertAtRest, List.foldl_cons, next.revertAtRest, insertAsc_pair apart]
  rfl

end

/-- Two lines at rest revert, and one HELD line without a route that names both slots given up takes the lower-numbered one. -/
theorem State.atRestAll_two {s : State} {x y w : LineNo} {a b m n : SlotNo} (first : Reverts s x a m) (second : Reverts s y b n)
    (lines : x ≠ y) (slots : [a, b, m, n].Nodup) (held : (s.line w).state = .held) (lost : (s.line w).marks.noRoute = true)
    (wantedA : Wanted s a w) (wantedB : Wanted s b w) :
    ((s.atRestAll [x, y]).line x).route = .primary ∧ ((s.atRestAll [x, y]).line y).route = .primary ∧
      ((s.atRestAll [x, y]).slot (min a b)).claimant = some (.line w) ∧ ((s.atRestAll [x, y]).slot (max a b)).state = .standby ∧
      ((s.atRestAll [x, y]).slot (max a b)).claimant = none ∧ ((s.atRestAll [x, y]).line w).marks.noRoute = false := by
  have ⟨⟨ab, am, an⟩, ⟨bm, bn⟩, mn⟩ : (a ≠ b ∧ a ≠ m ∧ a ≠ n) ∧ (b ≠ m ∧ b ≠ n) ∧ m ≠ n := by simpa [and_assoc] using slots
  have wx : w ≠ x := fun e => by rw [e, first.idle] at held; cases held
  have wy : w ≠ y := fun e => by rw [e, second.idle] at held; cases held
  have next := first.later second lines.symm mn.symm an.symm
  have soughtA := sought_after_both first next wantedA (.inl rfl) wx wy am an
  have soughtB := sought_after_both first next wantedB (.inr rfl) wx wy bm bn
  have both := revertAtRest_both first next ab
  have kept : ((s.reverted x).reverted y).line w = s.line w := ((s.reverted x).line_reverted_ne wy).trans (s.line_reverted_ne wx)
  have routeX : (((s.reverted x).reverted y).line x).route = .primary := by rw [State.line_reverted_ne _ lines, first.line]
  have routeY : (((s.reverted x).reverted y).line y).route = .primary := by rw [next.line]
  generalize (s.reverted x).reverted y = u at *
  have low : SoughtBy u (min a b) w := by rcases min_choice a b with e | e <;> rw [e] <;> assumption
  have high : SoughtBy u (max a b) w := by rcases max_choice a b with e | e <;> rw [e] <;> assumption
  have apart : max a b ≠ min a b := (min_lt_max.2 ab).ne'
  have held : (u.line w).state = .held := kept ▸ held
  have served : s.atRestAll [x, y] = u.regainLine w (min a b) := by
    rw [State.atRestAll, both]
    exact State.serve_pair 199 apart held (kept ▸ lost) low high
  rw [served, State.slot_regainLine, State.slot_regainLine, if_pos rfl, if_neg apart, u.line_regainLine_ne _ wx.symm,
    u.line_regainLine_ne _ wy.symm, State.line_regainLine_held _ held]
  exact ⟨routeX, routeY, rfl, high.standby, high.claimant, rfl⟩

/-! ### Both handsets leave lines that revert (R178 step 1) -/

/-- A line that comes to rest and does not stay as it is reverts. -/
theorem reverts_of_leftAtRest {s : State} {p : Pos} {l : LineNo} {a n : SlotNo} (rests : LeftAtRest s p l) (moves : ¬Stays s l)
    (alternate : (s.line l).alternate = some a) (primary : (s.line l).primary = some n) : Reverts (s.handsetsOut p) l a n := by
  have line := s.line_handsetsOut p l
  rw [if_pos rests] at line
  have slot : (s.handsetsOut p).slot n = s.slot n := by simp [State.handsetsOut]
  simp only [Stays, not_or, not_not, Bool.not_eq_true, Bool.not_eq_false, primary, State.isStandby, beq_iff_eq] at moves
  obtain ⟨routed, route, standby⟩ := moves
  exact ⟨by rw [line]; simp [rested, routed], by rw [line]; simp [rested, routed, route], by rw [line]; exact alternate,
    by rw [line]; exact primary, by rw [slot]; exact standby⟩

/-- The lines that both handsets leave at rest, for the Trunk Unit. -/
theorem State.releaseHandsets_two {s : State} {p : Pos} {x y : LineNo} (left : s.currentLine ⟨p, .left⟩ = some x)
    (right : s.currentLine ⟨p, .right⟩ = some y) (restsX : LeftAtRest s p x) (restsY : LeftAtRest s p y) :
    s.releaseHandsets p = (s.handsetsOut p).atRestAll [x, y] := by
  have empty (l : LineNo) (rests : LeftAtRest s p l) : ((s.handsetsOut p).line l).occupants.isEmpty = true := by
    rw [State.line_handsetsOut, if_pos rests]
    rfl
  have lines : (([⟨p, .left⟩, ⟨p, .right⟩] : List Occupant).filterMap s.currentLine).filter
      (fun l => ((s.handsetsOut p).line l).occupants.isEmpty) = [x, y] := by
    simp [left, right, empty x restsX, empty y restsY]
  rw [← lines]
  rfl

/-- What is left of the grace expiry after the handsets have gone keeps the slots, and of a line all but the monitors. -/
theorem State.graceOver_keeps (s : State) (p : Pos) :
    (∀ sl, (s.graceOver p).slot sl = (s.releaseHandsets p).slot sl) ∧
      ∀ l, ((s.graceOver p).line l).route = ((s.releaseHandsets p).line l).route ∧
        ((s.graceOver p).line l).marks = ((s.releaseHandsets p).line l).marks := by
  refine ⟨fun sl => by simp [State.graceOver_eq, State.linkLost], fun l => ?_⟩
  have line : (s.graceOver p).line l = ((s.releaseHandsets p).dropAllMonitors p).line l := by
    simp [State.graceOver_eq, State.linkLost]
  rw [line, ((s.releaseHandsets p).dropAllMonitors_ended p).line l]
  exact ⟨rfl, rfl⟩

section
variable {s : State} {p : Pos} {x y w : LineNo} {a b m n : SlotNo}

/-- A line that neither handset leaves keeps all but its occupants. -/
theorem State.line_handsetsOut_used {l : LineNo} (used : ¬LeftAtRest s p l) :
    (s.handsetsOut p).line l = { s.line l with occupants := occupantsLeft s p l } := (s.line_handsetsOut p l).trans (if_neg used)

/-- A line that waits once the handsets have left waited before, or has come to rest without a route. -/
theorem State.waiting_handsetsOut (rest : ∀ l, LeftAtRest s p l → ¬Stays s l) {l : LineNo}
    (waits : ((s.handsetsOut p).line l).waiting = true) :
    (s.line l).waiting = true ∧ ∀ sl, ((s.handsetsOut p).line l).names sl = (s.line l).names sl := by
  by_cases rests : LeftAtRest s p l
  · have routed : (s.line l).marks.noRoute = false := Bool.eq_false_iff.2 fun lost => rest l rests (.inl lost)
    rw [State.line_handsetsOut, if_pos rests] at waits
    simp [Line.waiting, rested, routed] at waits
  · rw [State.line_handsetsOut_used rests] at waits ⊢
    exact ⟨waits, fun _ => rfl⟩

/-- Both handsets leave lines that revert: a HELD line without a route that names both alternates takes the lower-numbered one
(R141, R142). -/
theorem State.graceOver_two (left : s.currentLine ⟨p, .left⟩ = some x) (right : s.currentLine ⟨p, .right⟩ = some y) (lines : x ≠ y)
    (restsX : LeftAtRest s p x) (restsY : LeftAtRest s p y) (movesX : ¬Stays s x) (movesY : ¬Stays s y)
    (altX : (s.line x).alternate = some a) (altY : (s.line y).alternate = some b) (primX : (s.line x).primary = some m)
    (primY : (s.line y).primary = some n) (slots : [a, b, m, n].Nodup) (held : (s.line w).state = .held)
    (lost : (s.line w).marks.noRoute = true) (namesA : (s.line w).names a = true) (namesB : (s.line w).names b = true)
    (alone : ∀ l, l ≠ w → (s.line l).waiting = true → (s.line l).names a = false ∧ (s.line l).names b = false)
    (namer : ∀ sl, sl = a ∨ sl = b → (s.slot sl).primaryNamer = none ∨ (s.slot sl).primaryNamer = some (.line w)) :
    ((s.graceOver p).line x).route = .primary ∧ ((s.graceOver p).line y).route = .primary ∧
      ((s.graceOver p).slot (min a b)).claimant = some (.line w) ∧ ((s.graceOver p).slot (max a b)).state = .standby ∧
      ((s.graceOver p).slot (max a b)).claimant = none ∧ ((s.graceOver p).line w).marks.noRoute = false := by
  obtain ⟨slot, line⟩ := s.graceOver_keeps p
  rw [slot, slot, (line x).1, (line y).1, (line w).2, State.releaseHandsets_two left right restsX restsY]
  have rest (l : LineNo) (rests : LeftAtRest s p l) : ¬Stays s l := by
    rcases rests.1 with e | e
    · cases left.symm.trans e; exact movesX
    · cases right.symm.trans e; exact movesY
  have keptW : (s.handsetsOut p).line w = { s.line w with occupants := occupantsLeft s p w } :=
    State.line_handsetsOut_used fun rests => rest w rests (.inl lost)
  have slotOut (sl : SlotNo) : (s.handsetsOut p).slot sl = s.slot sl := by simp [State.handsetsOut]
  have wanted (sl : SlotNo) (own : sl = a ∨ sl = b) (names : (s.line w).names sl = true)
      (alone : ∀ l, l ≠ w → (s.line l).waiting = true → (s.line l).names sl = false) : Wanted (s.handsetsOut p) sl w := by
    refine ⟨by rw [slotOut]; exact namer sl own, by rw [keptW]; exact names, fun l other waits => ?_⟩
    obtain ⟨waited, same⟩ := State.waiting_handsetsOut rest waits
    rw [same]
    exact alone l other waited
  exact State.atRestAll_two (reverts_of_leftAtRest restsX movesX altX primX) (reverts_of_leftAtRest restsY movesY altY primY) lines slots
    (by rw [keptW]; exact held) (by rw [keptW]; exact lost) (wanted a (.inl rfl) namesA fun l other waits => (alone l other waits).1)
    (wanted b (.inr rfl) namesB fun l other waits => (alone l other waits).2)

end

end Sys2Proof.Machine

namespace Sys2Proof.Proofs

open Machine Safety Laws

/-- Settles O46: the silence expiry by what it leaves of the floor (`State.silenced_leaves`); the grace expiry by what the teardown
leaves where no line reverts (`State.graceOver_stays`), and by the two reversions and the slot served first (`State.graceOver_two`). -/
theorem silenceAndGraceExpiriesAct : Obligations.SilenceAndGraceExpiriesAct := by
  refine ⟨fun s c p calm current live talks => ?_, fun s p calm current hunts => ?_⟩
  · obtain ⟨t, ht⟩ : ∃ t : State, { s with inFlight := s.inFlight.erase ⟨.silence c p, (s.timer (.silence c p)).run⟩ } = t := ⟨_, rfl⟩
    have runs : exec (.silenceExpiry c p) s = .next (t.silenced c p) := by
      have stands : (!s.resetting && (s.channel c).live && (s.channel c).talkers.contains ⟨p, true⟩) = true := by
        simp [calm, live, talks]
      exact congrArg Host.Outcome.next (by rw [stands, takeExpiry_acts _ _ _ current, ht])
    obtain ⟨channel, moved, channels, links⟩ := t.silenced_leaves c p
    refine ⟨_, runs, ?_⟩
    subst ht
    refine ⟨by simp [State.silenced], channel, moved, channels, links, ?_⟩
    unfold State.silenced
    exact State.eq_of_fields
  · obtain ⟨t, ht⟩ : ∃ t : State, { s with inFlight := s.inFlight.erase ⟨.grace p, (s.timer (.grace p)).run⟩ } = t := ⟨_, rfl⟩
    have runs : exec (.graceExpiry p) s = .next (t.graceOver p) := by
      have stands : (!s.resetting && (s.link p).state == .hunt) = true := by simp [calm, hunts]
      exact congrArg Host.Outcome.next (by rw [stands, takeExpiry_acts _ _ _ current, ht])
    have lost := t.graceOver_eq p
    refine ⟨_, runs, by rw [lost, ← ht]; simp [State.linkLost], ?_, fun q hq => ?_, ?_, ?_, fun stays => ?_, ?_⟩
    · rw [lost, link_linkLost_self (by simp), ← ht]; rfl
    · rw [lost, link_linkLost_ne hq, show s.link q = t.link q by rw [← ht]; rfl]
      exact link_disconnected_core (by simp) hq
    · simp only [lost, State.flagged, linkLost_mp, flags_posted]
      rfl
    · rw [lost, ← ht]; simp [State.linkLost]
    · have stays' : ∀ (h : Handset) (l : LineNo), t.currentLine ⟨p, h⟩ = some l → Stays t l := by subst ht; exact stays
      obtain ⟨tornDown, mp⟩ := State.graceOver_stays stays'
      subst ht
      exact ⟨tornDown_of_inFlight tornDown, mp⟩
    · subst ht
      intro x y w a b m n left right lines restsX restsY movesX movesY altX altY primX primY slots held lost namesA namesB
      exact State.graceOver_two (s := { s with inFlight := s.inFlight.erase _ }) left right lines restsX restsY movesX movesY altX altY
        primX primY slots held lost namesA namesB

end Sys2Proof.Proofs
end

section
/-! TALK-ON (R75 to R77): its checks in their order, and what the grant of a free talker place leaves. -/

set_option Elab.async false

namespace Sys2Proof.Machine

open Safety

/-! ### The headroom floor on a bridge that has its shift (R116) -/

/-- A bridge that is at its floor or above, and in FIXED mode at the shift of its mode, is left alone at the end of an act. -/
theorem Bridge.settle_eq_self {x : Bridge} (floor : headroomFloor x.contributors.length ≤ x.shift)
    (fixed : x.headroom.kind = .fixed → x.shift = max x.headroom.hf.val (headroomFloor x.contributors.length)) : x.settle = x := by
  unfold Bridge.settle Bridge.count
  split
  · rfl
  · split
    · rename_i kind
      rw [← fixed kind]
    · rw [if_neg (Nat.not_lt.2 floor)]

/-! ### A talker that joins (R76) -/

/-- The bridges of a channel that gains a talker: its own has the microphone. -/
theorem State.bridge_addTalker {s : State} {c : ChanNo} {b : BridgeNo} (own : (s.channel c).bridge = some b) (e : FloorEntry)
    (k : BridgeNo) : (s.addTalker c e).bridge k = (s.speak b (micLeg e.pos)).bridge k := by
  simp only [State.addTalker, State.speakOn, State.modChannel_eq, State.channel_setChannel_self, own, State.bridge_startSilence,
    State.bridge_speak, State.bridge_setChannel]
  rfl

theorem State.contributors_speak (s : State) (b : BridgeNo) (e : FloorEntry) :
    ((s.speak b (micLeg e.pos)).bridge b).contributors = micsJoined (s.bridge b).contributors [e] := by
  rw [State.bridge_speak]
  by_cases stands : micLeg e.pos ∈ (s.bridge b).contributors <;> simp [micsJoined, stands]

theorem micLeg_ne_trunkLeg (p : Pos) (sl : SlotNo) : micLeg p ≠ trunkLeg sl := by
  intro e
  have := congrArg Fin.val e
  simp only [micLeg, trunkLeg] at this
  omega

/-- Entry `e` has joined the talkers of channel `c`, which is OPEN on bridge `b`, between `s` and `v`. -/
structure TalkerJoined (s v : State) (c : ChanNo) (e : FloorEntry) (b : BridgeNo) : Prop where
  channel : v.channel c = { s.channel c with state := .opened, bridge := some b, talkers := (s.channel c).talkers ++ [e] }
  channels : ∀ d, d ≠ c → v.channel d = s.channel d
  stands : (s.channel c).state = .opened →
    (v.bridge b).contributors = micsJoined (s.bridge b).contributors [e] ∧ v.legs = s.legs
  opens : (s.channel c).state = .closed →
    (∃ r, v.bridge b =
      { Bridge.allocated (.channel c) (s.channel c).headroom with
        contributors := (s.liveTrunk c).toList.map trunkLeg ++ [micLeg e.pos], micPeaks := [(micLeg e.pos, 0)], receivers := r }) ∧
      ∀ g, v.leg g = if ∃ sl, s.liveTrunk c = some sl ∧ g = trunkLeg sl then { s.leg g with attach := some b } else s.leg g
  bridges : ∀ k, k ≠ b → v.bridge k = s.bridge k
  timer : ∀ id, v.timer id =
    if id = .silence c e.pos ∧ e.latched = true ∧ (s.channel c).silence ≠ 0 then (s.timer id).start (1000 * (s.channel c).silence)
    else s.timer id
  frame : v = { s with channels := v.channels, bridges := v.bridges, legs := v.legs, timers := v.timers }

/-- A talker joins an OPEN channel. -/
theorem State.addTalker_joined {s : State} {c : ChanNo} {b : BridgeNo} (e : FloorEntry) (opened : (s.channel c).state = .opened)
    (own : (s.channel c).bridge = some b) : TalkerJoined s (s.addTalker c e) c e b := by
  refine ⟨?_, fun d other => ?_, fun _ => ⟨?_, State.addTalker_legs s c e⟩, fun closed => ?_, fun k other => ?_,
    s.timer_addTalker c e, State.eq_of_fields⟩
  · rw [State.channel_addTalker, if_pos rfl, ← opened, ← own]
  · rw [State.channel_addTalker, if_neg other]
  · rw [State.bridge_addTalker own, State.contributors_speak]
  · rw [opened] at closed; cases closed
  · rw [State.bridge_addTalker own, State.bridge_speak, if_neg fun h => other h.1]

/-- A talker joins a CLOSED channel: it opens first (R54). -/
theorem State.openChannel_joined {s : State} {c : ChanNo} (b : BridgeNo) (e : FloorEntry) (closed : (s.channel c).state = .closed) :
    TalkerJoined s ((s.openChannel c b).addTalker c e) c e b := by
  have channel : (s.openChannel c b).channel c = { s.channel c with state := .opened, bridge := some b } := by
    rw [State.channel_openChannel, if_pos rfl]
  have own : ((s.openChannel c b).channel c).bridge = some b := by rw [channel]
  refine ⟨?_, fun d other => ?_, fun opened => ?_, fun _ => ⟨?_, fun g => ?_⟩, fun k other => ?_, fun id => ?_, State.eq_of_fields⟩
  · rw [State.channel_addTalker, if_pos rfl, channel]
  · rw [State.channel_addTalker, if_neg other, State.channel_openChannel, if_neg other]
  · rw [opened] at closed; cases closed
  · obtain ⟨r, fresh⟩ := s.bridge_openChannel c b
    have apart : micLeg e.pos ∉ ((s.openChannel c b).bridge b).contributors := by
      simp [fresh, (micLeg_ne_trunkLeg e.pos _).symm]
    rw [State.bridge_addTalker own, State.bridge_speak, if_pos ⟨rfl, apart⟩, fresh]
    exact ⟨r, rfl⟩
  · rw [State.leg_addTalker, State.leg_openChannel]
  · rw [State.bridge_addTalker own, State.bridge_speak, if_neg fun h => other h.1, State.bridge_openChannel_ne _ _ _ other]
  · rw [State.timer_addTalker, channel, State.timer_openChannel]

/-! ### The decision (R75) -/

/-- The checks of R75 that follow those of the channel and the position, in their order. -/
theorem State.talkOn_permitted {s : State} {p : Pos} {c : ChanNo} (latched : Bool) (live : (s.channel c).live = true)
    (permitted : (s.channel c).mayTalk p = true) :
    s.talkOn p c latched =
      if (s.channel c).talking p = true then (.accepted, s)
      else if (s.channel c).queued p = true then (.queued, s)
      else if 4 ≤ s.entryCount p then (.refused .micBusy, s)
      else if (s.channel c).talkers.length < (s.channel c).maxTalkers then
        match (s.channel c).state, s.lowestFree with
        | .closed, none => (.refused .noBridge, s.post .pool)
        | .closed, some b => (.accepted, (s.openChannel c b).addTalker c ⟨p, latched⟩)
        | _, _ => (.accepted, s.addTalker c ⟨p, latched⟩)
      else if (s.channel c).queue.length < 8 then
        (.queued, s.setChannel c { s.channel c with queue := (s.channel c).queue ++ [⟨p, latched⟩] })
      else (.refused .floorFull, s) := by
  simp only [State.talkOn, live, permitted]
  rfl

/-- A position that has no entry on a channel where it may talk (R75 steps 3 and 4). -/
theorem State.talkOn_entering {s : State} {p : Pos} {c : ChanNo} (latched : Bool) (live : (s.channel c).live = true)
    (permitted : (s.channel c).mayTalk p = true) (silent : (s.channel c).talking p = false)
    (unqueued : (s.channel c).queued p = false) :
    (4 ≤ s.entryCount p → s.talkOn p c latched = (.refused .micBusy, s)) ∧
    (s.entryCount p < 4 → (s.channel c).maxTalkers ≤ (s.channel c).talkers.length →
      (8 ≤ (s.channel c).queue.length → s.talkOn p c latched = (.refused .floorFull, s)) ∧
      ((s.channel c).queue.length < 8 → s.talkOn p c latched =
        (.queued, s.setChannel c { s.channel c with queue := (s.channel c).queue ++ [⟨p, latched⟩] }))) ∧
    (s.entryCount p < 4 → (s.channel c).talkers.length < (s.channel c).maxTalkers →
      ((s.channel c).state = .closed → s.lowestFree = none → s.talkOn p c latched = (.refused .noBridge, s.post .pool)) ∧
      ∀ b, (s.channel c).state = .opened ∧ (s.channel c).bridge = some b ∨
          (s.channel c).state = .closed ∧ s.lowestFree = some b →
        ∃ v, s.talkOn p c latched = (.accepted, v) ∧ TalkerJoined s v c ⟨p, latched⟩ b) := by
  have checks := State.talkOn_permitted latched live permitted
  simp only [silent, unqueued, Bool.false_eq_true, if_false] at checks
  refine ⟨fun busy => ?_, fun free full => ?_, fun free room => ?_⟩
  · exact checks.trans (if_pos busy)
  · rw [if_neg (Nat.not_le.2 free), if_neg (Nat.not_lt.2 full)] at checks
    exact ⟨fun queueFull => checks.trans (if_neg (Nat.not_lt.2 queueFull)), fun waits => checks.trans (if_pos waits)⟩
  · rw [if_neg (Nat.not_le.2 free), if_pos room] at checks
    refine ⟨fun closed none => ?_, fun b had => ?_⟩
    · rw [checks, closed, none]
    · rcases had with ⟨opened, own⟩ | ⟨closed, lowest⟩
      · exact ⟨_, by rw [checks, opened], State.addTalker_joined _ opened own⟩
      · exact ⟨_, by rw [checks, closed, lowest], State.openChannel_joined b _ closed⟩

theorem answeredOn_timer (s : State) (p : Pos) (cs : List ChanNo) (k : Byte) (r : AnswerResult) (v : State) (id : TimerId) :
    (answeredOn s p cs k r v).timer id = v.timer id := by
  rw [answeredOn_eq]
  exact answered_timer s p k r v id

/-- What a request tells that has changed no line and may touch one channel. -/
theorem answeredOn_toldChannel {s v : State} {p : Pos} {c : ChanNo} (k : Byte) (r : AnswerResult) (lines : v.lines = s.lines)
    (links : v.links = (taken s p).links) : ToldChannel none s (answeredOn s p [c] k r v) c := fun q => by
  rw [answeredOn_indications [c] k r links, told, List.foldl_cons, List.foldl_nil, toldLines_of_lines (by simp [lines])]

/-- The bridge of a channel that has opened with a talker, at the end of the act: it has its shift already (R99, R116). -/
theorem Bridge.settle_opened (o : Owner) (m : Headroom) {gs : List LegNo} (peaks : List (LegNo × Nat)) (r : Nat)
    (few : gs.length ≤ 2) :
    { Bridge.allocated o m with contributors := gs, micPeaks := peaks, receivers := r }.settle =
      { Bridge.allocated o m with contributors := gs, micPeaks := peaks, receivers := r } := by
  have floor : headroomFloor gs.length = 0 := if_pos few
  refine Bridge.settle_eq_self (by simp [floor]) fun fixed => ?_
  have fixed : m.kind = .fixed := fixed
  simp [Bridge.allocated, Bridge.free, floor, fixed]

end Sys2Proof.Machine

namespace Sys2Proof.Proofs

open Machine Safety

/-- Settles O22: the checks of R75 in their order (`State.talkOn_permitted`), then the place taken (`TalkerJoined`) or the queue
joined. -/
theorem talkOnGrantsOrQueues : Obligations.TalkOnGrantsOrQueues := by
  intro s p c latched ready running
  obtain ⟨⟨r, v⟩, decided⟩ : ∃ d, (taken s p).talkOn p c latched = d := ⟨_, rfl⟩
  have unmoved {r' : AnswerResult} (e : (taken s p).talkOn p c latched = (r', taken s p)) (h : r' ≠ .refused .noBridge := by simp) :
      Unmoved s (answeredOn s p [c] 0x0D#8 r v) p ⟨0x0D#8, r'⟩ := by
    cases decided.symm.trans e
    exact answeredOn_unmoved s p _ _ _ h
  refine ⟨_, exec_request (t := .talkOn c latched) ready running decided, fun gone => ?_, fun live barred => ?_,
    fun live permitted => ⟨fun talks => ?_, fun silent queued => ?_, fun silent unqueued => ?_⟩⟩
  · exact unmoved (by simp [State.talkOn, gone])
  · exact unmoved (by simp [State.talkOn, live, barred])
  · exact unmoved ((State.talkOn_permitted (s := taken s p) latched live permitted).trans (if_pos talks))
  · exact unmoved ((State.talkOn_permitted (s := taken s p) latched live permitted).trans
      ((if_neg (by simp [silent])).trans (if_pos queued)))
  obtain ⟨busy, full, room⟩ := State.talkOn_entering (s := taken s p) latched live permitted silent unqueued
  refine ⟨fun many => unmoved (busy many), fun few noPlace noQueue => unmoved ((full few noPlace).1 noQueue),
    fun few place closed none => ?_, fun few noPlace waits => ?_, fun b few place had => ?_⟩
  · cases decided.symm.trans ((room few place).1 closed none)
    exact answeredOn_noBridge s p _ _
  · cases decided.symm.trans ((full few noPlace).2 waits)
    refine ⟨answeredOn_answered _ _ _ (.of_links rfl), answeredOn_toldChannel _ _ rfl rfl, by simp, fun d other => ?_, ?_⟩
    · rw [answeredOn_channel, State.channel_setChannel_ne _ _ other, taken_channel]
    · rw [answeredOn_eq]
      exact State.eq_of_fields
  · obtain ⟨v', accepted, joined⟩ := (room few place).2 b had
    cases decided.symm.trans accepted
    have frame := joined.frame
    have links : v.links = (taken s p).links := by rw [frame]
    refine ⟨answeredOn_answered _ _ _ (.of_links links) (by rw [frame]; rfl), answeredOn_toldChannel _ _ (by rw [frame]; rfl) links,
      ?_, fun d other => ?_, fun opened => ⟨?_, ?_⟩, fun closed => ⟨?_, fun sl trunk => ?_, fun g other => ?_⟩, fun k other => ?_,
      ?_, fun id other => ?_, ?_⟩
    · rw [answeredOn_channel, joined.channel]; rfl
    · rw [answeredOn_channel, joined.channels d other]; rfl
    · rw [answeredOn_bridge, Bridge.settle_contributors, (joined.stands opened).1]; rfl
    · rw [answeredOn_eq, answered_legs]; exact (joined.stands opened).2
    · obtain ⟨⟨r, fresh⟩, -⟩ := joined.opens closed
      rw [answeredOn_bridge, fresh, Bridge.settle_opened]
      · rfl
      · cases (taken s p).liveTrunk c <;> simp
    · rw [answeredOn_leg, (joined.opens closed).2, if_pos ⟨sl, trunk, rfl⟩]; rfl
    · rw [answeredOn_leg, (joined.opens closed).2, if_neg fun ⟨sl, trunk, own⟩ => other sl trunk own]; rfl
    · rw [answeredOn_bridge, joined.bridges k other]; rfl
    · rw [answeredOn_timer, joined.timer]; simp
    · rw [answeredOn_timer, joined.timer, if_neg fun own => other own.1]; rfl
    · rw [answeredOn_eq, frame]
      exact State.eq_of_fields

end Sys2Proof.Proofs
end

section
/-! MIX-BLOCK-END (R120 to R122, R124, R125): each bridge evaluated on its record alone, and the activity reports. ACTIVITY-REPORT (R82):
the silence timers retriggered. -/

set_option Elab.async false

namespace Sys2Proof.Machine

open Safety

/-! ### The AUTO adjustment (R122) -/

/-- The adjustment changes the shift and the release counter alone. -/
theorem Bridge.adjust_frame (x : Bridge) : x.adjust = { x with shift := x.adjust.shift, release := x.adjust.release } := by
  unfold Bridge.adjust
  dsimp only
  (repeat' split) <;> rfl

theorem Bridge.adjust_rising {x : Bridge} (rises : x.blockGrowth = true ∧ x.shift < 2) :
    x.adjust = { x with shift := x.shift + 1, release := 0 } := if_pos rises

theorem Bridge.adjust_loud {x : Bridge} (stays : ¬(x.blockGrowth = true ∧ x.shift < 2)) (loud : 8192 ≤ x.blockPeak) :
    x.adjust = { x with release := 0 } := (if_neg stays).trans (if_neg (Nat.not_lt.2 loud))

/-- A quiet block is counted; the sixteenth lowers a shift above the floor. -/
theorem Bridge.adjust_quiet {x : Bridge} (stays : ¬(x.blockGrowth = true ∧ x.shift < 2)) (quiet : x.blockPeak < 8192) :
    x.adjust =
      if min 16 (x.release + 1) = 16 ∧ headroomFloor x.contributors.length < x.shift then
        { x with shift := x.shift - 1, release := 0 }
      else { x with release := min 16 (x.release + 1) } := (if_neg stays).trans (if_pos quiet)

theorem Bridge.adjust_counting {x : Bridge} (stays : ¬(x.blockGrowth = true ∧ x.shift < 2)) (quiet : x.blockPeak < 8192)
    (early : x.release < 15) : x.adjust = { x with release := x.release + 1 } := by
  rw [Bridge.adjust_quiet stays quiet, if_neg (by omega), show min 16 (x.release + 1) = x.release + 1 by omega]

theorem Bridge.adjust_falling {x : Bridge} (stays : ¬(x.blockGrowth = true ∧ x.shift < 2)) (quiet : x.blockPeak < 8192)
    (due : 15 ≤ x.release) (above : headroomFloor x.contributors.length < x.shift) :
    x.adjust = { x with shift := x.shift - 1, release := 0 } := by
  rw [Bridge.adjust_quiet stays quiet, if_pos ⟨by omega, above⟩]

theorem Bridge.adjust_atFloor {x : Bridge} (stays : ¬(x.blockGrowth = true ∧ x.shift < 2)) (quiet : x.blockPeak < 8192)
    (due : 15 ≤ x.release) (low : ¬headroomFloor x.contributors.length < x.shift) : x.adjust = { x with release := 16 } := by
  rw [Bridge.adjust_quiet stays quiet, if_neg fun h => low h.2, show min 16 (x.release + 1) = 16 by omega]

/-! ### One bridge at a block end (R121) -/

/-- An evaluated bridge takes the block growth into its mark and clears its accumulators. -/
theorem Bridge.blockEnd_evaluated {x : Bridge} (used : x.state = .inUse) (computed : x.computed = true) :
    x.blockEnd =
      { x with
        shift := x.blockEnd.shift, release := x.blockEnd.release, growth := x.blockGrowth, blockPeak := 0, blockGrowth := false
        micPeaks := x.micPeaks.map fun m => (m.1, 0), computed := false } := by
  unfold Bridge.blockEnd
  rw [if_pos ⟨used, computed⟩]
  split
  · rfl
  · rw [Bridge.adjust_frame]

theorem Bridge.blockEnd_fixed {x : Bridge} (fixed : x.headroom.kind = .fixed) :
    x.blockEnd.shift = x.shift ∧ x.blockEnd.release = x.release := by
  unfold Bridge.blockEnd
  rw [fixed]
  split <;> exact ⟨rfl, rfl⟩

theorem Bridge.blockEnd_auto {x : Bridge} (used : x.state = .inUse) (computed : x.computed = true) (auto : x.headroom.kind = .auto) :
    x.blockEnd.shift = x.adjust.shift ∧ x.blockEnd.release = x.adjust.release := by
  unfold Bridge.blockEnd
  rw [if_pos ⟨used, computed⟩, auto]
  exact ⟨rfl, rfl⟩

/-- A bridge that is FREE, or of which ME has computed no frame of the block, is not evaluated (R120). -/
theorem Bridge.blockEnd_idle {x : Bridge} (idle : x.state = .free ∨ x.computed = false) : x.blockEnd = x := by
  refine if_neg ?_
  rintro ⟨used, computed⟩
  rcases idle with free | fresh
  · rw [free] at used; cases used
  · rw [fresh] at computed; cases computed

/-! ### The activity reports (R125) -/

/-- The number of a leg tells whether it is the microphone of a position (R91). -/
theorem legKind_eq_mic {g : LegNo} {p : Pos} : legKind g = .mic p ↔ micLeg p = g := by
  simp only [legKind, micLeg, Fin.ext_iff]
  constructor
  · intro h
    split at h
    · (repeat' split at h) <;> cases h
      change 11 * (g.val / 11) + 2 = g.val
      omega
    · cases h
  · intro h
    have low : g.val < 528 := by omega
    have place : g.val % 11 = 2 := by omega
    have position : g.val / 11 = p.val := by omega
    simp [low, place, position]

/-- A microphone is looked up by its number. -/
theorem find?_micLeg (p : Pos) : (List.finRange 48).find? (fun q => micLeg q == micLeg p) = some p := by
  rw [← Fin.find?_eq_find?_finRange, Fin.find?_eq_some_iff]
  refine ⟨beq_self_eq_true _, fun q before => ?_⟩
  have apart : (micLeg q).val ≠ (micLeg p).val := by simp only [micLeg]; omega
  simpa using fun e => apart (congrArg Fin.val e)

/-- No position is found for a leg that is no microphone. -/
theorem find?_micLeg_none {g : LegNo} (other : ∀ p, legKind g ≠ .mic p) : (List.finRange 48).find? (fun q => micLeg q == g) = none :=
  List.find?_eq_none.2 fun p _ own => other p (legKind_eq_mic.2 (beq_iff_eq.1 own))

/-- ME reports the microphones of an evaluated bridge whose peak reaches the threshold (R125). -/
theorem Bridge.active_eq (x : Bridge) (threshold : Nat) :
    x.active threshold =
      x.contributors.filterMap fun g =>
        ((List.finRange 48).find? fun p => micLeg p == g).filter fun _ =>
          decide (threshold ≤ ((x.micPeaks.find? fun m => m.1 == g).map Prod.snd).getD 0) := by
  have peak (g : LegNo) : x.peak g = ((x.micPeaks.find? fun m => m.1 == g).map Prod.snd).getD 0 := by
    unfold Bridge.peak
    cases x.micPeaks.find? fun m => m.1 == g <;> rfl
  unfold Bridge.active
  congr 1
  funext g
  rw [← peak]
  split
  · rename_i p kind
    rw [← legKind_eq_mic.1 kind, find?_micLeg]
    simp [Option.filter]
  · rename_i other
    rw [find?_micLeg_none other]
    rfl

theorem State.blockReports_eq (s : State) : s.blockReports = (List.finRange 96).filterMap (activityOf s) := by
  unfold State.blockReports
  congr 1
  funext n
  unfold activityOf
  simp only [Bridge.active_eq]

/-! ### The block end (R120, R121) -/

theorem State.blockEnd_due {s : State} (due : s.frameCount = 128) :
    s.blockEnd =
      { s with
        bridges := tabMap Bridge.blockEnd s.bridges, reports := s.reports ++ (List.finRange 96).filterMap (activityOf s)
        frameCount := 0 } := by
  rw [← State.blockReports_eq]
  exact if_pos due

theorem State.bridge_blockEnd {s : State} (due : s.frameCount = 128) (b : BridgeNo) : s.blockEnd.bridge b = (s.bridge b).blockEnd := by
  rw [State.blockEnd_due due]
  simp [State.bridge]

/-! ### The taking of an activity report (R82) -/

/-- A silence timer of a channel, retriggered with the channel's silence timeout; a timeout of 0 cancels it. -/
def State.retriggered (s : State) (c : ChanNo) (id : TimerId) : Timer :=
  if (s.channel c).silence = 0 then (s.timer id).cancel (s.expiryInFlight id)
  else (s.timer id).start (1000 * (s.channel c).silence)

theorem State.retriggered_starts {s : State} {c : ChanNo} (timeout : (s.channel c).silence ≠ 0) (id : TimerId) :
    s.retriggered c id = (s.timer id).start (1000 * (s.channel c).silence) := if_neg timeout

theorem State.retriggered_stops {s : State} {c : ChanNo} (timeout : (s.channel c).silence = 0) (id : TimerId) :
    (s.retriggered c id).running = false := by
  rw [State.retriggered, if_pos timeout, Timer.cancel_running]

theorem State.timer_takeActivity (s : State) (c : ChanNo) (p : Pos) (id : TimerId) :
    (s.takeActivity c p).timer id =
      if id = .silence c p ∧ ⟨p, true⟩ ∈ (s.channel c).talkers then s.retriggered c id else s.timer id := by
  unfold State.takeActivity State.retriggered
  by_cases talks : (⟨p, true⟩ : FloorEntry) ∈ (s.channel c).talkers
  · by_cases own : id = .silence c p
    · subst own
      simp only [List.contains_iff_mem, talks, if_true, and_self]
      split <;> simp
    · simp only [List.contains_iff_mem, talks, if_true, own, false_and, if_false]
      split <;> simp [State.timer_setTimer_ne, own]
  · simp [talks]

/-- Each latched talker that a report names has its timer retriggered once; no other timer changes. -/
theorem State.timer_foldl_takeActivity {active : List Pos} (distinct : active.Nodup) (s : State) (c : ChanNo) (id : TimerId) :
    (active.foldl (fun t p => t.takeActivity c p) s).timer id =
      if ∃ p ∈ active, id = .silence c p ∧ ⟨p, true⟩ ∈ (s.channel c).talkers then s.retriggered c id else s.timer id := by
  induction active generalizing s with
  | nil => simp
  | cons first rest ih =>
    obtain ⟨out, distinct⟩ := List.nodup_cons.1 distinct
    have step := s.timer_takeActivity c first id
    have later : (s.takeActivity c first).expiryInFlight id = s.expiryInFlight id := by simp [State.expiryInFlight]
    rw [List.foldl_cons, ih distinct, State.retriggered, State.channel_takeActivity, later]
    by_cases own : id = .silence c first ∧ ⟨first, true⟩ ∈ (s.channel c).talkers
    · have once : ¬∃ p ∈ rest, id = .silence c p ∧ ⟨p, true⟩ ∈ (s.channel c).talkers := by
        rintro ⟨p, named, rfl, -⟩
        cases own.1
        exact out named
      rw [if_neg once, step, if_pos own, if_pos ⟨first, List.mem_cons_self, own⟩]
    · rw [step, if_neg own]
      refine if_congr ?_ rfl rfl
      simp [own]

/-- The taking of activity changes timers alone. -/
theorem State.foldl_takeActivity_frame (active : List Pos) (s : State) (c : ChanNo) :
    active.foldl (fun t p => t.takeActivity c p) s =
      { s with timers := (active.foldl (fun t p => t.takeActivity c p) s).timers } := by
  refine List.foldlRecOn (motive := fun t : State => t = { s with timers := t.timers }) active _ rfl fun t h p _ => ?_
  rw [h]
  exact State.eq_of_fields

theorem State.takeReport_eq {s : State} {c : ChanNo} {active : List Pos}
    (next : s.reports.find? (fun r => r.channel == c) = some ⟨c, active⟩) :
    s.takeReport c = active.foldl (fun t p => t.takeActivity c p) { s with reports := s.reports.erase ⟨c, active⟩ } := by
  simp [State.takeReport, next]

theorem State.timer_takeReport {s : State} {c : ChanNo} {active : List Pos} (distinct : active.Nodup)
    (next : s.reports.find? (fun r => r.channel == c) = some ⟨c, active⟩) (id : TimerId) :
    (s.takeReport c).timer id =
      if ∃ p ∈ active, id = .silence c p ∧ ⟨p, true⟩ ∈ (s.channel c).talkers then s.retriggered c id else s.timer id := by
  rw [State.takeReport_eq next]
  exact State.timer_foldl_takeActivity distinct _ c id

theorem State.takeReport_frame {s : State} {c : ChanNo} {active : List Pos}
    (next : s.reports.find? (fun r => r.channel == c) = some ⟨c, active⟩) :
    s.takeReport c = { s with timers := (s.takeReport c).timers, reports := s.reports.erase ⟨c, active⟩ } := by
  rw [State.takeReport_eq next]
  exact State.foldl_takeActivity_frame active _ c

end Sys2Proof.Machine

namespace Sys2Proof.Proofs

open Machine Safety

/-- Settles O52: the block end by each bridge's evaluation (`Bridge.blockEnd`, `Bridge.adjust`) and the report of each bridge; the
report by what it does to each timer (`State.timer_takeReport`). -/
theorem blockEndAdjustsAndReports : Obligations.BlockEndAdjustsAndReports := by
  refine ⟨fun s due => ⟨s.blockEnd, rfl, ?_, ?_, fun b used computed => ?_, fun b idle => ?_, ?_⟩,
    fun s c active distinct next => ?_⟩
  · rw [State.blockEnd_due due]
  · rw [State.blockEnd_due due]
  · rw [State.bridge_blockEnd due]
    refine ⟨Bridge.blockEnd_evaluated used computed, Bridge.blockEnd_fixed, fun auto growth low => ?_,
      fun auto stays quiet early => ?_, fun auto stays quiet ended above => ?_, fun auto stays quiet ended low => ?_,
      fun auto stays loud => ?_⟩
    all_goals
      obtain ⟨shift, release⟩ := Bridge.blockEnd_auto used computed auto
      rw [shift, release]
    · rw [Bridge.adjust_rising ⟨growth, low⟩]; exact ⟨rfl, rfl⟩
    · rw [Bridge.adjust_counting stays quiet early]; exact ⟨rfl, rfl⟩
    · rw [Bridge.adjust_falling stays quiet ended above]; exact ⟨rfl, rfl⟩
    · rw [Bridge.adjust_atFloor stays quiet ended low]; exact ⟨rfl, rfl⟩
    · rw [Bridge.adjust_loud stays loud]; exact ⟨rfl, rfl⟩
  · rw [State.bridge_blockEnd due, Bridge.blockEnd_idle idle]
  · rw [State.blockEnd_due due]
  · have timer := State.timer_takeReport distinct next
    have frame := State.takeReport_frame next
    refine ⟨s.takeReport c, rfl, by rw [frame], fun p named talks timeout => ?_, fun p named talks timeout => ?_, fun id other => ?_,
      by rw [frame]⟩
    · rw [timer, if_pos ⟨p, named, rfl, talks⟩, State.retriggered_starts timeout]
    · rw [timer, if_pos ⟨p, named, rfl, talks⟩, State.retriggered_stops timeout]
    · rw [timer, if_neg fun ⟨p, named, own, talks⟩ => other p named talks own]

end Sys2Proof.Proofs
end

section
/-! SAMPLE-FRAME (R105, R107 to R114, R119, R124, R146, R158): what each leg is given, what each bridge keeps, and what passes with the
frame. -/

set_option Elab.async false

namespace Sys2Proof.Machine

open Safety

/-! ### What a leg is given (R105, R109 to R113) -/

/-- A sum less its part where `p` holds is its part where `p` does not hold. -/
theorem sum_map_sub_filter {α : Type} (f : α → Int) (p : α → Bool) (l : List α) :
    (l.map f).sum - ((l.filter p).map f).sum = ((l.filter fun a => !p a).map f).sum := by
  have parts : ((l.filter p).map f).sum + ((l.filter fun a => !p a).map f).sum = (l.map f).sum := by
    simpa using List.sum_map_filter_add_sum_map_filter_not (fun a => p a = true) f l
  omega

/-- The receiver sum is the sum of the products of the contributors of another origin (R110). -/
theorem State.receiverSum_eq (s : State) (trunk : List (SlotNo × Sample)) (x : Bridge) (g : LegNo) :
    s.receiverSum trunk x g =
      ((x.contributors.filter fun k => legOrigin k != legOrigin g).map (s.weighted trunk)).sum := sum_map_sub_filter ..

/-- A leg that receives a bridge is given what is mixed for it. -/
theorem State.rawOutput_receives {s : State} {g : LegNo} {b : BridgeNo} {v : Byte} (trunk : List (SlotNo × Sample))
    (attach : (s.leg g).attach = some b) (volume : (s.leg g).volume = some v) :
    s.rawOutput trunk g (s.leg g) = mixedFor s trunk b g v := by
  simp only [State.rawOutput, attach, volume, State.receiverSum_eq]
  rfl

/-- A leg without an attachment or a volume is given 0 (R105). -/
theorem State.rawOutput_silent {s : State} {g : LegNo} (trunk : List (SlotNo × Sample))
    (silent : (s.leg g).attach = none ∨ (s.leg g).volume = none) : s.rawOutput trunk g (s.leg g) = 0 := by
  rcases silent with attach | volume
  · simp [State.rawOutput, attach]
  · simp [State.rawOutput, volume]

/-- A value is held exactly where it lies outside the range (R113). -/
theorem saturate_ne_iff (x : Int) : saturate x ≠ x ↔ 32767 < x ∨ x < -32768 := by
  unfold saturate
  (repeat' split) <;> omega

/-! ### The limit (R113) -/

theorem State.saturates_iff (s : State) (trunk : List (SlotNo × Sample)) (b : BridgeNo) :
    s.saturates trunk b = true ↔ Overflows s trunk b := by
  simp only [State.saturates, List.any_eq_true, List.mem_finRange, true_and, Bool.and_eq_true, beq_iff_eq, bne_iff_ne, Overflows]
  refine exists_congr fun g => and_congr_right fun attach => ?_
  cases volume : (s.leg g).volume with
  | none => simp [State.rawOutput_silent trunk (.inr volume), saturate]
  | some v => simp [State.rawOutput_receives trunk attach volume, saturate_ne_iff]

theorem State.limitsAnew_iff (s : State) (trunk : List (SlotNo × Sample)) :
    s.limitsAnew trunk = true ↔
      ∃ b : BridgeNo, (s.bridge b).state = .inUse ∧ (s.bridge b).limit = false ∧ Overflows s trunk b := by
  simp only [State.limitsAnew, List.any_eq_true, List.mem_finRange, true_and, Bool.and_eq_true, beq_iff_eq, Bool.not_eq_true',
    State.saturates_iff, and_assoc]

/-! ### One bridge in a frame (R113, R119, R124) -/

theorem State.frameBridge_free {x : Bridge} (s : State) (trunk : List (SlotNo × Sample)) (b : BridgeNo) (free : x.state = .free) :
    s.frameBridge trunk b x = x := by
  simp [State.frameBridge, free]

theorem State.frameBridge_used {s : State} {b : BridgeNo} (trunk : List (SlotNo × Sample)) (used : (s.bridge b).state = .inUse) :
    s.frameBridge trunk b (s.bridge b) =
      { s.bridge b with
        limit := (s.bridge b).limit || s.saturates trunk b
        blockPeak := max (s.bridge b).blockPeak (growthOf s trunk b).natAbs
        blockGrowth := (s.bridge b).blockGrowth || 24576 ≤ (growthOf s trunk b).natAbs
        micPeaks := (s.bridge b).micPeaks.map fun m => (m.1, max m.2 (s.raw trunk m.1).natAbs)
        computed := true } := by
  unfold State.frameBridge
  split
  · rename_i free
    rw [free] at used
    cases used
  · rfl

/-! ### What passes with a frame (R146, R150, R158) -/

theorem Timer.tick_eq (t : Timer) :
    t.tick = { t with framesLeft := if t.running = true then t.framesLeft - 1 else t.framesLeft } := by
  unfold Timer.tick
  split <;> rfl

theorem Generator.tick_eq (x : Generator) :
    x.tick = { x with phaseFrames := if x.state = .idle then x.phaseFrames else x.phaseFrames - 1 } := by
  obtain ⟨_, _, _, _, state, _, _⟩ := x
  cases state <;> rfl

theorem State.drives_iff (s : State) (x : Slot) :
    s.drives x = true ↔
      x.state = .active ∧ ∃ l : LineNo, x.claimant = some (.line l) ∧ (s.line l).marks.ringOut = true := by
  unfold State.drives
  split
  · rename_i l state claimant
    simp [state, claimant]
  · rename_i other
    simp only [Bool.false_eq_true, false_iff]
    rintro ⟨state, l, claimant, -⟩
    exact other l state claimant

/-! ### The frame (R107) -/

/-- With no block end due, a frame gives every table its new records and nothing else. -/
theorem State.sampleFrame_early {s : State} (trunk : List (SlotNo × Sample)) (early : s.frameCount < 128) :
    s.sampleFrame trunk =
      { s with
        bridges := tabMapIdx (s.frameBridge trunk) s.bridges
        legs := tabMapIdx (fun g x => { x with out := BitVec.ofInt 16 (saturate (s.rawOutput trunk g x)) }) s.legs
        slots := tabMap (fun x => { x with ringOut := s.drives x }) s.slots
        generators := tabMap Generator.tick s.generators
        timers := s.timers.tick
        links := tabMap (fun x => { x with rawLeft := 0, rawRight := 0, rawMic := 0 }) s.links
        frameCount := s.frameCount + 1
        mp := if s.limitsAnew trunk = true then { s.mp with flags := s.mp.flags ||| 4#7 } else s.mp } := by
  have none : s.blockEnd = s := if_neg (Nat.ne_of_lt early)
  unfold State.sampleFrame State.mixFrame
  rw [none]
  dsimp only
  split <;> rfl

section
variable {s : State} (trunk : List (SlotNo × Sample)) (early : s.frameCount < 128)
include early

theorem State.bridge_sampleFrame (b : BridgeNo) :
    (s.sampleFrame trunk).bridge b = s.frameBridge trunk b (s.bridge b) := by
  simp [State.sampleFrame_early trunk early, State.bridge]

theorem State.leg_sampleFrame (g : LegNo) :
    (s.sampleFrame trunk).leg g =
      { s.leg g with out := BitVec.ofInt 16 (saturate (s.rawOutput trunk g (s.leg g))) } := by
  simp [State.sampleFrame_early trunk early, State.leg]

theorem State.slot_sampleFrame (sl : SlotNo) :
    (s.sampleFrame trunk).slot sl = { s.slot sl with ringOut := s.drives (s.slot sl) } := by
  simp [State.sampleFrame_early trunk early, State.slot]

theorem State.generator_sampleFrame (n : GenNo) : (s.sampleFrame trunk).generator n = (s.generator n).tick := by
  simp [State.sampleFrame_early trunk early, State.generator]

theorem State.timer_sampleFrame (id : TimerId) : (s.sampleFrame trunk).timer id = (s.timer id).tick := by
  cases id <;> simp [State.sampleFrame_early trunk early, State.timer, Timers.tick]

theorem State.link_sampleFrame (p : Pos) :
    (s.sampleFrame trunk).link p = { s.link p with rawLeft := 0, rawRight := 0, rawMic := 0 } := by
  simp [State.sampleFrame_early trunk early, State.link]

theorem State.mp_sampleFrame :
    (s.sampleFrame trunk).mp =
      if s.limitsAnew trunk = true then { s.mp with flags := s.mp.flags ||| 4#7 } else s.mp := by
  rw [State.sampleFrame_early trunk early]

end

/-- A frame at which a block end is due is the frame of the state that the block end leaves (R121). -/
theorem State.sampleFrame_due {s : State} (trunk : List (SlotNo × Sample)) (due : s.frameCount = 128) :
    s.blockEnd.frameCount = 0 ∧ s.blockEnd.sampleFrame trunk = s.sampleFrame trunk := by
  have count : s.blockEnd.frameCount = 0 := by rw [State.blockEnd_due due]
  have again : s.blockEnd.blockEnd = s.blockEnd := if_neg (by rw [count]; decide)
  exact ⟨count, by rw [State.sampleFrame, again]; rfl⟩

end Sys2Proof.Machine

namespace Sys2Proof.Proofs

open Machine Safety

/-- Settles O51: a due block end is taken first (`State.sampleFrame_due`); else each record of the state that the frame leaves is read
by itself (`State.leg_sampleFrame` and the rest). -/
theorem sampleFrameMixesOthers : Obligations.SampleFrameMixesOthers := by
  refine ⟨fun s trunk due => ?_, fun s trunk early => ?_⟩
  · obtain ⟨count, same⟩ := State.sampleFrame_due trunk due
    exact ⟨s.blockEnd, rfl, count, s.sampleFrame trunk, congrArg Host.Outcome.next same, rfl⟩
  · have limits := s.limitsAnew_iff trunk
    refine ⟨s.sampleFrame trunk, rfl, by rw [State.sampleFrame_early trunk early], fun g => ?_, fun b free => ?_, fun b used => ?_,
      fun anew => ?_, fun clear => ?_, fun id => ?_, fun n => ?_, fun sl => ?_, fun sl => ?_, State.link_sampleFrame trunk early, ?_⟩
    · rw [State.leg_sampleFrame trunk early]
      cases attach : (s.leg g).attach with
      | none => rw [State.rawOutput_silent trunk (.inl attach)]; rfl
      | some b =>
        cases volume : (s.leg g).volume with
        | none => rw [State.rawOutput_silent trunk (.inr volume)]; rfl
        | some v => rw [State.rawOutput_receives trunk attach volume]
    · rw [State.bridge_sampleFrame trunk early, State.frameBridge_free _ _ _ free]
    · rw [State.bridge_sampleFrame trunk early, State.frameBridge_used trunk used, ← State.saturates_iff]
      exact ⟨Bool.or_eq_true_iff, rfl⟩
    · rw [State.mp_sampleFrame trunk early, if_pos (limits.2 anew)]
    · rw [State.mp_sampleFrame trunk early, if_neg fun h => ?_]
      obtain ⟨b, used, limit, beyond⟩ := limits.1 h
      exact clear b used limit beyond
    · rw [State.timer_sampleFrame trunk early, Timer.tick_eq]
    · rw [State.generator_sampleFrame trunk early, Generator.tick_eq]
    · rw [State.slot_sampleFrame trunk early]
      exact s.drives_iff _
    · rw [State.slot_sampleFrame trunk early]
    · rw [State.sampleFrame_early trunk early]

end Sys2Proof.Proofs
end

section
/-! SET-LEG, SET-TIMING and SET-SLOT (R93, R133, R191): their decisions, and the qualify timer of a slot whose polarity changes. -/

set_option Elab.async false

namespace Sys2Proof.Machine

open Safety Laws

/-! ### Values brought into range (R189) -/

theorem codeArg_eq (x : Word) : codeArg x = BitVec.ofNat 8 (min 255 x.toNat) := by
  rw [codeArg, clamp_eq _ _ _ (by decide), Nat.zero_max]

theorem clampArg_fst {lo hi : Nat} (x : Word) (h : lo ≤ hi) : (clampArg lo hi x).1 = max lo (min hi x.toNat) := clamp_eq _ _ _ h

/-- The result of a command by whether it has brought a value into range. -/
theorem clampedResult_eq {b : Bool} {P : Prop} [Decidable P] (h : b = true ↔ P) :
    clampedResult b = if P then .doneClamped else .done := if_congr h rfl rfl

/-! ### The completion of a command (R188) -/

theorem State.complete_timers (s : State) (r : Result) : (s.complete r).timers = s.timers := rfl
theorem State.slot_complete (s : State) (r : Result) (n : SlotNo) : (s.complete r).slot n = s.slot n := rfl
theorem State.timer_complete (s : State) (r : Result) (id : TimerId) : (s.complete r).timer id = s.timer id := rfl

/-! ### SET-LEG (R93) -/

theorem State.setLegCmd_out {s : State} {w : CmdWords} (out : 783 < w.w1.toNat) : s.setLegCmd w = refuse .badField s := by
  simp [State.setLegCmd, toFin?_out out]

theorem State.setLegCmd_bad {s : State} {w : CmdWords} {g : LegNo} (leg : w.w1 = word g.val)
    (bad : w.maskBelow 10 = false ∨ w.maskBit 8 = true ∧ (s.leg g).gain = none ∨ w.maskBit 9 = true ∧ (s.leg g).volume = none) :
    s.setLegCmd w = refuse .badField s := by
  simp only [State.setLegCmd, leg, toFin?_word (by decide : 784 ≤ 65536) g]
  refine if_pos ?_
  rcases bad with unknown | ⟨mask, absent⟩ | ⟨mask, absent⟩
  · simp [unknown]
  · simp [mask, absent]
  · simp [mask, absent]

theorem State.setLegCmd_writes {s : State} {w : CmdWords} {g : LegNo} (leg : w.w1 = word g.val) (known : w.maskBelow 10 = true)
    (gain : w.maskBit 8 = true → (s.leg g).gain ≠ none) (volume : w.maskBit 9 = true → (s.leg g).volume ≠ none) :
    s.setLegCmd w =
      (some (if w.maskBit 8 = true ∧ 255 < w.w2.toNat ∨ w.maskBit 9 = true ∧ 255 < w.w3.toNat then .doneClamped else .done),
        s.setLeg g
          { s.leg g with
            gain := if w.maskBit 8 = true then some (BitVec.ofNat 8 (min 255 w.w2.toNat)) else (s.leg g).gain
            volume := if w.maskBit 9 = true then some (BitVec.ofNat 8 (min 255 w.w3.toNat)) else (s.leg g).volume }) := by
  simp only [State.setLegCmd, leg, toFin?_word (by decide : 784 ≤ 65536) g, codeArg_eq]
  rw [if_neg (by simpa [known] using And.intro gain volume)]
  exact congrArg (fun r => (some r, _)) (clampedResult_eq (by simp))

/-! ### SET-TIMING (R191) -/

theorem State.setTiming_bad {s : State} {w : CmdWords} (unknown : w.maskBelow 11 = false) : s.setTiming w = refuse .badField s := by
  simp [State.setTiming, unknown]

theorem State.setTiming_writes {s : State} {w : CmdWords} (known : w.maskBelow 11 = true) :
    s.setTiming w =
      (some
        (if w.maskBit 8 = true ∧ (w.w1.toNat < 10 ∨ 2000 < w.w1.toNat) ∨
            w.maskBit 9 = true ∧ (w.w2.toNat < 100 ∨ 60000 < w.w2.toNat) ∨ w.maskBit 10 = true ∧ 10000 < w.w3.toNat then
          .doneClamped
        else .done),
        s.modMp fun m =>
          { m with
            faultConfirm := if w.maskBit 8 = true then max 10 (min 2000 w.w1.toNat) else m.faultConfirm
            restore := if w.maskBit 9 = true then max 100 (min 60000 w.w2.toNat) else m.restore
            grace := if w.maskBit 10 = true then min 10000 w.w3.toNat else m.grace }) := by
  simp only [State.setTiming, clampArg_fst _ (by decide : 10 ≤ 2000), clampArg_fst _ (by decide : 100 ≤ 60000),
    clampArg_fst _ (by decide : 0 ≤ 10000), Nat.zero_max]
  rw [if_neg (by simp [known])]
  exact congrArg (fun r => (some r, _)) (clampedResult_iff (by simp [clampArg_snd, or_assoc]))

/-! ### A polarity written (R133) -/

theorem Timer.run_le_cancel (t : Timer) (b : Bool) : t.run ≤ (t.cancel b).run := by
  unfold Timer.cancel
  split
  · exact Nat.le_succ t.run
  · exact le_rfl

/-- A slot written as it stands. -/
theorem State.setSlot_slot (s : State) (sl : SlotNo) : s.setSlot sl (s.slot sl) = s := by
  simp [State.setSlot, State.slot]

/-- A polarity written changes the polarity of its slot, and timers, alone. -/
theorem State.writePolarity_frame (s : State) (sl : SlotNo) (v : Polarity) :
    s.writePolarity sl v =
      { s.setSlot sl { s.slot sl with polarity := v } with timers := (s.writePolarity sl v).timers } := by
  unfold State.writePolarity
  dsimp only
  split
  · rename_i same
    have stands : s.setSlot sl { s.slot sl with polarity := v } = s := by
      rw [← same]
      exact s.setSlot_slot sl
    rw [stands]
  · (repeat' split) <;> rfl

theorem State.slot_writePolarity (s : State) (sl : SlotNo) (v : Polarity) :
    (s.writePolarity sl v).slot sl = { s.slot sl with polarity := v } := by
  rw [State.writePolarity_frame]
  exact s.slot_setSlot_self sl _

theorem State.slot_writePolarity_ne {sl n : SlotNo} (s : State) (v : Polarity) (other : n ≠ sl) :
    (s.writePolarity sl v).slot n = s.slot n := by
  rw [State.writePolarity_frame]
  exact s.slot_setSlot_ne _ other

theorem State.writePolarity_same {s : State} {sl : SlotNo} {v : Polarity} (same : (s.slot sl).polarity = v) :
    s.writePolarity sl v = s := if_pos same

/-- The qualify timer of a slot whose polarity changes: it starts where the level is now active, and does not run otherwise. -/
theorem State.timer_writePolarity {s : State} {sl : SlotNo} {v : Polarity} (changed : (s.slot sl).polarity ≠ v) :
    (({ s.slot sl with polarity := v } : Slot).ringActive = true →
      ∃ t : Timer, (s.timer (.qualify sl)).run ≤ t.run ∧
        (s.writePolarity sl v).timer (.qualify sl) = t.start (s.slot sl).qualify) ∧
    (({ s.slot sl with polarity := v } : Slot).ringActive = false →
      ((s.writePolarity sl v).timer (.qualify sl)).running = false) := by
  unfold State.writePolarity
  rw [if_neg changed]
  simp only [State.modSlot_eq, State.slot_setSlot_self, State.startTimer_eq, State.cancelTimer_eq]
  constructor
  · intro active
    rw [if_pos active, State.timer_setTimer_self]
    split
    · rw [State.timer_setTimer_self]
      exact ⟨_, Timer.run_le_cancel _ _, rfl⟩
    · exact ⟨_, le_rfl, rfl⟩
  · intro idle
    rw [if_neg (by simp [idle])]
    split
    · rw [State.timer_setTimer_self, Timer.cancel_running]
    · rename_i stopped
      exact Bool.eq_false_iff.2 stopped

theorem State.timer_writePolarity_ne {sl : SlotNo} {id : TimerId} (s : State) (v : Polarity) (other : id ≠ .qualify sl) :
    (s.writePolarity sl v).timer id = s.timer id := by
  unfold State.writePolarity
  dsimp only
  (repeat' split) <;> simp [State.timer_setTimer_ne, other]

/-! ### SET-SLOT (R133) -/

/-- The polarity that SET-SLOT leaves. -/
def polarityAfter (w : CmdWords) (old : Polarity) : Polarity :=
  if w.maskBit 8 = true then (if w.w2 = 1#16 then .activeLow else .activeHigh) else old

/-- The qualify time that SET-SLOT leaves. -/
def qualifyAfter (w : CmdWords) (old : Nat) : Nat := if w.maskBit 9 = true then max 10 (min 200 w.w3.toNat) else old

/-- A slot with its qualify time and then its polarity written. -/
def State.slotWritten (s : State) (sl : SlotNo) (q : Nat) (v : Polarity) : State :=
  (s.setSlot sl { s.slot sl with qualify := q }).writePolarity sl v

section
variable (s : State) (sl : SlotNo) (q : Nat) (v : Polarity)

theorem State.slotWritten_frame :
    s.slotWritten sl q v = { s with slots := (s.slotWritten sl q v).slots, timers := (s.slotWritten sl q v).timers } := by
  unfold State.slotWritten
  rw [State.writePolarity_frame]
  rfl

theorem State.slot_slotWritten : (s.slotWritten sl q v).slot sl = { s.slot sl with polarity := v, qualify := q } := by
  rw [State.slotWritten, State.slot_writePolarity, State.slot_setSlot_self]

theorem State.slot_slotWritten_ne {n : SlotNo} (other : n ≠ sl) : (s.slotWritten sl q v).slot n = s.slot n := by
  rw [State.slotWritten, State.slot_writePolarity_ne _ _ other, State.slot_setSlot_ne _ _ other]

theorem State.timer_slotWritten_ne {id : TimerId} (other : id ≠ .qualify sl) : (s.slotWritten sl q v).timer id = s.timer id := by
  rw [State.slotWritten, State.timer_writePolarity_ne _ _ other, State.timer_setSlot]

/-- With the polarity as it was, no timer changes. -/
theorem State.slotWritten_timers (same : (s.slot sl).polarity = v) : (s.slotWritten sl q v).timers = s.timers := by
  rw [State.slotWritten, State.writePolarity_same (by simpa using same), State.setSlot_timers]

/-- A new polarity starts the qualify timer under a fresh run where the level is now active, and stops it otherwise. -/
theorem State.timer_slotWritten (changed : (s.slot sl).polarity ≠ v) :
    (((s.slotWritten sl q v).slot sl).ringActive = true →
      ((s.slotWritten sl q v).timer (.qualify sl)).running = true ∧
        ((s.slotWritten sl q v).timer (.qualify sl)).framesLeft = 16 * q ∧
          (s.timer (.qualify sl)).run < ((s.slotWritten sl q v).timer (.qualify sl)).run) ∧
    (((s.slotWritten sl q v).slot sl).ringActive = false →
      ((s.slotWritten sl q v).timer (.qualify sl)).running = false) := by
  obtain ⟨starts, stops⟩ := State.timer_writePolarity (s := s.setSlot sl { s.slot sl with qualify := q }) (sl := sl) (v := v)
    (by simpa using changed)
  rw [State.slotWritten, State.slot_writePolarity]
  refine ⟨fun active => ?_, stops⟩
  obtain ⟨t, later, timer⟩ := starts active
  rw [timer, State.slot_setSlot_self]
  exact ⟨rfl, rfl, Nat.lt_succ_of_le later⟩

end

theorem State.setSlotCmd_bad {s : State} {w : CmdWords}
    (bad : 255 < w.w1.toNat ∨ w.maskBelow 10 = false ∨ w.maskBit 8 = true ∧ w.w2 ≠ 0#16 ∧ w.w2 ≠ 1#16) :
    s.setSlotCmd w = refuse .badField s := by
  unfold State.setSlotCmd
  split
  · rfl
  · rename_i sl found
    refine if_pos ?_
    rcases bad with out | unknown | ⟨mask, high, low⟩
    · rw [toFin?_out out] at found
      cases found
    · simp [unknown]
    · simp [maskedOk, mask, polarityArg, high, low]

theorem State.setSlotCmd_writes {s : State} {w : CmdWords} {sl : SlotNo} (slot : w.w1 = word sl.val)
    (known : w.maskBelow 10 = true) (polarity : w.maskBit 8 = true → w.w2 = 0#16 ∨ w.w2 = 1#16) :
    s.setSlotCmd w =
      (some (if w.maskBit 9 = true ∧ (w.w3.toNat < 10 ∨ 200 < w.w3.toNat) then .doneClamped else .done),
        s.slotWritten sl (qualifyAfter w (s.slot sl).qualify) (polarityAfter w (s.slot sl).polarity)) := by
  have code : maskedOk (w.maskBit 8) (polarityArg w.w2) = true ∧
      masked (w.maskBit 8) (polarityArg w.w2) (s.slot sl).polarity = polarityAfter w (s.slot sl).polarity := by
    unfold maskedOk masked polarityAfter
    cases mask : w.maskBit 8 with
    | false => exact ⟨rfl, rfl⟩
    | true => rcases polarity mask with high | low <;> simp [polarityArg, *]
  have qualify : (if w.maskBit 9 = true then s.modSlot sl fun x => { x with qualify := (clampArg 10 200 w.w3).1 } else s) =
      s.setSlot sl { s.slot sl with qualify := qualifyAfter w (s.slot sl).qualify } := by
    unfold qualifyAfter
    rw [← clampArg_fst w.w3 (by decide : 10 ≤ 200)]
    split
    · rfl
    · exact (s.setSlot_slot sl).symm
  simp only [State.setSlotCmd, slot, toFin?_word (by decide : 256 ≤ 65536) sl, qualify, code.2]
  rw [if_neg (by simp [known, code.1])]
  exact congrArg (fun r => (some r, _)) (clampedResult_eq (by simp [clampArg_snd]))

end Sys2Proof.Machine

namespace Sys2Proof.Proofs

open Machine Safety Laws

/-- Settles O35: each decision, refused or written, and the qualify timer by whether the polarity changes
(`State.timer_writePolarity`). -/
theorem settingsBroughtIntoRange : Obligations.SettingsBroughtIntoRange := by
  refine ⟨fun s w g ready leg => ⟨fun known gain volume => ?_, fun bad => ?_⟩, fun s w ready out => ?_,
    fun s w ready => ⟨fun unknown => ?_, fun known => ?_⟩, fun s w ready bad => ?_, fun s w sl ready slot known polarity => ?_⟩
  · exact congrArg Host.Outcome.next (command_done s _ 0x0F#8 w _ ready (State.setLegCmd_writes leg known gain volume))
  · exact congrArg Host.Outcome.next (command_refused s _ w _ ready (State.setLegCmd_bad leg bad))
  · exact congrArg Host.Outcome.next (command_refused s _ w _ ready (State.setLegCmd_out out))
  · exact congrArg Host.Outcome.next (command_refused s _ w _ ready (State.setTiming_bad unknown))
  · refine congrArg Host.Outcome.next ((command_done s _ 0x13#8 w _ ready (State.setTiming_writes known)).trans ?_)
    simp only [State.complete, State.post, State.modMp, loaded, State.startSlot, State.loadCommand, mpDone]
  · exact congrArg Host.Outcome.next (command_refused s _ w _ ready (State.setSlotCmd_bad bad))
  · have decided := State.setSlotCmd_writes (s := loaded s 0x10#8 w) slot known polarity
    rw [loaded_slot] at decided
    refine ⟨_, congrArg Host.Outcome.next (command_done s _ 0x10#8 w _ ready decided), ?_⟩
    simp only [State.slot_complete, State.timer_complete, State.complete_timers]
    have own := (loaded s 0x10#8 w).slot_slotWritten sl (qualifyAfter w (s.slot sl).qualify) (polarityAfter w (s.slot sl).polarity)
    rw [loaded_slot] at own
    have turned := congrArg Slot.polarity own
    refine ⟨?_, own, fun same => ?_, fun changed => ?_, fun id other => State.timer_slotWritten_ne _ _ _ _ other,
      fun n other => State.slot_slotWritten_ne _ _ _ _ other, ?_⟩
    · rw [State.slotWritten_frame]
      rfl
    · exact State.slotWritten_timers _ _ _ _ (same.symm.trans turned)
    · rw [congrArg Slot.qualify own]
      exact State.timer_slotWritten _ _ _ _ fun same => changed (turned.trans same.symm)
    · rw [State.slotWritten_frame]
      rfl

end Sys2Proof.Proofs
end

section
/-! A downstream frame (R105, R114, R155, R167, R174): the bytes of a frame, the samples and the status that it carries, and the two bytes
of the message stream. -/

set_option Elab.async false

namespace Sys2Proof.Machine

open Safety

/-! ### The bytes of a frame (R167, R196) -/

/-- The two bytes of a sample give it back. -/
theorem sampleOf_split (x : Sample) : sampleOf (BitVec.ofNat 8 (x.toNat / 256)) (BitVec.ofNat 8 (x.toNat % 256)) = x := by
  have range := x.isLt
  refine BitVec.eq_of_toNat_eq ?_
  simp only [sampleOf, BitVec.toNat_ofNat]
  omega

theorem flatMap_sampleBytes_length (xs : List Sample) : (xs.flatMap sampleBytes).length = 2 * xs.length := by
  induction xs with
  | nil => rfl
  | cons x xs ih => simp only [List.flatMap_cons, List.length_append, ih, List.length_cons, sampleBytes, List.length_nil]; omega

/-- The bytes of a row of samples stand in pairs: sample `i` at `2i` and `2i + 1`. -/
theorem getElem?_flatMap_sampleBytes {xs : List Sample} {i : Nat} {x : Sample} (h : xs[i]? = some x) :
    (xs.flatMap sampleBytes)[2 * i]? = some (BitVec.ofNat 8 (x.toNat / 256)) ∧
      (xs.flatMap sampleBytes)[2 * i + 1]? = some (BitVec.ofNat 8 (x.toNat % 256)) := by
  induction xs generalizing i with
  | nil => simp at h
  | cons first rest ih =>
    cases i with
    | zero =>
      obtain rfl : first = x := by simpa using h
      exact ⟨rfl, rfl⟩
    | succ i => exact ih (by simpa using h)

section
variable {xs : List Sample} (m1 m2 st : Byte)

theorem frameBytes_eq (xs : List Sample) :
    frameBytes xs m1 m2 st =
      0x3C#8 :: 0xA5#8 :: (xs.flatMap sampleBytes ++
        [m1, m2, st, checkByte ([0x3C#8, 0xA5#8] ++ xs.flatMap sampleBytes ++ [m1, m2, st])]) := by
  simp [frameBytes]

theorem frameBytes_length (xs : List Sample) : (frameBytes xs m1 m2 st).length = 2 * xs.length + 6 := by
  simp only [frameBytes_eq, List.length_cons, List.length_append, flatMap_sampleBytes_length, List.length_nil]

/-- Sample `i` of a frame is read back from the bytes `2 + 2i` and `3 + 2i` (chapter 11, Table 6). -/
theorem sampleOf_frameBytes {i : Nat} {x : Sample} (h : xs[i]? = some x) :
    sampleOf ((frameBytes xs m1 m2 st).getD (2 + 2 * i) 0) ((frameBytes xs m1 m2 st).getD (3 + 2 * i) 0) = x := by
  obtain ⟨high, low⟩ := getElem?_flatMap_sampleBytes h
  have read {j : Nat} {b : Byte} (e : (xs.flatMap sampleBytes)[j]? = some b) :
      (frameBytes xs m1 m2 st).getD (j + 2) 0 = b := by
    rw [frameBytes_eq, List.getD_eq_getElem?_getD, List.getElem?_cons_succ, List.getElem?_cons_succ,
      List.getElem?_append_left (List.getElem?_eq_some_iff.1 e).1, e]
    rfl
  rw [Nat.add_comm 2, show 3 + 2 * i = 2 * i + 1 + 2 by omega, read high, read low]
  exact sampleOf_split x

/-- Behind the samples stand the two message bytes, the status byte and the check (chapter 11, Table 6). -/
theorem drop_frameBytes (xs : List Sample) :
    (frameBytes xs m1 m2 st).drop (2 * xs.length + 2) =
      [m1, m2, st, checkByte ([0x3C#8, 0xA5#8] ++ xs.flatMap sampleBytes ++ [m1, m2, st])] := by
  rw [frameBytes_eq, List.drop_succ_cons, List.drop_succ_cons, ← flatMap_sampleBytes_length, List.drop_left]

/-- The check byte brings the sum of a frame to FFh modulo 256 (R165). -/
theorem byteSum_checkByte (bytes : List Byte) : byteSum (bytes ++ [checkByte bytes]) = 255 := by
  simp only [byteSum, checkByte, List.map_append, List.sum_append, List.map_cons, List.map_nil, List.sum_singleton,
    BitVec.toNat_not, BitVec.toNat_ofNat]
  omega

theorem byteSum_frameBytes (xs : List Sample) : byteSum (frameBytes xs m1 m2 st) = 255 := byteSum_checkByte _

end

/-! ### The samples and the status (R105, R114, R155) -/

theorem State.legSample_eq (s : State) (p : Pos) (g : LegNo) : s.legSample p g = heardBy s p g := by
  unfold State.legSample State.sentSample heardBy
  cases (s.link p).state <;> cases (s.leg g).attach <;> simp

theorem State.downstreamSamples_length (s : State) (p : Pos) : (s.downstreamSamples p).length = 10 := by
  simp [State.downstreamSamples]

theorem State.downstreamSamples_handset (s : State) (p : Pos) :
    (s.downstreamSamples p)[0]? = some (heardBy s p (handsetLeg p .left)) ∧
      (s.downstreamSamples p)[1]? = some (heardBy s p (handsetLeg p .right)) := by
  simp [State.downstreamSamples, State.legSample_eq]

theorem State.downstreamSamples_unit (s : State) (p : Pos) (n : UnitNo) :
    (s.downstreamSamples p)[n.val + 2]? = some (heardBy s p (unitLeg p n)) := by
  simp [State.downstreamSamples, State.legSample_eq]

theorem State.ringerMark_iff (s : State) (p : Pos) : s.ringerMark p = true ↔ Ringing s p := by
  unfold State.ringerMark Ringing
  rw [List.any_eq_true]
  refine exists_congr fun k => ?_
  cases s.keyLine p k with
  | none => simp
  | some l =>
    cases appearance : (s.line l).appearanceAt p <;> cases generator : (s.line l).refGen <;>
      simp [appearance, generator, and_assoc]

/-- The four marks of the status byte (chapter 11, Table 6). -/
theorem statusByte_marks (ringer : Bool) (x : Link) :
    (statusByte ringer x).getLsbD 0 = ringer ∧ (statusByte ringer x).getLsbD 1 = x.badFrame ∧
      (statusByte ringer x).getLsbD 2 = x.messageLost ∧ (statusByte ringer x).getLsbD 3 = x.overrun ∧
        (statusByte ringer x).toNat < 16 := by
  unfold statusByte
  generalize x.badFrame = bad, x.messageLost = lost, x.overrun = excess
  revert ringer bad lost excess
  decide

/-! ### The message stream (R174) -/

/-- Two bytes of the message stream, and the link that they leave. -/
def Link.twoBytes (x : Link) : List Byte × Link := ([x.sendByte.1, x.sendByte.2.sendByte.1], x.sendByte.2.sendByte.2)

/-- The sending of bytes changes the queues and the message in transmission alone. -/
theorem Link.sendByte_frame (x : Link) :
    x.sendByte.2 =
      { x with
        answers := x.sendByte.2.answers, indications := x.sendByte.2.indications, transmit := x.sendByte.2.transmit } := by
  unfold Link.sendByte Link.choose
  dsimp only
  (repeat' split) <;> rfl

theorem Link.twoBytes_frame (x : Link) :
    x.twoBytes.2 =
      { x with
        answers := x.twoBytes.2.answers, indications := x.twoBytes.2.indications, transmit := x.twoBytes.2.transmit } := by
  unfold Link.twoBytes
  rw [Link.sendByte_frame x.sendByte.2, Link.sendByte_frame x]

/-- A message in transmission goes on. -/
theorem Link.sendByte_goesOn {x : Link} {b : Byte} {rest : List Byte} (transmit : x.transmit = b :: rest) :
    x.sendByte = (b, { x with transmit := rest }) := by
  simp [Link.sendByte, transmit]

/-- With no byte left, the message chosen begins. -/
theorem Link.sendByte_begins {x y : Link} {b : Byte} {rest : List Byte} (idle : x.transmit = []) (chosen : x.choose = y)
    (begins : y.transmit = b :: rest) : x.sendByte = (b, { y with transmit := rest }) := by
  simp [Link.sendByte, idle, chosen, begins]

/-- With no byte left and no message waiting, the byte is fill. -/
theorem Link.sendByte_fill {x : Link} (idle : x.transmit = []) (answers : x.answers = []) (indications : x.indications = []) :
    x.sendByte = (0#8, x) := by
  have none : x.choose = x := by simp [Link.choose, answers, indications]
  simp [Link.sendByte, idle, none]

theorem Link.twoBytes_goOn {x : Link} {b c : Byte} {rest : List Byte} (transmit : x.transmit = b :: c :: rest) :
    x.twoBytes = ([b, c], { x with transmit := rest }) := by
  have second : ({ x with transmit := c :: rest } : Link).sendByte = (c, { x with transmit := rest }) := Link.sendByte_goesOn rfl
  rw [Link.twoBytes, Link.sendByte_goesOn transmit, second]

/-- Where at most one byte is left, the message chosen follows it: `y` is the link that the choice leaves. -/
theorem Link.twoBytes_choose {x y : Link} {last message : List Byte} (transmit : x.transmit = last) (short : last.length ≤ 1)
    (chosen : ({ x with transmit := [] } : Link).choose = { y with transmit := message }) (long : 2 ≤ message.length) :
    x.twoBytes = ((last ++ message).take 2, { y with transmit := (last ++ message).drop 2 }) := by
  obtain _ | ⟨b, _ | ⟨c, rest⟩⟩ := message
  · simp at long
  · simp at long
  obtain _ | ⟨a, _ | ⟨a', more⟩⟩ := last
  · have idle : ({ x with transmit := [] } : Link) = x := by rw [← transmit]
    rw [idle] at chosen
    have second : ({ y with transmit := c :: rest } : Link).sendByte = (c, { y with transmit := rest }) := Link.sendByte_goesOn rfl
    rw [Link.twoBytes, Link.sendByte_begins transmit chosen rfl, second]
    rfl
  · rw [Link.twoBytes, Link.sendByte_goesOn transmit, Link.sendByte_begins rfl chosen rfl]
    rfl
  · simp at short

/-- Where at most one byte is left and no message waits, fill follows it. -/
theorem Link.twoBytes_fill {x : Link} {last : List Byte} (transmit : x.transmit = last) (short : last.length ≤ 1)
    (answers : x.answers = []) (indications : x.indications = []) :
    x.twoBytes = ((last ++ [0#8, 0#8]).take 2, { x with transmit := [] }) := by
  obtain _ | ⟨a, _ | ⟨a', more⟩⟩ := last
  · have idle : ({ x with transmit := [] } : Link) = x := by rw [← transmit]
    have fill := Link.sendByte_fill transmit answers indications
    rw [Link.twoBytes, fill, fill, idle]
    rfl
  · have fill : ({ x with transmit := [] } : Link).sendByte = (0#8, { x with transmit := [] }) :=
      Link.sendByte_fill rfl answers indications
    rw [Link.twoBytes, Link.sendByte_goesOn transmit, fill]
    rfl
  · simp at short

theorem Answer.bytes_long (a : Answer) : 2 ≤ a.bytes.length := by
  unfold Answer.bytes
  split <;> simp

theorem Indication.bytes_long (i : Indication) : 2 ≤ i.bytes.length := by simp [Indication.bytes]

/-! ### The frame sent (R167) -/

/-- The frame that position `p` is sent. -/
def State.frameFor (s : State) (p : Pos) : List Byte :=
  frameBytes (s.downstreamSamples p) (s.link p).sendByte.1 (s.link p).sendByte.2.sendByte.1
    (statusByte (s.ringerMark p) (s.link p))

theorem State.sendFrame_enabled {s : State} {p : Pos} (enabled : (s.link p).state ≠ .disabled) :
    s.sendFrame p = s.setLink p { (s.link p).twoBytes.2 with sent := s.frameFor p } := by
  unfold State.sendFrame
  split
  · exact absurd ‹_› enabled
  · rfl
  · rfl

theorem State.sendFrame_disabled {s : State} {p : Pos} (disabled : (s.link p).state = .disabled) :
    s.sendFrame p = s.setLink p { s.link p with sent := [] } := by
  simp [State.sendFrame, disabled]

/-- A frame sent changes the link of its position alone. -/
theorem State.sendFrame_writes (s : State) (p : Pos) : s.sendFrame p = s.setLink p ((s.sendFrame p).link p) := by
  by_cases h : (s.link p).state = .disabled
  · rw [State.sendFrame_disabled h, State.link_setLink_self]
  · rw [State.sendFrame_enabled h, State.link_setLink_self]

theorem State.frameFor_length (s : State) (p : Pos) : (s.frameFor p).length = 26 := by
  rw [State.frameFor, frameBytes_length, State.downstreamSamples_length]

theorem State.byteSum_frameFor (s : State) (p : Pos) : byteSum (s.frameFor p) = 255 := byteSum_frameBytes ..

/-- The frame opens with the downstream sync pair. -/
theorem State.take_frameFor (s : State) (p : Pos) : (s.frameFor p).take 2 = [0x3C#8, 0xA5#8] := by
  rw [State.frameFor, frameBytes_eq]
  rfl

/-- The message bytes, the status byte and the check close the frame. -/
theorem State.drop_frameFor (s : State) (p : Pos) :
    ∃ check : Byte, (s.frameFor p).drop 22 = (s.link p).twoBytes.1 ++ [statusByte (s.ringerMark p) (s.link p), check] := by
  have tail := drop_frameBytes (s.link p).sendByte.1 (s.link p).sendByte.2.sendByte.1 (statusByte (s.ringerMark p) (s.link p))
    (s.downstreamSamples p)
  rw [State.downstreamSamples_length] at tail
  exact ⟨_, tail⟩

theorem State.frameFor_messages (s : State) (p : Pos) : ((s.frameFor p).drop 22).take 2 = (s.link p).twoBytes.1 := by
  obtain ⟨check, tail⟩ := s.drop_frameFor p
  rw [tail]
  rfl

theorem State.frameFor_status (s : State) (p : Pos) : (s.frameFor p).getD 24 0 = statusByte (s.ringerMark p) (s.link p) := by
  obtain ⟨check, tail⟩ := s.drop_frameFor p
  have read : (s.frameFor p)[24]? = ((s.frameFor p).drop 22)[2]? := (List.getElem?_drop (i := 22) (j := 2)).symm
  rw [List.getD_eq_getElem?_getD, read, tail]
  rfl

/-- The frame carries its ten samples in order, sample `i` in the bytes `j` and `k`. -/
theorem State.frameFor_sample {s : State} {p : Pos} {i j k : Nat} {x : Sample} (h : (s.downstreamSamples p)[i]? = some x)
    (high : j = 2 + 2 * i) (low : k = 3 + 2 * i) : sampleOf ((s.frameFor p).getD j 0) ((s.frameFor p).getD k 0) = x := by
  subst high low
  exact sampleOf_frameBytes _ _ _ h

end Sys2Proof.Machine

namespace Sys2Proof.Proofs

open Machine Safety

/-- Settles O56: the frame byte by byte (`State.frameFor`), and the message bytes by what is left to send (`Link.twoBytes`). -/
theorem downstreamFrameIsSent : Obligations.DownstreamFrameIsSent := by
  refine fun s p => ⟨s.sendFrame p, rfl, State.sendFrame_disabled, fun enabled => ?_, fun q other => ?_, ?_⟩
  · have link : (s.sendFrame p).link p = { (s.link p).twoBytes.2 with sent := s.frameFor p } := by
      rw [State.sendFrame_enabled enabled, State.link_setLink_self]
    obtain ⟨left, right⟩ := s.downstreamSamples_handset p
    obtain ⟨ringer, badFrame, messageLost, overrun, small⟩ := statusByte_marks (s.ringerMark p) (s.link p)
    rw [← s.frameFor_status p] at ringer badFrame messageLost overrun small
    rw [link]
    refine ⟨s.frameFor_length p, s.take_frameFor p, s.byteSum_frameFor p, State.frameFor_sample left rfl rfl,
      State.frameFor_sample right rfl rfl, fun n => State.frameFor_sample (s.downstreamSamples_unit p n) (by omega) (by omega), ?_,
      badFrame, messageLost, overrun, small, fun x y rest transmit => ?_,
      fun last transmit short => ⟨fun a rest answers => ?_, fun i rest answers indications => ?_, fun answers indications => ?_⟩, ?_⟩
    · rw [← s.ringerMark_iff p, ← ringer]
    · rw [s.frameFor_messages p, Link.twoBytes_goOn transmit]
      exact ⟨rfl, rfl, rfl, rfl⟩
    · have chosen : ({ s.link p with transmit := [] } : Link).choose = { s.link p with answers := rest, transmit := a.bytes } := by
        simp [Link.choose, answers]
      rw [s.frameFor_messages p,
        Link.twoBytes_choose (y := { s.link p with answers := rest }) transmit short chosen a.bytes_long]
      exact ⟨rfl, rfl, rfl, rfl⟩
    · have chosen : ({ s.link p with transmit := [] } : Link).choose =
          { s.link p with indications := rest, transmit := i.bytes } := by
        simp [Link.choose, answers, indications]
      rw [s.frameFor_messages p,
        Link.twoBytes_choose (y := { s.link p with indications := rest }) transmit short chosen i.bytes_long]
      exact ⟨answers, rfl, rfl, rfl⟩
    · rw [s.frameFor_messages p, Link.twoBytes_fill transmit short answers indications]
      exact ⟨answers, indications, rfl, rfl⟩
    · exact congrArg (fun x : Link => { x with sent := s.frameFor p }) (s.link p).twoBytes_frame
  · rw [State.sendFrame_writes, State.link_setLink_ne _ _ other]
  · rw [State.sendFrame_writes]
    exact State.eq_of_fields

end Sys2Proof.Proofs
end
section
/-! The headroom law of the bridges (R115, R116, R117, R122): the part of it that holds in the middle of an act, one lemma per operation that
touches a bridge, and the floor at the end of the act. -/

set_option Elab.async false

namespace Sys2Proof.Machine

open Safety

/-! ### The headroom law in the middle of an act -/

/-- What the headroom law asks of a bridge whose contributors may have changed since the floor was last applied. -/
structure ShiftFits (b : Bridge) : Prop where
  shift : b.shift ≤ 2
  release : b.release ≤ 16
  fixed : b.headroom.kind = .fixed → b.release = 0
  free : b.state = .free → b.shift = 0 ∧ b.release = 0

theorem headroomFloor_le (c : Nat) : headroomFloor c ≤ 2 := by
  unfold headroomFloor
  repeat' split
  all_goals decide

theorem ShiftFits.of_law {b : Bridge} (h : HeadroomLaw b) : ShiftFits b := by
  obtain ⟨used, free⟩ := h
  cases state : b.state with
  | free =>
    obtain ⟨shift, release⟩ := free state
    exact ⟨by omega, by omega, fun _ => release, fun _ => ⟨shift, release⟩⟩
  | inUse =>
    obtain ⟨-, shift, release, fixed⟩ := used state
    exact ⟨shift, release, fun k => (fixed k).2, fun e => (by rw [state] at e; cases e)⟩

/-- The floor applied at the end of the act makes the law whole (R116, R117). -/
theorem ShiftFits.settle {b : Bridge} (h : ShiftFits b) : HeadroomLaw b.settle := by
  obtain ⟨shift, release, fixed, free⟩ := h
  have floor := headroomFloor_le b.contributors.length
  have hf := b.headroom.hf.isLt
  unfold Bridge.settle Bridge.count
  split
  · rename_i state
    exact ⟨fun e => (by rw [state] at e; cases e), free⟩
  · rename_i state
    have used {P : Prop} (e : b.state = .free) : P := by rw [state] at e; cases e
    split
    · rename_i kind
      exact ⟨fun _ => ⟨le_max_right _ _, by simp only; omega, release, fun _ => ⟨rfl, fixed kind⟩⟩, used⟩
    · rename_i kind
      have auto {P : Prop} (e : b.headroom.kind = .fixed) : P := by rw [kind] at e; cases e
      split
      · exact ⟨fun _ => ⟨le_rfl, floor, Nat.zero_le _, auto⟩, used⟩
      · rename_i above
        exact ⟨fun _ => ⟨Nat.le_of_not_lt above, shift, release, auto⟩, used⟩

/-- A bridge of the same state, mode, shift and release counter. -/
theorem ShiftFits.congr {b b' : Bridge} (h : ShiftFits b) (state : b'.state = b.state := by rfl)
    (headroom : b'.headroom = b.headroom := by rfl) (shift : b'.shift = b.shift := by rfl)
    (release : b'.release = b.release := by rfl) : ShiftFits b' := by
  obtain ⟨hs, hr, hx, hf⟩ := h
  exact ⟨by rwa [shift], by rwa [release], by rwa [headroom, release], by rwa [state, shift, release]⟩

theorem ShiftFits.freed : ShiftFits Bridge.free := ⟨by decide, by decide, fun _ => rfl, fun _ => ⟨rfl, rfl⟩⟩

theorem ShiftFits.allocated (o : Owner) (m : Headroom) : ShiftFits (Bridge.allocated o m) := by
  have hf := m.hf.isLt
  refine ⟨?_, Nat.zero_le _, fun _ => rfl, nofun⟩
  show (match m.kind with | .fixed => m.hf.val | .auto => 0) ≤ 2
  split <;> omega

/-- A headroom mode passed to a bridge (R118). -/
theorem ShiftFits.writeMode {b : Bridge} (h : ShiftFits b) (m : Headroom) : ShiftFits (b.writeMode m) := by
  have floor := headroomFloor_le b.count
  have hf := m.hf.isLt
  unfold Bridge.writeMode
  split
  · exact h
  · rename_i changes
    have used {P : Prop} (e : b.state = .free) : P := absurd (.inr e) changes
    split
    · exact ⟨by simp only; omega, Nat.zero_le _, fun _ => rfl, used⟩
    · exact ⟨h.shift, Nat.zero_le _, fun _ => rfl, used⟩

/-- Every bridge that fits before fits after. -/
def KeepsShifts (s t : State) : Prop := ∀ b, ShiftFits (s.bridge b) → ShiftFits (t.bridge b)

theorem KeepsShifts.refl (s : State) : KeepsShifts s s := fun _ => id

theorem KeepsShifts.trans {s t u : State} (h : KeepsShifts s t) (k : KeepsShifts t u) : KeepsShifts s u := fun b f => k b (h b f)

theorem KeepsShifts.same {s t : State} (h : t.bridges = s.bridges := by simp) : KeepsShifts s t := fun b f => by
  simpa only [State.bridge, h] using f

/-- A further operation that leaves every bridge. -/
theorem KeepsShifts.after {s t u : State} (h : KeepsShifts s t) (same : u.bridges = t.bridges := by simp) : KeepsShifts s u :=
  h.trans (.same same)

theorem KeepsShifts.foldl {ι : Type} (act : State → ι → State) (keeps : ∀ s i, KeepsShifts s (act s i)) (items : List ι)
    (s : State) : KeepsShifts s (items.foldl act s) :=
  List.foldlRecOn (motive := fun t => KeepsShifts s t) items act (.refl s) fun t h i _ => h.trans (keeps t i)

theorem KeepsShifts.modLine {s t : State} {l : LineNo} {f : Line → Line} (h : KeepsShifts s t) : KeepsShifts s (t.modLine l f) :=
  h.after

theorem KeepsShifts.modChannel {s t : State} {c : ChanNo} {f : Channel → Channel} (h : KeepsShifts s t) :
    KeepsShifts s (t.modChannel c f) := h.after

theorem KeepsShifts.setSelection {s t : State} {p : Pos} {u : UnitNo} {x : Selection} (h : KeepsShifts s t) :
    KeepsShifts s (t.setSelection p u x) := h.after

theorem KeepsShifts.cancelTimer {s t : State} {id : TimerId} (h : KeepsShifts s t) : KeepsShifts s (t.cancelTimer id) := h.after

theorem KeepsShifts.endAlert {s t : State} {l : LineNo} (h : KeepsShifts s t) : KeepsShifts s (t.endAlert l) := h.after

theorem KeepsShifts.startBurst {s t : State} {l : LineNo} (h : KeepsShifts s t) : KeepsShifts s (t.startBurst l) := h.after

/-- One bridge written so that it fits. -/
theorem KeepsShifts.modBridge (s : State) (b : BridgeNo) (f : Bridge → Bridge) (hf : ∀ x, ShiftFits x → ShiftFits (f x)) :
    KeepsShifts s (s.modBridge b f) := fun b' h => by
  rw [State.modBridge, State.bridge_setBridge]
  split
  · rename_i e; subst e; exact hf _ h
  · exact h

/-! ### The Bridge Pool (R95, R99, R101) -/

theorem State.listen_shifts (s : State) (b : BridgeNo) (g : LegNo) : KeepsShifts s (s.listen b g) := fun b' h => by
  rw [State.bridge_listen]
  split
  · rename_i e; exact ShiftFits.congr (b := s.bridge b) (e.1 ▸ h)
  · exact h

theorem State.join_shifts (s : State) (b : BridgeNo) (g : LegNo) : KeepsShifts s (s.join b g) := by
  refine KeepsShifts.trans (.modBridge s b _ fun x h => ?_) (State.listen_shifts _ b g)
  unfold Bridge.addContributor
  split
  · exact h
  · exact h.congr

theorem State.speak_shifts (s : State) (b : BridgeNo) (g : LegNo) : KeepsShifts s (s.speak b g) := fun b' h => by
  rw [State.bridge_speak]
  split
  · rename_i e; exact ShiftFits.congr (b := s.bridge b) (e.1 ▸ h)
  · exact h

theorem State.leave_shifts (s : State) (b : BridgeNo) (g : LegNo) : KeepsShifts s (s.leave b g) := fun b' h => by
  by_cases e : b' = b
  · subst e
    obtain ⟨r, left⟩ := s.bridge_leave b' g
    rw [left]
    exact h.congr
  · rw [s.bridge_leave_ne g e]
    exact h

theorem State.joinOwn_shifts (s : State) (b : Option BridgeNo) (g : LegNo) : KeepsShifts s (s.joinOwn b g) := by
  cases b with
  | none => exact .refl s
  | some n => exact s.join_shifts n g

theorem State.leaveOwn_shifts (s : State) (b : Option BridgeNo) (g : LegNo) : KeepsShifts s (s.leaveOwn b g) := by
  cases b with
  | none => exact .refl s
  | some n => exact s.leave_shifts n g

theorem State.joinTrunk_shifts (s : State) (b : Option BridgeNo) (sl : Option SlotNo) : KeepsShifts s (s.joinTrunk b sl) := by
  cases sl with
  | none => exact .refl s
  | some n => exact s.joinOwn_shifts b _

theorem State.leaveTrunk_shifts (s : State) (b : Option BridgeNo) (sl : Option SlotNo) : KeepsShifts s (s.leaveTrunk b sl) := by
  cases sl with
  | none => exact .refl s
  | some n => exact s.leaveOwn_shifts b _

theorem State.freeOwn_shifts (s : State) (b : Option BridgeNo) : KeepsShifts s (s.freeOwn b) := by
  cases b with
  | none => exact .refl s
  | some n => exact KeepsShifts.after (.modBridge s n _ fun _ _ => .freed) rfl

theorem State.allocate_shifts (s : State) (b : BridgeNo) (o : Owner) (m : Headroom) : KeepsShifts s (s.allocate b o m) :=
  .modBridge s b (fun _ => Bridge.allocated o m) fun _ _ => .allocated o m

theorem State.passMode_shifts (s : State) (b : Option BridgeNo) (m : Headroom) : KeepsShifts s (s.passMode b m) := by
  cases b with
  | none => exact .refl s
  | some n => exact .modBridge s n _ fun x h => h.writeMode m

theorem KeepsShifts.joinOwn {s t : State} {b : Option BridgeNo} {g : LegNo} (h : KeepsShifts s t) : KeepsShifts s (t.joinOwn b g) :=
  h.trans (t.joinOwn_shifts b g)

theorem KeepsShifts.leaveOwn {s t : State} {b : Option BridgeNo} {g : LegNo} (h : KeepsShifts s t) : KeepsShifts s (t.leaveOwn b g) :=
  h.trans (t.leaveOwn_shifts b g)

theorem KeepsShifts.listen {s t : State} {b : BridgeNo} {g : LegNo} (h : KeepsShifts s t) : KeepsShifts s (t.listen b g) :=
  h.trans (t.listen_shifts b g)

/-! ### Trunk slots -/

theorem State.claimChannel_shifts (s : State) (c : ChanNo) (sl : SlotNo) : KeepsShifts s (s.claimChannel c sl) :=
  .joinOwn .same

theorem State.claimTrunk_shifts (s : State) (c : ChanNo) (sl : Option SlotNo) : KeepsShifts s (s.claimTrunk c sl) := by
  unfold State.claimTrunk
  repeat' split
  · exact .refl s
  · exact s.claimChannel_shifts c _
  · exact .refl s

theorem State.regainLine_shifts (s : State) (l : LineNo) (sl : SlotNo) : KeepsShifts s (s.regainLine l sl) := by
  unfold State.regainLine
  dsimp only
  split
  · exact .same
  · exact .joinOwn .same

theorem State.loseRoute_shifts (s : State) (l : LineNo) (sl : SlotNo) : KeepsShifts s (s.loseRoute l sl) := by
  unfold State.loseRoute
  split
  · exact .leaveOwn .same
  · exact .leaveOwn .same
  · exact .same

theorem State.lineFault_shifts (s : State) (l : LineNo) (sl : SlotNo) : KeepsShifts s (s.lineFault l sl) := by
  unfold State.lineFault State.failover
  repeat' split
  · exact .joinOwn (.leaveOwn .same)
  · exact s.loseRoute_shifts l sl
  · exact s.loseRoute_shifts l sl

theorem State.serve_shifts (fuel : Nat) (s : State) (sl : SlotNo) : KeepsShifts s (State.serve fuel s sl) :=
  State.serve_induct (P := KeepsShifts s) (fun t c sl _ h => h.trans (t.claimChannel_shifts c sl))
    (fun t l sl _ h => h.trans (t.regainLine_shifts l sl)) (fun _ _ _ h => h.after) fuel sl (.refl s)

theorem State.serveFreed_shifts (s : State) (sl : Option SlotNo) : KeepsShifts s (s.serveFreed sl) := by
  cases sl with
  | none => exact .refl s
  | some n => exact State.serve_shifts _ s n

theorem State.atRestAll_shifts (s : State) (ls : List LineNo) : KeepsShifts s (s.atRestAll ls) := by
  have reverts : KeepsShifts s (ls.foldl State.revertAtRest (s, [])).1 :=
    List.foldlRecOn (motive := fun r : State × List SlotNo => KeepsShifts s r.1) ls _ (.refl s) fun r (h : KeepsShifts s r.1) l _ => by
      unfold State.revertAtRest
      split
      · exact h.after
      · exact h
  exact reverts.trans (.foldl _ (fun t n => State.serve_shifts _ t n) _ _)

/-! ### Lines -/

theorem State.dropMonitor_shifts (s : State) (l : LineNo) (m : Monitor) : KeepsShifts s (s.dropMonitor l m) :=
  KeepsShifts.after (.leaveOwn .same) rfl

theorem State.dropMonitors_shifts (s : State) (l : LineNo) (ms : List Monitor) : KeepsShifts s (s.dropMonitors l ms) :=
  .foldl _ (fun t m => t.dropMonitor_shifts l m) _ _

/-- The handsets and the monitors of a line leave its bridge. -/
theorem State.leaveAll_shifts (s : State) (l : LineNo) :
    KeepsShifts s ((s.leaveHandsets (s.line l).bridge (s.line l).occupants).dropMonitors l (s.line l).monitors) :=
  KeepsShifts.trans (.foldl _ (fun t _ => t.leaveOwn_shifts _ _) _ _) (State.dropMonitors_shifts _ _ _)

theorem State.takeDown_shifts (s : State) (l : LineNo) : KeepsShifts s (s.takeDown l) := by
  unfold State.takeDown
  exact ((s.leaveAll_shifts l).after.trans (State.freeOwn_shifts _ _)).after rfl

theorem State.rest_shifts (s : State) (l : LineNo) : KeepsShifts s (s.rest l) := by
  unfold State.rest
  split <;> exact (s.takeDown_shifts l).after rfl

theorem State.returnToRest_shifts (s : State) (l : LineNo) : KeepsShifts s (s.returnToRest l) :=
  (s.rest_shifts l).trans (State.atRestAll_shifts _ _)

theorem State.vacate_shifts (s : State) (l : LineNo) (o : Occupant) : KeepsShifts s (s.vacate l o) := by
  have left : KeepsShifts s ((s.modLine l fun x => { x with occupants := x.occupants.erase o }).leaveOwn (s.line l).bridge
      (handsetLeg o.pos o.handset)) := .leaveOwn .same
  unfold State.vacate
  dsimp only
  split
  · exact left.trans (State.rest_shifts _ l)
  · exact left

theorem State.releaseOccupant_shifts (s : State) (l : LineNo) (o : Occupant) : KeepsShifts s (s.releaseOccupant l o) := by
  unfold State.releaseOccupant
  dsimp only
  split
  · exact (s.vacate_shifts l o).trans (State.atRestAll_shifts _ _)
  · exact s.vacate_shifts l o

theorem State.holdLine_shifts (s : State) (l : LineNo) (p : Pos) : KeepsShifts s (s.holdLine l p) := by
  unfold State.holdLine
  dsimp only
  split <;> exact (s.leaveAll_shifts l).after rfl

theorem State.dealWith_shifts (s : State) (o : Occupant) (l : LineNo) : KeepsShifts s (s.dealWith o l) := by
  unfold State.dealWith
  repeat' split
  · exact .refl s
  · exact .refl s
  · exact s.holdLine_shifts _ _
  · exact s.releaseOccupant_shifts _ _

theorem State.connect_shifts (s : State) (l : LineNo) (b : BridgeNo) (o : Occupant) : KeepsShifts s (s.connect l b o) :=
  KeepsShifts.after (((s.allocate_shifts b _ _).trans (State.joinTrunk_shifts _ _ _)).trans (State.join_shifts _ b _)) rfl

theorem State.seizeAtRest_shifts (s : State) (l : LineNo) (o : Occupant) : KeepsShifts s (s.seizeAtRest l o).2 := by
  have connected (b : BridgeNo) : KeepsShifts s ((s.dealWith o l).connect l b o) :=
    (s.dealWith_shifts o l).trans (State.connect_shifts _ l b o)
  unfold State.seizeAtRest
  split
  · dsimp only
    split
    · exact .same rfl
    · split
      · exact (connected _).endAlert
      · dsimp only
        split
        · exact (connected _).startBurst
        · exact connected _
  · exact .same rfl

theorem State.seizeKey_shifts (s : State) (p : Pos) (k : Key) (h : Handset) : KeepsShifts s (s.seizeKey p k h).2 := by
  have dealt (l : LineNo) := s.dealWith_shifts ⟨p, h⟩ l
  unfold State.seizeKey
  split
  · exact .refl s
  · split
    · unfold State.seizeConnected
      repeat' split
      · exact .refl s
      · exact .modLine (.joinOwn (.leaveOwn (dealt _)))
      · exact .refl s
      · exact .refl s
      · exact .modLine (.joinOwn (dealt _))
    · unfold State.seizeHeld
      split
      · exact .modLine (.joinOwn (.cancelTimer (dealt _)))
      · exact .refl s
    · exact s.seizeAtRest_shifts _ _

theorem State.alertToRest_shifts (s : State) (l : LineNo) (missed : Bool) : KeepsShifts s (s.alertToRest l missed) :=
  KeepsShifts.trans .same (State.atRestAll_shifts _ _)

/-- A position leaves a line (R18, R19). -/
theorem State.leavePosition_shifts (s : State) (l : LineNo) (p : Pos) : KeepsShifts s (s.leavePosition l p) := by
  have rested : KeepsShifts s (if (s.line l).holdOwner = some p then s.returnToRest l else s) := by
    split
    · exact s.returnToRest_shifts l
    · exact .refl s
  have heard := rested.trans (State.dropMonitors_shifts _ l
    (((if (s.line l).holdOwner = some p then s.returnToRest l else s).line l).monitors.filter fun m => m.pos == p))
  unfold State.leavePosition State.releasePosition
  split
  · exact heard
  · exact heard.trans (State.releaseOccupant_shifts _ l _)

/-! ### Channels -/

theorem State.openChannel_shifts (s : State) (c : ChanNo) (b : BridgeNo) : KeepsShifts s (s.openChannel c b) :=
  KeepsShifts.after ((s.allocate_shifts b _ _).trans (State.joinTrunk_shifts _ _ _)) rfl

theorem State.closeIfUnused_shifts (s : State) (c : ChanNo) : KeepsShifts s (s.closeIfUnused c) := by
  unfold State.closeIfUnused State.closeChannel
  split
  · exact (s.freeOwn_shifts _).after rfl
  · exact .refl s

theorem State.releaseSelection_shifts (s : State) (p : Pos) (u : UnitNo) : KeepsShifts s (s.releaseSelection p u) := by
  unfold State.releaseSelection
  split
  · exact .refl s
  · exact s.dropMonitor_shifts _ _
  · exact KeepsShifts.trans (.setSelection (s.leaveOwn_shifts _ _)) (State.closeIfUnused_shifts _ _)

theorem State.selectChannel_shifts (s : State) (p : Pos) (u : UnitNo) (c : ChanNo) : KeepsShifts s (s.selectChannel p u c) := by
  have selected : KeepsShifts s ((s.releaseSelection p u).setSelection p u (.channel c)) := (s.releaseSelection_shifts p u).setSelection
  unfold State.selectChannel
  dsimp only
  repeat' split
  · exact .listen (selected.trans (State.openChannel_shifts _ _ _))
  · exact .listen selected
  · exact selected

theorem State.monitorLine_shifts (s : State) (p : Pos) (u : UnitNo) (l : LineNo) : KeepsShifts s (s.monitorLine p u l) := by
  unfold State.monitorLine
  dsimp only
  split
  · exact .setSelection (.listen (.modLine (s.releaseSelection_shifts p u)))
  · exact .setSelection (.modLine (s.releaseSelection_shifts p u))

theorem State.addTalker_shifts (s : State) (c : ChanNo) (e : FloorEntry) : KeepsShifts s (s.addTalker c e) := by
  have spoken : KeepsShifts s ((s.modChannel c fun x => { x with talkers := x.talkers ++ [e] }).speakOn c e.pos) := by
    unfold State.speakOn
    split
    · exact .same
    · exact KeepsShifts.trans .same (State.speak_shifts _ _ _)
  exact spoken.after (by simp [State.addTalker])

theorem State.grantHead_shifts (s : State) (c : ChanNo) : KeepsShifts s (s.grantHead c) := by
  unfold State.grantHead
  repeat' split
  · exact .refl s
  · exact KeepsShifts.trans .same (State.addTalker_shifts _ c _)
  · exact .refl s

theorem State.grantAll_shifts (n : Nat) (s : State) (c : ChanNo) : KeepsShifts s (State.grantAll n s c) := by
  induction n generalizing s with
  | zero => exact .refl s
  | succ n ih => exact (s.grantHead_shifts c).trans (ih _)

theorem State.silenceMic_shifts (s : State) (c : ChanNo) (p : Pos) : KeepsShifts s (s.silenceMic c p) := .leaveOwn .same

theorem State.removeEntry_shifts (s : State) (c : ChanNo) (p : Pos) : KeepsShifts s (s.removeEntry c p) := by
  have silenced : KeepsShifts s
      ((s.modChannel c fun x => { x with talkers := x.talkers.filter fun e => e.pos != p }).silenceMic c p) :=
    KeepsShifts.trans .same (State.silenceMic_shifts _ c p)
  unfold State.removeEntry
  split
  · exact (silenced.trans (State.grantHead_shifts _ c)).trans (State.closeIfUnused_shifts _ c)
  · exact .same

theorem State.writeMaximum_shifts (s : State) (c : ChanNo) (n : Nat) : KeepsShifts s (s.writeMaximum c n) := by
  unfold State.writeMaximum State.lowerMaximum
  split
  · exact .modChannel (.foldl _ (fun t (e : FloorEntry) => t.silenceMic_shifts c e.pos) _ _)
  · exact KeepsShifts.trans .same (State.grantAll_shifts n _ c)

theorem State.releaseUnits_shifts (s : State) (p : Pos) (c : ChanNo) : KeepsShifts s (s.releaseUnits p c) :=
  .foldl _ (fun t u => t.releaseSelection_shifts p u) _ _

theorem State.changeTrunk_shifts (s : State) (c : ChanNo) (new : Option SlotNo) : KeepsShifts s (s.changeTrunk c new) := by
  unfold State.changeTrunk
  dsimp only
  split
  · exact .refl s
  · have left := s.leaveTrunk_shifts (s.channel c).bridge (s.channel c).trunk
    exact left.after.trans (State.claimTrunk_shifts _ c new)

/-! ### Position teardown (R178) -/

theorem State.releaseHandsets_shifts (s : State) (p : Pos) : KeepsShifts s (s.releaseHandsets p) := by
  refine KeepsShifts.trans (.foldl _ (fun t o => ?_) _ _) (State.atRestAll_shifts _ _)
  unfold State.vacateHandset
  split
  · exact .refl t
  · exact t.vacate_shifts _ o

theorem State.dropAllMonitors_shifts (s : State) (p : Pos) : KeepsShifts s (s.dropAllMonitors p) := by
  refine .foldl _ (fun t u => ?_) _ _
  split
  · exact t.dropMonitor_shifts _ _
  · exact .refl t

theorem State.dropEntries_shifts (s : State) (p : Pos) : KeepsShifts s (s.dropEntries p) :=
  .foldl _ (fun t c => t.removeEntry_shifts c p) _ _

end Sys2Proof.Machine
end

section
/-! Every step keeps the headroom law (R115, R116, R117, R122): an act ends with the floor applied to every bridge, and the acts that do not
end so leave the bridges as they are or keep the law of each. -/

set_option Elab.async false

namespace Sys2Proof.Machine

open Safety

/-! ### What keeps the law -/

/-- A change that keeps the headroom law of every bridge. -/
def KeepsLaw (s t : State) : Prop := HeadroomKept s → HeadroomKept t

theorem KeepsLaw.refl (s : State) : KeepsLaw s s := id

theorem KeepsLaw.trans {s t u : State} (h : KeepsLaw s t) (k : KeepsLaw t u) : KeepsLaw s u := fun b => k (h b)

/-- A change bridge by bridge. -/
theorem KeepsLaw.each {s t : State} (h : ∀ b, HeadroomLaw (s.bridge b) → HeadroomLaw (t.bridge b)) : KeepsLaw s t :=
  fun kept b => h b (kept b)

theorem KeepsLaw.same {s t : State} (h : t.bridges = s.bridges := by simp) : KeepsLaw s t := fun kept b => by
  simpa only [State.bridge, h] using kept b

/-- A further operation that leaves every bridge. -/
theorem KeepsLaw.after {s t u : State} (h : KeepsLaw s t) (same : u.bridges = t.bridges := by simp) : KeepsLaw s u :=
  h.trans (.same same)

/-- The floor applied after an act that keeps what the law asks in its middle (R116). -/
theorem KeepsShifts.law {s t u : State} (h : KeepsShifts s t) (settled : ∀ b, u.bridge b = (t.bridge b).settle) : KeepsLaw s u :=
  fun kept b => by rw [settled]; exact (h b (.of_law (kept b))).settle

theorem KeepsShifts.finishAct {s t before : State} {own : Option Pos} {cs : List ChanNo} (h : KeepsShifts s t) :
    KeepsLaw s (finishAct own cs before t) := h.law (finishAct_bridge own cs before t)

theorem KeepsShifts.finishMembers {s t before : State} {c : ChanNo} {cs : List ChanNo} (h : KeepsShifts s t) :
    KeepsLaw s (finishMembers c cs before t) := KeepsLaw.after h.finishAct (State.notifyChannel_bridges ..)

theorem State.teardown_law (s : State) (p : Pos) : KeepsLaw s (s.teardown p) := by
  have out := ((s.releaseHandsets_shifts p).trans (State.dropAllMonitors_shifts _ p)).trans (State.dropEntries_shifts _ p)
  exact KeepsLaw.after out.finishAct rfl

/-! ### Requests -/

theorem State.talkOn_shifts (s : State) (p : Pos) (c : ChanNo) (latched : Bool) : KeepsShifts s (s.talkOn p c latched).2 := by
  unfold State.talkOn
  dsimp only
  repeat' split
  iterate 5 exact .refl s
  · exact .same rfl
  · exact (s.openChannel_shifts c _).trans (State.addTalker_shifts _ c _)
  · exact s.addTalker_shifts c _
  · exact .same
  · exact .refl s

theorem State.privacyKey_shifts (s : State) (p : Pos) (k : Key) (on : Bool) : KeepsShifts s (s.privacyKey p k on).2 := by
  unfold State.privacyKey
  repeat' split
  iterate 5 exact .refl s
  · exact .modLine (s.dropMonitors_shifts _ _)
  · exact .same

theorem State.speakerLine_shifts (s : State) (p : Pos) (u : UnitNo) (k : Key) : KeepsShifts s (s.speakerLine p u k).2 := by
  unfold State.speakerLine
  repeat' split
  iterate 6 exact .refl s
  exact s.monitorLine_shifts p u _

theorem State.speakerChannel_shifts (s : State) (p : Pos) (u : UnitNo) (c : ChanNo) : KeepsShifts s (s.speakerChannel p u c).2 := by
  unfold State.speakerChannel
  repeat' split
  iterate 4 exact .refl s
  · exact .same rfl
  · exact s.selectChannel_shifts p u c

theorem State.releaseHandset_shifts (s : State) (p : Pos) (h : Handset) : KeepsShifts s (s.releaseHandset p h).2 := by
  unfold State.releaseHandset
  split
  · exact .refl s
  · exact s.releaseOccupant_shifts _ _

theorem State.holdHandset_shifts (s : State) (p : Pos) (h : Handset) : KeepsShifts s (s.holdHandset p h).2 := by
  unfold State.holdHandset
  repeat' split
  · exact .refl s
  · exact s.holdLine_shifts _ p
  · exact .refl s

theorem State.signalKey_shifts (s : State) (p : Pos) (k : Key) : KeepsShifts s (s.signalKey p k).2 := by
  unfold State.signalKey
  repeat' split
  iterate 3 exact .refl s
  exact .startBurst (.refl s)

theorem State.acknowledgeKey_shifts (s : State) (p : Pos) (k : Key) : KeepsShifts s (s.acknowledgeKey p k).2 := by
  unfold State.acknowledgeKey
  split
  · exact .refl s
  · exact .modLine (.refl s)

theorem State.queryKey_shifts (s : State) (p : Pos) (k : Key) : KeepsShifts s (s.queryKey p k).2 := by
  unfold State.queryKey
  split
  · exact .refl s
  · exact .same rfl

theorem State.queryChannel_shifts (s : State) (p : Pos) (c : ChanNo) : KeepsShifts s (s.queryChannel p c).2 := by
  unfold State.queryChannel
  dsimp only
  repeat' split
  · exact .refl s
  · exact .refl s
  · exact .same rfl

theorem State.speakerClear_shifts (s : State) (p : Pos) (u : UnitNo) : KeepsShifts s (s.speakerClear p u).2 := by
  unfold State.speakerClear
  split
  · exact .refl s
  · exact s.releaseSelection_shifts p u

theorem State.talkOff_shifts (s : State) (p : Pos) (c : ChanNo) : KeepsShifts s (s.talkOff p c).2 := by
  unfold State.talkOff
  split
  · exact .refl s
  · exact s.removeEntry_shifts c p

theorem State.decideOwner_shifts (s : State) (p : Pos) (t : TurretRequest) : KeepsShifts s (s.decideOwner p t).2 := by
  cases t with
  | seize k h => exact s.seizeKey_shifts p k h
  | retrieve k h => exact s.seizeKey_shifts p k h
  | release h => exact s.releaseHandset_shifts p h
  | hold h => exact s.holdHandset_shifts p h
  | privacy k on => exact s.privacyKey_shifts p k on
  | signal k => exact s.signalKey_shifts p k
  | acknowledge k => exact s.acknowledgeKey_shifts p k
  | queryLine k => exact s.queryKey_shifts p k
  | queryChannel c => exact s.queryChannel_shifts p c
  | speakerLine u k => exact s.speakerLine_shifts p u k
  | speakerChannel u c => exact s.speakerChannel_shifts p u c
  | speakerClear u => exact s.speakerClear_shifts p u
  | talkOn c latched => exact s.talkOn_shifts p c latched
  | talkOff c => exact s.talkOff_shifts p c

theorem State.serveRequest_law (s : State) (p : Pos) (r : Request) : KeepsLaw s (s.serveRequest p r) := by
  have taken (t : State) (h : s.takeRequest p r = some t) : KeepsLaw s t := by
    have arrives : (s.arrive p r).bridges = s.bridges := by
      unfold State.arrive
      split <;> rfl
    unfold State.takeRequest at h
    dsimp only at h
    split at h
    · cases h
      exact .same arrives
    · cases h
  unfold State.serveRequest
  split
  · exact .refl s
  · rename_i t ht
    refine KeepsLaw.after ((taken t ht).trans ?_) rfl
    unfold State.decide
    repeat' split
    · exact .refl t
    · exact .refl t
    · exact (t.decideOwner_shifts p _).finishAct

/-! ### Commands of the system controller -/

/-- What a decision of a command leaves keeps the law. -/
abbrev DecisionKeepsLaw (s : State) (d : Decision) : Prop := KeepsLaw s d.2

theorem refuse_law (r : Result) (s : State) : DecisionKeepsLaw s (refuse r s) := KeepsLaw.refl s

theorem State.routeFromPrimary_bridges (s : State) (l : LineNo) (sl : Option SlotNo) :
    (s.routeFromPrimary l sl).bridges = s.bridges := by
  unfold State.routeFromPrimary
  repeat' split
  all_goals simp

theorem State.createLine_law (s : State) (w : CmdWords) : DecisionKeepsLaw s (s.createLine w) := by
  unfold State.createLine
  dsimp only
  repeat' split
  iterate 4 exact refuse_law _ s
  · exact KeepsShifts.finishAct (.same (by simp [State.routeFromPrimary_bridges]))
  · exact refuse_law _ s

theorem State.changeAlternate_bridges (s : State) (l : LineNo) (new : Option SlotNo) :
    (s.changeAlternate l new).bridges = s.bridges := by
  unfold State.changeAlternate
  dsimp only
  split <;> simp

theorem State.changeSlots_shifts (s : State) (l : LineNo) (primary alternate : Option SlotNo) :
    KeepsShifts s (s.changeSlots l primary alternate) := by
  unfold State.changeSlots
  dsimp only
  split
  · exact .same (s.changeAlternate_bridges l alternate)
  · exact KeepsShifts.trans (.same (by simp [State.routeFromPrimary_bridges, State.changeAlternate_bridges]))
      (State.serveFreed_shifts _ _)

theorem State.setLineCmd_law (s : State) (w : CmdWords) : DecisionKeepsLaw s (s.setLineCmd w) := by
  unfold State.setLineCmd
  dsimp only
  repeat' split
  iterate 6 exact refuse_law _ s
  rename_i l _ _ _ _ _ _
  exact ((KeepsShifts.trans .same (State.passMode_shifts (s.modLine l fun y => y.writeSettings w) _ _)).trans
    (State.changeSlots_shifts _ _ _ _)).finishAct

theorem State.retireLine_law (s : State) (w : CmdWords) : DecisionKeepsLaw s (s.retireLine w) := by
  unfold State.retireLine
  dsimp only
  repeat' split
  iterate 3 exact refuse_law _ s
  rename_i l _ _ _
  have live : KeepsShifts s (s.retireLive l) := by
    unfold State.retireLive
    split
    · exact .same
    · exact .modLine (s.takeDown_shifts l)
    · exact .modLine (s.takeDown_shifts l)
    · exact .refl s
  exact KeepsLaw.after (KeepsShifts.finishAct (live.after.trans (State.serveFreed_shifts _ _))) rfl

theorem State.addAppearance_law (s : State) (w : CmdWords) : DecisionKeepsLaw s (s.addAppearance w) := by
  unfold State.addAppearance
  dsimp only
  repeat' split
  all_goals exact KeepsLaw.same (by simp [refuse])

theorem State.dropAppearance_law (s : State) (w : CmdWords) : DecisionKeepsLaw s (s.dropAppearance w) := by
  unfold State.dropAppearance
  split
  · rename_i l p _ _
    split
    · exact refuse_law _ s
    · split
      · exact refuse_law _ s
      · rename_i a _
        have dropped : KeepsShifts s ((s.leavePosition l p).removeAppearance l a) :=
          (s.leavePosition_shifts l p).after (by rw [State.removeAppearance_frame])
        exact KeepsLaw.after dropped.finishAct rfl
  · exact refuse_law _ s

theorem State.forceRelease_law (s : State) (w : CmdWords) : DecisionKeepsLaw s (s.forceRelease w) := by
  unfold State.forceRelease
  repeat' split
  · exact refuse_law _ s
  · exact refuse_law _ s
  · exact (s.returnToRest_shifts _).finishAct
  · exact (s.returnToRest_shifts _).finishAct
  · exact (s.alertToRest_shifts _ false).finishAct
  · exact .refl s

/-- A new channel holds no bridge, so that its trunk leg joins none (R63). -/
theorem State.createChannel_law (s : State) (w : CmdWords) : DecisionKeepsLaw s (s.createChannel w) := by
  unfold State.createChannel
  dsimp only
  repeat' split
  iterate 3 exact refuse_law _ s
  · rename_i c maximum m trunk _ _ _ _ _ _ _
    have unbridged (x : Channel) (h : x.bridge = none) :
        (((s.setChannel c x).namePrimary trunk (.channel c)).channel c).bridge = none := by simp [h]
    refine KeepsLaw.same ?_
    dsimp only
    rw [State.claimTrunk_closed (unbridged _ rfl)]
    split
    · simp
    · split <;> simp
  · exact refuse_law _ s

theorem State.setChannelCmd_law (s : State) (w : CmdWords) : DecisionKeepsLaw s (s.setChannelCmd w) := by
  unfold State.setChannelCmd
  dsimp only
  split
  · exact refuse_law _ s
  · rename_i c _
    generalize (if w.maskBit 8 then channelKindArg (bit w.w2 0) else (s.channel c).kind) = kind
    repeat' split
    iterate 4 exact refuse_law _ s
    exact (((KeepsShifts.trans .same (State.passMode_shifts (s.modChannel c fun y => y.writeSettings w) _ _)).trans
      (State.writeMaximum_shifts _ c _)).trans (State.changeTrunk_shifts _ c _)).finishAct

/-- A retired channel frees its bridge: FREE bridges keep the law, and no other changes (R70). -/
theorem State.retireChannel_law (s : State) (w : CmdWords) : DecisionKeepsLaw s (s.retireChannel w) := by
  have freed (t : State) (b : Option BridgeNo) : KeepsLaw t (t.freeOwn b) := by
    cases b with
    | none => exact .refl t
    | some n =>
      refine .each fun b h => ?_
      rw [State.freeOwn, State.bridge_freeBridge]
      split
      · decide
      · exact h
  have tells (ps : List Pos) (c : ChanNo) (t : State) :
      (ps.foldl (fun t p => t.enqueueAt p ⟨.channel c, .channelState, .vacant⟩) t).bridges = t.bridges :=
    foldl_keeps State.bridges _ (fun _ _ => by simp) ..
  unfold State.retireChannel
  split
  · exact refuse_law _ s
  · rename_i c _
    repeat' split
    iterate 2 exact refuse_law _ s
    have down : KeepsLaw s (s.takeDownChannel c) := by
      unfold State.takeDownChannel
      exact KeepsLaw.after (KeepsLaw.trans (t := s.cancelTimers ((s.channel c).talkers.map fun e => .silence c e.pos)) .same
        (freed _ (s.channel c).bridge))
    exact KeepsLaw.after (down.after (tells _ c _)) rfl

theorem State.addMember_law (s : State) (w : CmdWords) : DecisionKeepsLaw s (s.addMember w) := by
  unfold State.addMember
  dsimp only
  repeat' split
  all_goals try exact refuse_law _ s
  · exact .same rfl
  all_goals exact KeepsShifts.finishMembers (.modChannel (s.selectChannel_shifts _ _ _))

theorem State.dropMember_law (s : State) (w : CmdWords) : DecisionKeepsLaw s (s.dropMember w) := by
  unfold State.dropMember
  dsimp only
  repeat' split
  iterate 2 exact refuse_law _ s
  · exact KeepsShifts.finishMembers (.modChannel ((s.removeEntry_shifts _ _).trans (State.releaseUnits_shifts _ _ _)))
  · exact refuse_law _ s

theorem State.permit_law (s : State) (w : CmdWords) : DecisionKeepsLaw s (s.permit w) := by
  unfold State.permit
  dsimp only
  repeat' split
  iterate 2 exact refuse_law _ s
  · exact KeepsShifts.finishAct .same
  · exact KeepsShifts.finishAct .same
  · exact refuse_law _ s

theorem State.unpermit_law (s : State) (w : CmdWords) : DecisionKeepsLaw s (s.unpermit w) := by
  unfold State.unpermit
  dsimp only
  repeat' split
  iterate 2 exact refuse_law _ s
  · exact KeepsShifts.finishAct (.modChannel (s.removeEntry_shifts _ _))
  · exact refuse_law _ s
  · exact KeepsShifts.finishAct (.modChannel (s.releaseUnits_shifts _ _))
  · exact refuse_law _ s
  · exact refuse_law _ s

theorem State.forceUntalk_law (s : State) (w : CmdWords) : DecisionKeepsLaw s (s.forceUntalk w) := by
  unfold State.forceUntalk
  repeat' split
  · exact refuse_law _ s
  · exact refuse_law _ s
  · exact (s.removeEntry_shifts _ _).finishAct
  · exact refuse_law _ s

/-- The settings of legs, slots, generators and MP leave the bridges. -/
theorem State.settings_law (s : State) (w : CmdWords) :
    DecisionKeepsLaw s (s.setLegCmd w) ∧ DecisionKeepsLaw s (s.setSlotCmd w) ∧ DecisionKeepsLaw s (s.setCadence w) ∧
      DecisionKeepsLaw s (s.setTiming w) ∧ DecisionKeepsLaw s s.startFloorReset := by
  unfold State.setLegCmd State.setSlotCmd State.setCadence State.setTiming State.startFloorReset State.writePolarity
  refine ⟨?_, ?_, ?_, ?_, ?_⟩
  all_goals
    dsimp only
    repeat' split
    all_goals exact KeepsLaw.same (by simp [refuse])

theorem State.setPosition_law (s : State) (w : CmdWords) : DecisionKeepsLaw s (s.setPosition w) := by
  have disabled (t : State) (p : Pos) : KeepsLaw t (t.disableLink p) := by
    unfold State.disableLink
    split
    · exact .refl t
    all_goals exact (t.teardown_law p).after
  unfold State.setPosition
  dsimp only
  split
  · exact refuse_law _ s
  · rename_i p _
    split
    · exact refuse_law _ s
    · have switched : KeepsLaw s (if w.maskBit 9 then
          s.modLink p fun x => { x with switchAction := if w.w3 = 1#16 then .hold else .release } else s) := by
        split
        · exact .same rfl
        · exact .refl s
      generalize (if w.maskBit 9 then
        s.modLink p fun x => { x with switchAction := if w.w3 = 1#16 then .hold else .release } else s) = t at switched
      split
      · split
        · exact switched.after rfl
        · exact switched.trans (disabled t p)
      · exact switched

theorem State.clearMarks_law (s : State) (w : CmdWords) : DecisionKeepsLaw s (s.clearMarks w) := by
  unfold State.clearMarks
  repeat' split
  · exact refuse_law _ s
  · rename_i b _
    refine .each fun b' h => ?_
    rw [State.modBridge, State.bridge_setBridge]
    split
    · rename_i e; subst e; exact h
    · exact h
  · exact refuse_law _ s
  · exact .same rfl
  · exact refuse_law _ s
  · exact refuse_law _ s
  · exact KeepsShifts.finishAct .same
  · exact refuse_law _ s

theorem State.decideCommand_law (s : State) (code : Byte) (w : CmdWords) : DecisionKeepsLaw s (s.decideCommand code w) := by
  obtain ⟨leg, slot, cadence, timing, reset⟩ := s.settings_law w
  unfold State.decideCommand
  split
  · exact s.createLine_law w
  · exact s.setLineCmd_law w
  · exact s.retireLine_law w
  · exact s.addAppearance_law w
  · exact s.dropAppearance_law w
  · exact s.forceRelease_law w
  · exact s.createChannel_law w
  · exact s.setChannelCmd_law w
  · exact s.retireChannel_law w
  · exact s.addMember_law w
  · exact s.dropMember_law w
  · exact s.permit_law w
  · exact s.unpermit_law w
  · exact s.forceUntalk_law w
  · exact leg
  · exact slot
  · exact cadence
  · exact s.setPosition_law w
  · exact timing
  · exact s.clearMarks_law w
  · exact reset
  · exact refuse_law _ s

theorem State.go_law (s : State) : KeepsLaw s s.go := by
  have decided := s.startSlot.decideCommand_law (bufferCode s.mp.buffer) (bufferWords s.mp.buffer)
  unfold State.go
  split
  · exact .same rfl
  all_goals
    refine KeepsLaw.trans (t := s.startSlot) (.same rfl) ?_
    cases e : s.startSlot.decideCommand (bufferCode s.mp.buffer) (bufferWords s.mp.buffer) with
    | mk r t =>
      rw [e] at decided
      cases r with
      | none => exact decided
      | some r => exact decided

theorem State.command_law (s : State) (code : Byte) (w : CmdWords) : KeepsLaw s (s.command code w) :=
  KeepsLaw.trans (t := s.loadCommand code w) (.same rfl) (State.go_law _)

/-! ### The later acts of FLOOR-RESET (R193) and the sweeps -/

/-- Every bridge that a table of bridges picks is freed (R101). -/
theorem State.freeBridges_shifts (s : State) (gone : Bridge → Bool) : KeepsShifts s (s.freeBridges gone) := fun b h => by
  have freed : (s.freeBridges gone).bridge b = if gone (s.bridge b) then Bridge.free else s.bridge b := by
    simp only [State.freeBridges, State.bridge, Fin.getElem_fin, getElem_tabMap]
    rfl
  rw [freed]
  split
  · exact .freed
  · exact h

theorem State.resetLines_shifts (s : State) : KeepsShifts s s.resetLines := (s.freeBridges_shifts _).after rfl

theorem State.resetChannels_shifts (s : State) : KeepsShifts s s.resetChannels := (s.freeBridges_shifts _).after rfl

theorem State.resetRoutes_shifts (s : State) : KeepsShifts s s.resetRoutes := by
  have reclaims (t : State) (l : LineNo) (sl : Option SlotNo) : KeepsShifts t (t.reclaimRoute l sl) := by
    unfold State.reclaimRoute
    repeat' split
    · exact .refl t
    · exact .same
    · exact .refl t
  unfold State.resetRoutes
  dsimp only
  generalize started : State.restartSlotTimers _ = s2
  have kept2 : KeepsShifts s s2 := .same (by subst started; rfl)
  have kept3 := kept2.trans (.foldl State.reclaimTrunk
    (fun t c => KeepsShifts.trans .same (State.claimTrunk_shifts _ c _)) s2.channelsWithTrunk s2)
  generalize s2.channelsWithTrunk.foldl State.reclaimTrunk s2 = s3 at kept3
  have kept4 := kept3.trans (.foldl _ (fun t l => reclaims t l (t.line l).primary) s3.linesWithPrimary s3)
  generalize s3.linesWithPrimary.foldl _ s3 = s4 at kept4
  have kept5 := kept4.trans (.foldl _ (fun t l => reclaims t l (t.line l).alternate) s4.linesWithAlternate s4)
  exact kept5.after rfl

theorem State.resetGroups_shifts (s : State) : KeepsShifts s s.resetGroups := by
  refine .foldl _ (fun t c => ?_) _ _
  unfold State.reopenGroup
  split
  · exact .refl t
  · exact (t.openChannel_shifts c _).trans (.foldl _ (fun u m => u.listen_shifts _ _) _ _)

theorem KeepsShifts.setJob {s t : State} {j : Job} (h : KeepsShifts s t) : KeepsShifts s (t.setJob j) := h.after rfl

/-- An act of FLOOR-RESET ends with the floor applied (R116). -/
theorem State.resetAct_law (s : State) (a : ResetAct) (act : State → State) (h : KeepsShifts s (act s)) :
    KeepsLaw s (s.resetAct a act) := by
  unfold State.resetAct
  split
  · exact h.law (State.bridge_settleBridges _)
  · exact .refl s

/-- An act of FLOOR-RESET that is followed by another one. -/
theorem State.resetAct_next_law (s : State) (a b : ResetAct) (act : State → State) (h : KeepsShifts s (act s)) :
    KeepsLaw s (s.resetAct a fun t => (act t).setJob (.floorReset b)) := s.resetAct_law a _ h.setJob

theorem State.refreshAll_bridges (s : State) : s.refreshAll.bridges = s.bridges :=
  foldl_keeps State.bridges _ (fun _ _ => by rfl) ..

theorem State.completion_law (s : State) : KeepsLaw s (s.resetAct .completion fun t => t.refreshAll.complete .done) :=
  have completes (t : State) : (t.complete .done).bridges = t.bridges := rfl
  s.resetAct_law .completion _ (KeepsShifts.after (t := s.refreshAll) (.same s.refreshAll_bridges) (completes _))

theorem State.lineVisit_bridges (s : State) : s.lineVisit.bridges = s.bridges := by
  unfold State.lineVisit
  dsimp only
  repeat' split
  all_goals rfl

theorem State.channelVisit_bridges (s : State) : s.channelVisit.bridges = s.bridges := by
  have cleared (us : List UnitNo) (p : Pos) : (us.foldl (fun t u => t.setSelection p u .none) s).bridges = s.bridges :=
    foldl_keeps State.bridges _ (fun _ _ => by rfl) ..
  unfold State.channelVisit
  dsimp only
  repeat' split
  · exact cleared _ _
  · exact cleared _ _
  · rfl

theorem State.resetAll_law (s : State) : KeepsLaw s s.resetAll := fun _ b => by
  have free : s.resetAll.bridge b = Bridge.free := by simp [State.resetAll, State.bridge, State.reset]
  rw [free]
  decide

/-! ### Expiries -/

theorem State.takeExpiry_law (s : State) (t : TimerId) (stands : Bool) (act : State → State)
    (h : ∀ u, KeepsLaw u (act u)) : KeepsLaw s (s.takeExpiry t stands act) := by
  unfold State.takeExpiry
  repeat' split
  · exact .refl s
  · rename_i e _ _
    exact KeepsLaw.trans (t := { s with inFlight := s.inFlight.erase e }) (.same rfl) (h _)
  · exact .same rfl

theorem State.recall_law (s : State) (l : LineNo) : KeepsLaw s (s.recall l) := by
  unfold State.recall
  split
  · exact .refl s
  · exact .same (foldl_keeps State.bridges _ (fun _ _ => by rfl) ..)

theorem State.deliverRing_law (s : State) (sl : SlotNo) : KeepsLaw s (s.deliverRing sl) := by
  unfold State.deliverRing
  split
  · exact KeepsShifts.finishAct .same
  · exact .refl s

theorem State.confirmFault_law (s : State) (sl : SlotNo) : KeepsLaw s (s.confirmFault sl) := by
  unfold State.confirmFault
  dsimp only
  split
  · exact .same rfl
  · exact KeepsLaw.after (KeepsShifts.finishAct (KeepsShifts.trans .same (State.lineFault_shifts _ _ _))) rfl
  · exact KeepsLaw.after (KeepsShifts.finishAct (.leaveOwn .same)) rfl

theorem State.completeRestore_law (s : State) (sl : SlotNo) : KeepsLaw s (s.completeRestore sl) :=
  KeepsLaw.after (KeepsShifts.finishAct (KeepsShifts.trans .same (State.serveFreed_shifts _ _))) rfl

/-! ### Frames and block ends -/

/-- The adjustment of a block end keeps the law (R122). -/
theorem HeadroomLaw.adjust {b : Bridge} (used : b.state = .inUse) (auto : b.headroom.kind = .auto) (h : HeadroomLaw b) :
    HeadroomLaw b.adjust := by
  obtain ⟨floor, shift, release, -⟩ := h.1 used
  have notFixed {P : Prop} (e : b.headroom.kind = .fixed) : P := by rw [auto] at e; cases e
  have notFree {P : Prop} (e : b.state = .free) : P := by rw [used] at e; cases e
  have blocks : Config.releaseBlocks = 16 := rfl
  unfold Bridge.adjust Bridge.count
  dsimp only
  repeat' split
  · exact ⟨fun _ => ⟨by simp only; omega, by simp only; omega, Nat.zero_le _, notFixed⟩, notFree⟩
  · exact ⟨fun _ => ⟨by simp only; omega, by simp only; omega, Nat.zero_le _, notFixed⟩, notFree⟩
  · exact ⟨fun _ => ⟨floor, shift, Nat.min_le_left Config.releaseBlocks _, notFixed⟩, notFree⟩
  · exact ⟨fun _ => ⟨floor, shift, Nat.zero_le _, notFixed⟩, notFree⟩

theorem HeadroomLaw.blockEnd {b : Bridge} (h : HeadroomLaw b) : HeadroomLaw b.blockEnd := by
  unfold Bridge.blockEnd
  split
  · rename_i evaluated
    dsimp only
    split
    · exact h
    · rename_i auto
      exact HeadroomLaw.adjust evaluated.1 auto h
  · exact h

theorem State.blockEnd_law (s : State) : KeepsLaw s s.blockEnd := by
  unfold State.blockEnd
  split
  · refine .each fun b h => ?_
    simpa [State.bridge] using HeadroomLaw.blockEnd h
  · exact .refl s

theorem State.sampleFrame_law (s : State) (trunk : List (SlotNo × Sample)) : KeepsLaw s (s.sampleFrame trunk) := by
  have mixed (t : State) : KeepsLaw t (t.mixFrame trunk) := .each fun b h => by
    have framed : (t.mixFrame trunk).bridge b = t.frameBridge trunk b (t.bridge b) := by
      unfold State.mixFrame
      dsimp only
      split <;> simp [State.bridge, State.post]
    rw [framed]
    unfold State.frameBridge
    split <;> exact h
  exact (s.blockEnd_law.trans (mixed _)).after rfl

theorem State.takeReport_law (s : State) (c : ChanNo) : KeepsLaw s (s.takeReport c) := by
  unfold State.takeReport
  split
  · exact .refl s
  · exact .same (foldl_keeps State.bridges _ (fun _ _ => by simp) ..)

/-! ### Links, inputs and the port -/

theorem State.upstream_bridges (s : State) (p : Pos) (bytes : List Byte) : (s.upstream p bytes).bridges = s.bridges := by
  have assembled (t : State) (b : Byte) : (t.assemble p b).bridges = t.bridges := by
    unfold State.assemble State.completeRequest State.loseMessage
    dsimp only
    repeat' split
    all_goals rfl
  unfold State.upstream
  repeat' split
  · rfl
  · unfold State.takeHunt State.lockLink
    dsimp only
    repeat' split
    all_goals rfl
  · exact assembled _ _
  · unfold State.takeBad State.loseLock
    dsimp only
    repeat' split
    all_goals rfl

theorem State.sendFrame_bridges (s : State) (p : Pos) : (s.sendFrame p).bridges = s.bridges := by
  unfold State.sendFrame
  split <;> rfl

theorem State.setRing_bridges (s : State) (sl : SlotNo) (high : Bool) : (s.setRing sl high).bridges = s.bridges := by
  unfold State.setRing
  dsimp only
  repeat' split
  all_goals rfl

theorem State.setAlive_bridges (s : State) (sl : SlotNo) (present : Bool) : (s.setAlive sl present).bridges = s.bridges := by
  unfold State.setAlive
  dsimp only
  repeat' split
  all_goals rfl

theorem State.crossRecord_bridges (s : State) (words : Nat) : (s.crossRecord words).bridges = s.bridges := by
  unfold State.crossRecord
  repeat' split
  all_goals rfl

theorem State.controlWrite_law (s : State) (offset : Nat) (d : Word) : KeepsLaw s (s.controlWrite offset d) := by
  unfold State.controlWrite
  repeat' split
  · exact .same rfl
  · exact .same rfl
  · exact KeepsLaw.trans (t := s.quietPort) (.same rfl) (State.go_law _)
  · exact .same rfl
  · exact .same rfl
  · exact .same rfl
  · exact .same rfl

/-! ### The rows of the table -/

theorem exec_law (i : Instr) (s : State) : ∃ u, exec i s = .next u ∧ KeepsLaw s u := by
  cases i with
  | seize p f | retrieve p f | release p f | hold p f | privacy p f | signal p f | acknowledge p f | queryLine p f
  | queryChannel p f | speakerLine p f | speakerChannel p f | speakerClear p f | talkOn p f | talkOff p f
  | unknownRequest p code f => exact ⟨_, rfl, s.serveRequest_law p _⟩
  | createLine w | setLine w | retireLine w | addAppearance w | dropAppearance w | forceRelease w | createChannel w
  | setChannel w | retireChannel w | addMember w | dropMember w | permit w | unpermit w | forceUntalk w | setLeg w | setSlot w
  | setCadence w | setPosition w | setTiming w | clearMarks w | floorReset w | unknownCommand code w =>
    exact ⟨_, rfl, s.command_law _ w⟩
  | cmdOverrun => exact ⟨_, rfl, KeepsLaw.trans (t := s.quietPort) (.same rfl) (State.go_law _)⟩
  | floorResetLines => exact ⟨_, rfl, s.resetAct_next_law .lines .channels _ s.resetLines_shifts⟩
  | floorResetChannels => exact ⟨_, rfl, s.resetAct_next_law .channels .routes _ s.resetChannels_shifts⟩
  | floorResetRoutes => exact ⟨_, rfl, s.resetAct_next_law .routes .groups _ s.resetRoutes_shifts⟩
  | floorResetGroups => exact ⟨_, rfl, s.resetAct_next_law .groups .completion _ s.resetGroups_shifts⟩
  | floorResetCompletion => exact ⟨_, rfl, s.completion_law⟩
  | lineSweepVisit => exact ⟨_, rfl, .same s.lineVisit_bridges⟩
  | channelSweepVisit => exact ⟨_, rfl, .same s.channelVisit_bridges⟩
  | deadlineExpiry t => exact ⟨_, rfl, .same (by unfold State.expire; split <;> rfl)⟩
  | ringTimeoutExpiry l => exact ⟨_, rfl, s.takeExpiry_law _ _ _ fun t => (t.alertToRest_shifts l true).finishAct⟩
  | holdRecallExpiry l => exact ⟨_, rfl, s.takeExpiry_law _ _ _ fun t => t.recall_law l⟩
  | burstExpiry l => exact ⟨_, rfl, s.takeExpiry_law _ _ _ fun t => KeepsShifts.finishAct .same⟩
  | silenceExpiry c p => exact ⟨_, rfl, s.takeExpiry_law _ _ _ fun t => (t.removeEntry_shifts c p).finishAct⟩
  | graceExpiry p => exact ⟨_, rfl, s.takeExpiry_law _ _ _ fun t => (t.teardown_law p).after rfl⟩
  | qualifyExpiry sl => exact ⟨_, rfl, s.takeExpiry_law _ _ _ fun t => t.deliverRing_law sl⟩
  | faultConfirmExpiry sl => exact ⟨_, rfl, s.takeExpiry_law _ _ _ fun t => t.confirmFault_law sl⟩
  | restoreExpiry sl => exact ⟨_, rfl, s.takeExpiry_law _ _ _ fun t => t.completeRestore_law sl⟩
  | cadencePhaseEnd g => exact ⟨_, rfl, .same rfl⟩
  | mixBlockEnd => exact ⟨_, rfl, s.blockEnd_law⟩
  | activityReport c => exact ⟨_, rfl, s.takeReport_law c⟩
  | sampleFrame trunk => exact ⟨_, rfl, s.sampleFrame_law trunk⟩
  | huntFrame p bytes | goodFrame p bytes | badFrame p bytes => exact ⟨_, rfl, .same (s.upstream_bridges p bytes)⟩
  | downstreamFrame p => exact ⟨_, rfl, .same (s.sendFrame_bridges p)⟩
  | ringDetectChange sl high => exact ⟨_, rfl, .same (s.setRing_bridges sl high)⟩
  | aliveChange sl present => exact ⟨_, rfl, .same (s.setAlive_bridges sl present)⟩
  | resetInput => exact ⟨_, rfl, s.resetAll_law⟩
  | recordRead w0 w1 w2 words waited => exact ⟨_, rfl, .same rfl⟩
  | linearCrossing words => exact ⟨_, rfl, .same (s.crossRecord_bridges words)⟩
  | eventFlagsClear d => exact ⟨_, rfl, s.controlWrite_law 6 d⟩
  | eventEnablesWrite d => exact ⟨_, rfl, s.controlWrite_law 7 d⟩
  | commandBufferWrite n d => exact ⟨_, rfl, s.controlWrite_law (8 + n.val) d⟩
  | ignoredWrite w0 w1 w2 d =>
    refine ⟨_, rfl, ?_⟩
    split
    · exact s.controlWrite_law _ d
    · exact .same rfl

end Sys2Proof.Machine

namespace Sys2Proof.Proofs

open Machine Safety

/-- Settles O4: each row of the table keeps the law (`exec_law`). -/
theorem stepKeepsHeadroomLaw : Obligations.StepKeepsHeadroomLaw := by
  intro s u kept stepped
  unfold step at stepped
  split at stepped
  · cases stepped; exact kept
  · rename_i i rest _
    obtain ⟨t, answers, law⟩ := exec_law i { s with pending := rest }
    cases answers.symm.trans stepped
    exact law kept

end Sys2Proof.Proofs
end
section
/-! Rounding and saturation of an output (R111, R112, R113). -/

set_option Elab.async false

namespace Sys2Proof.Machine

/-- Half of the divisor added before the floor division leaves a remainder of at most a half, the exact half only below. -/
theorem floor_rounds_half_up (x half : Int) (pos : 0 < half) :
    -(2 * half) ≤ 2 * (x - (x + half) / (2 * half) * (2 * half)) ∧ 2 * (x - (x + half) / (2 * half) * (2 * half)) < 2 * half := by
  have split := Int.mul_ediv_add_emod (x + half) (2 * half)
  have least := Int.emod_nonneg (x + half) (b := 2 * half) (by omega)
  have most := Int.emod_lt_of_pos (x + half) (b := 2 * half) (by omega)
  rw [mul_comm (2 * half)] at split
  omega

theorem shiftDown_rounds (r : Int) (h : Nat) :
    -(2 ^ (7 + h) : Int) ≤ 2 * (r - shiftDown r h * 2 ^ (7 + h)) ∧ 2 * (r - shiftDown r h * 2 ^ (7 + h)) < 2 ^ (7 + h) := by
  have double : (2 ^ (7 + h) : Int) = 2 * 2 ^ (6 + h) := by rw [← pow_succ', show 7 + h = 6 + h + 1 by omega]
  rw [shiftDown, double]
  exact floor_rounds_half_up r (2 ^ (6 + h)) (by positivity)

theorem scale_rounds (y : Int) (v : Nat) : -128 ≤ 2 * (y * v - scale y v * 128) ∧ 2 * (y * v - scale y v * 128) < 128 :=
  floor_rounds_half_up (y * v) 64 (by omega)

theorem scale_full (y : Int) : scale y 128 = y := by
  unfold scale
  omega

theorem scale_zero (y : Int) : scale y 0 = 0 := by
  unfold scale
  omega

theorem saturate_of_gt {x : Int} (h : 32767 < x) : saturate x = 32767 := if_pos h

theorem saturate_of_lt {x : Int} (h : x < -32768) : saturate x = -32768 := by
  rw [saturate, if_neg (by omega), if_pos h]

theorem saturate_of_mem {x : Int} (least : -32768 ≤ x) (most : x ≤ 32767) : saturate x = x := by
  rw [saturate, if_neg (by omega), if_neg (by omega)]

theorem saturate_mem (x : Int) : -32768 ≤ saturate x ∧ saturate x ≤ 32767 := by
  unfold saturate
  split
  · omega
  · split <;> omega

end Sys2Proof.Machine

namespace Sys2Proof.Proofs

open Machine

/-- Settles O50: the shift and the volume step are floor divisions after half the divisor is added (`floor_rounds_half_up`). -/
theorem scalingRoundsHalvesUp : Obligations.ScalingRoundsHalvesUp :=
  ⟨shiftDown_rounds, scale_rounds, fun y => ⟨scale_full y, scale_zero y⟩,
    fun x => ⟨saturate_mem x, saturate_of_mem, saturate_of_gt, saturate_of_lt⟩⟩

end Sys2Proof.Proofs
end
section
/-! TALK-OFF and FORCE-UNTALK (R84, R86): the answer of a TALK-OFF, whose position is told as its own, and the refusals of both. -/

set_option Elab.async false

namespace Sys2Proof.Machine

open Safety

/-! ### The state after the answer of a TALK-OFF -/

/-- The state after a TALK-OFF of position `p` on channel `c`, decided as `r` with `v` the state before the indications of the act. -/
def answeredOff (s : State) (p : Pos) (c : ChanNo) (r : AnswerResult) (v : State) : State :=
  (finishAct (some p) [c] (taken s p) v).answer p ⟨0x0E#8, r⟩

/-- Whom the act tells, and as whose, changes the links alone. -/
theorem answeredOff_eq (s : State) (p : Pos) (c : ChanNo) (r : AnswerResult) (v : State) :
    answeredOff s p c r v = { answered s p 0x0E#8 r v with links := (answeredOff s p c r v).links } := by
  unfold answeredOff
  exact State.eq_of_fields (bridges := by simp [finishAct_bridges])

section
variable (s : State) (p : Pos) (c : ChanNo) (r : AnswerResult) (v : State)

@[simp] theorem answeredOff_lines : (answeredOff s p c r v).lines = v.lines := by rw [answeredOff_eq]; simp
@[simp] theorem answeredOff_channels : (answeredOff s p c r v).channels = v.channels := by rw [answeredOff_eq]; simp
@[simp] theorem answeredOff_selections : (answeredOff s p c r v).selections = v.selections := by rw [answeredOff_eq]; simp
@[simp] theorem answeredOff_channel (d : ChanNo) : (answeredOff s p c r v).channel d = v.channel d := by
  simp only [State.channel, answeredOff_channels]
@[simp] theorem answeredOff_bridge (b : BridgeNo) : (answeredOff s p c r v).bridge b = (v.bridge b).settle := by
  rw [answeredOff_eq]; exact answered_bridge s p 0x0E#8 r v b
@[simp] theorem answeredOff_leg (g : LegNo) : (answeredOff s p c r v).leg g = v.leg g := by
  rw [answeredOff_eq]; exact answered_leg s p 0x0E#8 r v g
@[simp] theorem answeredOff_timer (id : TimerId) : (answeredOff s p c r v).timer id = v.timer id := by
  rw [answeredOff_eq]; exact answered_timer s p 0x0E#8 r v id

end

theorem exec_talkOff {s : State} {p : Pos} {c : ChanNo} {r : AnswerResult} {v : State}
    (ready : Ready s p (TurretRequest.talkOff c).message) (running : s.resetting = false)
    (decided : (taken s p).talkOff p c = (r, v)) :
    exec ((TurretRequest.talkOff c).command p) s = .next (answeredOff s p c r v) := by
  have served : s.serveRequest p (TurretRequest.talkOff c).message = answeredOff s p c r v := by
    have owner : (taken s p).decideOwner p (.talkOff c) = (r, v) := decided
    rw [s.serveRequest_ready p _ ready, State.decide_owner (taken s p) p _ _ running (decode_message (.talkOff c)), owner]
    rfl
  exact congrArg Host.Outcome.next served

theorem answeredOff_answered {s v : State} {p : Pos} (c : ChanNo) (r : AnswerResult) (same : SameButIndications (taken s p) v)
    (pointer : v.pointer = p + 1 := by simp) : Answered s (answeredOff s p c r v) p ⟨0x0E#8, r⟩ :=
  answered_of_same s _ p _ (by simp [pointer]) fun q => (finishAct_same (some p) [c] (taken s p) v q).trans (same q)

theorem answeredOff_indications {s v : State} {p : Pos} (c : ChanNo) (r : AnswerResult) (links : v.links = (taken s p).links)
    (q : Pos) :
    ((answeredOff s p c r v).link q).indications = (told (some p) [c] s (answeredOff s p c r v) q).indications := by
  have link : v.link q = (taken s p).link q := by simp only [State.link, links]
  have act : ((answeredOff s p c r v).link q).indications = ((finishAct (some p) [c] (taken s p) v).link q).indications := by
    rw [answeredOff, State.link_answer]
    split
    · rename_i h; subst h; rfl
    · rfl
  have shown : told (some p) [c] (taken s p) v q = told (some p) [c] (taken s p) (answeredOff s p c r v) q :=
    told_congr (s := taken s p) {} ⟨by simp, by simp, by simp⟩ rfl _ _
  rw [act, finishAct_link (some p) [c] (taken s p) v q link, shown, told_taken]

theorem answeredOff_toldChannel {s v : State} {p : Pos} {c : ChanNo} (r : AnswerResult) (lines : v.lines = s.lines)
    (links : v.links = (taken s p).links) : ToldChannel (some p) s (answeredOff s p c r v) c := fun q => by
  rw [answeredOff_indications c r links, told, List.foldl_cons, List.foldl_nil,
    toldLines_of_lines (by simp [lines])]

/-- A TALK-OFF that changes nothing. -/
theorem answeredOff_unmoved (s : State) (p : Pos) (c : ChanNo) (r : AnswerResult) (h : r ≠ .refused .noBridge := by simp) :
    Unmoved s (answeredOff s p c r (taken s p)) p ⟨0x0E#8, r⟩ := by
  refine ⟨answeredOff_answered c r fun _ => rfl, fun q => ?_, ?_⟩
  · have shown : told (some p) [c] s (answeredOff s p c r (taken s p)) q = told (some p) [c] s s q :=
      told_congr (s := s) (t := s) {} ⟨by simp, by simp, by simp⟩ rfl _ _
    rw [answeredOff_indications c r rfl, shown, told_unchanged]
  · rw [if_neg h, answeredOff_eq]
    exact State.eq_of_fields

/-! ### The decisions (R84, R86) -/

theorem State.setChannel_channel (s : State) (c : ChanNo) : s.setChannel c (s.channel c) = s := by
  simp [State.setChannel, State.channel]

/-- A position that has no entry on a channel loses none. -/
theorem State.removeEntry_absent {s : State} {c : ChanNo} {p : Pos} (silent : (s.channel c).talking p = false)
    (unqueued : (s.channel c).queued p = false) : s.removeEntry c p = s := by
  have entries : ∀ e ∈ (s.channel c).queue, e.pos ≠ p := by simpa [Channel.queued] using unqueued
  have queue : (s.channel c).queue.filter (fun e => e.pos != p) = (s.channel c).queue := by
    rw [List.filter_eq_self]
    simpa using entries
  rw [State.removeEntry_silent (by simp [silent]), floorWithout, if_neg (by simpa [Channel.talking] using silent), queue]
  exact s.setChannel_channel c

theorem State.talkOff_live {s : State} (p : Pos) {c : ChanNo} (live : (s.channel c).live = true) :
    s.talkOff p c = (.accepted, s.removeEntry c p) := by
  simp [State.talkOff, live]

theorem State.forceUntalk_bad (s : State) {w : CmdWords} (out : 31 < w.w1.toNat ∨ 47 < w.w2.toNat) :
    s.forceUntalk w = refuse .badField s := by
  rcases out with out | out
  · simp [State.forceUntalk, toFin?_out (n := 32) out]
  · unfold State.forceUntalk
    rw [toFin?_out (n := 48) out]
    split
    · rename_i none; cases none
    · rfl

/-- The checks of R86 that follow those of the words, in their order. -/
theorem State.forceUntalk_at (s : State) {w : CmdWords} {c : ChanNo} {p : Pos} (channelArg : w.w1 = word c.val)
    (posArg : w.w2 = word p.val) :
    s.forceUntalk w =
      if (s.channel c).state = .vacant then refuse .vacant s
      else if (s.channel c).talking p = false ∧ (s.channel c).queued p = false then refuse .notFound s
      else (some .done, finishAct none [c] s (s.removeEntry c p)) := by
  simp [State.forceUntalk, channelArg, posArg, toFin?_word]

end Sys2Proof.Machine

namespace Sys2Proof.Proofs

open Machine Safety Laws

/-- Settles O23: what the removal of an entry leaves of the floor (`State.channel_removeEntry`, `State.floorMoved_removeEntry`), under
the answer of TALK-OFF and the completion of FORCE-UNTALK. -/
theorem floorEntriesAreRemoved : Obligations.FloorEntriesAreRemoved := by
  refine ⟨fun s p c ready running => ?_, fun s w ready out => command_declined ready (State.forceUntalk_bad _ out),
    fun s w c p ready channelArg posArg => ?_⟩
  · obtain ⟨⟨r, v⟩, decided⟩ : ∃ d, (taken s p).talkOff p c = d := ⟨_, rfl⟩
    refine ⟨_, exec_talkOff ready running decided, fun gone => ?_, fun live silent unqueued => ?_, fun live _ => ?_⟩
    · cases decided.symm.trans (show _ = (.refused .vacant, taken s p) by simp [State.talkOff, gone])
      exact answeredOff_unmoved s p c _
    · have kept := State.removeEntry_absent (s := taken s p) silent unqueued
      cases decided.symm.trans ((State.talkOff_live p (by exact live)).trans (by rw [kept]))
      exact answeredOff_unmoved s p c _
    · cases decided.symm.trans (State.talkOff_live p (by exact live))
      have moved : FloorMoved (taken s p) (answeredOff s p c .accepted ((taken s p).removeEntry c p)) c p :=
        State.floorMoved_removeEntry (by simp) (by simp) (by simp)
      have channel (d : ChanNo) := (taken s p).channel_removeEntry c p d
      refine ⟨answeredOff_answered c _ (.of_links (by simp)), answeredOff_toldChannel _ (by simp) (by simp), ?_, moved,
        fun d other => ?_, ?_⟩
      · rw [answeredOff_channel]
        exact (channel c).trans (if_pos rfl)
      · rw [answeredOff_channel]
        exact (channel d).trans (if_neg other)
      · rw [answeredOff_eq]
        exact State.eq_of_fields
  · have decided := (loaded s 0x0E#8 w).forceUntalk_at channelArg posArg
    refine ⟨fun vacant => command_declined ready (decided.trans (if_pos vacant)), fun live silent unqueued =>
      command_declined ready (decided.trans ((if_neg live).trans (if_pos ⟨silent, unqueued⟩))), fun live stands => ?_⟩
    have present : ¬(((loaded s 0x0E#8 w).channel c).talking p = false ∧ ((loaded s 0x0E#8 w).channel c).queued p = false) := by
      rintro ⟨silent, unqueued⟩
      simp only [loaded_channel] at silent unqueued
      simp [silent, unqueued] at stands
    refine ⟨_, congrArg Host.Outcome.next (command_done s _ _ w _ ready (decided.trans ((if_neg live).trans (if_neg present)))), ?_⟩
    rw [← completed]
    refine ⟨completed_mp s _ w _ _ (by simp), ?_, ?_, fun d other => ?_, fun q => ?_, ?_⟩
    · rw [completed_channel, State.channel_removeEntry, if_pos rfl]
      rfl
    · exact State.floorMoved_removeEntry (s := loaded s 0x0E#8 w) (by simp) (by simp) (by simp)
    · rw [completed_channel, State.channel_removeEntry, if_neg other, loaded_channel]
    · rw [completed_told s _ w _ _ (by simp) q, told, List.foldl_cons, List.foldl_nil, toldLines_of_lines (by simp)]
    · exact State.eq_of_fields

end Sys2Proof.Proofs
end
section
/-! SEIZE and RETRIEVE of a line at rest or alerting (R26 to R28): the line connected on a bridge, then the burst of an AUTO line, or the
end of the alert. -/

set_option Elab.async false

namespace Sys2Proof.Machine

open Safety

/-! ### The bridge, the legs and the line of a connection (R26) -/

section
variable (s : State) (l : LineNo) (b : BridgeNo) (o : Occupant)

theorem State.line_connect (l' : LineNo) :
    (s.connect l b o).line l' =
      if l' = l then
        { s.line l with
          bridge := some b, occupants := [o], state := .connected, marks := { (s.line l).marks with missed := false } }
      else s.line l' := by
  simp [State.connect, State.line_setLine]

/-- The bridge of a connection: as it was allocated, with the trunk leg and then the handset as contributors. -/
theorem State.bridge_connect :
    ∃ r, (s.connect l b o).bridge b =
      { Bridge.allocated (.line l) (s.line l).headroom with
        contributors := (s.line l).activeSlot.toList.map trunkLeg ++ [handsetLeg o.pos o.handset], receivers := r } := by
  obtain ⟨t, ht⟩ : ∃ t, (s.allocate b (.line l) (s.line l).headroom).joinTrunk (some b) (s.line l).activeSlot = t := ⟨_, rfl⟩
  have trunk : ∃ r, t.bridge b =
      { Bridge.allocated (.line l) (s.line l).headroom with
        contributors := (s.line l).activeSlot.toList.map trunkLeg, receivers := r } := by
    subst ht
    cases (s.line l).activeSlot with
    | none => exact ⟨0, State.bridge_setBridge_self s b _⟩
    | some sl =>
      obtain ⟨r, joined⟩ := (s.allocate b (.line l) (s.line l).headroom).bridge_join b (trunkLeg sl)
      refine ⟨r, joined.trans ?_⟩
      simp [State.allocate, Bridge.addContributor, Bridge.allocated, Bridge.free]
  obtain ⟨r, trunk⟩ := trunk
  obtain ⟨r', joined⟩ := t.bridge_join b (handsetLeg o.pos o.handset)
  refine ⟨r', ?_⟩
  have apart : handsetLeg o.pos o.handset ∉ (s.line l).activeSlot.toList.map trunkLeg := by
    simp [trunkLeg_ne_handsetLeg]
  rw [State.connect, State.modLine_eq, State.bridge_setLine, ht, joined, trunk, Bridge.addContributor]
  simp [apart]

theorem State.bridge_connect_ne {b' : BridgeNo} (other : b' ≠ b) : (s.connect l b o).bridge b' = s.bridge b' := by
  unfold State.connect
  cases (s.line l).activeSlot with
  | none => simp [State.joinTrunk, State.bridge_join_ne, State.allocate, State.bridge_setBridge, other]
  | some sl => simp [State.joinTrunk, State.joinOwn, State.bridge_join_ne, State.allocate, State.bridge_setBridge, other]

theorem State.leg_connect (g : LegNo) :
    (s.connect l b o).leg g =
      if g = handsetLeg o.pos o.handset ∨ ∃ sl, (s.line l).activeSlot = some sl ∧ g = trunkLeg sl then
        { s.leg g with attach := some b }
      else s.leg g := by
  unfold State.connect
  by_cases own : g = handsetLeg o.pos o.handset
  · subst own
    cases (s.line l).activeSlot <;>
      simp [State.joinTrunk, State.joinOwn, State.leg_join, State.allocate, (trunkLeg_ne_handsetLeg _ _ _).symm]
  cases (s.line l).activeSlot with
  | none => simp [State.joinTrunk, State.leg_join, State.allocate, own]
  | some sl =>
    by_cases trunk : g = trunkLeg sl
    · subst trunk; simp [State.joinTrunk, State.joinOwn, State.leg_join, State.allocate, trunkLeg_ne_handsetLeg]
    · simp [State.joinTrunk, State.joinOwn, State.leg_join, State.allocate, own, trunk]

theorem State.connect_frame :
    s.connect l b o =
      { s with
        lines := (s.connect l b o).lines, bridges := (s.connect l b o).bridges, legs := (s.connect l b o).legs } :=
  State.eq_of_fields

end

/-! ### The burst or the end of the alert -/

/-- The line connected, with what goes with its state before: the burst of an AUTO line at rest, the end of an alert (R26, R27). -/
def State.seizeOn (s : State) (l : LineNo) (b : BridgeNo) (o : Occupant) : State :=
  match (s.line l).state with
  | .alerting => (s.connect l b o).endAlert l
  | _ => if (s.line l).kind = .auto then (s.connect l b o).startBurst l else s.connect l b o

/-- What a SEIZE of line `l` at rest or alerting on bridge `b` leaves, between `s` and `v`. -/
structure SeizedOn (s v : State) (l : LineNo) (b : BridgeNo) (o : Occupant) : Prop where
  line : ∀ l', v.line l' = if l' = l then takenBy (s.line l) o b else s.line l'
  burst : v.timer (.burst l) =
    if (s.line l).state = .idle ∧ (s.line l).kind = .auto then (s.timer (.burst l)).start (s.line l).burst
    else s.timer (.burst l)
  idle : (s.line l).state = .idle → v.timer (.ringTimeout l) = s.timer (.ringTimeout l) ∧ v.generators = s.generators
  alerting : (s.line l).state = .alerting →
    (v.timer (.ringTimeout l)).running = false ∧
    ((s.line l).refGen = none → v.generators = s.generators) ∧
    ∀ n, (s.line l).refGen = some n →
      ∀ n', v.generator n' = if n' = n then (s.generator n).dropRef else s.generator n'
  timer : ∀ id, id ≠ .burst l → id ≠ .ringTimeout l → v.timer id = s.timer id
  bridge : ∀ k, v.bridge k = (s.connect l b o).bridge k
  leg : ∀ g, v.leg g = (s.connect l b o).leg g
  frame : v =
    { s with
      lines := v.lines, bridges := v.bridges, legs := v.legs, timers := v.timers, generators := v.generators }

theorem State.line_startBurst (s : State) (l l' : LineNo) :
    (s.startBurst l).line l' =
      if l' = l then { s.line l with marks := { (s.line l).marks with ringOut := true } } else s.line l' := by
  simp [State.startBurst, State.startTimer, State.line_setLine]

theorem State.timer_startBurst (s : State) (l : LineNo) (id : TimerId) :
    (s.startBurst l).timer id = if id = .burst l then (s.timer (.burst l)).start (s.line l).burst else s.timer id := by
  split
  · rename_i own; subst own; simp [State.startBurst, State.startTimer]
  · rename_i other; simp [State.startBurst, State.startTimer, other, State.timer_setTimer_ne]

theorem State.seizeOn_idle {s : State} {l : LineNo} (b : BridgeNo) (o : Occupant) (idle : (s.line l).state = .idle) :
    SeizedOn s (s.seizeOn l b o) l b o := by
  have eq : s.seizeOn l b o = if (s.line l).kind = .auto then (s.connect l b o).startBurst l else s.connect l b o := by
    rw [State.seizeOn, idle]
  have quiet : (s.line l).state ≠ .alerting := by simp [idle]
  rw [eq]
  by_cases auto : (s.line l).kind = .auto
  · rw [if_pos auto]
    refine ⟨fun l' => ?_, ?_, fun _ => ⟨?_, ?_⟩, fun h => absurd h quiet, fun id hb _ => ?_, fun _ => by simp, fun _ => by simp, ?_⟩
    · rw [State.line_startBurst, State.line_connect, State.line_connect]
      split
      · simp [takenBy, idle, auto]
      · rfl
    · rw [State.timer_startBurst, if_pos rfl, State.timer_connect, State.line_connect, if_pos rfl, if_pos ⟨idle, auto⟩]
    · rw [State.timer_startBurst, if_neg (by simp), State.timer_connect]
    · simp [State.connect]
    · rw [State.timer_startBurst, if_neg hb, State.timer_connect]
    · exact State.eq_of_fields
  · rw [if_neg auto]
    refine ⟨fun l' => ?_, ?_, fun _ => ⟨State.timer_connect .., by simp [State.connect]⟩, fun h => absurd h quiet,
      fun id _ _ => State.timer_connect .., fun _ => rfl, fun _ => rfl, State.eq_of_fields⟩
    · rw [State.line_connect]
      split
      · simp [takenBy, idle, auto]
      · rfl
    · rw [State.timer_connect, if_neg fun h => auto h.2]

theorem State.seizeOn_alerting {s : State} {l : LineNo} (b : BridgeNo) (o : Occupant) (alerting : (s.line l).state = .alerting) :
    SeizedOn s (s.seizeOn l b o) l b o := by
  have eq : s.seizeOn l b o = (s.connect l b o).endAlert l := by rw [State.seizeOn, alerting]
  have waked : (s.line l).state ≠ .idle := by simp [alerting]
  have refGen : ((s.connect l b o).line l).refGen = (s.line l).refGen := by rw [State.line_connect, if_pos rfl]
  rw [eq]
  have timers (id : TimerId) := (s.connect l b o).timer_endAlert l id
  refine ⟨fun l' => ?_, ?_, fun h => absurd h waked, fun _ => ⟨(timers (.burst l)).2, fun none => ?_, fun n ref n' => ?_⟩,
    fun id _ hr => ?_, fun _ => by simp, fun _ => by simp, State.eq_of_fields⟩
  · rw [State.line_endAlert, State.line_connect, State.line_connect]
    split
    · simp [takenBy, alerting]
    · rfl
  · rw [(timers _).1 (by simp), State.timer_connect, if_neg fun h => waked h.1]
  · simp [State.endAlert, none, State.connect]
  · rw [State.generator_endAlert (refGen.trans ref)]
    simp [State.connect]
  · rw [(timers id).1 hr, State.timer_connect]

theorem State.seizeOn_seized {s : State} {l : LineNo} (b : BridgeNo) (o : Occupant)
    (state : (s.line l).state = .idle ∨ (s.line l).state = .alerting) : SeizedOn s (s.seizeOn l b o) l b o :=
  state.elim (State.seizeOn_idle b o) (State.seizeOn_alerting b o)

/-! ### The decision (R26 to R28) -/

theorem State.seizeKey_atRest {s : State} {p : Pos} {k : Key} {l : LineNo} (h : Handset) (key : s.keyLine p k = some l)
    (state : (s.line l).state = .idle ∨ (s.line l).state = .alerting) : s.seizeKey p k h = s.seizeAtRest l ⟨p, h⟩ := by
  rcases state with state | state
  all_goals
    have lookup : s.lookup p k = .ok l := State.lookup_ok key (by simp [state]) (by simp [state]) (by simp [state])
    simp [State.seizeKey, lookup, state]

/-- A seizure that finds its bridge once the handset has left its current line. -/
theorem State.seizeAtRest_had {s : State} {l : LineNo} {o : Occupant} {b : BridgeNo}
    (may : s.lowestFree.isSome = true ∨ s.countsBridge o = true) (lowest : (s.dealWith o l).lowestFree = some b)
    (same : (s.dealWith o l).line l = s.line l) (state : (s.line l).state = .idle ∨ (s.line l).state = .alerting) :
    s.seizeAtRest l o = (.accepted, (s.dealWith o l).seizeOn l b o) := by
  unfold State.seizeAtRest State.seizeOn
  rw [if_pos (by simpa using may), same]
  rcases state with state | state <;> simp only [lowest, state]

theorem State.countsBridge_free {s : State} {o : Occupant} (free : s.currentLine o = none) : s.countsBridge o = false := by
  simp [State.countsBridge, free]

/-- The bridge of a line that has been seized, at the end of the act: it has its shift already (R99, R116). -/
theorem SeizedOn.settled {s v : State} {l : LineNo} {b : BridgeNo} {o : Occupant} (h : SeizedOn s v l b o) :
    ∃ r, (v.bridge b).settle =
      { Bridge.allocated (.line l) (s.line l).headroom with
        contributors := (s.line l).activeSlot.toList.map trunkLeg ++ [handsetLeg o.pos o.handset], receivers := r } := by
  obtain ⟨r, fresh⟩ := s.bridge_connect l b o
  have few : ((s.line l).activeSlot.toList.map trunkLeg ++ [handsetLeg o.pos o.handset]).length ≤ 2 := by
    cases (s.line l).activeSlot <;> simp
  exact ⟨r, by rw [h.bridge, fresh]; exact Bridge.settle_opened (.line l) _ [] r few⟩

theorem takenBy_state (y : Line) (o : Occupant) (b : BridgeNo) : (takenBy y o b).state = .connected := by
  unfold takenBy
  split <;> rename_i state
  · exact state
  · rfl
  · rfl
  · rfl

/-- A line request refused for want of a bridge posts POOL (R100). -/
theorem answered_noBridge (s : State) (p : Pos) (k : Byte) :
    Unmoved s (answered s p k (.refused .noBridge) ((taken s p).post .pool)) p ⟨k, .refused .noBridge⟩ := by
  refine ⟨answered_answered k _ rfl rfl, answered_quiet (l := 0) k _ rfl (fun _ _ => rfl) rfl, ?_⟩
  rw [if_pos rfl]
  exact State.eq_of_fields (mp := (answered_mp s p k (.refused .noBridge) ((taken s p).post .pool)).trans rfl)

end Sys2Proof.Machine

namespace Sys2Proof.Proofs

open Machine Safety Laws

/-- Settles O10: a free handset leaves no line behind, so the seizure takes the lowest FREE bridge as it is (`State.seizeOn_seized`). -/
theorem seizeConnectsLine : Obligations.SeizeConnectsLine := by
  refine ⟨fun s p k h l b t ht ready running key state free lowest => ?_, fun s p k h l t ht ready running key state free none => ?_⟩
  · have stays : (taken s p).dealWith ⟨p, h⟩ l = taken s p := State.dealWith_free l (show (taken s p).currentLine _ = none from free)
    have low : (taken s p).lowestFree = some b := lowest
    have decided : (taken s p).seizeKey p k h = (.accepted, (taken s p).seizeOn l b ⟨p, h⟩) := by
      rw [State.seizeKey_atRest (s := taken s p) h key state,
        State.seizeAtRest_had (s := taken s p) (b := b) (.inl (by rw [low]; rfl)) (by rw [stays]; exact low) (by rw [stays]) state, stays]
    have seized := State.seizeOn_seized (s := taken s p) b ⟨p, h⟩ state
    generalize (taken s p).seizeOn l b ⟨p, h⟩ = v at decided seized
    have links : v.links = (taken s p).links := by rw [seized.frame]
    have others (l' : LineNo) (other : l' ≠ l) : v.line l' = s.line l' := (seized.line l').trans (if_neg other)
    have own : v.line l = takenBy (s.line l) ⟨p, h⟩ b := (seized.line l).trans (if_pos rfl)
    refine ⟨_, exec_seize ht ready running decided, answered_answered _ _ links (by rw [seized.frame]; rfl),
      answered_toldLine _ _ ?_ others links, ?_, fun l' other => ?_, ?_, fun b' other => ?_, ?_, fun sl active => ?_,
      fun g handset trunk => ?_, ?_, fun idle => ⟨?_, ?_⟩, fun alerting => ⟨?_, fun ref => ?_, fun n ref => ⟨?_, fun last => ?_,
      fun n' other => ?_⟩⟩, fun id hb hr => ?_, ?_⟩
    · intro e
      have kept := (congrArg LineView.state e).trans ((congrArg Line.state own).trans (takenBy_state _ _ _))
      rcases state with state | state <;> exact nomatch state.symm.trans kept
    · rw [answered_line, own]
    · rw [answered_line, others l' other]
    · obtain ⟨r, settled⟩ := seized.settled
      rw [answered_bridge, settled]
      rfl
    · rw [answered_bridge, seized.bridge, State.bridge_connect_ne _ _ _ _ other]
      rfl
    · rw [answered_leg, seized.leg, State.leg_connect, if_pos (.inl rfl)]
      rfl
    · rw [answered_leg, seized.leg, State.leg_connect, if_pos (.inr ⟨sl, active, rfl⟩)]
      rfl
    · rw [answered_leg, seized.leg, State.leg_connect, if_neg]
      · rfl
      · rintro (e | ⟨sl, active, e⟩)
        · exact handset e
        · exact trunk sl active e
    · rw [answered_timer]; exact seized.burst
    · rw [answered_timer]; exact (seized.idle idle).1
    · rw [answered_generators]; exact (seized.idle idle).2
    · rw [answered_timer]; exact (seized.alerting alerting).1
    · rw [answered_generators]; exact (seized.alerting alerting).2.1 ref
    · rw [answered_generator, (seized.alerting alerting).2.2 n ref, if_pos rfl]
      exact (Generator.dropRef_refs _).1
    · rw [answered_generator, (seized.alerting alerting).2.2 n ref, if_pos rfl]
      have idle := (Generator.dropRef_refs ((taken s p).generator n)).2 last
      exact ⟨idle, by rw [Generator.remaining, idle]⟩
    · rw [answered_generator, (seized.alerting alerting).2.2 n ref, if_neg other]
      rfl
    · rw [answered_timer]; exact seized.timer id hb hr
    · rw [seized.frame]
      exact State.eq_of_fields
  · have low : (taken s p).lowestFree = .none := none
    have decided : (taken s p).seizeKey p k h = (.refused .noBridge, (taken s p).post .pool) := by
      rw [State.seizeKey_atRest (s := taken s p) h key state, State.seizeAtRest, low,
        State.countsBridge_free (show (taken s p).currentLine _ = .none from free)]
      rfl
    have unmoved := answered_noBridge s p t.code
    refine ⟨_, exec_seize ht ready running decided, unmoved, ?_⟩
    have posted : (s.mp.flags ||| Event.pool.mask) &&& Event.pool.mask = Event.pool.mask := flags_posted ..
    have flags : (answered s p t.code (.refused .noBridge) ((taken s p).post .pool)).mp.flags = s.mp.flags ||| Event.pool.mask :=
      congrArg Management.flags (answered_mp s p t.code _ ((taken s p).post .pool))
    rw [State.flagged, flags, posted]
    rfl

end Sys2Proof.Proofs
end
section
/-! The handset switch (R30, R31): what the line leaves that the handset was on, and what the line gains that it comes to. -/

set_option Elab.async false

namespace Sys2Proof.Machine

open Safety

/-! ### Legs detached from a bridge, exactly (R95) -/

/-- Of the legs `gone`, those that listened to the bridge of an owner are detached, and no leg has changed otherwise. -/
structure LegsDetach (s t : State) (b : Option BridgeNo) (gone : LegNo → Prop) : Prop where
  leave : ∀ g, gone g → (s.leg g).attach = b → t.leg g = { s.leg g with attach := none }
  stays : ∀ g, ¬(gone g ∧ (s.leg g).attach = b) → t.leg g = s.leg g

theorem LegsDetach.trans {s t u : State} {b : Option BridgeNo} {first next : LegNo → Prop} (h : LegsDetach s t b first)
    (k : LegsDetach t u b next) : LegsDetach s u b fun g => first g ∨ next g := by
  refine ⟨fun g gone own => ?_, fun g out => ?_⟩
  · by_cases one : first g
    · have left := h.leave g one own
      by_cases two : next g ∧ (t.leg g).attach = b
      · rw [k.leave g two.1 two.2, left]
      · rw [k.stays g two, left]
    · have kept := h.stays g fun e => one e.1
      rw [k.leave g (gone.resolve_left one) (by rw [kept]; exact own), kept]
  · have kept := h.stays g fun e => out ⟨.inl e.1, e.2⟩
    exact (k.stays g fun e => out ⟨.inr e.1, by rw [← kept]; exact e.2⟩).trans kept

theorem LegsDetach.congr {s t : State} {b : Option BridgeNo} {gone gone' : LegNo → Prop} (h : LegsDetach s t b gone)
    (e : ∀ g, gone g ↔ gone' g) : LegsDetach s t b gone' :=
  ⟨fun g out => h.leave g ((e g).2 out), fun g stays => h.stays g fun k => stays ⟨(e g).1 k.1, k.2⟩⟩

/-- Records other than legs may change before and after it. -/
theorem LegsDetach.within {s s' t t' : State} {b : Option BridgeNo} {gone : LegNo → Prop} (h : LegsDetach s' t b gone)
    (before : s'.legs = s.legs := by simp) (after : t'.legs = t.legs := by simp) : LegsDetach s t' b gone := by
  obtain ⟨leave, stays⟩ := h
  have first (g : LegNo) : s'.leg g = s.leg g := by simp only [State.leg, before]
  have last (g : LegNo) : t'.leg g = t.leg g := by simp only [State.leg, after]
  exact ⟨fun g gone own => by rw [last, leave g gone (by rw [first]; exact own), first],
    fun g out => by rw [last, stays g (by rw [first]; exact out), first]⟩

theorem LegsDetach.refl (s : State) (b : Option BridgeNo) : LegsDetach s s b fun _ => False := ⟨nofun, fun _ _ => rfl⟩

theorem Leg.detached_eq {x : Leg} (h : x.attach = none) : { x with attach := none } = x := by
  rw [← h]

/-- A leg that listened to nothing stays as it is. -/
theorem LegsDetach.loose {s t : State} {b : Option BridgeNo} {gone : LegNo → Prop} (h : LegsDetach s t b gone) {g : LegNo}
    (none : (s.leg g).attach = none) : t.leg g = s.leg g := by
  by_cases out : gone g ∧ (s.leg g).attach = b
  · exact (h.leave g out.1 out.2).trans (Leg.detached_eq none)
  · exact h.stays g out

theorem State.leaveOwn_detaches (s : State) (b : Option BridgeNo) (g : LegNo) : LegsDetach s (s.leaveOwn b g) b (· = g) := by
  cases b with
  | none => exact ⟨fun g' _ own => (Leg.detached_eq own).symm, fun _ _ => rfl⟩
  | some n =>
    refine ⟨fun g' e own => ?_, fun g' out => ?_⟩
    · subst e
      exact (s.leg_leave n _ _).trans (if_pos ⟨rfl, own⟩)
    · exact (s.leg_leave n g g').trans (if_neg fun e => out (by obtain ⟨rfl, own⟩ := e; exact ⟨rfl, own⟩))

theorem State.leaveHandsets_detaches (s : State) (b : Option BridgeNo) (os : List Occupant) :
    LegsDetach s (s.leaveHandsets b os) b fun g => ∃ o ∈ os, g = occupantLeg o := by
  induction os generalizing s with
  | nil => exact (LegsDetach.refl s b).congr fun g => by simp
  | cons o rest ih =>
    exact ((s.leaveOwn_detaches b (occupantLeg o)).trans (ih _)).congr fun g => by simp

theorem State.dropMonitors_detaches (s : State) (l : LineNo) (ms : List Monitor) :
    LegsDetach s (s.dropMonitors l ms) (s.line l).bridge fun g => ∃ m ∈ ms, g = monitorLeg m := by
  induction ms generalizing s with
  | nil => exact (LegsDetach.refl s _).congr fun g => by simp
  | cons m rest ih =>
    have one : LegsDetach s (s.dropMonitor l m) (s.line l).bridge (· = monitorLeg m) :=
      ((s.modLine l fun x => { x with monitors := x.monitors.erase m }).leaveOwn_detaches (s.line l).bridge (monitorLeg m)).within
        rfl rfl
    have next := ih (s.dropMonitor l m)
    rw [State.line_dropMonitor, if_pos rfl] at next
    exact (one.trans next).congr fun g => by simp

/-- The legs that a line's handsets and monitors listened with. -/
theorem State.lineLegs_detached (s : State) (l : LineNo) :
    LegsDetach s ((s.leaveHandsets (s.line l).bridge (s.line l).occupants).dropMonitors l (s.line l).monitors) (s.line l).bridge
      (lineLegs (s.line l)) := by
  have next := (s.leaveHandsets (s.line l).bridge (s.line l).occupants).dropMonitors_detaches l (s.line l).monitors
  rw [State.line_leaveHandsets] at next
  exact (s.leaveHandsets_detaches _ _).trans next

/-- A bridge that its line frees keeps no leg. -/
theorem State.freeOwn_detaches (s : State) (b : Option BridgeNo) : LegsDetach s (s.freeOwn b) b fun _ => True := by
  cases b with
  | none => exact ⟨fun g _ own => (Leg.detached_eq own).symm, fun _ _ => rfl⟩
  | some n =>
    exact ⟨fun g _ own => (s.leg_freeBridge n g).trans (if_pos own),
      fun g out => (s.leg_freeBridge n g).trans (if_neg fun own => out ⟨trivial, own⟩)⟩

theorem State.takeDown_detaches (s : State) (l : LineNo) : LegsDetach s (s.takeDown l) (s.line l).bridge fun _ => True := by
  have left := (s.lineLegs_detached l).within rfl (t' := ((s.leaveHandsets (s.line l).bridge (s.line l).occupants).dropMonitors l
    (s.line l).monitors).cancelTimers [.holdRecall l, .burst l])
  exact ((left.trans (State.freeOwn_detaches _ _)).within rfl (by simp [State.takeDown])).congr fun _ => by simp

theorem State.holdLine_detaches (s : State) (l : LineNo) (p : Pos) :
    LegsDetach s (s.holdLine l p) (s.line l).bridge (lineLegs (s.line l)) := by
  refine (s.lineLegs_detached l).within rfl ?_
  unfold State.holdLine
  dsimp only
  split <;> simp

/-! ### The reversion of a line that comes to rest (R142) -/

/-- A slot that nobody seeks is sought by nobody once a line at rest has reverted. -/
theorem State.revert_keeps_unsought {s : State} {l : LineNo} {a : SlotNo} (idle : (s.line l).state = .idle) (free : Unsought s a) :
    Unsought (s.revert l) a := by
  have state : ((s.revert l).line l).state = .idle := by
    unfold State.revert
    dsimp only
    split
    · simp [idle]
    · simp [State.line_claimLine, idle]
  have namer (sl : SlotNo) : ((s.dropSlot (s.line l).alternate).slot sl).primaryNamer = (s.slot sl).primaryNamer := by
    rw [State.slot_dropSlot]
    split <;> rfl
  refine ⟨?_, fun k waits => ?_⟩
  · unfold State.revert
    dsimp only
    split
    · rw [namer]; exact free.1
    · rw [State.slot_claimLine]
      split
      · rename_i e; rw [← e]; exact (namer a).trans free.1
      · exact (namer a).trans free.1
  · by_cases e : k = l
    · subst e
      simp [Line.waiting, state] at waits
    · rw [s.line_revert_ne e] at waits ⊢
      exact free.2 k waits

/-- The reversion of a line that has come to rest is all where nobody seeks the alternate that it may have. -/
theorem RestedTo.reverts_alone {s t : State} {l : LineNo} (h : RestedTo s t l) (moves : ¬Stays s l)
    (unsought : ∀ a, (s.line l).alternate = some a → Unsought s a) : t.atRest l = (t.revert l).post .route := by
  have own : t.line l = rested (s.line l) := (h.line l).trans (if_pos rfl)
  have calm : (s.line l).marks.noRoute = false := Bool.eq_false_iff.2 fun e => moves (.inl e)
  have idle : (t.line l).state = .idle := by rw [own]; simp [rested, calm]
  rw [State.atRest_reverts (h.reverts moves)]
  cases alternate : (t.line l).alternate with
  | none => rfl
  | some a =>
    have free := unsought a (by rw [own] at alternate; exact alternate)
    have still : Unsought t a := by
      refine ⟨by simp only [State.slot, h.slots]; exact free.1, fun k waits => ?_⟩
      by_cases e : k = l
      · rw [e] at waits; simp [Line.waiting, idle] at waits
      · rw [h.line, if_neg e] at waits ⊢
        exact free.2 k waits
    exact State.serve_unsought _ (State.revert_keeps_unsought idle still)

/-! ### The line that the handset leaves (R30) -/

/-- What the handset switch leaves of the line `x` that handset `o` was on, between `s` and `t`. -/
structure SwitchLeft (s t : State) (o : Occupant) (x : LineNo) : Prop where
  others : ∀ k, k ≠ x → t.line k = s.line k
  legs : LegsDetach s t (s.line x).bridge fun g =>
    g = occupantLeg o ∨ (s.line x).occupants = [o] ∧
      ((s.link o.pos).switchAction = .release ∨ ∃ y ∈ (s.line x).monitors, g = monitorLeg y)
  apart : ∀ b, (s.line x).bridge ≠ some b → t.bridge b = s.bridge b
  freed : LeftToRest s o x → ∀ b, (s.line x).bridge = some b → t.bridge b = Bridge.free
  kept : (s.line x).occupants ≠ [o] ∨ ¬LeftToRest s o x ∧ (s.line x).monitors = [] →
    ∀ b, (s.line x).bridge = some b → (t.bridge b).settle = bridgeWithout s b (occupantLeg o)
  restTimers : LeftToRest s o x → (t.timer (.holdRecall x)).running = false ∧ (t.timer (.burst x)).running = false
  holdTimers : (s.line x).occupants = [o] → (s.link o.pos).switchAction = .hold →
    t.timer (.holdRecall x) =
        (if (s.line x).holdRecall = 0 then s.timer (.holdRecall x)
        else (s.timer (.holdRecall x)).start (1000 * (s.line x).holdRecall)) ∧
      t.timer (.burst x) = s.timer (.burst x)
  moreTimers : (s.line x).occupants ≠ [o] →
    t.timer (.holdRecall x) = s.timer (.holdRecall x) ∧ t.timer (.burst x) = s.timer (.burst x)
  timer : ∀ id, id ≠ .holdRecall x → id ≠ .burst x → t.timer id = s.timer id
  selection : ∀ q m, t.selection q m =
    if (s.line x).occupants = [o] ∧ ⟨q, m⟩ ∈ (s.line x).monitors then .none else s.selection q m
  stands : ¬LeftToRest s o x ∨ Stays s x →
    t.line x = leftBy (s.line x) o (s.link o.pos).switchAction ∧ t.slots = s.slots ∧ t.mp = s.mp
  reverts : LeftToRest s o x → ¬Stays s x →
    t.line x = { rested (s.line x) with route := .primary } ∧
    t.mp = { s.mp with flags := s.mp.flags ||| Event.route.mask } ∧
    ∀ n a, (s.line x).primary = some n → (s.line x).alternate = some a → n ≠ a → ∀ sl,
      t.slot sl =
        if sl = n then { s.slot n with state := .active, claimant := some (.line x) }
        else if sl = a then { s.slot a with state := .standby, claimant := none } else s.slot sl
  frame : t =
    { s with
      lines := t.lines, bridges := t.bridges, legs := t.legs, timers := t.timers, selections := t.selections
      slots := t.slots, mp := t.mp }

theorem leftBy_hold {x : Line} {o : Occupant} (sole : x.occupants = [o]) :
    leftBy x o .hold = { x with state := .held, occupants := [], monitors := [], holdOwner := some o.pos } := by
  simp [leftBy, sole]

theorem leftBy_release {x : Line} {o : Occupant} (sole : x.occupants = [o]) : leftBy x o .release = rested x := by
  simp [leftBy, sole]

theorem leftBy_more {x : Line} {o : Occupant} (a : SwitchAction) (more : x.occupants ≠ [o]) :
    leftBy x o a = { x with occupants := x.occupants.erase o } := if_neg more

theorem State.settle_leave (s : State) (b : BridgeNo) (g : LegNo) : ((s.leave b g).bridge b).settle = bridgeWithout s b g := by
  rw [State.bridge_leave_self]
  rfl

/-- The sole occupant leaves its line HELD under switch action HOLD. -/
theorem State.switchLeft_hold {s : State} {o : Occupant} {x : LineNo} (sole : (s.line x).occupants = [o])
    (holds : (s.link o.pos).switchAction = .hold) : SwitchLeft s (s.holdLine x o.pos) o x := by
  have stays : ¬LeftToRest s o x := fun h => nomatch holds.symm.trans h.2
  have left := s.holdLine_legs_leave x o.pos
  refine ⟨fun k other => ?_, (s.holdLine_detaches x o.pos).congr fun g => ?_, left.other, fun h => absurd h stays,
    fun alone b own => ?_, fun h => absurd h stays, fun _ _ => ⟨?_, ?_⟩, fun more => absurd sole more, fun id hold _ => ?_,
    fun q m => ?_, fun _ => ⟨?_, ?_, ?_⟩, fun h => absurd h stays, State.eq_of_fields⟩
  · rw [State.line_holdLine, if_neg other]
  · simp [lineLegs, sole, holds]
  · obtain ⟨-, alone⟩ := alone.resolve_left (not_not_intro sole)
    have bridges : (s.holdLine x o.pos).bridges = (s.leave b (occupantLeg o)).bridges := by
      unfold State.holdLine
      dsimp only
      rw [own, sole, alone]
      split <;> simp [State.dropMonitors, State.leaveHandsets, State.leaveOwn, State.startTimer]
    have same : (s.holdLine x o.pos).bridge b = (s.leave b (occupantLeg o)).bridge b := by simp only [State.bridge, bridges]
    rw [same, State.settle_leave]
  · rw [State.timer_holdLine]
    by_cases zero : (s.line x).holdRecall = 0 <;> simp [zero]
  · simp [State.timer_holdLine]
  · simp [State.timer_holdLine, hold]
  · rw [State.selection_holdLine]
    simp [sole]
  · rw [State.line_holdLine, if_pos rfl, holds, leftBy_hold sole]
  · simp
  · simp

/-- A handset leaves a line that others are on. -/
theorem State.switchLeft_more {s : State} {o : Occupant} {x : LineNo} (more : (s.line x).occupants ≠ [o]) :
    SwitchLeft s (s.without x o) o x := by
  have stays : ¬LeftToRest s o x := fun h => more h.1
  have left := s.without_legs_leave x o
  have frame := s.without_frame x o
  have timer (id : TimerId) : (s.without x o).timer id = s.timer id := by rw [frame]; rfl
  refine ⟨fun k other => ?_, ?_, left.other, fun h => absurd h stays, fun _ b own => ?_, fun h => absurd h stays,
    fun sole => absurd sole more, fun _ => ⟨timer _, timer _⟩, fun id _ _ => timer id, fun q m => ?_, fun _ => ⟨?_, ?_, ?_⟩,
    fun h => absurd h stays, ?_⟩
  · rw [State.line_without, if_neg other]
  · have detached : LegsDetach s (s.without x o) (s.line x).bridge (· = occupantLeg o) :=
      (State.leaveOwn_detaches (s.setLine x _) (s.line x).bridge (occupantLeg o)).within rfl rfl
    exact detached.congr fun g => by simp [more]
  · have same : s.without x o =
        (s.setLine x { s.line x with occupants := (s.line x).occupants.erase o }).leave b (occupantLeg o) := by
      unfold State.without
      rw [own]
      rfl
    rw [same, State.settle_leave]
    rfl
  · rw [if_neg fun h => more h.1, frame]
    rfl
  · rw [State.line_without, if_pos rfl, leftBy_more _ more]
  · rw [frame]
  · rw [frame]
  · rw [frame]

/-- The sole occupant leaves its line at rest under switch action RELEASE; where it reverts, nobody seeks the alternate. -/
theorem State.switchLeft_rest {s : State} {o : Occupant} {x : LineNo} (leaves : LeftToRest s o x)
    (alone : Stays s x ∨ ∀ a, (s.line x).alternate = some a → Unsought s a) :
    SwitchLeft s ((s.without x o).returnToRest x) o x := by
  obtain ⟨sole, release⟩ := id leaves
  have left := s.without_legs_leave x o
  have rests := s.without_rest_restedTo x o
  have frame := s.without_frame x o
  have timer (id : TimerId) : (s.without x o).timer id = s.timer id := by rw [frame]; rfl
  have timers (id : TimerId) := (s.without x o).timer_takeDown x id
  have own : (s.without x o).line x = { s.line x with occupants := [] } := by
    rw [State.line_without, if_pos rfl]; simp [sole]
  have bridge : ((s.without x o).line x).bridge = (s.line x).bridge := by rw [own]
  have still : (s.without x o).returnToRest x =
      { (s.without x o).rest x with
        lines := ((s.without x o).returnToRest x).lines, slots := ((s.without x o).returnToRest x).slots
        mp := ((s.without x o).returnToRest x).mp } := by
    unfold State.returnToRest
    by_cases stays : Stays s x
    · rw [rests.stays stays]
    · rw [rests.reverts_alone stays (alone.resolve_left stays)]
      exact State.eq_of_fields
  have bridges (b : BridgeNo) : ((s.without x o).returnToRest x).bridge b = ((s.without x o).takeDown x).bridge b := by
    rw [← State.bridge_rest, still]
    rfl
  have freed (b : BridgeNo) (h : (s.line x).bridge = some b) : ((s.without x o).returnToRest x).bridge b = Bridge.free := by
    rw [bridges, (State.takeDown_frees (bridge.trans h)).1]
  have apart (b : BridgeNo) (h : (s.line x).bridge ≠ some b) : ((s.without x o).returnToRest x).bridge b = s.bridge b := by
    rw [bridges, State.takeDown_bridge_ne (by rw [bridge]; exact h), left.other b h]
  have detached : LegsDetach s ((s.without x o).returnToRest x) (s.line x).bridge fun _ => True := by
    have first : LegsDetach s (s.without x o) (s.line x).bridge (· = occupantLeg o) :=
      (State.leaveOwn_detaches (s.setLine x _) (s.line x).bridge (occupantLeg o)).within rfl rfl
    have next := (s.without x o).takeDown_detaches x
    rw [bridge] at next
    exact ((first.trans next).within rfl (by rw [still, State.rest_eq])).congr fun _ => by simp
  refine ⟨fun k other => ?_, detached.congr fun g => by simp [sole, release], apart, fun _ => freed,
    fun h => absurd h fun k => k.elim (fun more => more sole) fun stays => stays.1 leaves, fun _ => ⟨?_, ?_⟩, fun _ hold => ?_,
    fun more => absurd sole more, fun id hold burst => ?_, fun q m => ?_, fun stays => ?_, fun _ moves => ⟨?_, ?_, ?_⟩, ?_⟩
  · by_cases stays : Stays s x
    · rw [State.returnToRest, rests.stays stays, rests.line, if_neg other]
    · rw [State.returnToRest, rests.reverts_alone stays (alone.resolve_left stays)]
      exact (State.line_revert_ne _ other).trans ((rests.line k).trans (if_neg other))
  · rw [State.returnToRest, State.timer_atRest, State.timer_rest]; exact (timers _).2 (.inl rfl)
  · rw [State.returnToRest, State.timer_atRest, State.timer_rest]; exact (timers _).2 (.inr rfl)
  · exact nomatch release.symm.trans hold
  · rw [State.returnToRest, State.timer_atRest, State.timer_rest, (timers id).1 hold burst, timer]
  · rw [State.returnToRest, State.selection_atRest, State.selection_rest, own]
    simp only [sole, true_and]
    rw [frame]
    rfl
  · have stays := stays.resolve_left (not_not_intro leaves)
    rw [State.returnToRest, rests.stays stays, rests.line, if_pos rfl, release, leftBy_release sole]
    exact ⟨rfl, rests.slots, rests.mp⟩
  · rw [State.returnToRest, State.line_atRest (rests.reverts moves), rests.line, if_pos rfl]
  · rw [State.returnToRest, State.atRest_mp (rests.reverts moves), rests.mp]
  · intro n a primary alternate ne sl
    rw [State.returnToRest, rests.reverts_alone moves (alone.resolve_left moves)]
    exact rests.slot_revert primary alternate ne sl
  · rw [still]
    unfold State.without
    exact State.eq_of_fields

/-- The handset switch, by the current line and the switch action (R30). -/
theorem State.dealWith_other {s : State} {o : Occupant} {x l : LineNo} (current : s.currentLine o = some x) (other : x ≠ l) :
    ((s.line x).occupants = [o] → (s.link o.pos).switchAction = .hold → s.dealWith o l = s.holdLine x o.pos) ∧
    (LeftToRest s o x → s.dealWith o l = (s.without x o).returnToRest x) ∧
    ((s.line x).occupants ≠ [o] → s.dealWith o l = s.without x o) := by
  have decided : s.dealWith o l =
      if (s.link o.pos).switchAction = .hold ∧ (s.line x).occupants = [o] then s.holdLine x o.pos else s.releaseOccupant x o := by
    simp [State.dealWith, current, other]
  rw [decided]
  refine ⟨fun sole hold => if_pos ⟨hold, sole⟩, fun ⟨sole, release⟩ => ?_, fun more => ?_⟩
  · rw [if_neg (by simp [release]), State.releaseOccupant_last sole]
  · rw [if_neg fun h => more h.2, State.releaseOccupant_more (erase_ne_nil_of_ne (State.mem_of_currentLine current) more)]

/-- A handset with another current line than the one named leaves it first. -/
theorem State.dealWith_switchLeft {s : State} {o : Occupant} {x l : LineNo} (current : s.currentLine o = some x) (other : x ≠ l)
    (alone : LeftToRest s o x → Stays s x ∨ ∀ a, (s.line x).alternate = some a → Unsought s a) :
    SwitchLeft s (s.dealWith o l) o x := by
  obtain ⟨holds, rests, leaves⟩ := State.dealWith_other current other
  by_cases sole : (s.line x).occupants = [o]
  · cases action : (s.link o.pos).switchAction with
    | hold => rw [holds sole action]; exact State.switchLeft_hold sole action
    | release => rw [rests ⟨sole, action⟩]; exact State.switchLeft_rest ⟨sole, action⟩ (alone ⟨sole, action⟩)
  · rw [leaves sole]; exact State.switchLeft_more sole

/-- What the Trunk Unit does for a line at rest frees no bridge and takes none. -/
theorem State.state_atRest (s : State) (l : LineNo) (b : BridgeNo) : ((s.atRest l).bridge b).state = (s.bridge b).state := by
  cases reverts : s.revertible l with
  | false => rw [State.atRest_stays reverts]
  | true =>
    have reverted : (((s.revert l).post .route).bridge b).state = (s.bridge b).state := congrArg Bridge.state (s.bridge_revert l b)
    rw [State.atRest_reverts reverts]
    split
    · exact reverted
    · rename_i a _
      exact (State.bridge_serveFreed_held _ (some a) b).1.trans reverted

/-- The bridges that are FREE once the handset has left its line are those that a SEIZE can have (R31). -/
theorem State.dealWith_had {s : State} {o : Occupant} {x l : LineNo} (current : s.currentLine o = some x) (other : x ≠ l)
    (b : BridgeNo) : ((s.dealWith o l).bridge b).state = .free ↔ HadBySeize s o x b := by
  obtain ⟨holds, rests, leaves⟩ := State.dealWith_other current other
  by_cases sole : (s.line x).occupants = [o]
  · cases action : (s.link o.pos).switchAction with
    | hold =>
      rw [holds sole action, (s.holdLine_legs_leave x o.pos).state]
      exact ⟨.inl, fun h => h.resolve_right fun k => nomatch action.symm.trans k.2.1⟩
    | release =>
      have own : ((s.without x o).line x).bridge = (s.line x).bridge := by rw [State.line_without, if_pos rfl]
      rw [rests ⟨sole, action⟩, State.returnToRest, State.state_atRest, State.bridge_rest]
      by_cases h : (s.line x).bridge = some b
      · rw [(State.takeDown_frees (own.trans h)).1]
        exact ⟨fun _ => .inr ⟨sole, action, h⟩, fun _ => rfl⟩
      · rw [State.takeDown_bridge_ne (by rw [own]; exact h), (s.without_legs_leave x o).state]
        exact ⟨.inl, fun k => k.resolve_right fun k => h k.2.2⟩
  · rw [leaves sole, (s.without_legs_leave x o).state]
    exact ⟨.inl, fun h => h.resolve_right fun k => sole k.1⟩

/-! ### The line that the handset comes to (R26, R27, R29, R37) -/

/-- What the accepted seizure leaves of line `l`, which handset `o` comes to on bridge `b`, between `t` and `v`. -/
structure SwitchTook (t v : State) (o : Occupant) (l : LineNo) (b : BridgeNo) : Prop where
  line : ∀ k, v.line k = if k = l then takenBy (t.line l) o b else t.line k
  attached : (v.leg (occupantLeg o)).attach = some b
  contributes : occupantLeg o ∈ (v.bridge b).contributors
  moved : ∀ h', (t.line l).state = .connected → h' ≠ o.handset → ⟨o.pos, h'⟩ ∈ (t.line l).occupants →
    (v.leg (handsetLeg o.pos h')).attach ≠ some b
  fresh : (t.line l).state = .idle ∨ (t.line l).state = .alerting →
    (v.bridge b).state = .inUse ∧ (v.bridge b).owner = some (.line l) ∧
    ∀ sl, (t.line l).activeSlot = some sl → (v.leg (trunkLeg sl)).attach = some b ∧ trunkLeg sl ∈ (v.bridge b).contributors
  leg : ∀ g, g ≠ occupantLeg o →
    (∀ h', (t.line l).state = .connected → ⟨o.pos, h'⟩ ∈ (t.line l).occupants → g ≠ handsetLeg o.pos h') →
    (∀ sl, (t.line l).state = .idle ∨ (t.line l).state = .alerting → (t.line l).activeSlot = some sl → g ≠ trunkLeg sl) →
    v.leg g = t.leg g
  bridge : ∀ k, k ≠ b → v.bridge k = t.bridge k
  burst : v.timer (.burst l) =
    if (t.line l).state = .idle ∧ (t.line l).kind = .auto then (t.timer (.burst l)).start (t.line l).burst
    else t.timer (.burst l)
  ringTimeout : (t.line l).state = .alerting → (v.timer (.ringTimeout l)).running = false
  holdRecall : (t.line l).state = .held → (v.timer (.holdRecall l)).running = false
  timer : ∀ id, id ≠ .burst l → ((t.line l).state = .alerting → id ≠ .ringTimeout l) →
    ((t.line l).state = .held → id ≠ .holdRecall l) → v.timer id = t.timer id
  generators : (t.line l).state ≠ .alerting → v.generators = t.generators
  frame : v =
    { t with lines := v.lines, bridges := v.bridges, legs := v.legs, timers := v.timers, generators := v.generators }

/-- A line at rest or alerting that is seized. -/
theorem SeizedOn.took {t v : State} {l : LineNo} {b : BridgeNo} {o : Occupant} (h : SeizedOn t v l b o)
    (state : (t.line l).state = .idle ∨ (t.line l).state = .alerting) : SwitchTook t v o l b := by
  have apart (other : LineState) (idle : other ≠ .idle) (alerting : other ≠ .alerting) : (t.line l).state ≠ other := fun e =>
    state.elim (fun k => idle (e.symm.trans k)) fun k => alerting (e.symm.trans k)
  have leg := t.leg_connect l b o
  obtain ⟨r, fresh⟩ := t.bridge_connect l b o
  refine ⟨h.line, ?_, ?_, fun _ e => absurd e (apart _ nofun nofun), fun _ => ⟨?_, ?_, fun sl active => ⟨?_, ?_⟩⟩,
    fun g handset _ trunk => ?_, fun k other => ?_, h.burst, fun e => (h.alerting e).1, fun e => absurd e (apart _ nofun nofun),
    fun id burst ring _ => ?_, fun quiet => ?_, h.frame⟩
  · rw [h.leg, leg, if_pos (.inl rfl)]
  · rw [h.bridge, fresh]; simp
  · rw [h.bridge, fresh]; rfl
  · rw [h.bridge, fresh]; rfl
  · rw [h.leg, leg, if_pos (.inr ⟨sl, active, rfl⟩)]
  · rw [h.bridge, fresh]; simp [active]
  · rw [h.leg, leg, if_neg]
    rintro (e | ⟨sl, active, e⟩)
    · exact handset e
    · exact trunk sl state active e
  · rw [h.bridge, State.bridge_connect_ne _ _ _ _ other]
  · by_cases e : id = .ringTimeout l
    · subst e
      rcases state with idle | alerting
      · exact (h.idle idle).1
      · exact absurd rfl (ring alerting)
    · exact h.timer id burst e
  · exact (h.idle (state.resolve_right quiet)).2

/-- The handset's place on a CONNECTED line that its position occupies: it takes that of the other handset (R29 step 2). -/
theorem State.moveHandset_took {t : State} {l : LineNo} {p : Pos} {h h' : Handset} {b : BridgeNo}
    (state : (t.line l).state = .connected) (bridge : (t.line l).bridge = some b) (new : ⟨p, h⟩ ∉ (t.line l).occupants)
    (old : ⟨p, h'⟩ ∈ (t.line l).occupants) : SwitchTook t (t.moveHandset l ⟨p, h'⟩ ⟨p, h⟩) ⟨p, h⟩ l b := by
  have moves : t.moveHandset l ⟨p, h'⟩ ⟨p, h⟩ = ((t.leave b (handsetLeg p h')).join b (handsetLeg p h)).setLine l
      { t.line l with occupants := (t.line l).occupants.map fun e => if e = ⟨p, h'⟩ then ⟨p, h⟩ else e } := by
    simp [State.moveHandset, bridge, State.joinOwn, State.leaveOwn]
  have quiet : ∀ other, other ≠ .connected → (t.line l).state ≠ other := fun other ne e => ne (e.symm.trans state)
  have same (k : Handset) (on : ⟨p, k⟩ ∈ (t.line l).occupants) : k = h' := by
    have one : k ≠ h := fun e => new (e ▸ on)
    have two : h' ≠ h := fun e => new (e ▸ old)
    revert one two
    cases k <;> cases h <;> cases h' <;> simp
  have occupied : (t.line l).occupiedBy p = true := List.any_eq_true.2 ⟨_, old, beq_self_eq_true p⟩
  have renamed : takenBy (t.line l) ⟨p, h⟩ b =
      { t.line l with occupants := (t.line l).occupants.map fun e => if e = ⟨p, h'⟩ then ⟨p, h⟩ else e } := by
    have entry (e : Occupant) (on : e ∈ (t.line l).occupants) :
        (if e.pos = p then ⟨p, h⟩ else e) = if e = ⟨p, h'⟩ then ⟨p, h⟩ else e := by
      obtain ⟨q, k⟩ := e
      by_cases own : q = p
      · subst own; simp [same k on]
      · simp [own]
    simp only [takenBy, state, occupied, if_true, List.map_congr_left entry]
  rw [moves]
  refine ⟨fun k => ?_, ?_, ?_, fun k _ other on => ?_, fun e => ?_, fun g own others _ => ?_, fun k other => ?_, ?_,
    fun e => absurd e (quiet _ nofun), fun e => absurd e (quiet _ nofun), fun id _ _ _ => by simp, fun _ => by simp,
    State.eq_of_fields⟩
  · rw [State.line_setLine, renamed]
    simp
  · simp [State.leg_join]
  · exact State.mem_contributors_join _ b _
  · have apart : handsetLeg p k ≠ handsetLeg p h := fun e => other (handsetLeg_inj e).2
    rw [same k on] at apart ⊢
    simp only [State.leg_setLine, State.leg_join, if_neg apart, State.leg_leave]
    split
    · simp
    · rename_i out; exact fun e => out ⟨trivial, e⟩
  · exact absurd e (not_or.2 ⟨quiet _ nofun, quiet _ nofun⟩)
  · simp [State.leg_join, State.leg_leave, own, others h' state old]
  · simp [State.bridge_join_ne, State.bridge_leave_ne, other]
  · rw [if_neg fun e : _ ∧ _ => quiet .idle nofun e.1]
    simp

/-- A handset that joins a CONNECTED line which its position does not occupy. -/
theorem State.join_took {t : State} {l : LineNo} {o : Occupant} {b : BridgeNo} (state : (t.line l).state = .connected)
    (out : (t.line l).occupiedBy o.pos = false) :
    SwitchTook t ((t.join b (occupantLeg o)).setLine l { t.line l with occupants := (t.line l).occupants ++ [o] }) o l b := by
  have quiet : ∀ other, other ≠ .connected → (t.line l).state ≠ other := fun other ne e => ne (e.symm.trans state)
  have joined : takenBy (t.line l) o b = { t.line l with occupants := (t.line l).occupants ++ [o] } := by
    simp [takenBy, state, out]
  refine ⟨fun k => ?_, ?_, State.mem_contributors_join _ b _, fun k _ _ on => absurd on (Line.not_mem_of_not_occupied out k),
    fun e => absurd e (not_or.2 ⟨quiet _ nofun, quiet _ nofun⟩), fun g own _ _ => ?_, fun k other => ?_, ?_,
    fun e => absurd e (quiet _ nofun), fun e => absurd e (quiet _ nofun), fun id _ _ _ => by simp, fun _ => by simp,
    State.eq_of_fields⟩
  · rw [State.line_setLine, joined]
    simp
  · simp [State.leg_join]
  · simp [State.leg_join, own]
  · simp [State.bridge_join_ne, other]
  · rw [if_neg fun e : _ ∧ _ => quiet .idle nofun e.1]
    simp

/-- A handset that retrieves a HELD line. -/
theorem State.retrieve_took {t : State} {l : LineNo} {o : Occupant} {b : BridgeNo} (state : (t.line l).state = .held) :
    SwitchTook t
      (((t.cancelTimer (.holdRecall l)).join b (occupantLeg o)).setLine l
        { t.line l with
          state := .connected, occupants := [o], holdOwner := none, marks := { (t.line l).marks with recalled := false } })
      o l b := by
  have quiet : ∀ other, other ≠ .held → (t.line l).state ≠ other := fun other ne e => ne (e.symm.trans state)
  refine ⟨fun k => ?_, ?_, State.mem_contributors_join _ b _, fun _ e => absurd e (quiet _ nofun),
    fun e => absurd e (not_or.2 ⟨quiet _ nofun, quiet _ nofun⟩), fun g own _ _ => ?_, fun k other => ?_, ?_,
    fun e => absurd e (quiet _ nofun), fun _ => ?_, fun id _ _ hold => ?_, fun _ => by simp, State.eq_of_fields⟩
  · rw [State.line_setLine]
    simp [takenBy, state]
  · simp [State.leg_join]
  · simp [State.leg_join, own]
  · simp [State.bridge_join_ne, other]
  · rw [if_neg fun e : _ ∧ _ => quiet .idle nofun e.1]
    simp [State.timer_setTimer_ne]
  · simp
  · simp [State.timer_setTimer_ne _ _ (hold state)]

/-! ### The decision, with a switch (R30 to R32) -/

section
variable {s : State} {o : Occupant} {x l : LineNo} {b : BridgeNo}

/-- The seizure of a line at rest or alerting counts the bridge that the switch gives back (R31). -/
theorem State.seizeAtRest_switches (current : s.currentLine o = some x) (other : x ≠ l)
    (left : SwitchLeft s (s.dealWith o l) o x) (state : (s.line l).state = .idle ∨ (s.line l).state = .alerting)
    (lowest : Lowest (HadBySeize s o x) b) :
    ∃ v, s.seizeAtRest l o = (.accepted, v) ∧ SwitchTook (s.dealWith o l) v o l b := by
  have same := left.others l other.symm
  have state' : ((s.dealWith o l).line l).state = .idle ∨ ((s.dealWith o l).line l).state = .alerting := by rw [same]; exact state
  have free : (s.dealWith o l).lowestFree = some b :=
    State.lowestFree_eq_some.2 ⟨(State.dealWith_had current other b).2 lowest.1,
      fun k low free => lowest.2 k low ((State.dealWith_had current other k).1 free)⟩
  have may : s.lowestFree.isSome = true ∨ s.countsBridge o = true := by
    rcases lowest.1 with free | ⟨sole, release, -⟩
    · refine .inl (Option.isSome_iff_ne_none.2 fun none => ?_)
      exact State.lowestFree_eq_none.1 none b free
    · exact .inr (by simp [State.countsBridge, current, sole, release])
  exact ⟨_, State.seizeAtRest_had may free same state, (State.seizeOn_seized b o state').took state'⟩

/-- Without a bridge to have, the request is refused before the handset leaves its line. -/
theorem State.seizeAtRest_noBridge (current : s.currentLine o = some x) (other : x ≠ l) (none : ∀ b, ¬HadBySeize s o x b) :
    s.seizeAtRest l o = (.refused .noBridge, s.post .pool) := by
  have free : (s.dealWith o l).lowestFree = .none := 
    State.lowestFree_eq_none.2 fun b free => none b ((State.dealWith_had current other b).1 free)
  unfold State.seizeAtRest
  split
  · simp only [free]
  · rfl

end

theorem State.seizeConnected_switches {s : State} {p : Pos} {h : Handset} {x l : LineNo} {b : BridgeNo}
    (left : SwitchLeft s (s.dealWith ⟨p, h⟩ l) ⟨p, h⟩ x) (other : x ≠ l) (new : ⟨p, h⟩ ∉ (s.line l).occupants)
    (state : (s.line l).state = .connected) (bridge : (s.line l).bridge = some b)
    (may : (s.line l).occupiedBy p = true ∨ (s.line l).currentPrivacy = .shared ∧ (s.line l).occupants.length < 4) :
    ∃ v, s.seizeConnected l ⟨p, h⟩ = (.accepted, v) ∧ SwitchTook (s.dealWith ⟨p, h⟩ l) v ⟨p, h⟩ l b := by
  have same := left.others l other.symm
  by_cases occupied : (s.line l).occupiedBy p = true
  · obtain ⟨⟨q, h'⟩, found⟩ : ∃ e, ((s.line l).occupants.find? fun y => y.pos == p) = some e := by
      refine Option.isSome_iff_exists.1 (List.find?_isSome.2 ?_)
      simpa [Line.occupiedBy] using occupied
    have own : q = p := by simpa using List.find?_some found
    subst own
    refine ⟨_, by simp [State.seizeConnected, new, found]; rfl, State.moveHandset_took ?_ ?_ ?_ ?_⟩
    · rw [same]; exact state
    · rw [same]; exact bridge
    · rw [same]; exact new
    · rw [same]; exact List.mem_of_find?_eq_some found
  · obtain ⟨privacy, place⟩ := may.resolve_left occupied
    have out : (s.line l).occupiedBy p = false := Bool.eq_false_iff.2 occupied
    have took := State.join_took (t := s.dealWith ⟨p, h⟩ l) (l := l) (o := ⟨p, h⟩) (b := b) (by rw [same]; exact state)
      (by rw [same]; exact out)
    refine ⟨_, ?_, took⟩
    simp [State.seizeConnected, Line.not_mem_of_not_occupied out, Line.find_of_not_occupied out, privacy, Config.maxOccupants,
      Nat.not_le.2 place, bridge, State.joinOwn, same]

theorem State.seizeHeld_switches {s : State} {o : Occupant} {x l : LineNo} {b : BridgeNo} (left : SwitchLeft s (s.dealWith o l) o x)
    (other : x ≠ l) (state : (s.line l).state = .held) (bridge : (s.line l).bridge = some b)
    (may : (s.line l).retrievableBy o.pos = true) :
    ∃ v, s.seizeHeld l o = (.accepted, v) ∧ SwitchTook (s.dealWith o l) v o l b := by
  have same := left.others l other.symm
  refine ⟨_, ?_, State.retrieve_took (t := s.dealWith o l) (by rw [same]; exact state)⟩
  simp [State.seizeHeld, may, bridge, State.joinOwn, same]

end Sys2Proof.Machine

namespace Sys2Proof.Proofs

open Machine Safety Laws

/-- Settles O11: what the line left and the line taken leave of each record (`SwitchLeft`, `SwitchTook`), one after the other; the
refusals come before the handset leaves its line. -/
theorem handsetSwitchLeavesFirst : Obligations.HandsetSwitchLeavesFirst := by
  intro s p k h l x t ht ready running key current other new
  have action : ((taken s p).link p).switchAction = (s.link p).switchAction := by rw [taken_link, if_pos rfl]
  have current' : (taken s p).currentLine ⟨p, h⟩ = some x := current
  have had' (b : BridgeNo) : HadBySeize (taken s p) ⟨p, h⟩ x b ↔ HadBySeize s ⟨p, h⟩ x b := by
    simp only [HadBySeize, taken_bridge, taken_line, action]
  obtain ⟨⟨r, v⟩, decided⟩ : ∃ d, (taken s p).seizeKey p k h = d := ⟨_, rfl⟩
  have atRest := State.seizeKey_atRest (s := taken s p) (l := l) h key
  have connected := State.seizeKey_connected (s := taken s p) (l := l) h key
  have held := State.seizeKey_held (s := taken s p) (l := l) h key
  refine ⟨_, exec_seize ht ready running decided, fun b had alone => ?_, fun state none => ?_, fun state out secluded => ?_,
    fun state out shared full => ?_, fun state barred => ?_⟩
  · have left : SwitchLeft (taken s p) ((taken s p).dealWith ⟨p, h⟩ l) ⟨p, h⟩ x :=
      State.dealWith_switchLeft current' other fun leaves => alone ⟨leaves.1, action.symm.trans leaves.2⟩
    obtain ⟨v', accepted, took⟩ : ∃ v', (taken s p).seizeKey p k h = (.accepted, v') ∧
        SwitchTook ((taken s p).dealWith ⟨p, h⟩ l) v' ⟨p, h⟩ l b := by
      rcases had with ⟨state, lowest⟩ | ⟨state, bridge, may⟩ | ⟨state, bridge, may⟩
      · rw [atRest state]
        exact State.seizeAtRest_switches current' other left state
          ⟨(had' b).2 lowest.1, fun b' low free => lowest.2 b' low ((had' b').1 free)⟩
      · rw [connected state]
        exact State.seizeConnected_switches left other new state bridge may
      · rw [held state]
        exact State.seizeHeld_switches left other state bridge ((Line.retrievableBy_iff _ p).2 may)
    cases decided.symm.trans accepted
    generalize (taken s p).dealWith ⟨p, h⟩ l = t0 at left took
    have same : t0.line l = s.line l := left.others l other.symm
    have rests : LeftToRest (taken s p) ⟨p, h⟩ x ↔ LeftToRest s ⟨p, h⟩ x := by
      simp only [LeftToRest, taken_line, action]
    have links : v.links = (taken s p).links := by rw [took.frame, left.frame]
    have pointer : v.pointer = p + 1 := by rw [took.frame, left.frame]; rfl
    have apartHold : TimerId.holdRecall x ≠ .holdRecall l := fun e => other (TimerId.holdRecall.inj e)
    have apartBurst : TimerId.burst x ≠ .burst l := fun e => other (TimerId.burst.inj e)
    have hold : v.timer (.holdRecall x) = t0.timer (.holdRecall x) := took.timer _ nofun (fun _ => nofun) fun _ => apartHold
    have burst : v.timer (.burst x) = t0.timer (.burst x) := took.timer _ apartBurst (fun _ => nofun) fun _ => nofun
    have lineX : v.line x = t0.line x := (took.line x).trans (if_neg other)
    have slots : v.slots = t0.slots := by rw [took.frame]
    have mp : v.mp = t0.mp := by rw [took.frame]
    refine ⟨answered_answered _ _ links pointer, answered_indications _ _ links, ?_, fun l' hx hl => ?_, ?_, ?_, fun h' state ne on => ?_,
      fun state => ⟨?_, ?_, fun sl active => ⟨?_, ?_⟩⟩, fun g own others trunk => ?_, fun b' hb hx => ?_, fun b' hb hx => ⟨fun leaves => ?_,
      fun stays kept => ?_⟩, fun leaves => ⟨?_, ?_⟩, fun sole holds => ⟨?_, ?_⟩, fun more => ⟨?_, ?_⟩, ?_, fun state => ?_, fun state => ?_,
      fun id hx bx bl ring held => ?_, fun q m => ?_, fun state => ?_, ?_, fun stands => ⟨?_, ?_, ?_⟩, fun leaves moves => ⟨?_, ?_,
      fun n a primary alternate ne => ⟨?_, ?_, fun sl hn ha => ?_⟩⟩⟩
    · rw [answered_line, took.line, if_pos rfl, same]
    · rw [answered_line, took.line, if_neg hl, left.others l' hx]; rfl
    · rw [answered_leg]; exact took.attached
    · rw [answered_bridge, Bridge.settle_contributors]; exact took.contributes
    · rw [answered_leg]; exact took.moved h' (by rw [same]; exact state) ne (by rw [same]; exact on)
    · rw [answered_bridge, Bridge.settle_state]; exact (took.fresh (by rw [same]; exact state)).1
    · rw [answered_bridge, Bridge.settle_owner]; exact (took.fresh (by rw [same]; exact state)).2.1
    · rw [answered_leg]
      exact ((took.fresh (by rw [same]; exact state)).2.2 sl (by rw [same]; exact active)).1
    · rw [answered_bridge, Bridge.settle_contributors]
      exact ((took.fresh (by rw [same]; exact state)).2.2 sl (by rw [same]; exact active)).2
    · rw [answered_leg, took.leg g own (by rw [same]; exact others) (by rw [same]; exact trunk)]
      split
      · rename_i gone
        obtain ⟨-, on, sole, why⟩ := gone
        refine left.legs.leave g (.inr ⟨sole, why.imp (action.trans ·) id⟩) on
      · rename_i stays
        by_cases loose : (s.leg g).attach = none
        · exact left.legs.loose loose
        · refine left.legs.stays g fun gone => stays ⟨loose, gone.2, ?_⟩
          obtain ⟨sole, why⟩ := gone.1.resolve_left own
          exact ⟨sole, why.imp (action.symm.trans ·) id⟩
    · rw [answered_bridge, took.bridge b' hb, left.apart b' hx]; rfl
    · rw [answered_bridge, took.bridge b' hb, left.freed (rests.2 leaves) b' hx]
      exact Bridge.settle_free
    · rw [answered_bridge, took.bridge b' hb]
      exact left.kept (kept.imp id fun alone => ⟨fun k => stays (rests.1 k), alone⟩) b' hx
    · rw [answered_timer, hold]; exact (left.restTimers (rests.2 leaves)).1
    · rw [answered_timer, burst]; exact (left.restTimers (rests.2 leaves)).2
    · rw [answered_timer, hold]; exact (left.holdTimers sole (action.trans holds)).1
    · rw [answered_timer, burst]; exact (left.holdTimers sole (action.trans holds)).2
    · rw [answered_timer, hold]; exact (left.moreTimers more).1
    · rw [answered_timer, burst]; exact (left.moreTimers more).2
    · rw [answered_timer, took.burst, same, left.timer (.burst l) nofun apartBurst.symm]
      rfl
    · rw [answered_timer]; exact took.ringTimeout (by rw [same]; exact state)
    · rw [answered_timer]; exact took.holdRecall (by rw [same]; exact state)
    · rw [answered_timer, took.timer id bl (by rw [same]; exact ring) (by rw [same]; exact held), left.timer id hx bx]
      rfl
    · rw [answered_selection, took.frame]
      exact left.selection q m
    · rw [answered_generators, took.generators (by rw [same]; exact state), left.frame]
      rfl
    · rw [took.frame, left.frame]
      exact State.eq_of_fields
    · rw [answered_line, lineX, (left.stands (stands.imp (fun k e => k (rests.1 e)) id)).1, action]
      rfl
    · rw [answered_slots, slots, (left.stands (stands.imp (fun k e => k (rests.1 e)) id)).2.1]
      rfl
    · rw [answered_mp, mp, (left.stands (stands.imp (fun k e => k (rests.1 e)) id)).2.2]
      rfl
    · rw [answered_line, lineX, (left.reverts (rests.2 leaves) moves).1]
      rfl
    · rw [answered_mp, mp, (left.reverts (rests.2 leaves) moves).2.1]
      rfl
    · rw [answered_slot, State.slot, slots]
      exact ((left.reverts (rests.2 leaves) moves).2.2 n a primary alternate ne n).trans (by rw [if_pos rfl]; rfl)
    · rw [answered_slot, State.slot, slots]
      exact ((left.reverts (rests.2 leaves) moves).2.2 n a primary alternate ne a).trans (by rw [if_neg ne.symm, if_pos rfl]; rfl)
    · rw [answered_slot, State.slot, slots]
      exact ((left.reverts (rests.2 leaves) moves).2.2 n a primary alternate ne sl).trans (by rw [if_neg hn, if_neg ha]; rfl)
  · rw [atRest state] at decided
    cases decided.symm.trans (State.seizeAtRest_noBridge current' other fun b free => none b ((had' b).1 free))
    exact answered_noBridge s p _
  · rw [connected state] at decided
    cases decided.symm.trans (State.seizeConnected_secluded (s := taken s p) h out secluded)
    exact answered_unmoved s p _ _ (by simp)
  · rw [connected state] at decided
    cases decided.symm.trans (State.seizeConnected_full (s := taken s p) h out shared full)
    exact answered_unmoved s p _ _ (by simp)
  · have no : ((taken s p).line l).retrievableBy p = false := by
      rw [Bool.eq_false_iff]; exact fun e => barred ((Line.retrievableBy_iff _ p).1 e)
    rw [held state] at decided
    cases decided.symm.trans (show (taken s p).seizeHeld l ⟨p, h⟩ = (.refused .notHolder, taken s p) by
      rw [State.seizeHeld, no]
      rfl)
    exact answered_unmoved s p _ _ (by simp)

end Sys2Proof.Proofs
end
section
/-! SET-CHANNEL (R66, R87, R88): the floor under a new maximum. -/

set_option Elab.async false

namespace Sys2Proof.Machine

open Safety

/-! ### Talkers that go back to the queue (R87) -/

/-- Talkers lose the floor one after the other. -/
def State.hushAll (s : State) (c : ChanNo) (es : List FloorEntry) : State := es.foldl (fun t e => t.silenceMic c e.pos) s

/-- What the loss of the floor by the talkers `es` of channel `c` leaves, between `s` and `t`. -/
structure Hushed (s t : State) (c : ChanNo) (es : List FloorEntry) : Prop where
  stopped : ∀ e ∈ es, (t.timer (.silence c e.pos)).running = false
  timer : ∀ id, (∀ e ∈ es, id ≠ .silence c e.pos) → t.timer id = s.timer id
  stays : ∀ id, (s.timer id).running = false → (t.timer id).running = false
  bridge : ∀ b, (s.channel c).bridge = some b →
    (t.bridge b).contributors = es.foldl (fun gs e => gs.erase (micLeg e.pos)) (s.bridge b).contributors ∧
      (t.bridge b).bare = (s.bridge b).bare
  apart : ∀ b, (s.channel c).bridge ≠ some b → t.bridge b = s.bridge b
  legs : ∀ g, (∀ e ∈ es, g ≠ micLeg e.pos) → t.leg g = s.leg g
  frame : t = { s with bridges := t.bridges, legs := t.legs, timers := t.timers }

theorem State.silenceMic_hushed (s : State) (c : ChanNo) (e : FloorEntry) : Hushed s (s.silenceMic c e.pos) c [e] := by
  have leaves := State.leaveOwn_legs_leave (s.cancelTimer (.silence c e.pos)) (s.channel c).bridge (micLeg e.pos)
  have timer (id : TimerId) : (s.silenceMic c e.pos).timer id = (s.cancelTimer (.silence c e.pos)).timer id := by
    simp [State.silenceMic]
  refine ⟨?_, fun id other => ?_, fun id still => ?_, fun b own => ?_, fun b other => ?_, fun g other => ?_, State.eq_of_fields⟩
  · simp [timer]
  · rw [timer, State.cancelTimer_eq, State.timer_setTimer_ne _ _ (other e (List.mem_singleton.2 rfl))]
  · rw [timer]
    exact ((s.timer_cancelTimers [.silence c e.pos] id).2 (.inr still))
  · have left : s.silenceMic c e.pos = (s.cancelTimer (.silence c e.pos)).leave b (micLeg e.pos) := by
      unfold State.silenceMic
      rw [own]
      rfl
    rw [left, State.bridge_leave_self]
    exact ⟨rfl, rfl⟩
  · exact leaves.other b other
  · exact leaves.stays g (other e (List.mem_singleton.2 rfl))

theorem Hushed.trans {s t u : State} {c : ChanNo} {es fs : List FloorEntry} (h : Hushed s t c es) (k : Hushed t u c fs) :
    Hushed s u c (es ++ fs) := by
  have channel : t.channel c = s.channel c := by rw [h.frame]; rfl
  refine ⟨fun e mem => ?_, fun id other => ?_, fun id still => k.stays id (h.stays id still), fun b own => ?_, fun b other => ?_,
    fun g other => ?_, ?_⟩
  · rcases List.mem_append.1 mem with first | last
    · exact k.stays _ (h.stopped e first)
    · exact k.stopped e last
  · rw [k.timer id fun e mem => other e (List.mem_append_right _ mem), h.timer id fun e mem => other e (List.mem_append_left _ mem)]
  · obtain ⟨gone, bare⟩ := h.bridge b own
    obtain ⟨gone', bare'⟩ := k.bridge b (by rw [channel]; exact own)
    exact ⟨by rw [gone', gone, List.foldl_append], bare'.trans bare⟩
  · rw [k.apart b (by rw [channel]; exact other), h.apart b other]
  · rw [k.legs g fun e mem => other e (List.mem_append_right _ mem), h.legs g fun e mem => other e (List.mem_append_left _ mem)]
  · rw [k.frame, h.frame]

theorem State.hushAll_hushed (s : State) (c : ChanNo) (es : List FloorEntry) : Hushed s (s.hushAll c es) c es := by
  induction es generalizing s with
  | nil => exact ⟨nofun, fun _ _ => rfl, fun _ => id, fun _ _ => ⟨rfl, rfl⟩, fun _ _ => rfl, fun _ _ => rfl, rfl⟩
  | cons e rest ih => exact (s.silenceMic_hushed c e).trans (ih (s.silenceMic c e.pos))

/-! ### Queue entries that come to talk (R88) -/

/-- What the grants to the queue's head entries `es` of channel `c` leave, between `s` and `t`. -/
structure HeadsGranted (s t : State) (c : ChanNo) (es : List FloorEntry) : Prop where
  channel : t.channel c =
    { s.channel c with talkers := (s.channel c).talkers ++ es, queue := (s.channel c).queue.drop es.length }
  channels : ∀ d, d ≠ c → t.channel d = s.channel d
  started : ∀ e ∈ es, e.latched = true → (s.channel c).silence ≠ 0 →
    (t.timer (.silence c e.pos)).running = true ∧ (t.timer (.silence c e.pos)).framesLeft = 16 * (1000 * (s.channel c).silence)
  timer : ∀ id, (∀ e ∈ es, e.latched = true → (s.channel c).silence ≠ 0 → id ≠ .silence c e.pos) → t.timer id = s.timer id
  bridge : ∀ b, (s.channel c).bridge = some b →
    (t.bridge b).contributors = micsJoined (s.bridge b).contributors es ∧ (t.bridge b).bare = (s.bridge b).bare
  apart : ∀ b, (s.channel c).bridge ≠ some b → t.bridge b = s.bridge b
  frame : t = { s with channels := t.channels, bridges := t.bridges, timers := t.timers }

theorem HeadsGranted.nil (s : State) (c : ChanNo) : HeadsGranted s s c [] :=
  ⟨by simp, fun _ _ => rfl, nofun, fun _ _ => rfl, fun _ _ => ⟨rfl, rfl⟩, fun _ _ => rfl, rfl⟩

theorem HeadsGranted.cons {s t u : State} {c : ChanNo} {e : FloorEntry} {es : List FloorEntry} (h : HeadsGranted s t c [e])
    (k : HeadsGranted t u c es) : HeadsGranted s u c (e :: es) := by
  have bridge : (t.channel c).bridge = (s.channel c).bridge := by rw [h.channel]
  have silence : (t.channel c).silence = (s.channel c).silence := by rw [h.channel]
  refine ⟨?_, fun d other => (k.channels d other).trans (h.channels d other), fun f mem latched timeout => ?_, fun id other => ?_,
    fun b own => ?_, fun b other => ?_, ?_⟩
  · rw [k.channel, h.channel]
    simp
  · by_cases later : ∃ f' ∈ es, f'.latched = true ∧ f'.pos = f.pos
    · obtain ⟨f', mem', latched', same⟩ := later
      have last := k.started f' mem' latched' (by rw [silence]; exact timeout)
      rw [same, silence] at last
      exact last
    · rw [k.timer]
      · rcases List.mem_cons.1 mem with rfl | tail
        · exact h.started f (List.mem_singleton.2 rfl) latched timeout
        · exact absurd ⟨f, tail, latched, rfl⟩ later
      · intro f' mem' latched' _ own
        injection own with _ own
        exact later ⟨f', mem', latched', own.symm⟩
  · rw [k.timer id fun f mem latched timeout => other f (List.mem_cons_of_mem _ mem) latched (by rw [← silence]; exact timeout),
      h.timer id fun f mem latched timeout => by
        rw [List.mem_singleton.1 mem] at latched ⊢
        exact other e List.mem_cons_self latched timeout]
  · obtain ⟨joined, bare⟩ := h.bridge b own
    obtain ⟨joined', bare'⟩ := k.bridge b (by rw [bridge]; exact own)
    exact ⟨by rw [joined', joined]; rfl, bare'.trans bare⟩
  · rw [k.apart b (by rw [bridge]; exact other), h.apart b other]
  · rw [k.frame, h.frame]

theorem State.grantHead_granted {s : State} {c : ChanNo} {e : FloorEntry} {rest : List FloorEntry}
    (queue : (s.channel c).queue = e :: rest) (room : (s.channel c).talkers.length < (s.channel c).maxTalkers) :
    HeadsGranted s (s.grantHead c) c [e] := by
  have heads : headGrants (s.channel c) = [e] := by simp [headGrants, queue, room]
  obtain ⟨others, own⟩ := s.timer_grantHead c
  rw [heads] at others own
  have only := own e (List.mem_singleton.2 rfl)
  refine ⟨?_, fun d other => ?_, fun f mem latched timeout => ?_, fun id other => ?_, fun b has => ?_, fun b other => ?_,
    State.eq_of_fields⟩
  · rw [State.channel_grantHead, if_pos rfl, headGranted, if_pos room, queue]
    rfl
  · rw [State.channel_grantHead, if_neg other]
  · rw [List.mem_singleton.1 mem] at latched ⊢
    rw [only, if_pos ⟨latched, timeout⟩]
    exact ⟨rfl, rfl⟩
  · by_cases starts : e.latched = true ∧ (s.channel c).silence ≠ 0
    · exact others id fun f mem => by
        rw [List.mem_singleton.1 mem]
        exact other e (List.mem_singleton.2 rfl) starts.1 starts.2
    · by_cases self : id = .silence c e.pos
      · rw [self, only, if_neg starts]
      · exact others id fun f mem => by rw [List.mem_singleton.1 mem]; exact self
  · obtain ⟨joined, bare, -⟩ := State.bridge_grantHead has
    rw [heads] at joined
    exact ⟨joined, bare⟩
  · obtain ⟨-, -, same⟩ | ⟨f, rest', -, -, same⟩ := s.grantHead_cases c
    · rw [same]
    · cases has : (s.channel c).bridge with
      | none => simp [same, State.addTalker, State.speakOn, has]
      | some n =>
        exact (State.bridge_grantHead has).2.2 b fun e => other (by rw [has, e])

/-- The grants while a place is free: the head entries, as many as there are places. -/
theorem State.grantAll_granted (n : Nat) (s : State) (c : ChanNo) :
    HeadsGranted s (State.grantAll n s c) c
      ((s.channel c).queue.take (min n ((s.channel c).maxTalkers - (s.channel c).talkers.length))) := by
  induction n generalizing s with
  | zero =>
    rw [Nat.zero_min, List.take_zero]
    exact HeadsGranted.nil s c
  | succ n ih =>
    unfold State.grantAll
    cases queue : (s.channel c).queue with
    | nil =>
      have same : s.grantHead c = s := by simp [State.grantHead, queue]
      have rest := ih s
      rw [queue, List.take_nil] at rest
      rwa [same, List.take_nil]
    | cons e rest =>
      by_cases room : (s.channel c).talkers.length < (s.channel c).maxTalkers
      · have first := State.grantHead_granted queue room
        have later := ih (s.grantHead c)
        rw [first.channel, queue] at later
        have count : min (n + 1) ((s.channel c).maxTalkers - (s.channel c).talkers.length) =
            min n ((s.channel c).maxTalkers - ((s.channel c).talkers.length + 1)) + 1 := by omega
        rw [count, List.take_succ_cons]
        refine first.cons ?_
        simpa using later
      · have same : s.grantHead c = s := by simp [State.grantHead, queue, room]
        have later := ih s
        have none : (s.channel c).maxTalkers - (s.channel c).talkers.length = 0 := by omega
        rw [none, Nat.min_zero, List.take_zero] at later ⊢
        rwa [same]

/-! ### The floor under a new maximum (R87, R88) -/

/-- What a new maximum `n` leaves of channel `c` and of its bridge, legs and timers, between `s` and `t`. -/
structure MaximumWritten (s t : State) (c : ChanNo) (n : Nat) : Prop where
  channel : t.channel c = floorUnder (s.channel c) n
  channels : ∀ d, d ≠ c → t.channel d = s.channel d
  stopped : ∀ e ∈ (s.channel c).talkers.drop n, (t.timer (.silence c e.pos)).running = false
  started : ∀ e ∈ floorGains (s.channel c) n, e.latched = true → (s.channel c).silence ≠ 0 →
    (t.timer (.silence c e.pos)).running = true ∧ (t.timer (.silence c e.pos)).framesLeft = 16 * (1000 * (s.channel c).silence)
  timer : ∀ id, (∀ e ∈ (s.channel c).talkers.drop n, id ≠ .silence c e.pos) →
    (∀ e ∈ floorGains (s.channel c) n, id ≠ .silence c e.pos) → t.timer id = s.timer id
  bridge : ∀ b, (s.channel c).bridge = some b →
    (t.bridge b).contributors =
        micsJoined (((s.channel c).talkers.drop n).foldl (fun gs e => gs.erase (micLeg e.pos)) (s.bridge b).contributors)
          (floorGains (s.channel c) n) ∧
      (t.bridge b).bare = (s.bridge b).bare
  apart : ∀ b, (s.channel c).bridge ≠ some b → t.bridge b = s.bridge b
  legs : ∀ g, (∀ e ∈ (s.channel c).talkers.drop n, g ≠ micLeg e.pos) → t.leg g = s.leg g
  frame : t = { s with channels := t.channels, bridges := t.bridges, legs := t.legs, timers := t.timers }

theorem State.lowerMaximum_written {s : State} {c : ChanNo} {n : Nat} (fewer : n < (s.channel c).talkers.length) :
    MaximumWritten s (s.lowerMaximum c n) c n := by
  have hushed := s.hushAll_hushed c ((s.channel c).talkers.drop n)
  have gains : floorGains (s.channel c) n = [] := by
    rw [floorGains, show n - (s.channel c).talkers.length = 0 by omega, List.take_zero]
  have lowered : s.lowerMaximum c n = (s.hushAll c ((s.channel c).talkers.drop n)).setChannel c (floorUnder (s.channel c) n) := by
    have channel : (s.hushAll c ((s.channel c).talkers.drop n)).channel c = s.channel c := by rw [hushed.frame]; rfl
    have under : floorUnder (s.channel c) n =
        { s.channel c with
          maxTalkers := n, talkers := (s.channel c).talkers.take n
          queue := ((s.channel c).talkers.drop n ++ (s.channel c).queue).take 8 } := if_pos fewer
    rw [under]
    unfold State.lowerMaximum
    rw [State.modChannel_eq, ← State.hushAll, channel]
    rfl
  rw [lowered]
  generalize s.hushAll c _ = t at hushed
  refine ⟨State.channel_setChannel_self .., fun d other => ?_, hushed.stopped, ?_, fun id other _ => hushed.timer id other,
    ?_, hushed.apart, hushed.legs, ?_⟩
  · rw [State.channel_setChannel_ne _ _ other, hushed.frame]
    rfl
  · rw [gains]; exact nofun
  · rw [gains]; exact hushed.bridge
  · rw [hushed.frame]
    rfl

theorem State.raiseMaximum_written {s : State} {c : ChanNo} {n : Nat} (more : (s.channel c).talkers.length ≤ n) :
    MaximumWritten s ((s.setChannel c { s.channel c with maxTalkers := n }).grantAll n c) c n := by
  have granted := (s.setChannel c { s.channel c with maxTalkers := n }).grantAll_granted n c
  have gone : (s.channel c).talkers.drop n = [] := List.drop_eq_nil_of_le more
  have gains : min n (n - (s.channel c).talkers.length) = n - (s.channel c).talkers.length := by omega
  have silence : ((s.setChannel c { s.channel c with maxTalkers := n }).channel c).silence = (s.channel c).silence := by simp
  have under : floorUnder (s.channel c) n =
      { s.channel c with
        maxTalkers := n, talkers := (s.channel c).talkers ++ floorGains (s.channel c) n
        queue := (s.channel c).queue.drop (n - (s.channel c).talkers.length) } := if_neg (by omega)
  obtain ⟨channel, channels, started, timer, bridge, apart, frame⟩ := granted
  simp only [State.channel_setChannel_self, gains, ← floorGains.eq_1] at channel started timer bridge apart
  refine ⟨?_, fun d other => ?_, ?_, started, fun id _ other => ?_, ?_, apart, fun g _ => ?_, ?_⟩
  · rw [channel, under]
    simp [floorGains]
  · exact (channels d other).trans (State.channel_setChannel_ne _ _ other)
  · rw [gone]; exact nofun
  · exact timer id fun e mem _ _ => other e mem
  · rw [gone]; exact bridge
  · rw [frame]; rfl
  · rw [frame]; rfl

theorem State.writeMaximum_written (s : State) (c : ChanNo) (n : Nat) : MaximumWritten s (s.writeMaximum c n) c n := by
  unfold State.writeMaximum
  split
  · rename_i fewer
    exact State.lowerMaximum_written fewer
  · rename_i more
    exact State.raiseMaximum_written (Nat.le_of_not_lt more)

end Sys2Proof.Machine
end
section
/-! Namings of slots removed (R131): the slot and the timers, exactly. -/

set_option Elab.async false

namespace Sys2Proof.Machine

open Safety

/-- A slot after a naming is removed: UNASSIGNED without a claimant where it was the last one. -/
def leftNamed (x : Slot) : Slot := if x.named = true then x else { x with state := .unassigned, claimant := none }

theorem leftNamed_named (x : Slot) : (leftNamed x).named = x.named := by
  unfold leftNamed
  split <;> rfl

theorem leftNamed_of_named {x : Slot} (h : x.named = true) : leftNamed x = x := if_pos h

theorem leftNamed_of_unnamed {x : Slot} (h : x.named = false) : leftNamed x = { x with state := .unassigned, claimant := none } :=
  if_neg (by simp [h])

@[simp] theorem leftNamed_altLines (x : Slot) : (leftNamed x).altLines = x.altLines := by
  unfold leftNamed
  split <;> rfl

@[simp] theorem leftNamed_primaryNamer (x : Slot) : (leftNamed x).primaryNamer = x.primaryNamer := by
  unfold leftNamed
  split <;> rfl

/-- A slot without a primary namer is named by the lines that have it as alternate. -/
theorem named_without_primary (x : Slot) : ({ x with primaryNamer := none } : Slot).named = true ↔ x.altLines ≠ [] := by
  simp [Slot.named]

theorem State.slot_unnameSlot (s : State) (sl : SlotNo) (f : Slot → Slot) (n : SlotNo) :
    (s.unnameSlot sl f).slot n = if n = sl then leftNamed (f (s.slot sl)) else s.slot n := by
  split
  · rename_i own
    subst own
    by_cases named : (f (s.slot n)).named = true
    · rw [leftNamed_of_named named]
      unfold State.unnameSlot
      simp [named]
    · rw [Bool.not_eq_true] at named
      rw [leftNamed_of_unnamed named, (State.unnameSlot_last named).1]
  · rename_i other
    exact s.slot_unnameSlot_ne f other

/-- Only the fault-confirm and restore timers of a slot that loses its last naming are stopped. -/
theorem State.timer_unnameSlot_kept {s : State} {sl : SlotNo} {f : Slot → Slot} {id : TimerId}
    (h : (f (s.slot sl)).named = false → id ≠ .faultConfirm sl ∧ id ≠ .restore sl) :
    (s.unnameSlot sl f).timer id = s.timer id := by
  by_cases named : (f (s.slot sl)).named = true
  · unfold State.unnameSlot
    simp [named]
  · obtain ⟨fault, restore⟩ := h (by simpa using named)
    exact (s.timer_unnameSlot sl f id).1 fault restore

theorem State.slot_unnamePrimary (s : State) (sl : Option SlotNo) (n : SlotNo) :
    (s.unnamePrimary sl).slot n = if sl = some n then leftNamed { s.slot n with primaryNamer := none } else s.slot n := by
  cases sl with
  | none => rfl
  | some m =>
    refine (s.slot_unnameSlot m _ n).trans ?_
    by_cases own : n = m
    · subst own; simp
    · rw [if_neg own, if_neg fun e => own (Option.some.inj e).symm]

theorem State.timer_unnamePrimary_kept {s : State} {sl : Option SlotNo} {id : TimerId}
    (h : ∀ n, sl = some n → (s.slot n).altLines = [] → id ≠ .faultConfirm n ∧ id ≠ .restore n) :
    (s.unnamePrimary sl).timer id = s.timer id := by
  cases sl with
  | none => rfl
  | some n => exact State.timer_unnameSlot_kept fun last => h n rfl (by simpa [Slot.named] using last)

theorem State.timer_unnamePrimary_last {s : State} {n : SlotNo} (last : (s.slot n).altLines = []) :
    ((s.unnamePrimary (some n)).timer (.faultConfirm n)).running = false ∧
      ((s.unnamePrimary (some n)).timer (.restore n)).running = false :=
  (State.unnameSlot_last (f := fun x => { x with primaryNamer := none }) (by simp [Slot.named, last])).2

theorem State.slot_unnameAlternate (s : State) (sl : Option SlotNo) (l : LineNo) (n : SlotNo) :
    (s.unnameAlternate sl l).slot n =
      if sl = some n then leftNamed { s.slot n with altLines := (s.slot n).altLines.filter fun m => m != l } else s.slot n := by
  cases sl with
  | none => rfl
  | some m =>
    refine (s.slot_unnameSlot m _ n).trans ?_
    by_cases own : n = m
    · subst own; simp
    · rw [if_neg own, if_neg fun e => own (Option.some.inj e).symm]

theorem State.timer_unnameAlternate_kept {s : State} {sl : Option SlotNo} {l : LineNo} {id : TimerId}
    (h : ∀ n, sl = some n → ((s.unnameAlternate sl l).slot n).named = false → id ≠ .faultConfirm n ∧ id ≠ .restore n) :
    (s.unnameAlternate sl l).timer id = s.timer id := by
  cases sl with
  | none => rfl
  | some n =>
    refine State.timer_unnameSlot_kept fun last => h n rfl ?_
    rw [State.slot_unnameAlternate, if_pos rfl, leftNamed_named]
    exact last

theorem State.timer_unnameAlternate_last {s : State} {l : LineNo} {n : SlotNo}
    (last : ((s.unnameAlternate (some n) l).slot n).named = false) :
    ((s.unnameAlternate (some n) l).timer (.faultConfirm n)).running = false ∧
      ((s.unnameAlternate (some n) l).timer (.restore n)).running = false := by
  rw [State.slot_unnameAlternate, if_pos rfl, leftNamed_named] at last
  exact (State.unnameSlot_last (f := fun x => { x with altLines := x.altLines.filter fun m => m != l }) last).2

end Sys2Proof.Machine
end

section
/-! SET-CHANNEL (R66): a new trunk slot in the place of the old one. -/

set_option Elab.async false

namespace Sys2Proof.Machine

open Safety

/-- The state with the old trunk slot of channel `c` given up: its leg is off the bridge, and the slot is named no more. -/
def State.trunkLeft (s : State) (c : ChanNo) : State :=
  (s.leaveTrunk (s.channel c).bridge (s.channel c).trunk).unnamePrimary (s.channel c).trunk

section
variable (s : State) (c : ChanNo)

theorem State.slot_trunkLeft (n : SlotNo) :
    (s.trunkLeft c).slot n =
      if (s.channel c).trunk = some n then leftNamed { s.slot n with primaryNamer := none } else s.slot n := by
  simp [State.trunkLeft, State.slot_unnamePrimary]

theorem State.leg_trunkLeft (g : LegNo) :
    (s.trunkLeft c).leg g =
      if ∃ n b, (s.channel c).trunk = some n ∧ (s.channel c).bridge = some b ∧ g = trunkLeg n ∧ (s.leg g).attach = some b then
        { s.leg g with attach := none }
      else s.leg g := by
  have unnamed : (s.trunkLeft c).leg g = (s.leaveTrunk (s.channel c).bridge (s.channel c).trunk).leg g := by
    simp [State.trunkLeft]
  rw [unnamed]
  cases (s.channel c).trunk with
  | none => simp [State.leaveTrunk]
  | some n =>
    cases (s.channel c).bridge with
    | none => simp [State.leaveTrunk, State.leaveOwn]
    | some b =>
      refine (s.leg_leave b (trunkLeg n) g).trans ?_
      by_cases own : g = trunkLeg n
      · subst own; simp
      · simp [own]

theorem State.bridge_trunkLeft :
    (∀ b, (s.channel c).bridge = some b →
      ((s.trunkLeft c).bridge b).contributors =
          (s.channel c).trunk.elim (s.bridge b).contributors (fun n => (s.bridge b).contributors.erase (trunkLeg n)) ∧
        ((s.trunkLeft c).bridge b).bare = (s.bridge b).bare) ∧
      ∀ b, (s.channel c).bridge ≠ some b → (s.trunkLeft c).bridge b = s.bridge b := by
  have unnamed (b : BridgeNo) : (s.trunkLeft c).bridge b = (s.leaveTrunk (s.channel c).bridge (s.channel c).trunk).bridge b := by
    simp [State.trunkLeft]
  simp only [unnamed]
  cases (s.channel c).trunk with
  | none => exact ⟨fun _ _ => ⟨rfl, rfl⟩, fun _ _ => rfl⟩
  | some n =>
    refine ⟨fun b own => ?_, fun b other => (State.leaveOwn_legs_leave s _ (trunkLeg n)).other b other⟩
    have left : s.leaveTrunk (s.channel c).bridge (some n) = s.leave b (trunkLeg n) := by rw [own]; rfl
    rw [left, State.bridge_leave_self]
    exact ⟨rfl, rfl⟩

theorem State.trunkLeft_frame :
    s.trunkLeft c =
      { s with
        bridges := (s.trunkLeft c).bridges, legs := (s.trunkLeft c).legs, slots := (s.trunkLeft c).slots
        timers := (s.trunkLeft c).timers } := by
  unfold State.trunkLeft
  exact State.eq_of_fields

theorem State.timer_trunkLeft {id : TimerId}
    (h : ∀ n, (s.channel c).trunk = some n → (s.slot n).altLines = [] → id ≠ .faultConfirm n ∧ id ≠ .restore n) :
    (s.trunkLeft c).timer id = s.timer id := by
  have timer : (s.leaveTrunk (s.channel c).bridge (s.channel c).trunk).timer id = s.timer id := by simp
  rw [State.trunkLeft, State.timer_unnamePrimary_kept, timer]
  intro n own last
  exact h n own (by simpa using last)

end

/-- What the replacement of the trunk slot of channel `c` by `new` leaves, between `s` and `t`. -/
structure TrunkReplaced (s t : State) (c : ChanNo) (new : Option SlotNo) : Prop where
  channel : t.channel c = { s.channel c with trunk := new, noTrunk := (t.channel c).noTrunk }
  channels : ∀ d, d ≠ c → t.channel d = s.channel d
  none : new = none → (t.channel c).noTrunk = false
  claimed : ∀ n, new = some n → Claimable s n →
    (t.channel c).noTrunk = false ∧
    t.slot n = { s.slot n with state := .active, claimant := some (.channel c), primaryNamer := some (.channel c) } ∧
    ∀ b, (s.channel c).bridge = some b → t.leg (trunkLeg n) = { s.leg (trunkLeg n) with attach := some b }
  unclaimed : ∀ n, new = some n → ¬Claimable s n →
    (t.channel c).noTrunk = true ∧ t.slot n = { s.slot n with primaryNamer := some (.channel c) } ∧
    t.leg (trunkLeg n) = s.leg (trunkLeg n)
  confirms : ∀ n, new = some n → t.timer (.faultConfirm n) = confirmAtNaming s n
  left : ∀ n, (s.channel c).trunk = some n →
    t.slot n = leftNamed { s.slot n with primaryNamer := .none } ∧
    ((s.slot n).altLines = [] → (t.timer (.faultConfirm n)).running = false ∧ (t.timer (.restore n)).running = false) ∧
    ∀ b, (s.channel c).bridge = some b →
      t.leg (trunkLeg n) =
        if (s.leg (trunkLeg n)).attach = some b then { s.leg (trunkLeg n) with attach := .none } else s.leg (trunkLeg n)
  otherSlot : ∀ n, new ≠ some n → (s.channel c).trunk ≠ some n → t.slot n = s.slot n
  timer : ∀ id, (∀ n, new = some n → id ≠ .faultConfirm n) →
    (∀ n, (s.channel c).trunk = some n → (s.slot n).altLines = [] → id ≠ .faultConfirm n ∧ id ≠ .restore n) →
    t.timer id = s.timer id
  bridge : ∀ b, (s.channel c).bridge = some b →
    (t.bridge b).contributors = trunkSwapped s (s.bridge b).contributors (s.channel c).trunk new ∧
      (t.bridge b).bare = (s.bridge b).bare
  apart : ∀ b, (s.channel c).bridge ≠ some b → t.bridge b = s.bridge b
  legs : ∀ g, (∀ n, new = some n ∨ (s.channel c).trunk = some n → g ≠ trunkLeg n) → t.leg g = s.leg g
  frame : t =
    { s with channels := t.channels, slots := t.slots, bridges := t.bridges, legs := t.legs, timers := t.timers }

/-- The record of a channel that has come to name a trunk slot, before it claims it. -/
def renamedTrunk (x : Channel) (new : Option SlotNo) : Channel := { x with trunk := new, noTrunk := new.isSome }

theorem State.changeTrunk_other {s : State} {c : ChanNo} {new : Option SlotNo} (other : (s.channel c).trunk ≠ new) :
    s.changeTrunk c new = ((s.trunkLeft c).trunkNamed c (renamedTrunk (s.channel c) new)).claimTrunk c new := by
  have channel : (s.trunkLeft c).channel c = s.channel c := by rw [s.trunkLeft_frame]; rfl
  unfold State.changeTrunk
  rw [if_neg other]
  dsimp only
  rw [State.modChannel_eq, ← State.trunkLeft, channel]
  rfl

/-! ### The claim of the trunk slot (R63, R64) -/

section
variable (s : State) (c : ChanNo) (n : SlotNo)

theorem State.channel_claimChannel (d : ChanNo) :
    (s.claimChannel c n).channel d = if d = c then { s.channel c with noTrunk := false } else s.channel d := by
  simp [State.claimChannel, State.takeSlot, State.channel_setChannel]

theorem State.slot_claimChannel (k : SlotNo) :
    (s.claimChannel c n).slot k = if k = n then { s.slot n with state := .active, claimant := some (.channel c) } else s.slot k := by
  simp [State.claimChannel, State.takeSlot, State.slot_setSlot]

theorem State.claimChannel_joins (b : BridgeNo) (own : (s.channel c).bridge = some b) :
    (∀ g, (s.claimChannel c n).leg g = if g = trunkLeg n then { s.leg g with attach := some b } else s.leg g) ∧
      ((s.claimChannel c n).bridge b).contributors =
        (if trunkLeg n ∈ (s.bridge b).contributors then (s.bridge b).contributors else (s.bridge b).contributors ++ [trunkLeg n]) ∧
      ((s.claimChannel c n).bridge b).bare = (s.bridge b).bare ∧
      ∀ k, k ≠ b → (s.claimChannel c n).bridge k = s.bridge k := by
  obtain ⟨t, ht⟩ : ∃ t, ((s.takeSlot n (.channel c)).modChannel c fun x => { x with noTrunk := false }) = t := ⟨_, rfl⟩
  have joins : s.claimChannel c n = t.join b (trunkLeg n) := by
    rw [← ht, State.claimChannel, own]
    rfl
  have bridge (k : BridgeNo) : t.bridge k = s.bridge k := by rw [← ht]; simp [State.takeSlot]
  have leg (g : LegNo) : t.leg g = s.leg g := by rw [← ht]; simp [State.takeSlot]
  rw [joins]
  refine ⟨fun g => ?_, ?_, ?_, fun k other => ?_⟩
  · rw [State.leg_join]
    split
    · rename_i e; rw [leg, e]
    · rw [leg]
  · rw [State.contributors_join, bridge]
  · obtain ⟨r, joined⟩ := t.bridge_join b (trunkLeg n)
    rw [joined, bridge, Bridge.addContributor]
    split <;> rfl
  · rw [State.bridge_join_ne _ _ other, bridge]

theorem State.claimChannel_unbridged (none : (s.channel c).bridge = none) :
    (s.claimChannel c n).legs = s.legs ∧ (s.claimChannel c n).bridges = s.bridges := by
  unfold State.claimChannel
  rw [none]
  exact ⟨rfl, rfl⟩

theorem State.claimChannel_frame :
    s.claimChannel c n =
      { s with
        channels := (s.claimChannel c n).channels, slots := (s.claimChannel c n).slots, bridges := (s.claimChannel c n).bridges
        legs := (s.claimChannel c n).legs } := State.eq_of_fields

end

/-! ### The old trunk slot left and the new one named and claimed -/

section
variable {s : State} {c : ChanNo} {new : Option SlotNo}

/-- The state in which the channel claims its new trunk slot. -/
def State.trunkRenamed (s : State) (c : ChanNo) (new : Option SlotNo) : State :=
  (s.trunkLeft c).trunkNamed c (renamedTrunk (s.channel c) new)

theorem State.trunkRenamed_frame (s : State) (c : ChanNo) (new : Option SlotNo) :
    s.trunkRenamed c new =
      { s with
        channels := (s.trunkRenamed c new).channels, slots := (s.trunkRenamed c new).slots
        bridges := (s.trunkLeft c).bridges, legs := (s.trunkLeft c).legs, timers := (s.trunkRenamed c new).timers } := by
  unfold State.trunkRenamed
  rw [State.trunkNamed_frame]
  have frame := s.trunkLeft_frame c
  rw [frame]

theorem State.channel_trunkRenamed (s : State) (c : ChanNo) (new : Option SlotNo) (d : ChanNo) :
    (s.trunkRenamed c new).channel d = if d = c then renamedTrunk (s.channel c) new else s.channel d := by
  rw [State.trunkRenamed, State.channel_trunkNamed, State.trunkLeft_frame]
  rfl

/-- The slots with the trunk renamed. -/
theorem State.slot_trunkRenamed (other : (s.channel c).trunk ≠ new) :
    (∀ n, new = some n →
      (s.trunkRenamed c new).slot n = { s.slot n with primaryNamer := some (.channel c), state := namedState (s.slot n) }) ∧
    ∀ n, new ≠ some n → (s.trunkRenamed c new).slot n =
      if (s.channel c).trunk = some n then leftNamed { s.slot n with primaryNamer := none } else s.slot n := by
  refine ⟨fun n own => ?_, fun n apart => ?_⟩
  · rw [State.trunkRenamed, State.slot_trunkNamed,
      if_pos (show (renamedTrunk (s.channel c) new).trunk = some n from own), State.slot_trunkLeft,
      if_neg fun e => other (e.trans own.symm)]
  · rw [State.trunkRenamed, State.slot_trunkNamed,
      if_neg (show (renamedTrunk (s.channel c) new).trunk ≠ some n from apart), State.slot_trunkLeft]

theorem State.timer_trunkRenamed (other : (s.channel c).trunk ≠ new) :
    (∀ n, new = some n → (s.trunkRenamed c new).timer (.faultConfirm n) = confirmAtNaming s n) ∧
    (∀ id, (∀ n, new = some n → id ≠ .faultConfirm n) →
      (∀ n, (s.channel c).trunk = some n → (s.slot n).altLines = [] → id ≠ .faultConfirm n ∧ id ≠ .restore n) →
      (s.trunkRenamed c new).timer id = s.timer id) ∧
    ∀ n, (s.channel c).trunk = some n → (s.slot n).altLines = [] →
      ((s.trunkRenamed c new).timer (.faultConfirm n)).running = false ∧
        ((s.trunkRenamed c new).timer (.restore n)).running = false := by
  obtain ⟨named, others⟩ := (s.trunkLeft c).timer_trunkNamed c (renamedTrunk (s.channel c) new)
  have apart {n m : SlotNo} (old : (s.channel c).trunk = some n) (own : new = some m) : n ≠ m := fun e =>
    other (by rw [old, own, e])
  refine ⟨fun n own => (named n own).trans (confirmAtNaming_congr ?_ (s.timer_trunkLeft c fun m old _ => ⟨?_, nofun⟩) ?_),
    fun id fresh kept => (others id fresh).trans (s.timer_trunkLeft c kept), fun n old last => ?_⟩
  · rw [State.slot_trunkLeft, if_neg fun e => other (e.trans own.symm)]
  · exact fun e => apart old own (TimerId.faultConfirm.inj e).symm
  · rw [State.trunkLeft_frame]
  · have stopped := State.timer_unnamePrimary_last (s := s.leaveTrunk (s.channel c).bridge (s.channel c).trunk) (n := n)
      (by simpa using last)
    have left : s.trunkLeft c = (s.leaveTrunk (s.channel c).bridge (s.channel c).trunk).unnamePrimary (some n) := by
      rw [← old]; rfl
    rw [← left] at stopped
    exact ⟨by rw [State.trunkRenamed, others _ fun m own e => apart old own (TimerId.faultConfirm.inj e)]; exact stopped.1,
      by rw [State.trunkRenamed, others _ fun m _ => by simp]; exact stopped.2⟩

/-- The trunk renamed, but for the claim that may follow. -/
theorem State.claimTrunk_cases (s : State) (c : ChanNo) (new : Option SlotNo) :
    (s.claimTrunk c new = s ∧ ∀ n, new = some n → (s.slot n).state ≠ .standby) ∨
      ∃ n, new = some n ∧ (s.slot n).state = .standby ∧ s.claimTrunk c new = s.claimChannel c n := by
  cases new with
  | none => exact .inl ⟨rfl, nofun⟩
  | some n =>
    by_cases standby : (s.slot n).state = .standby
    · exact .inr ⟨n, rfl, standby, if_pos standby⟩
    · exact .inl ⟨if_neg standby, fun m own => by cases own; exact standby⟩

/-- The contributors of the bridge when the channel keeps no leg of a new trunk. -/
theorem trunkSwapped_kept (s : State) (gs : List LegNo) {old new : Option SlotNo} (other : old ≠ new)
    (unclaimed : ∀ n, new = some n → ¬Claimable s n) :
    trunkSwapped s gs old new = old.elim gs fun n => gs.erase (trunkLeg n) := by
  unfold trunkSwapped
  rw [if_neg other]
  cases new with
  | none => rfl
  | some n => exact if_neg fun h => unclaimed n rfl h.1

theorem trunkSwapped_claimed (s : State) (gs : List LegNo) {old : Option SlotNo} {n : SlotNo} (other : old ≠ some n)
    (claimable : Claimable s n) :
    trunkSwapped s gs old (some n) =
      if trunkLeg n ∈ old.elim gs (fun m => gs.erase (trunkLeg m)) then old.elim gs (fun m => gs.erase (trunkLeg m))
      else old.elim gs (fun m => gs.erase (trunkLeg m)) ++ [trunkLeg n] := by
  unfold trunkSwapped
  rw [if_neg other]
  by_cases stands : trunkLeg n ∈ old.elim gs (fun m => gs.erase (trunkLeg m))
  · rw [if_pos stands]
    exact if_neg fun h => h.2 stands
  · rw [if_neg stands]
    exact if_pos ⟨claimable, stands⟩

theorem State.changeTrunk_replaced (other : (s.channel c).trunk ≠ new) : TrunkReplaced s (s.changeTrunk c new) c new := by
  have frame := s.trunkRenamed_frame c new
  have channels := s.channel_trunkRenamed c new
  obtain ⟨named, slots⟩ := State.slot_trunkRenamed other
  obtain ⟨confirms, timers, stopped⟩ := State.timer_trunkRenamed other
  obtain ⟨bridge, apart⟩ := s.bridge_trunkLeft c
  have leg := s.leg_trunkLeft c
  have own := channels c
  rw [if_pos rfl] at own
  have renamedBridge (b : BridgeNo) : (s.trunkRenamed c new).bridge b = (s.trunkLeft c).bridge b := by rw [frame]; rfl
  have renamedLeg (g : LegNo) : (s.trunkRenamed c new).leg g = (s.trunkLeft c).leg g := by rw [frame]; rfl
  have distinct {n m : SlotNo} (old : (s.channel c).trunk = some n) (now : new = some m) : n ≠ m := fun e =>
    other (by rw [old, now, e])
  have standby (n : SlotNo) (now : new = some n) : ((s.trunkRenamed c new).slot n).state = .standby ↔ Claimable s n := by
    rw [named n now]
    exact namedState_standby
  have otherLeg (g : LegNo) (no : ∀ n, (s.channel c).trunk = some n → g ≠ trunkLeg n) : (s.trunkLeft c).leg g = s.leg g := by
    rw [leg, if_neg]
    rintro ⟨n, b, old, -, e, -⟩
    exact no n old e
  have oldLeg (n : SlotNo) (b : BridgeNo) (old : (s.channel c).trunk = some n) (has : (s.channel c).bridge = some b) :
      (s.trunkLeft c).leg (trunkLeg n) =
        if (s.leg (trunkLeg n)).attach = some b then { s.leg (trunkLeg n) with attach := none } else s.leg (trunkLeg n) := by
    rw [leg]
    refine if_congr ⟨?_, fun on => ⟨n, b, old, has, rfl, on⟩⟩ rfl rfl
    rintro ⟨-, b', -, has', -, on⟩
    cases has.symm.trans has'
    exact on
  rw [State.changeTrunk_other other]
  obtain ⟨same, stays⟩ | ⟨n, now, free, claims⟩ := (s.trunkRenamed c new).claimTrunk_cases c new
  · have cannot (n : SlotNo) (now : new = some n) : ¬Claimable s n := fun can => stays n now ((standby n now).2 can)
    rw [← State.trunkRenamed, same]
    refine ⟨by rw [own]; rfl, fun d apart => (channels d).trans (if_neg apart), fun none => by rw [own, none]; rfl,
      fun n now can => absurd can (cannot n now), fun n now _ => ⟨by rw [own, now]; rfl, ?_, ?_⟩, confirms,
      fun n old => ⟨?_, stopped n old, fun b has => (renamedLeg _).trans (oldLeg n b old has)⟩, fun n now old => ?_, timers,
      fun b has => ?_, fun b no => (renamedBridge b).trans (apart b no), fun g no => ?_, ?_⟩
    · rw [named n now, namedState, if_neg fun e => cannot n now (.inl e)]
    · rw [renamedLeg, otherLeg _ fun m old e => distinct old now (trunkLeg_inj e).symm]
    · rw [slots n fun now => distinct old now rfl, if_pos old]
    · rw [slots n now, if_neg old]
    · obtain ⟨contributors, bare⟩ := bridge b has
      rw [renamedBridge, contributors, trunkSwapped_kept s _ other cannot]
      exact ⟨rfl, bare⟩
    · rw [renamedLeg, otherLeg g fun n old => no n (.inr old)]
    · rw [frame]
  · have can := (standby n now).1 free
    rw [← State.trunkRenamed, claims]
    subst now
    have slot := (s.trunkRenamed c (some n)).slot_claimChannel c n
    have channel := (s.trunkRenamed c (some n)).channel_claimChannel c n
    have timer (id : TimerId) : ((s.trunkRenamed c (some n)).claimChannel c n).timer id = (s.trunkRenamed c (some n)).timer id := by
      rw [State.claimChannel_frame]; rfl
    have bridged (b : BridgeNo) : ((s.trunkRenamed c (some n)).channel c).bridge = some b ↔ (s.channel c).bridge = some b := by
      rw [own]; rfl
    have joins (b : BridgeNo) (has : (s.channel c).bridge = some b) :=
      (s.trunkRenamed c (some n)).claimChannel_joins c n b ((bridged b).2 has)
    have alone (none : (s.channel c).bridge = none) :=
      (s.trunkRenamed c (some n)).claimChannel_unbridged c n (by rw [own]; exact none)
    have legs (g : LegNo) (ne : g ≠ trunkLeg n) :
        ((s.trunkRenamed c (some n)).claimChannel c n).leg g = (s.trunkLeft c).leg g := by
      cases has : (s.channel c).bridge with
      | none => rw [State.leg, (alone has).1]; exact renamedLeg g
      | some b => rw [(joins b has).1, if_neg ne, renamedLeg]
    refine ⟨by rw [channel, if_pos rfl, own]; rfl, fun d apart => by rw [channel, if_neg apart, channels, if_neg apart],
      nofun, fun m now _ => ?_, fun m now cannot => ?_, fun m now => (timer _).trans (confirms m now),
      fun m old => ⟨?_, fun last => ?_, fun b has => ?_⟩, fun m now old => ?_,
      fun id fresh kept => (timer id).trans (timers id fresh kept),
      fun b has => ?_, fun b no => ?_, fun g no => ?_, ?_⟩
    · cases now
      refine ⟨by rw [channel, if_pos rfl], ?_, fun b has => ?_⟩
      · rw [slot, if_pos rfl, named n rfl]
      · rw [(joins b has).1, if_pos rfl, renamedLeg, otherLeg _ fun m old e => distinct old rfl (trunkLeg_inj e).symm]
    · cases now
      exact absurd can cannot
    · rw [slot, if_neg (distinct old rfl), slots m fun now => distinct old now rfl, if_pos old]
    · rw [timer, timer]; exact stopped m old last
    · rw [legs _ fun e => distinct old rfl (trunkLeg_inj e), oldLeg m b old has]
    · rw [slot, if_neg fun e => now (by rw [e]), slots m now, if_neg old]
    · obtain ⟨contributors, bare⟩ := bridge b has
      obtain ⟨-, joined, bare', -⟩ := joins b has
      rw [joined, bare', renamedBridge, contributors, trunkSwapped_claimed s _ other can]
      exact ⟨rfl, bare⟩
    · have same : ((s.trunkRenamed c (some n)).claimChannel c n).bridge b = (s.trunkLeft c).bridge b := by
        cases has : (s.channel c).bridge with
        | none => rw [State.bridge, (alone has).2]; exact renamedBridge b
        | some k => rw [(joins k has).2.2.2 b fun e => no (by rw [has, e]), renamedBridge]
      rw [same, apart b no]
    · rw [legs g (no n (.inl rfl)), otherLeg g fun m old => no m (.inr old)]
    · rw [State.claimChannel_frame, frame]

end

end Sys2Proof.Machine
end
section
/-! SET-CHANNEL (R66, R118): the decision in its order, the mode passed to the bridge, and all settings written. -/

set_option Elab.async false

namespace Sys2Proof.Machine

open Safety

/-! ### A headroom mode passed to a bridge (R116, R118) -/

theorem Bridge.writeMode_contributors (x : Bridge) (m : Headroom) : (x.writeMode m).contributors = x.contributors := by
  unfold Bridge.writeMode
  split
  · rfl
  · cases m.kind <;> rfl

/-- A bridge whose owner has passed it a mode, at the end of an act that has changed its legs since. -/
theorem Bridge.modePassed {x z : Bridge} {m : Headroom} (bare : z.bare = (x.writeMode m).bare) :
    ModePassed { x with contributors := z.settle.contributors } m z.settle := by
  have whole : z = { x.writeMode m with contributors := z.contributors, receivers := z.receivers, micPeaks := z.micPeaks } :=
    congrArg (fun y : Bridge => { y with contributors := z.contributors, receivers := z.receivers, micPeaks := z.micPeaks }) bare
  refine ⟨fun same => ?_, fun other used => ⟨fun fixed => ?_, fun auto => ?_⟩⟩
  · refine Bridge.reachedBy_settle (x := x) ?_
    rw [bare, Bridge.writeMode, if_pos same]
  · have written : x.writeMode m = { x with headroom := m, shift := max m.hf.val (headroomFloor x.count), release := 0 } := by
      have free : ¬(x.headroom = m ∨ x.state = .free) := by
        rintro (same | free)
        · exact other same
        · exact nomatch used.symm.trans free
      rw [Bridge.writeMode, if_neg free, fixed]
    rw [written] at whole
    rw [Bridge.settle_contributors, whole]
    simp only [Bridge.settle, Bridge.count, show x.state = .inUse from used, fixed]
  · have written : x.writeMode m = { x with headroom := m, release := 0 } := by
      have free : ¬(x.headroom = m ∨ x.state = .free) := by
        rintro (same | free)
        · exact other same
        · exact nomatch used.symm.trans free
      rw [Bridge.writeMode, if_neg free, auto]
    rw [written] at whole
    rw [Bridge.settle_contributors, whole]
    simp only [Bridge.settle, Bridge.count, show x.state = .inUse from used, auto]
    split
    · rename_i low
      simp [Nat.max_eq_right (Nat.le_of_lt low)]
    · rename_i high
      simp [Nat.max_eq_left (Nat.le_of_not_lt high)]

theorem State.bridge_passMode (s : State) (o : Option BridgeNo) (m : Headroom) (b : BridgeNo) :
    (s.passMode o m).bridge b = if o = some b then (s.bridge b).writeMode m else s.bridge b := by
  cases o with
  | none => rfl
  | some n =>
    by_cases own : b = n
    · subst own; simp [State.passMode]
    · rw [if_neg fun e => own (Option.some.inj e).symm]
      simp [State.passMode, State.bridge_setBridge, own]

theorem State.passMode_frame (s : State) (o : Option BridgeNo) (m : Headroom) :
    s.passMode o m = { s with bridges := (s.passMode o m).bridges } := by
  unfold State.passMode
  split
  · rfl
  · exact State.eq_of_fields

/-! ### The checks (R66) -/

theorem maskBelow_fourteen (w : CmdWords) : w.maskBelow 14 = false ↔ w.maskBit 14 = true ∨ w.maskBit 15 = true := by
  simp only [CmdWords.maskBelow, CmdWords.maskBit, decide_eq_false_iff_not, Nat.not_lt, BitVec.getLsbD, Nat.testBit,
    Nat.shiftRight_eq_div_pow]
  have top := w.hi.isLt
  simp only [Nat.one_and_eq_mod_two, bne_iff_ne]
  omega

/-- The settings that a SET-CHANNEL would leave: those masked, and those in the record. -/
def maskedKind (x : Channel) (w : CmdWords) : ChannelKind := if w.maskBit 8 then channelKindArg (bit w.w2 0) else x.kind

def maskedTrunk (x : Channel) (w : CmdWords) : Option SlotNo := masked (w.maskBit 10) (slotArg w.w3) x.trunk

theorem slotArg_none_iff {x : Word} : slotArg x = none ↔ SlotOut x := by
  refine ⟨fun h => ?_, slotArg_out⟩
  by_cases absent : x = 0xFFFF#16
  · simp [slotArg, absent] at h
  · refine ⟨absent, ?_⟩
    have big : 256 ≤ x.toNat := by simpa [slotArg, absent, toFin?] using h
    exact big

theorem maskedOk_slot (mask : Bool) (x : Word) : (!maskedOk mask (slotArg x)) = true ↔ mask = true ∧ SlotOut x := by
  rw [← slotArg_none_iff]
  simp [maskedOk]

theorem maskedOk_maximum (mask : Bool) (x : Word) : (!maskedOk mask (maximumArg x)) = true ↔ mask = true ∧ bits x 4 2 = 0 := by
  by_cases zero : bits x 4 2 = 0 <;> simp [maskedOk, maximumArg, zero]

theorem maskedOk_headroom (mask : Bool) (x : Word) : (!maskedOk mask (headroomArg x)) = true ↔ mask = true ∧ bits x 8 2 = 3 := by
  have small : bits x 8 2 < 4 := Nat.mod_lt _ (by norm_num)
  have three : headroomArg x = none ↔ bits x 8 2 = 3 := by
    simp only [headroomArg, toFin?]
    split <;> simp <;> omega
  rw [← three]
  simp [maskedOk]

/-- A slot argument in range names a slot where it is not the absent one. -/
theorem slotArg_isSome {x : Word} {o : Option SlotNo} (arg : slotArg x = some o) : o.isSome = true ↔ x ≠ 0xFFFF#16 := by
  cases o with
  | none =>
    have absent : x = 0xFFFF#16 := by
      by_contra some
      exact slotArg_some some arg
    simp [absent]
  | some n =>
    have present : x ≠ 0xFFFF#16 := fun e => by simp [slotArg, e] at arg
    simp [present]

theorem maskedKind_group (x : Channel) (w : CmdWords) :
    maskedKind x w = .group ↔ if w.maskBit 8 = true then bit w.w2 0 = true else x.kind = .group := by
  unfold maskedKind channelKindArg
  split
  · cases bit w.w2 0 <;> simp
  · rfl

theorem maskedTrunk_isSome {x : Channel} {w : CmdWords} (fits : ¬(w.maskBit 10 = true ∧ SlotOut w.w3)) :
    (maskedTrunk x w).isSome = true ↔ if w.maskBit 10 = true then w.w3 ≠ 0xFFFF#16 else x.trunk ≠ none := by
  unfold maskedTrunk masked
  by_cases mask : w.maskBit 10 = true
  · rw [if_pos mask, if_pos mask]
    cases arg : slotArg w.w3 with
    | none => exact absurd ⟨mask, slotArg_none_iff.1 arg⟩ fits
    | some o => exact slotArg_isSome arg
  · rw [if_neg mask, if_neg mask]
    exact Option.isSome_iff_ne_none

/-- The first check of SET-CHANNEL. -/
theorem setChannelBad_iff (x : Channel) (w : CmdWords) :
    (!w.maskBelow 14 || !maskedOk (w.maskBit 9) (maximumArg w.w2) || !maskedOk (w.maskBit 10) (slotArg w.w3) ||
        !maskedOk (w.maskBit 13) (headroomArg w.w2) || (maskedKind x w == .group && (maskedTrunk x w).isSome)) = true ↔
      SetChannelBad x w := by
  rw [Bool.or_eq_true, Bool.or_eq_true, Bool.or_eq_true, Bool.or_eq_true, Bool.and_eq_true, beq_iff_eq, maskedKind_group,
    maskedOk_maximum, maskedOk_slot, maskedOk_headroom, Bool.not_eq_true', maskBelow_fourteen]
  by_cases out : w.maskBit 10 = true ∧ SlotOut w.w3
  · exact iff_of_true (.inl (.inl (.inr out))) (.inr (.inr (.inr (.inr (.inl out)))))
  · rw [maskedTrunk_isSome out, or_assoc, or_assoc, or_assoc, or_assoc, or_left_comm (a := w.maskBit 10 = true ∧ SlotOut w.w3)]

/-- The state with all settings of a SET-CHANNEL written. -/
def State.channelWritten (s : State) (c : ChanNo) (w : CmdWords) : State :=
  let x := s.channel c
  ((((s.setChannel c (x.writeSettings w)).passMode x.bridge (masked (w.maskBit 13) (headroomArg w.w2) x.headroom)).writeMaximum c
    (masked (w.maskBit 9) (maximumArg w.w2) x.maxTalkers)).changeTrunk c (maskedTrunk x w))

/-- A masked setting of SET-CHANNEL was brought into range. -/
def setChannelClamped (w : CmdWords) : Bool :=
  (w.maskBit 11 && (clampArg 0 255 w.w4).2) || (w.maskBit 12 && (clampArg 0 32767 w.w5).2)

/-- The checks of R66 in their order. -/
theorem State.setChannelCmd_at (s : State) {w : CmdWords} {c : ChanNo} (channelArg : w.w1 = word c.val) :
    (SetChannelBad (s.channel c) w → s.setChannelCmd w = refuse .badField s) ∧
    (¬SetChannelBad (s.channel c) w →
      ((s.channel c).state = .vacant → s.setChannelCmd w = refuse .vacant s) ∧
      ((s.channel c).state ≠ .vacant →
        (w.maskBit 8 = true ∧ (s.channel c).state ≠ .closed → s.setChannelCmd w = refuse .inUse s) ∧
        (¬(w.maskBit 8 = true ∧ (s.channel c).state ≠ .closed) →
          (w.maskBit 10 = true ∧ TrunkTaken s c (maskedTrunk (s.channel c) w) → s.setChannelCmd w = refuse .slotClaimed s) ∧
          (¬(w.maskBit 10 = true ∧ TrunkTaken s c (maskedTrunk (s.channel c) w)) →
            s.setChannelCmd w =
              (some (clampedResult (setChannelClamped w)), finishAct none [c] s (s.channelWritten c w)))))) := by
  have bad := setChannelBad_iff (s.channel c) w
  have claimed : (w.maskBit 10 && s.trunkClaimed c (maskedTrunk (s.channel c) w)) = true ↔
      w.maskBit 10 = true ∧ TrunkTaken s c (maskedTrunk (s.channel c) w) := by
    rw [Bool.and_eq_true, State.trunkClaimed_iff]
  unfold State.setChannelCmd
  rw [channelArg, toFin?_word (by decide : 32 ≤ 65536) c]
  exact ⟨fun h => if_pos (bad.2 h), fun fits => ⟨fun vacant => (if_neg fun e => fits (bad.1 e)).trans (if_pos vacant), fun live =>
    ⟨fun busy => (if_neg fun e => fits (bad.1 e)).trans ((if_neg live).trans (if_pos busy)), fun idle =>
      ⟨fun taken => (if_neg fun e => fits (bad.1 e)).trans ((if_neg live).trans ((if_neg idle).trans (if_pos (claimed.2 taken)))),
        fun free => (if_neg fun e => fits (bad.1 e)).trans ((if_neg live).trans ((if_neg idle).trans
          (if_neg fun e => free (claimed.1 e))))⟩⟩⟩⟩

theorem State.setChannelCmd_out (s : State) {w : CmdWords} (out : 31 < w.w1.toNat) : s.setChannelCmd w = refuse .badField s := by
  rw [State.setChannelCmd, toFin?_out out]

/-! ### All settings written (R66, R87, R88) -/

/-- The trunk slot of channel `c` after a SET-CHANNEL with `new` for it, which may be the one it has: what the change leaves of the other
records, between `s` and `t`. -/
structure TrunkWritten (s t : State) (c : ChanNo) (new : Option SlotNo) : Prop where
  channel : t.channel c = { s.channel c with trunk := new, noTrunk := (t.channel c).noTrunk }
  channels : ∀ d, d ≠ c → t.channel d = s.channel d
  timer : ∀ id, (∀ n, new ≠ (s.channel c).trunk → new = some n → id ≠ .faultConfirm n) →
    (∀ n, new ≠ (s.channel c).trunk → (s.channel c).trunk = some n → (t.slot n).named = false →
      id ≠ .faultConfirm n ∧ id ≠ .restore n) → t.timer id = s.timer id
  bridge : ∀ b, (s.channel c).bridge = some b →
    (t.bridge b).contributors = trunkSwapped s (s.bridge b).contributors (s.channel c).trunk new ∧
      (t.bridge b).bare = (s.bridge b).bare
  apart : ∀ b, (s.channel c).bridge ≠ some b → t.bridge b = s.bridge b
  legs : ∀ g, (∀ n, new ≠ (s.channel c).trunk → new = some n ∨ (s.channel c).trunk = some n → g ≠ trunkLeg n) →
    t.leg g = s.leg g
  frame : t =
    { s with channels := t.channels, slots := t.slots, bridges := t.bridges, legs := t.legs, timers := t.timers }
  kept : new = (s.channel c).trunk → t = s
  replaced : new ≠ (s.channel c).trunk → TrunkReplaced s t c new

theorem State.changeTrunk_written (s : State) (c : ChanNo) (new : Option SlotNo) : TrunkWritten s (s.changeTrunk c new) c new := by
  by_cases same : new = (s.channel c).trunk
  · have kept : s.changeTrunk c new = s := if_pos same.symm
    rw [kept]
    exact ⟨by rw [same], fun _ _ => rfl, fun _ _ _ => rfl, fun b _ => ⟨(if_pos same.symm).symm, rfl⟩, fun _ _ => rfl, fun _ _ => rfl,
      rfl, fun _ => rfl, fun other => absurd same other⟩
  · have replaced := State.changeTrunk_replaced (s := s) (c := c) (Ne.symm same)
    refine ⟨replaced.channel, replaced.channels, fun id fresh gone => replaced.timer id (fun n => fresh n same) fun n old last =>
      gone n same old ?_, replaced.bridge, replaced.apart, fun g no => replaced.legs g fun n => no n same, replaced.frame,
      fun e => absurd e same, fun _ => replaced⟩
    rw [(replaced.left n old).1, leftNamed_named]
    simp [Slot.named, last]

/-- The record of a channel with the masked settings, but for maximum and trunk. -/
theorem writeSettings_eq {x : Channel} {w : CmdWords} {kind : ChannelKind} {m : Headroom} (kinds : maskedKind x w = kind)
    (modes : masked (w.maskBit 13) (headroomArg w.w2) x.headroom = m) : x.writeSettings w = channelSet x w kind m := by
  subst kinds modes
  simp only [Channel.writeSettings, channelSet, maskedKind, clampArg, clamp_eq _ _ _ (Nat.zero_le _), Nat.zero_max]
  congr 1 <;> exact if_congr eq_comm rfl rfl

theorem floorUnder_channelSet (x : Channel) (w : CmdWords) (kind : ChannelKind) (m : Headroom) (n : Nat) :
    floorUnder (channelSet x w kind m) n = channelSet (floorUnder x n) w kind m := by
  by_cases fewer : n < x.talkers.length
  · rw [floorUnder, floorUnder, if_pos fewer, if_pos (show n < (channelSet x w kind m).talkers.length from fewer)]
    rfl
  · rw [floorUnder, floorUnder, if_neg fewer, if_neg (show ¬n < (channelSet x w kind m).talkers.length from fewer)]
    rfl

/-- A new maximum moves the floor alone. -/
theorem floorUnder_frame (x : Channel) (n : Nat) :
    floorUnder x n =
      { x with maxTalkers := n, talkers := (floorUnder x n).talkers, queue := (floorUnder x n).queue } := by
  unfold floorUnder
  split <;> rfl

theorem micsJoined_nodup {gs : List LegNo} (es : List FloorEntry) (h : gs.Nodup) : (micsJoined gs es).Nodup := by
  induction es generalizing gs with
  | nil => exact h
  | cons e rest ih =>
    refine ih ?_
    dsimp only
    split
    · exact h
    · rename_i new
      exact List.nodup_append.2 ⟨h, List.nodup_singleton _, fun a mem b last => by
        rw [List.mem_singleton.1 last]; exact fun same => new (same ▸ mem)⟩

theorem micsErased_nodup {gs : List LegNo} (es : List FloorEntry) (h : gs.Nodup) :
    (es.foldl (fun gs e => gs.erase (micLeg e.pos)) gs).Nodup := by
  induction es generalizing gs with
  | nil => exact h
  | cons e rest ih => exact ih (h.erase _)

theorem trunkSwapped_congr {s t : State} (slots : t.slots = s.slots) (gs : List LegNo) (old new : Option SlotNo) :
    trunkSwapped t gs old new = trunkSwapped s gs old new := by
  have claimable (n : SlotNo) : Claimable t n ↔ Claimable s n := by simp only [Claimable, State.slot, slots]
  unfold trunkSwapped
  cases new with
  | none => rfl
  | some n => exact if_congr Iff.rfl rfl (if_congr (and_congr_left' (claimable n)) rfl rfl)

theorem mem_trunkSwapped_claimed {s : State} {gs : List LegNo} {old : Option SlotNo} {n : SlotNo} (other : old ≠ some n)
    (claimable : Claimable s n) : trunkLeg n ∈ trunkSwapped s gs old (some n) := by
  rw [trunkSwapped_claimed s gs other claimable]
  split
  · assumption
  · exact List.mem_append_right _ List.mem_cons_self

theorem not_mem_trunkSwapped_left {s : State} {gs : List LegNo} {n : SlotNo} {new : Option SlotNo} (other : some n ≠ new)
    (nodup : gs.Nodup) : trunkLeg n ∉ trunkSwapped s gs (some n) new := by
  have gone : trunkLeg n ∉ gs.erase (trunkLeg n) := nodup.not_mem_erase
  by_cases claims : ∃ k, new = some k ∧ Claimable s k
  · obtain ⟨k, rfl, can⟩ := claims
    rw [trunkSwapped_claimed s gs other can]
    split
    · exact gone
    · intro mem
      rcases List.mem_append.1 mem with old | last
      · exact gone old
      · exact other (congrArg some (trunkLeg_inj (List.mem_singleton.1 last)))
  · rw [trunkSwapped_kept s gs other fun k now can => claims ⟨k, now, can⟩]
    exact gone

/-- The masked settings of a SET-CHANNEL that completes. -/
structure ChannelArgs (x : Channel) (w : CmdWords) (kind : ChannelKind) (maximum : Nat) (m : Headroom) (trunk : Option SlotNo) :
    Prop where
  kind : maskedKind x w = kind
  maximum : masked (w.maskBit 9) (maximumArg w.w2) x.maxTalkers = maximum
  trunk : maskedTrunk x w = trunk
  headroom : masked (w.maskBit 13) (headroomArg w.w2) x.headroom = m

/-- A masked argument is the value taken. -/
theorem masked_eq {α : Type} {mask : Bool} {arg : Option α} {old v : α}
    (h : if mask = true then arg = some v else v = old) : masked mask arg old = v := by
  cases mask with
  | true => rw [if_pos rfl] at h; rw [h]; rfl
  | false => rw [if_neg nofun] at h; rw [h]; rfl

/-- The settings that a SET-CHANNEL leaves, by its mask. -/
theorem channelArgs_of_masks {s : State} {c : ChanNo} {w : CmdWords} {kind : ChannelKind} {maximum : Nat} {m : Headroom}
    {trunk : Option SlotNo}
    (kinds : if w.maskBit 8 = true then kind = channelKindArg (bit w.w2 0) ∧ (s.channel c).state = .closed
      else kind = (s.channel c).kind)
    (maximums : if w.maskBit 9 = true then maximumArg w.w2 = some maximum else maximum = (s.channel c).maxTalkers)
    (trunks : if w.maskBit 10 = true then slotArg w.w3 = some trunk ∧ ¬TrunkTaken s c trunk else trunk = (s.channel c).trunk)
    (modes : if w.maskBit 13 = true then headroomArg w.w2 = some m else m = (s.channel c).headroom) :
    ChannelArgs (s.channel c) w kind maximum m trunk := by
  refine ⟨?_, masked_eq maximums, masked_eq ?_, masked_eq modes⟩
  · unfold maskedKind
    split
    · rename_i mask; rw [if_pos mask] at kinds; exact kinds.1.symm
    · rename_i mask; rw [if_neg mask] at kinds; exact kinds.symm
  · split
    · rename_i mask; rw [if_pos mask] at trunks; exact trunks.1
    · rename_i mask; rw [if_neg mask] at trunks; exact trunks

/-- The state with the settings and the mode of a SET-CHANNEL written, before the floor moves. -/
def State.settingsWritten (s : State) (c : ChanNo) (x : Channel) (m : Headroom) : State :=
  (s.setChannel c x).passMode (s.channel c).bridge m

theorem State.settingsWritten_frame (s : State) (c : ChanNo) (x : Channel) (m : Headroom) :
    s.settingsWritten c x m =
      { s with channels := (s.settingsWritten c x m).channels, bridges := (s.settingsWritten c x m).bridges } := by
  unfold State.settingsWritten
  rw [State.passMode_frame]
  rfl

theorem State.channel_settingsWritten (s : State) (c : ChanNo) (x : Channel) (m : Headroom) (d : ChanNo) :
    (s.settingsWritten c x m).channel d = if d = c then x else s.channel d := by
  rw [State.settingsWritten, State.passMode_frame]
  exact s.channel_setChannel c d x

theorem State.bridge_settingsWritten (s : State) (c : ChanNo) (x : Channel) (m : Headroom) (b : BridgeNo) :
    (s.settingsWritten c x m).bridge b =
      if (s.channel c).bridge = some b then (s.bridge b).writeMode m else s.bridge b :=
  State.bridge_passMode ..

/-- The settings, the floor and the trunk are written one after the other. -/
theorem State.channelWritten_eq {s : State} {c : ChanNo} {w : CmdWords} {kind : ChannelKind} {maximum : Nat} {m : Headroom}
    {trunk : Option SlotNo} (args : ChannelArgs (s.channel c) w kind maximum m trunk) :
    s.channelWritten c w =
      ((s.settingsWritten c (channelSet (s.channel c) w kind m) m).writeMaximum c maximum).changeTrunk c trunk := by
  obtain ⟨kinds, maximums, trunks, modes⟩ := args
  dsimp only [State.channelWritten]
  rw [writeSettings_eq kinds modes, maximums, trunks, modes]
  rfl

end Sys2Proof.Machine

namespace Sys2Proof.Proofs

open Machine Safety Laws

/-- Settles O31: the checks in their order (`State.setChannelCmd_at`); then the settings and the mode, the floor under the new maximum
(`State.writeMaximum_written`) and the trunk (`State.changeTrunk_written`), one after the other. -/
theorem setChannelWritesSettings : Obligations.SetChannelWritesSettings := by
  refine ⟨fun s w ready out => command_declined ready (State.setChannelCmd_out _ out), fun s w c ready channelArg => ?_,
    fun s w c kind maximum m trunk ready channelArg live fits kinds maximums trunks modes => ?_⟩
  · obtain ⟨bad, good⟩ := (loaded s 0x08#8 w).setChannelCmd_at channelArg
    refine ⟨fun h => command_declined ready (bad h), fun fits => ⟨fun vacant => command_declined ready ((good fits).1 vacant),
      fun live used mask => command_declined ready (((good fits).2 live).1 ⟨mask, used⟩), fun trunk live idle mask arg taken =>
      command_declined ready ((((good fits).2 live).2 fun h => h.2 (idle h.1)).1 ⟨mask, ?_⟩)⟩⟩
    have own : maskedTrunk (s.channel c) w = trunk := by
      rw [maskedTrunk, masked, if_pos mask, arg]
      rfl
    exact (congrArg (TrunkTaken s c) own).mpr taken
  · have args := channelArgs_of_masks kinds maximums trunks modes
    have idle : ¬(w.maskBit 8 = true ∧ (s.channel c).state ≠ .closed) := fun h => by
      rw [if_pos h.1] at kinds
      exact h.2 kinds.2
    have free : ¬(w.maskBit 10 = true ∧ TrunkTaken s c (maskedTrunk (s.channel c) w)) := fun h => by
      rw [if_pos h.1] at trunks
      exact trunks.2 (args.trunk ▸ h.2)
    have runs : s.command 0x08#8 w = completed s 0x08#8 w [c] ((loaded s 0x08#8 w).channelWritten c w) _ :=
      command_done s _ 0x08#8 w _ ready (((((loaded s 0x08#8 w).setChannelCmd_at channelArg).2 fits).2 live).2 idle |>.2 free)
    have clamped : setChannelClamped w = true ↔
        w.maskBit 11 = true ∧ 255 < w.w4.toNat ∨ w.maskBit 12 = true ∧ 32767 < w.w5.toNat := by
      simp [setChannelClamped, clampArg_snd]
    have written : (loaded s 0x08#8 w).channelWritten c w =
        (((loaded s 0x08#8 w).settingsWritten c (channelSet (s.channel c) w kind m) m).writeMaximum c maximum).changeTrunk c trunk :=
      State.channelWritten_eq (s := loaded s 0x08#8 w) args
    rw [written, clampedResult_eq clamped] at runs
    have frame1 := (loaded s 0x08#8 w).settingsWritten_frame c (channelSet (s.channel c) w kind m) m
    have channel1 := (loaded s 0x08#8 w).channel_settingsWritten c (channelSet (s.channel c) w kind m) m
    have bridge1 := (loaded s 0x08#8 w).bridge_settingsWritten c (channelSet (s.channel c) w kind m) m
    generalize (loaded s 0x08#8 w).settingsWritten c (channelSet (s.channel c) w kind m) m = s1 at runs frame1 channel1 bridge1
    have own1 : s1.channel c = channelSet (s.channel c) w kind m := (channel1 c).trans (if_pos rfl)
    obtain ⟨channel2, channels2, stopped, started, timer2, bridge2, apart2, legs2, frame2⟩ := s1.writeMaximum_written c maximum
    generalize s1.writeMaximum c maximum = s2 at *
    rw [own1] at channel2 stopped started timer2 bridge2 apart2 legs2
    rw [floorUnder_channelSet] at channel2
    have trunk2 : (s2.channel c).trunk = (s.channel c).trunk := by
      rw [channel2, floorUnder_frame]; rfl
    have bridged2 : (s2.channel c).bridge = (s.channel c).bridge := by
      rw [channel2, floorUnder_frame]; rfl
    have slots2 : s2.slots = s.slots := by rw [frame2, frame1]; rfl
    have slot2 (n : SlotNo) : s2.slot n = s.slot n := by rw [State.slot, slots2]; rfl
    have trunkLeg2 (n : SlotNo) : s2.leg (trunkLeg n) = s.leg (trunkLeg n) :=
      (legs2 _ fun e _ => (micLeg_ne_trunkLeg e.pos n).symm).trans (by rw [frame1]; rfl)
    have timer2' (id : TimerId) (other : ∀ p, id ≠ .silence c p) : s2.timer id = s.timer id :=
      (timer2 id (fun e _ => other e.pos) fun e _ => other e.pos).trans (by rw [frame1]; rfl)
    obtain ⟨channel3, channels3, timer3, bridge3, apart3, legs3, frame3, kept, replaced⟩ := s2.changeTrunk_written c trunk
    generalize s2.changeTrunk c trunk = t at *
    rw [trunk2] at timer3 legs3 kept replaced bridge3
    rw [bridged2] at bridge3 apart3
    have silence3 (p : Pos) : t.timer (.silence c p) = s2.timer (.silence c p) :=
      timer3 _ (fun _ _ _ => nofun) fun _ _ _ _ => ⟨nofun, nofun⟩
    have links : t.links = s.links := by rw [frame3, frame2, frame1]; rfl
    have mp : t.mp = (loaded s 0x08#8 w).mp := by rw [frame3, frame2, frame1]
    have contributors (b : BridgeNo) (has : (s.channel c).bridge = some b) :
        (t.bridge b).contributors =
          trunkSwapped s
            (micsJoined
              (((s.channel c).talkers.drop maximum).foldl (fun gs e => gs.erase (micLeg e.pos)) (s.bridge b).contributors)
              (floorGains (s.channel c) maximum))
            (s.channel c).trunk trunk := by
      rw [(bridge3 b has).1, trunkSwapped_congr slots2, (bridge2 b has).1, bridge1,
        if_pos (show ((loaded s 0x08#8 w).channel c).bridge = some b from has), Bridge.writeMode_contributors]
      rfl
    have claimable (n : SlotNo) : Claimable s2 n ↔ Claimable s n := by simp only [Claimable, slot2]
    refine ⟨_, congrArg Host.Outcome.next runs, completed_mp s _ w _ _ mp, ?_, completed_told s _ w _ _ links, fun e mem => ?_,
      fun e mem latched timeout => ?_, fun id hushed granted fresh gone => ?_, fun b has => ⟨?_, fun passes => ?_⟩, fun b other => ?_,
      fun g hushed other => ?_, fun same => ⟨?_, ?_⟩, fun other => ⟨fun none => ?_, fun n now => ⟨?_, fun can => ⟨?_, ?_, fun b has =>
      ⟨?_, ?_⟩⟩, fun cannot => ⟨?_, ?_, ?_⟩⟩, fun n old => ⟨fun last => ⟨?_, ?_, ?_⟩, fun more => ?_, fun b has => ⟨?_, fun nodup => ?_⟩⟩,
      fun n now old => ?_⟩, fun d other => ?_, ?_⟩
    · rw [completed_channel, channel3, channel2]
    · rw [completed_timer, silence3]; exact stopped e mem
    · rw [completed_channel, channel3, channel2, floorUnder_frame] at timeout ⊢
      rw [completed_timer, silence3]
      exact started e mem latched timeout
    · simp only [completed_slot] at gone
      rw [completed_timer, timer3 id fresh gone, timer2 id hushed granted, frame1]
      rfl
    · rw [completed_bridge, Bridge.settle_contributors]; exact contributors b has
    · rw [completed_bridge]
      refine Bridge.modePassed ((bridge3 b has).2.trans ((bridge2 b has).2.trans ?_))
      rw [bridge1, if_pos (show ((loaded s 0x08#8 w).channel c).bridge = some b from has)]
      rfl
    · rw [completed_bridge, apart3 b other, apart2 b other, bridge1,
        if_neg (show ((loaded s 0x08#8 w).channel c).bridge ≠ some b from other)]
      rfl
    · rw [completed_leg, legs3 g other, legs2 g hushed, frame1]
      rfl
    · rw [completed_channel, kept same, channel2, floorUnder_frame]
      rfl
    · rw [completed_slots, kept same, slots2]
    · rw [completed_channel]; exact (replaced other).none none
    · rw [completed_timer, (replaced other).confirms n now]
      exact confirmAtNaming_congr (slot2 n) (timer2' _ nofun) (by rw [frame2, frame1]; rfl)
    · rw [completed_channel]; exact ((replaced other).claimed n now ((claimable n).2 can)).1
    · rw [completed_slot, ← slot2]; exact ((replaced other).claimed n now ((claimable n).2 can)).2.1
    · rw [completed_bridge, Bridge.settle_contributors, contributors b has, now]
      exact mem_trunkSwapped_claimed (fun e => other (now.trans e.symm)) can
    · rw [completed_leg, ← trunkLeg2]
      exact ((replaced other).claimed n now ((claimable n).2 can)).2.2 b (bridged2.trans has)
    · rw [completed_channel]; exact ((replaced other).unclaimed n now fun can => cannot ((claimable n).1 can)).1
    · rw [completed_slot, ← slot2]; exact ((replaced other).unclaimed n now fun can => cannot ((claimable n).1 can)).2.1
    · rw [completed_leg, ← trunkLeg2]; exact ((replaced other).unclaimed n now fun can => cannot ((claimable n).1 can)).2.2
    · rw [completed_slot, ((replaced other).left n (trunk2.trans old)).1, slot2, leftNamed_of_unnamed (by simp [Slot.named, last])]
    · rw [completed_timer]; exact (((replaced other).left n (trunk2.trans old)).2.1 (by rw [slot2]; exact last)).1
    · rw [completed_timer]; exact (((replaced other).left n (trunk2.trans old)).2.1 (by rw [slot2]; exact last)).2
    · rw [completed_slot, ((replaced other).left n (trunk2.trans old)).1, slot2,
        leftNamed_of_named ((named_without_primary _).2 more)]
    · rw [completed_leg, ((replaced other).left n (trunk2.trans old)).2.2 b (bridged2.trans has), trunkLeg2]
    · rw [completed_bridge, Bridge.settle_contributors, contributors b has, old]
      exact not_mem_trunkSwapped_left (fun e => other (e.symm.trans old.symm)) (micsJoined_nodup _ (micsErased_nodup _ nodup))
    · rw [completed_slot, (replaced other).otherSlot n now (by rw [trunk2]; exact old), slot2]
    · rw [completed_channel, channels3 d other, channels2 d other, channel1, if_neg other]
      rfl
    · rw [frame3, frame2, frame1]
      exact State.eq_of_fields

end Sys2Proof.Proofs
end
section
/-! SET-LINE (R15, R145): the slots that a line names change, and the route that it takes from a new primary. -/

set_option Elab.async false

namespace Sys2Proof.Machine

open Safety

/-! ### The alternate slot changes -/

section
variable (s : State) (l : LineNo) (new : Option SlotNo)

theorem State.changeAlternate_frame :
    s.changeAlternate l new =
      { s with
        lines := (s.changeAlternate l new).lines, slots := (s.changeAlternate l new).slots
        timers := (s.changeAlternate l new).timers } := by
  unfold State.changeAlternate
  dsimp only
  split
  · rfl
  · exact State.eq_of_fields

/-- The record of a slot whose line `l` leaves alternate `old` for `new`. -/
def altChanged (l : LineNo) (old new : Option SlotNo) (n : SlotNo) (x : Slot) : Slot :=
  if old = new then x
  else if old = some n then leftNamed { x with altLines := x.altLines.filter fun m => m != l }
  else if new = some n then { x with altLines := insertAsc l x.altLines, state := namedState x }
  else x

theorem State.slot_changeAlternate (n : SlotNo) :
    (s.changeAlternate l new).slot n = altChanged l (s.line l).alternate new n (s.slot n) := by
  unfold State.changeAlternate altChanged
  dsimp only
  by_cases same : (s.line l).alternate = new
  · rw [if_pos same, if_pos same]
  · rw [if_neg same, if_neg same, State.modLine_eq, State.slot_setLine, State.slot_unnameAlternate, State.slot_nameAlternate]
    by_cases old : (s.line l).alternate = some n
    · rw [if_pos old, if_pos old, if_neg fun e => same (old.trans e.symm)]
    · rw [if_neg old, if_neg old]

/-- The slot that the line comes to name starts its fault-confirm timer as at any naming. -/
theorem State.timer_changeAlternate_named {n : SlotNo} (other : (s.line l).alternate ≠ new) (named : new = some n) :
    (s.changeAlternate l new).timer (.faultConfirm n) = confirmAtNaming s n := by
  unfold State.changeAlternate
  rw [if_neg other]
  refine Eq.trans ?_ ((s.timer_nameAlternate new l (.faultConfirm n)).1 n named)
  rw [State.modLine_eq, State.timer_setLine]
  refine State.timer_unnameAlternate_kept fun m old _ => ⟨fun e => other ?_, nofun⟩
  rw [old, named, TimerId.faultConfirm.inj e]

/-- The timers of a slot that the line was the last to name are stopped. -/
theorem State.timer_changeAlternate_last {n : SlotNo} (other : (s.line l).alternate ≠ new) (old : (s.line l).alternate = some n)
    (last : ((s.changeAlternate l new).slot n).named = false) :
    ((s.changeAlternate l new).timer (.faultConfirm n)).running = false ∧
      ((s.changeAlternate l new).timer (.restore n)).running = false := by
  unfold State.changeAlternate at last ⊢
  rw [if_neg other] at last ⊢
  rw [old] at last ⊢
  exact State.timer_unnameAlternate_last last

theorem State.timer_changeAlternate_kept {id : TimerId}
    (fresh : ∀ n, (s.line l).alternate ≠ new → new = some n → id ≠ .faultConfirm n)
    (gone : ∀ n, (s.line l).alternate ≠ new → (s.line l).alternate = some n → ((s.changeAlternate l new).slot n).named = false →
      id ≠ .faultConfirm n ∧ id ≠ .restore n) : (s.changeAlternate l new).timer id = s.timer id := by
  by_cases same : (s.line l).alternate = new
  · rw [State.changeAlternate, if_pos same]
  · unfold State.changeAlternate at gone ⊢
    rw [if_neg same] at gone ⊢
    rw [State.modLine_eq, State.timer_setLine, State.timer_unnameAlternate_kept (gone · same)]
    exact (s.timer_nameAlternate new l id).2 fun n => fresh n same

end

/-! ### The roles of a slot in a change of the alternate -/

section
variable {l : LineNo} {old new : Option SlotNo} {n : SlotNo} {x : Slot}

theorem altChanged_same (same : old = new) : altChanged l old new n x = x := if_pos same

theorem altChanged_apart (left : old ≠ some n) (named : new ≠ some n) : altChanged l old new n x = x := by
  unfold altChanged
  rw [if_neg left, if_neg named, ite_self]

theorem altChanged_left (other : old ≠ new) (left : old = some n) :
    altChanged l old new n x = leftNamed { x with altLines := x.altLines.filter fun m => m != l } := by
  rw [altChanged, if_neg other, if_pos left]

theorem altChanged_new (other : old ≠ new) (named : new = some n) :
    altChanged l old new n x = { x with altLines := insertAsc l x.altLines, state := namedState x } := by
  rw [altChanged, if_neg other, if_neg fun e => other (e.trans named.symm), if_pos named]

@[simp] theorem altChanged_primaryNamer : (altChanged l old new n x).primaryNamer = x.primaryNamer := by
  unfold altChanged
  (repeat' split) <;> simp

/-- A slot with a primary namer keeps its state and claimant, unless it was UNASSIGNED. -/
theorem altChanged_namer {o : Owner} (named : x.primaryNamer = some o) (assigned : x.state ≠ .unassigned) :
    altChanged l old new n x = { x with altLines := (altChanged l old new n x).altLines } := by
  unfold altChanged
  split
  · rfl
  split
  · rw [leftNamed_of_named (by simp [Slot.named, named])]
  split
  · rw [namedState, if_neg assigned]
  · rfl

/-- Which lines name the slot as alternate after the change. -/
theorem altChanged_altLines :
    (altChanged l old new n x).altLines =
      if old = new then x.altLines
      else if old = some n then x.altLines.filter fun m => m != l
      else if new = some n then insertAsc l x.altLines
      else x.altLines := by
  unfold altChanged
  (repeat' split) <;> simp

end

/-! ### The primary slot of an IDLE line changes -/

/-- The namings of a line with a new primary, before the line takes its route from it. -/
def State.slotsRenamed (s : State) (l : LineNo) (primary alternate : Option SlotNo) : State :=
  (((s.dropSlot (s.line l).activeSlot).namePrimary primary (.line l)).changeAlternate l alternate).unnamePrimary
    (s.line l).primary

/-- The line with its new slots, before it has a route. -/
def renamedLine (x : Line) (primary alternate : Option SlotNo) : Line :=
  { x with alternate := alternate, primary := primary, route := .none }

theorem State.changeSlots_other {s : State} {l : LineNo} {primary alternate : Option SlotNo} (other : (s.line l).primary ≠ primary) :
    s.changeSlots l primary alternate =
      (((s.slotsRenamed l primary alternate).setLine l (renamedLine (s.line l) primary alternate)).routeFromPrimary l
        primary).serveFreed (s.line l).activeSlot := by
  have line : (s.slotsRenamed l primary alternate).line l = { s.line l with alternate := alternate } := by
    simp [State.slotsRenamed, State.changeAlternate_line]
  unfold State.changeSlots
  rw [if_neg other]
  dsimp only
  rw [State.modLine_eq, ← State.slotsRenamed, line]
  rfl

section
variable (s : State) (l : LineNo) (primary alternate : Option SlotNo)

theorem State.line_slotsRenamed (k : LineNo) :
    (s.slotsRenamed l primary alternate).line k = if k = l then { s.line l with alternate := alternate } else s.line k := by
  simp [State.slotsRenamed, State.changeAlternate_line]

theorem State.slotsRenamed_frame :
    s.slotsRenamed l primary alternate =
      { s with
        lines := (s.slotsRenamed l primary alternate).lines, slots := (s.slotsRenamed l primary alternate).slots
        timers := (s.slotsRenamed l primary alternate).timers } := by
  unfold State.slotsRenamed
  rw [State.changeAlternate_frame]
  exact State.eq_of_fields

/-- The record of a slot given up and renamed: dropped, named as primary, its alternate lines changed, and left as primary. -/
def slotRenamed (l : LineNo) (x : Line) (primary alternate : Option SlotNo) (n : SlotNo) (y : Slot) : Slot :=
  let dropped := if x.activeSlot = some n then { y with state := .standby, claimant := none } else y
  let named := if primary = some n then { dropped with primaryNamer := some (.line l), state := namedState dropped } else dropped
  let changed := altChanged l x.alternate alternate n named
  if x.primary = some n then leftNamed { changed with primaryNamer := none } else changed

theorem State.slot_slotsRenamed (n : SlotNo) :
    (s.slotsRenamed l primary alternate).slot n = slotRenamed l (s.line l) primary alternate n (s.slot n) := by
  have line : (((s.dropSlot (s.line l).activeSlot).namePrimary primary (.line l)).line l).alternate = (s.line l).alternate := by simp
  rw [State.slotsRenamed, State.slot_unnamePrimary, State.slot_changeAlternate, line, State.slot_namePrimary, State.slot_dropSlot]
  rfl

end

/-! ### The roles of a slot in the change -/

section
variable {l : LineNo} {x : Line} {primary alternate : Option SlotNo} {n : SlotNo} {y : Slot}

theorem altChanged_altLines_congr {old : Option SlotNo} {z : Slot} (h : z.altLines = y.altLines) :
    (altChanged l old alternate n z).altLines = (altChanged l old alternate n y).altLines := by
  simp only [altChanged_altLines, h]

/-- A slot's alternate lines follow the alternate alone. -/
theorem slotRenamed_altLines :
    (slotRenamed l x primary alternate n y).altLines = (altChanged l x.alternate alternate n y).altLines := by
  have named : ∀ z : Slot, z.altLines = y.altLines →
      (if x.primary = some n then leftNamed { altChanged l x.alternate alternate n z with primaryNamer := none }
        else altChanged l x.alternate alternate n z).altLines = (altChanged l x.alternate alternate n y).altLines := by
    intro z same
    split
    · rw [leftNamed_altLines]; exact altChanged_altLines_congr same
    · exact altChanged_altLines_congr same
  refine named _ ?_
  (repeat' split) <;> rfl

theorem slotRenamed_primaryNamer :
    (slotRenamed l x primary alternate n y).primaryNamer =
      if x.primary = some n then none else if primary = some n then some (.line l) else y.primaryNamer := by
  unfold slotRenamed
  dsimp only
  (repeat' split) <;> simp

theorem namedState_ne_unassigned (y : Slot) : namedState y ≠ .unassigned := by
  unfold namedState
  split
  · nofun
  · assumption

end

/-- The slots of a line that is to have a new primary: what the checks of SET-LINE and the premises of R15 leave possible. -/
structure Renaming (x : Line) (primary alternate : Option SlotNo) : Prop where
  other : x.primary ≠ primary
  apart : ∀ n, primary = some n → alternate ≠ some n
  given : ∀ n, x.activeSlot = some n → primary ≠ some n
  still : x.alternate ≠ alternate → ∀ n, x.activeSlot = some n → x.primary = some n
  distinct : ∀ n, x.primary = some n → x.alternate ≠ some n

/-- The active slot is the primary or the alternate. -/
theorem Line.activeSlot_cases {x : Line} {n : SlotNo} (h : x.activeSlot = some n) : x.primary = some n ∨ x.alternate = some n := by
  unfold Line.activeSlot at h
  split at h
  · cases h
  · exact .inl h
  · exact .inr h

section
variable {l : LineNo} {x : Line} {primary alternate : Option SlotNo} (h : Renaming x primary alternate) {n : SlotNo} (y : Slot)
include h

theorem Renaming.active_of_left (left : x.alternate = some n) (other : x.alternate ≠ alternate) : x.activeSlot ≠ some n := fun active =>
  h.distinct n (h.still other n active) left

/-- The new primary. -/
theorem Renaming.slot_primary (named : primary = some n) :
    slotRenamed l x primary alternate n y =
      { y with
        altLines := (slotRenamed l x primary alternate n y).altLines, primaryNamer := some (.line l), state := namedState y } := by
  rw [slotRenamed_altLines, slotRenamed, if_neg fun active => h.given n active named, if_pos named,
    if_neg fun old => h.other (old.trans named.symm)]
  refine (altChanged_namer (o := .line l) rfl (namedState_ne_unassigned y)).trans ?_
  rw [altChanged_altLines_congr (y := y) (z := { y with primaryNamer := some (.line l), state := namedState y }) rfl]

/-- The new alternate, where it was not the primary. -/
theorem Renaming.slot_alternate (other : x.alternate ≠ alternate) (named : alternate = some n) (active : x.activeSlot ≠ some n)
    (old : x.primary ≠ some n) :
    slotRenamed l x primary alternate n y = { y with altLines := insertAsc l y.altLines, state := namedState y } := by
  rw [slotRenamed, if_neg active, if_neg fun e => h.apart n e named, if_neg old, altChanged_new other named]

/-- The old alternate, where it is not the new primary. -/
theorem Renaming.slot_left (other : x.alternate ≠ alternate) (left : x.alternate = some n) (fresh : primary ≠ some n) :
    slotRenamed l x primary alternate n y = leftNamed { y with altLines := y.altLines.filter fun m => m != l } := by
  rw [slotRenamed, if_neg (h.active_of_left left other), if_neg fresh, if_neg fun old => h.distinct n old left,
    altChanged_left other left]

/-- The old primary, where the line neither gives it up nor takes it as alternate. -/
theorem Renaming.slot_old (old : x.primary = some n) (active : x.activeSlot ≠ some n) (fresh : alternate ≠ some n) :
    slotRenamed l x primary alternate n y = leftNamed { y with primaryNamer := none } := by
  have fresh' : ¬primary = some n := fun e => h.other (old.trans e.symm)
  rw [slotRenamed, if_neg active, if_neg fresh', if_pos old, altChanged_apart (h.distinct n old) fresh]

omit h in
/-- The old primary without a naming. -/
theorem slotRenamed_unnamed (old : x.primary = some n) (last : (slotRenamed l x primary alternate n y).altLines = []) :
    (slotRenamed l x primary alternate n y).state = .unassigned ∧ (slotRenamed l x primary alternate n y).claimant = none := by
  unfold slotRenamed at last ⊢
  rw [if_pos old] at last ⊢
  rw [leftNamed_altLines] at last
  rw [leftNamed_of_unnamed (by simp [Slot.named, show (altChanged ..).altLines = [] from last])]
  exact ⟨rfl, rfl⟩

/-- The slot given up. -/
theorem Renaming.slot_active (active : x.activeSlot = some n) :
    slotRenamed l x primary alternate n y =
      { y with
        altLines := (slotRenamed l x primary alternate n y).altLines
        state :=
          if x.primary = some n ∧ (slotRenamed l x primary alternate n y).altLines = [] then .unassigned else .standby
        claimant := none, primaryNamer := (slotRenamed l x primary alternate n y).primaryNamer } := by
  have fresh := h.given n active
  rw [slotRenamed_altLines, slotRenamed_primaryNamer, if_neg fresh, slotRenamed, if_pos active, if_neg fresh]
  by_cases old : x.primary = some n
  · have dropped : altChanged l x.alternate alternate n { y with state := .standby, claimant := none } =
        { y with altLines := (altChanged l x.alternate alternate n y).altLines, state := .standby, claimant := none } := by
      by_cases fresh : x.alternate ≠ alternate ∧ alternate = some n
      · rw [altChanged_new fresh.1 fresh.2, altChanged_new fresh.1 fresh.2]
        rfl
      · have kept (z : Slot) : altChanged l x.alternate alternate n z = z := by
          by_cases same : x.alternate = alternate
          · exact altChanged_same same
          · exact altChanged_apart (h.distinct n old) fun e => fresh ⟨same, e⟩
        rw [kept, kept]
    rw [if_pos old, if_pos old, dropped]
    dsimp only
    by_cases last : (altChanged l x.alternate alternate n y).altLines = []
    · rw [leftNamed_of_unnamed (by simp [Slot.named, last]), if_pos ⟨old, last⟩]
    · rw [leftNamed_of_named (by simp [Slot.named, last]), if_neg fun e => last e.2]
  · have same : x.alternate = alternate := by
      by_contra other
      exact old (h.still other n active)
    rw [if_neg old, if_neg old, altChanged_same same, altChanged_same same, if_neg fun e => old e.1]

omit h in
/-- No other slot. -/
theorem slotRenamed_other (fresh : primary ≠ some n) (old : x.primary ≠ some n) (named : alternate ≠ some n)
    (left : x.alternate ≠ some n) : slotRenamed l x primary alternate n y = y := by
  rw [slotRenamed, if_neg fun active => (Line.activeSlot_cases active).elim old left, if_neg fresh, if_neg old,
    altChanged_apart left named]

end

/-! ### The timers of the slots that are renamed -/

/-- The active slot given up and the new primary named. -/
def State.primaryNamed (s : State) (l : LineNo) (primary : Option SlotNo) : State :=
  (s.dropSlot (s.line l).activeSlot).namePrimary primary (.line l)

theorem faultConfirm_ne_restore (n m : SlotNo) : TimerId.faultConfirm n ≠ .restore m := nofun

section
variable {s : State} {l : LineNo} {primary alternate : Option SlotNo} {n : SlotNo}

theorem State.slotsRenamed_eq : s.slotsRenamed l primary alternate =
    ((s.primaryNamed l primary).changeAlternate l alternate).unnamePrimary (s.line l).primary := rfl

theorem State.line_primaryNamed (k : LineNo) : (s.primaryNamed l primary).line k = s.line k := by
  simp [State.primaryNamed]

theorem State.mp_primaryNamed : (s.primaryNamed l primary).mp = s.mp := by
  simp [State.primaryNamed]

/-- A slot that is neither given up nor named. -/
theorem State.slot_primaryNamed_other (active : (s.line l).activeSlot ≠ some n) (fresh : primary ≠ some n) :
    (s.primaryNamed l primary).slot n = s.slot n := by
  rw [State.primaryNamed, State.slot_namePrimary, if_neg fresh, State.slot_dropSlot, if_neg active]

theorem State.timer_primaryNamed_other {id : TimerId} (fresh : ∀ n, primary = some n → id ≠ .faultConfirm n) :
    (s.primaryNamed l primary).timer id = s.timer id :=
  ((State.timer_namePrimary _ primary (.line l) id).2 fresh).trans (by simp)

/-- A slot that the line does not leave as primary keeps its timers from there on. -/
theorem State.timer_slotsRenamed_kept {id : TimerId}
    (gone : ∀ n, (s.line l).primary = some n → ((s.slotsRenamed l primary alternate).slot n).altLines = [] →
      id ≠ .faultConfirm n ∧ id ≠ .restore n) :
    (s.slotsRenamed l primary alternate).timer id = ((s.primaryNamed l primary).changeAlternate l alternate).timer id := by
  rw [State.slotsRenamed_eq]
  refine State.timer_unnamePrimary_kept fun n old last => gone n old ?_
  rw [State.slotsRenamed_eq, State.slot_unnamePrimary, if_pos old, leftNamed_altLines]
  exact last

/-- A slot that the line does not name as old primary is as the change of the alternate leaves it. -/
theorem State.slot_slotsRenamed_kept (old : (s.line l).primary ≠ some n) :
    (s.slotsRenamed l primary alternate).slot n = ((s.primaryNamed l primary).changeAlternate l alternate).slot n := by
  rw [State.slotsRenamed_eq, State.slot_unnamePrimary, if_neg old]

theorem State.timer_renamed_old (old : (s.line l).primary = some n)
    (last : ((s.slotsRenamed l primary alternate).slot n).altLines = []) :
    ((s.slotsRenamed l primary alternate).timer (.faultConfirm n)).running = false ∧
      ((s.slotsRenamed l primary alternate).timer (.restore n)).running = false := by
  rw [State.slotsRenamed_eq, old] at last ⊢
  rw [State.slot_unnamePrimary, if_pos rfl, leftNamed_altLines] at last
  exact State.timer_unnamePrimary_last last

variable (h : Renaming (s.line l) primary alternate)
include h

theorem State.timer_renamed_primary (named : primary = some n) :
    (s.slotsRenamed l primary alternate).timer (.faultConfirm n) = confirmAtNaming s n := by
  have alt : ((s.primaryNamed l primary).line l).alternate = (s.line l).alternate := by rw [State.line_primaryNamed]
  have ne (m : SlotNo) (o : Option SlotNo) (differs : o ≠ primary) (is : o = some m) : TimerId.faultConfirm n ≠ .faultConfirm m :=
    fun e => differs (by rw [is, named, TimerId.faultConfirm.inj e])
  have namer : ((s.primaryNamed l primary).slot n).primaryNamer = some (.line l) := by
    rw [State.primaryNamed, State.slot_namePrimary, if_pos named]
  rw [State.timer_slotsRenamed_kept fun m old _ => ⟨ne m _ h.other old, faultConfirm_ne_restore n m⟩, State.timer_changeAlternate_kept]
  · refine ((State.timer_namePrimary _ primary (.line l) (.faultConfirm n)).1 n named).trans (confirmAtNaming_congr ?_ ?_ ?_)
    · rw [State.slot_dropSlot, if_neg fun active => h.given n active named]
    · simp
    · simp
  · intro m _ own e
    exact h.apart n named (by rw [own, TimerId.faultConfirm.inj e])
  · intro m _ _ last
    refine ⟨fun e => ?_, nofun⟩
    cases e
    rw [State.slot_changeAlternate, Slot.named, altChanged_primaryNamer, namer] at last
    cases last

theorem State.timer_renamed_alternate (other : (s.line l).alternate ≠ alternate) (named : alternate = some n)
    (active : (s.line l).activeSlot ≠ some n) (old : (s.line l).primary ≠ some n) :
    (s.slotsRenamed l primary alternate).timer (.faultConfirm n) = confirmAtNaming s n := by
  have fresh (m : SlotNo) (e : primary = some m) : TimerId.faultConfirm n ≠ .faultConfirm m := fun same =>
    h.apart m e (by rw [named, TimerId.faultConfirm.inj same])
  rw [State.timer_slotsRenamed_kept fun m primary _ => ⟨fun e => old (by rw [primary, TimerId.faultConfirm.inj e]),
      faultConfirm_ne_restore n m⟩,
    State.timer_changeAlternate_named _ _ _ (by rwa [State.line_primaryNamed]) named]
  refine confirmAtNaming_congr (State.slot_primaryNamed_other active fun e => fresh n e rfl) (State.timer_primaryNamed_other fresh) ?_
  rw [State.mp_primaryNamed]

theorem State.timer_renamed_left (other : (s.line l).alternate ≠ alternate) (left : (s.line l).alternate = some n)
    (last : ((s.slotsRenamed l primary alternate).slot n).named = false) :
    ((s.slotsRenamed l primary alternate).timer (.faultConfirm n)).running = false ∧
      ((s.slotsRenamed l primary alternate).timer (.restore n)).running = false := by
  have old : (s.line l).primary ≠ some n := fun e => h.distinct n e left
  have alt : ((s.primaryNamed l primary).line l).alternate = (s.line l).alternate := by rw [State.line_primaryNamed]
  have stopped := State.timer_changeAlternate_last (s.primaryNamed l primary) l alternate (by rwa [alt]) (alt.trans left)
    (by rwa [← State.slot_slotsRenamed_kept old])
  have ne {m : SlotNo} (e : (s.line l).primary = some m) : n ≠ m := fun same => old (by rw [e, same])
  rw [State.timer_slotsRenamed_kept fun m e _ => ⟨fun same => ne e (TimerId.faultConfirm.inj same), faultConfirm_ne_restore n m⟩,
    State.timer_slotsRenamed_kept fun m e _ => ⟨(faultConfirm_ne_restore m n).symm, fun same => ne e (TimerId.restore.inj same)⟩]
  exact stopped

theorem State.timer_renamed_kept {id : TimerId}
    (fresh : ∀ n, primary = some n ∨ (s.line l).alternate ≠ alternate ∧ alternate = some n → id ≠ .faultConfirm n)
    (gone : ∀ n, (s.line l).primary = some n ∨ (s.line l).alternate ≠ alternate ∧ (s.line l).alternate = some n →
      ((s.slotsRenamed l primary alternate).slot n).named = false → id ≠ .faultConfirm n ∧ id ≠ .restore n) :
    (s.slotsRenamed l primary alternate).timer id = s.timer id := by
  have alt : ((s.primaryNamed l primary).line l).alternate = (s.line l).alternate := by rw [State.line_primaryNamed]
  rw [State.timer_slotsRenamed_kept fun n old last => gone n (.inl old) ?_, State.timer_changeAlternate_kept,
    State.timer_primaryNamed_other fun n e => fresh n (.inl e)]
  · exact fun n other e => fresh n (.inr ⟨by rwa [alt] at other, e⟩)
  · intro n other left last
    rw [alt] at other left
    exact gone n (.inr ⟨other, left⟩) (by rwa [State.slot_slotsRenamed_kept fun e => h.distinct n e left])
  · rw [Slot.named, last, State.slot_slotsRenamed, slotRenamed_primaryNamer, if_pos old]
    rfl

end

/-! ### The route taken from the new primary (R15, R141) -/

/-- A line with new slots has come to the route `route` by the slot `o`, from the state `r` to `v`. -/
structure RouteTaken (r v : State) (l : LineNo) (x : Line) (o : Option SlotNo) (route : Route) : Prop where
  line : v.line l =
    { x with state := if o.isSome then .idle else .lockout, currentPrivacy := x.defaultPrivacy, route := route }
  others : ∀ k, k ≠ l → v.line k = r.line k
  slot : ∀ n, v.slot n = if o = some n then { r.slot n with state := .active, claimant := some (.line l) } else r.slot n
  frame : v = { r with lines := v.lines, slots := v.slots }

/-- The state in which a line takes its route from its new primary. -/
def State.lineRenamed (s : State) (l : LineNo) (primary alternate : Option SlotNo) : State :=
  (s.slotsRenamed l primary alternate).setLine l (renamedLine (s.line l) primary alternate)

theorem State.line_lineRenamed (s : State) (l : LineNo) (primary alternate : Option SlotNo) (k : LineNo) :
    (s.lineRenamed l primary alternate).line k =
      if k = l then renamedLine (s.line l) primary alternate else s.line k := by
  rw [State.lineRenamed, State.line_setLine, State.line_slotsRenamed]
  split <;> rfl

theorem State.slot_lineRenamed (s : State) (l : LineNo) (primary alternate : Option SlotNo) (n : SlotNo) :
    (s.lineRenamed l primary alternate).slot n = (s.slotsRenamed l primary alternate).slot n := rfl

/-- No waiting line names the slot that a line gives up, and no record names it as primary that keeps it. -/
def FreedFor (s : State) (x : Line) : Prop :=
  ∀ g, x.activeSlot = some g →
    ((s.slot g).primaryNamer = none ∨ x.primary = some g) ∧ ∀ k, (s.line k).waiting = true → (s.line k).names g = false

section
variable {s v : State} {l : LineNo} {primary alternate : Option SlotNo} (h : Renaming (s.line l) primary alternate)
include h

theorem Renaming.standby_iff :
    (s.lineRenamed l primary alternate).isStandby primary = true ↔ ∃ n, primary = some n ∧ Claimable s n := by
  cases named : primary with
  | none => simp [State.isStandby]
  | some n =>
    subst named
    have state : ((s.lineRenamed l (some n) alternate).slot n).state = namedState (s.slot n) := by
      rw [State.lineRenamed, State.slot_setLine, State.slot_slotsRenamed, h.slot_primary _ rfl]
    rw [State.isStandby, beq_iff_eq, state, namedState_standby]
    simp

variable (freed : FreedFor s (s.line l))
  (routed : RoutedFrom (s.lineRenamed l primary alternate) v l primary)
include freed routed

/-- The slot given up, as the line's route leaves it. -/
theorem Renaming.slot_freed {g : SlotNo} (active : (s.line l).activeSlot = some g) :
    v.slot g = slotRenamed l (s.line l) primary alternate g (s.slot g) ∧ (v.slot g).primaryNamer = none := by
  have slot : v.slot g = slotRenamed l (s.line l) primary alternate g (s.slot g) := by
    rw [routed.slot, if_neg fun e => h.given g active e.2, State.lineRenamed, State.slot_setLine, State.slot_slotsRenamed]
  refine ⟨slot, ?_⟩
  rw [slot, slotRenamed_primaryNamer, if_neg (h.given g active)]
  by_cases old : (s.line l).primary = some g
  · rw [if_pos old]
  · rw [if_neg old]
    exact (freed g active).1.resolve_right old

omit h in
/-- Other lines do not name the slot given up while they wait. -/
theorem FreedFor.others_apart {g : SlotNo} (active : (s.line l).activeSlot = some g) (k : LineNo) (other : k ≠ l)
    (waits : (v.line k).waiting = true) : (v.line k).names g = false := by
  rw [routed.others k other, State.line_lineRenamed, if_neg other] at waits ⊢
  exact (freed g active).2 k waits

/-- Nobody takes the slot given up, unless the line itself does. -/
theorem Renaming.serveFreed_nobody
    (away : ∀ g, (s.line l).activeSlot = some g → (v.line l).waiting = true → (v.line l).names g = false) :
    v.serveFreed (s.line l).activeSlot = v := by
  cases active : (s.line l).activeSlot with
  | none => rfl
  | some g =>
    refine State.serve_unsought _ ⟨(h.slot_freed freed routed active).2, fun k waits => ?_⟩
    by_cases own : k = l
    · rw [own] at waits ⊢
      exact away g active waits
    · exact freed.others_apart routed active k own waits

end

section
variable {s : State} {l : LineNo} {primary alternate : Option SlotNo} (h : Renaming (s.line l) primary alternate)
  (freed : FreedFor s (s.line l))
include h

omit h in
theorem State.routeFromPrimary_lineRenamed :
    RoutedFrom (s.lineRenamed l primary alternate) ((s.lineRenamed l primary alternate).routeFromPrimary l primary) l primary :=
  State.routeFromPrimary_routed (by rw [State.line_lineRenamed, if_pos rfl]; rfl)

include freed in
/-- The line is IDLE on its new primary where it can be claimed. -/
theorem State.changeSlots_claims {n : SlotNo} (named : primary = some n) (can : Claimable s n) :
    RouteTaken (s.slotsRenamed l primary alternate) (s.changeSlots l primary alternate) l
      (renamedLine (s.line l) primary alternate) primary .primary := by
  have routed := State.routeFromPrimary_lineRenamed (s := s) (l := l) (primary := primary) (alternate := alternate)
  have standby := h.standby_iff.2 ⟨n, named, can⟩
  rw [State.changeSlots_other h.other, ← State.lineRenamed]
  generalize (s.lineRenamed l primary alternate).routeFromPrimary l primary = v at routed
  have line := routed.line
  rw [if_pos standby, State.line_lineRenamed, if_pos rfl] at line
  rw [h.serveFreed_nobody freed routed fun g _ waits => by rw [line] at waits; cases waits]
  refine ⟨by rw [line, named]; rfl, fun k other => ?_, fun m => ?_, ?_⟩
  · rw [routed.others k other, State.lineRenamed, State.line_setLine_ne _ _ other]
  · rw [routed.slot]
    exact if_congr (by simp [standby]) rfl rfl
  · rw [routed.frame]
    rfl

/-- A line that cannot claim its new primary is LOCKOUT when the slot given up is served. -/
theorem State.routeFromPrimary_locks {v : State} (routed : RoutedFrom (s.lineRenamed l primary alternate) v l primary)
    (cannot : ∀ n, primary = some n → ¬Claimable s n) :
    v.line l = (renamedLine (s.line l) primary alternate).enterLockout ∧
      (∀ n, v.slot n = (s.slotsRenamed l primary alternate).slot n) ∧ v.isStandby primary = false := by
  have busy : ¬(s.lineRenamed l primary alternate).isStandby primary = true := fun e => by
    obtain ⟨n, named, can⟩ := h.standby_iff.1 e
    exact cannot n named can
  have slots (n : SlotNo) : v.slot n = (s.slotsRenamed l primary alternate).slot n :=
    (routed.slot n).trans (if_neg fun e => busy e.1)
  refine ⟨by rw [routed.line, if_neg busy, State.line_lineRenamed, if_pos rfl], slots, ?_⟩
  rw [Bool.eq_false_iff]
  intro standby
  refine busy ?_
  cases named : primary with
  | none => rw [named] at standby; exact standby
  | some n =>
    subst named
    simpa [State.isStandby, slots, State.slot_lineRenamed] using standby

include freed in
/-- Otherwise it is LOCKOUT, unless the slot given up is its new alternate. -/
theorem State.changeSlots_loses (cannot : ∀ n, primary = some n → ¬Claimable s n)
    (gone : alternate = none ∨ alternate ≠ (s.line l).activeSlot) :
    RouteTaken (s.slotsRenamed l primary alternate) (s.changeSlots l primary alternate) l
      (renamedLine (s.line l) primary alternate) none .none := by
  have routed := State.routeFromPrimary_lineRenamed (s := s) (l := l) (primary := primary) (alternate := alternate)
  rw [State.changeSlots_other h.other, ← State.lineRenamed]
  generalize (s.lineRenamed l primary alternate).routeFromPrimary l primary = v at routed
  obtain ⟨line, slots, -⟩ := State.routeFromPrimary_locks h routed cannot
  rw [h.serveFreed_nobody freed routed fun g active _ => ?_]
  · refine ⟨line, fun k other => ?_, fun n => (slots n).trans (if_neg nofun).symm, ?_⟩
    · rw [routed.others k other, State.lineRenamed, State.line_setLine_ne _ _ other]
    · rw [routed.frame]
      rfl
  · have away : alternate ≠ some g := fun e => gone.elim (fun none => by rw [none] at e; cases e) fun ne => ne (e.trans active.symm)
    rw [line]
    simp [Line.names, Line.enterLockout, renamedLine, h.given g active, away]

include freed in
/-- Otherwise it takes the slot given up back as its new alternate. -/
theorem State.changeSlots_regains {g : SlotNo} (cannot : ∀ n, primary = some n → ¬Claimable s n)
    (active : (s.line l).activeSlot = some g) (again : alternate = some g) :
    RouteTaken (s.slotsRenamed l primary alternate) (s.changeSlots l primary alternate) l
      (renamedLine (s.line l) primary alternate) (some g) .alternate := by
  have routed := State.routeFromPrimary_lineRenamed (s := s) (l := l) (primary := primary) (alternate := alternate)
  rw [State.changeSlots_other h.other, ← State.lineRenamed]
  generalize (s.lineRenamed l primary alternate).routeFromPrimary l primary = v at routed
  obtain ⟨line, slots, busy⟩ := State.routeFromPrimary_locks h routed cannot
  obtain ⟨slot, namer⟩ := h.slot_freed freed routed active
  have standby : (v.slot g).state = .standby := by
    rw [slot, h.slot_active _ active]
    refine if_neg fun ⟨old, last⟩ => ?_
    have left := h.distinct g old
    rw [slotRenamed_altLines, altChanged_altLines, if_neg fun same => left (same.trans again), if_neg left, if_pos again] at last
    simp [insertAsc] at last
  have waits : (v.line l).waiting = true := by rw [line]; rfl
  have served : v.serveFreed (s.line l).activeSlot = v.regainLine l g := by
    rw [active]
    refine State.serve_waiting _ standby (by rw [namer]; nofun) (State.waitingLine_some waits ?_ fun k low waits' => ?_)
      (State.regainLine_stays waits (.inr ?_))
    · rw [line]
      simp [Line.names, Line.enterLockout, renamedLine, again]
    · exact freed.others_apart routed active k (Nat.ne_of_lt low ∘ congrArg Fin.val) waits'
    · rw [line]
      exact busy
  rw [served, State.regainLine_lockout (by rw [line]; rfl)]
  refine ⟨?_, fun k other => ?_, fun n => ?_, ?_⟩
  · rw [State.line_setLine_self, line]
    simp [Line.enterLockout, Line.routeOf, renamedLine, h.given g active]
  · rw [State.line_setLine_ne _ _ other, State.line_claimLine, if_neg other, routed.others k other, State.lineRenamed,
      State.line_setLine_ne _ _ other]
  · rw [State.slot_setLine, State.slot_claimLine, slots, slots]
    by_cases own : n = g
    · rw [own, if_pos rfl, if_pos rfl]
    · rw [if_neg own, if_neg fun e => own (Option.some.inj e).symm]
  · rw [routed.frame]
    unfold State.lineRenamed
    exact State.eq_of_fields

end

/-- How the line comes to a route: by its new primary, by the slot it gave up, or not at all. -/
inductive RouteOutcome (s : State) (x : Line) (primary alternate : Option SlotNo) : Option SlotNo → Route → Prop
  | claims {n : SlotNo} : primary = some n → Claimable s n → RouteOutcome s x primary alternate (some n) .primary
  | regains {g : SlotNo} : (∀ n, primary = some n → ¬Claimable s n) → x.activeSlot = some g → alternate = some g →
      RouteOutcome s x primary alternate (some g) .alternate
  | loses : (∀ n, primary = some n → ¬Claimable s n) → (alternate = none ∨ alternate ≠ x.activeSlot) →
      RouteOutcome s x primary alternate none .none

section
variable {s : State} {l : LineNo} {primary alternate : Option SlotNo} (h : Renaming (s.line l) primary alternate)
include h

theorem State.changeSlots_route (freed : FreedFor s (s.line l)) :
    ∃ o route, RouteOutcome s (s.line l) primary alternate o route ∧
      RouteTaken (s.slotsRenamed l primary alternate) (s.changeSlots l primary alternate) l
        (renamedLine (s.line l) primary alternate) o route := by
  by_cases can : ∃ n, primary = some n ∧ Claimable s n
  · obtain ⟨n, named, can⟩ := can
    exact ⟨some n, .primary, .claims named can, named ▸ State.changeSlots_claims h freed named can⟩
  · have cannot (n : SlotNo) (named : primary = some n) : ¬Claimable s n := fun e => can ⟨n, named, e⟩
    cases again : alternate with
    | none => exact ⟨none, .none, .loses cannot (.inl rfl), again ▸ State.changeSlots_loses h freed cannot (.inl again)⟩
    | some g =>
      subst again
      by_cases active : (s.line l).activeSlot = some g
      · exact ⟨some g, .alternate, .regains cannot active rfl, State.changeSlots_regains h freed cannot active rfl⟩
      · exact ⟨none, .none, .loses cannot (.inr (Ne.symm active)),
          State.changeSlots_loses h freed cannot (.inr (Ne.symm active))⟩

end

/-! ### What the change of the slots leaves -/

/-- What a change of a line's slots leaves of the alternate's namings and of the timers, between `s` and `t`. -/
structure NamingsChanged (s t : State) (l : LineNo) (x : Line) (primary alternate : Option SlotNo) : Prop where
  others : ∀ k, k ≠ l → t.line k = s.line k
  sameAlternate : alternate = x.alternate → ∀ n, (t.slot n).altLines = (s.slot n).altLines
  newAlternate : alternate ≠ x.alternate → ∀ n, alternate = some n →
    (∀ k, k ∈ (t.slot n).altLines ↔ k = l ∨ k ∈ (s.slot n).altLines) ∧
    ((primary = x.primary ∨ x.activeSlot ≠ some n ∧ x.primary ≠ some n) →
      t.timer (.faultConfirm n) = confirmAtNaming s n ∧
      t.slot n =
        { s.slot n with
          altLines := (t.slot n).altLines
          state := if (s.slot n).state = .unassigned then .standby else (s.slot n).state })
  oldAlternate : alternate ≠ x.alternate → ∀ n, x.alternate = some n →
    (t.slot n).altLines = ((s.slot n).altLines.filter fun k => k != l) ∧
    (primary = x.primary ∨ primary ≠ some n →
      t.slot n =
        { s.slot n with
          altLines := (t.slot n).altLines
          state := if (t.slot n).named = true then (s.slot n).state else .unassigned
          claimant := if (t.slot n).named = true then (s.slot n).claimant else none } ∧
      ((t.slot n).named = false →
        (t.timer (.faultConfirm n)).running = false ∧ (t.timer (.restore n)).running = false))
  noAlternate : alternate ≠ x.alternate → ∀ n, alternate ≠ some n → x.alternate ≠ some n →
    (t.slot n).altLines = (s.slot n).altLines
  timer : ∀ id,
    (∀ n, primary ≠ x.primary ∧ primary = some n ∨ alternate ≠ x.alternate ∧ alternate = some n →
      id ≠ .faultConfirm n) →
    (∀ n, primary ≠ x.primary ∧ x.primary = some n ∨
        alternate ≠ x.alternate ∧ x.alternate = some n →
      (t.slot n).named = false → id ≠ .faultConfirm n ∧ id ≠ .restore n) → t.timer id = s.timer id
  frame : t = { s with lines := t.lines, slots := t.slots, timers := t.timers }

theorem leftNamed_eq (x : Slot) :
    leftNamed x =
      { x with
        state := if (leftNamed x).named = true then x.state else .unassigned
        claimant := if (leftNamed x).named = true then x.claimant else none } := by
  rw [leftNamed_named]
  by_cases named : x.named = true
  · rw [leftNamed_of_named named, if_pos named, if_pos named]
  · rw [leftNamed_of_unnamed (by simpa using named), if_neg named, if_neg named]

theorem State.changeAlternate_changed (s : State) (l : LineNo) (alternate : Option SlotNo) :
    NamingsChanged s (s.changeAlternate l alternate) l (s.line l) (s.line l).primary alternate := by
  have slot := s.slot_changeAlternate l alternate
  refine ⟨fun k other => ?_, fun same n => ?_, fun other n named => ⟨fun k => ?_, fun _ => ⟨?_, ?_⟩⟩,
    fun other n left => ⟨?_, fun _ => ⟨?_, fun last => ?_⟩⟩, fun other n named left => ?_, fun id fresh gone => ?_,
    s.changeAlternate_frame l alternate⟩
  · rw [State.changeAlternate_line, if_neg other]
  · rw [slot, altChanged_same same.symm]
  · rw [slot, altChanged_new other.symm named]
    exact mem_insertAsc l k _
  · exact s.timer_changeAlternate_named l alternate other.symm named
  · rw [slot, altChanged_new other.symm named]
    rfl
  · rw [slot, altChanged_left other.symm left, leftNamed_altLines]
  · rw [slot, altChanged_left other.symm left, leftNamed_altLines]
    exact leftNamed_eq _
  · exact s.timer_changeAlternate_last l alternate other.symm left last
  · rw [slot, altChanged_apart left named]
  · exact s.timer_changeAlternate_kept l alternate (fun n other named => fresh n (.inr ⟨other.symm, named⟩))
      fun n other left => gone n (.inr ⟨other.symm, left⟩)

section
variable {s t : State} {l : LineNo} {primary alternate o : Option SlotNo} {route : Route}
  (h : Renaming (s.line l) primary alternate) (outcome : RouteOutcome s (s.line l) primary alternate o route)
  (took : RouteTaken (s.slotsRenamed l primary alternate) t l (renamedLine (s.line l) primary alternate) o route)

include took in
/-- The slot that the line claims keeps its namings. -/
theorem RouteTaken.namings (n : SlotNo) :
    (t.slot n).altLines = (altChanged l (s.line l).alternate alternate n (s.slot n)).altLines ∧
      (t.slot n).named = ((s.slotsRenamed l primary alternate).slot n).named ∧
      (t.slot n).primaryNamer = ((s.slotsRenamed l primary alternate).slot n).primaryNamer := by
  rw [← slotRenamed_altLines (x := s.line l) (primary := primary), ← State.slot_slotsRenamed, took.slot]
  split <;> exact ⟨rfl, rfl, rfl⟩

include took in
theorem RouteTaken.timer (id : TimerId) : t.timer id = (s.slotsRenamed l primary alternate).timer id := by
  rw [took.frame]
  rfl

include took outcome in
/-- A slot that is neither the new primary nor given up is as its namings leave it. -/
theorem RouteTaken.slot_other {n : SlotNo} (fresh : primary ≠ some n) (active : (s.line l).activeSlot ≠ some n) :
    t.slot n = slotRenamed l (s.line l) primary alternate n (s.slot n) := by
  rw [← State.slot_slotsRenamed, took.slot, if_neg]
  rintro rfl
  cases outcome with
  | claims named _ => exact fresh named
  | regains _ own _ => exact active own

include h outcome took

theorem RouteTaken.changed : NamingsChanged s t l (s.line l) primary alternate := by
  have names := took.namings
  refine ⟨fun k other => ?_, fun same n => ?_, fun other n named => ⟨fun k => ?_, fun which => ?_⟩,
    fun other n left => ⟨?_, fun which => ?_⟩, fun other n named left => ?_, fun id fresh gone => ?_, ?_⟩
  · rw [took.others k other, State.line_slotsRenamed, if_neg other]
  · rw [(names n).1, altChanged_same same.symm]
  · rw [(names n).1, altChanged_new other.symm named]
    exact mem_insertAsc l k _
  · obtain ⟨active, old⟩ := which.resolve_left h.other.symm
    refine ⟨(took.timer _).trans (State.timer_renamed_alternate h other.symm named active old), ?_⟩
    rw [took.slot_other outcome (fun e => h.apart n e named) active, h.slot_alternate _ other.symm named active old]
    rfl
  · rw [(names n).1, altChanged_left other.symm left, leftNamed_altLines]
  · have fresh := which.resolve_left h.other.symm
    refine ⟨?_, fun last => ?_⟩
    · rw [took.slot_other outcome fresh (h.active_of_left left other.symm), h.slot_left _ other.symm left fresh,
        leftNamed_altLines]
      exact leftNamed_eq _
    · rw [took.timer, took.timer]
      exact State.timer_renamed_left h other.symm left ((names n).2.1 ▸ last)
  · rw [(names n).1, altChanged_apart left named]
  · rw [took.timer]
    refine State.timer_renamed_kept h (fun n which => fresh n ?_) fun n which last => gone n ?_ ((names n).2.1.trans last)
    · exact which.imp (fun e => ⟨h.other.symm, e⟩) fun e => ⟨e.1.symm, e.2⟩
    · exact which.imp (fun e => ⟨h.other.symm, e⟩) fun e => ⟨e.1.symm, e.2⟩
  · rw [took.frame, State.slotsRenamed_frame]

end

/-- What a new primary leaves of the line and its slots, between `s` and `t` (R15, R131, R141). -/
structure PrimaryChanged (s t : State) (l : LineNo) (x : Line) (primary alternate : Option SlotNo) : Prop where
  line : t.line l =
    { x with
      primary := primary, alternate := alternate, currentPrivacy := x.defaultPrivacy
      state := (t.line l).state, route := (t.line l).route }
  named : ∀ n, primary = some n →
    t.timer (.faultConfirm n) = confirmAtNaming s n ∧
    (Claimable s n →
      (t.line l).state = .idle ∧ (t.line l).route = .primary ∧
      t.slot n =
        { s.slot n with
          altLines := (t.slot n).altLines, state := .active, claimant := some (.line l), primaryNamer := some (.line l) }) ∧
    (¬Claimable s n →
      t.slot n = { s.slot n with altLines := (t.slot n).altLines, primaryNamer := some (.line l) })
  unclaimed : (∀ n, primary = some n → ¬Claimable s n) →
    (alternate ≠ none → alternate = x.activeSlot → (t.line l).state = .idle ∧ (t.line l).route = .alternate) ∧
    (alternate = none ∨ alternate ≠ x.activeSlot → (t.line l).state = .lockout ∧ (t.line l).route = .none)
  givenUp : ∀ g, x.activeSlot = some g →
    ((t.line l).route = .alternate →
      t.slot g =
        { s.slot g with
          altLines := (t.slot g).altLines, state := .active, claimant := some (.line l)
          primaryNamer := (t.slot g).primaryNamer }) ∧
    ((t.line l).route ≠ .alternate →
      t.slot g =
        { s.slot g with
          altLines := (t.slot g).altLines
          state := if x.primary = some g ∧ (t.slot g).altLines = [] then .unassigned else .standby
          claimant := none, primaryNamer := (t.slot g).primaryNamer })
  left : ∀ o, x.primary = some o →
    (t.slot o).primaryNamer = none ∧
    ((t.slot o).altLines = [] →
      (t.slot o).state = .unassigned ∧ (t.slot o).claimant = none ∧
      (t.timer (.faultConfirm o)).running = false ∧ (t.timer (.restore o)).running = false) ∧
    (x.activeSlot ≠ some o → alternate ≠ some o → (t.slot o).altLines ≠ [] →
      t.slot o = { s.slot o with altLines := (t.slot o).altLines, primaryNamer := none })
  otherSlot : ∀ n, primary ≠ some n → x.primary ≠ some n → alternate ≠ some n → x.alternate ≠ some n →
    t.slot n = s.slot n

section
variable {s t : State} {l : LineNo} {primary alternate o : Option SlotNo} {route : Route}
  (h : Renaming (s.line l) primary alternate) (outcome : RouteOutcome s (s.line l) primary alternate o route)
  (took : RouteTaken (s.slotsRenamed l primary alternate) t l (renamedLine (s.line l) primary alternate) o route)
include outcome in
/-- Which slot the line claims. -/
theorem RouteOutcome.slot {n : SlotNo} (own : o = some n) :
    primary = some n ∧ Claimable s n ∧ route = .primary ∨
      (s.line l).activeSlot = some n ∧ alternate = some n ∧ route = .alternate := by
  cases outcome with
  | claims named can => cases own; exact .inl ⟨named, can, rfl⟩
  | regains _ active again => cases own; exact .inr ⟨active, again, rfl⟩
  | loses _ _ => cases own

include h outcome took

/-- The old primary is not claimed where no line names it as alternate. -/
theorem RouteTaken.slot_last {n : SlotNo} (old : (s.line l).primary = some n) (last : (t.slot n).altLines = []) :
    t.slot n = slotRenamed l (s.line l) primary alternate n (s.slot n) := by
  rw [← State.slot_slotsRenamed, took.slot, if_neg]
  rintro rfl
  cases outcome with
  | claims named _ => exact h.other (old.trans named.symm)
  | regains _ _ again =>
    have left := h.distinct n old
    rw [(took.namings n).1, altChanged_new (fun same => left (same.trans again)) again] at last
    simp [insertAsc] at last

theorem RouteTaken.primaryChanged : PrimaryChanged s t l (s.line l) primary alternate := by
  have slot (n : SlotNo) : t.slot n =
      if o = some n then { slotRenamed l (s.line l) primary alternate n (s.slot n) with state := .active, claimant := some (.line l) }
      else slotRenamed l (s.line l) primary alternate n (s.slot n) := by
    rw [took.slot, State.slot_slotsRenamed]
  have state : (t.line l).state = if o.isSome then .idle else .lockout := by rw [took.line]
  have own : (t.line l).route = route := by rw [took.line]
  have altLines (n : SlotNo) : (slotRenamed l (s.line l) primary alternate n (s.slot n)).altLines = (t.slot n).altLines := by
    rw [slotRenamed_altLines, (took.namings n).1]
  have namer (n : SlotNo) : (slotRenamed l (s.line l) primary alternate n (s.slot n)).primaryNamer = (t.slot n).primaryNamer := by
    rw [(took.namings n).2.2, State.slot_slotsRenamed]
  refine ⟨by rw [took.line]; rfl, fun n named => ⟨(took.timer _).trans (State.timer_renamed_primary h named), fun can => ?_,
    fun cannot => ?_⟩, fun cannot => ⟨fun some active => ?_, fun away => ?_⟩, fun g active => ⟨fun again => ?_, fun no => ?_⟩,
    fun n old => ⟨?_, fun last => ?_, fun active fresh more => ?_⟩, fun n fresh old named left => ?_⟩
  · cases outcome with
    | claims named' _ =>
      cases named.symm.trans named'
      have fresh := h.slot_primary (l := l) (s.slot n) named
      rw [altLines] at fresh
      exact ⟨state, own, (slot n).trans ((if_pos rfl).trans (by rw [fresh]))⟩
    | regains cannot _ _ => exact absurd can (cannot n named)
    | loses cannot _ => exact absurd can (cannot n named)
  · have fresh := h.slot_primary (l := l) (s.slot n) named
    rw [altLines, namedState, if_neg fun e => cannot (.inl e)] at fresh
    exact (slot n).trans ((if_neg fun e => (outcome.slot e).elim (fun k => cannot k.2.1) fun k => h.given n k.1 named).trans fresh)
  · cases outcome with
    | claims named can => exact absurd can (cannot _ named)
    | regains _ _ _ => exact ⟨state, own⟩
    | loses _ gone => exact absurd (gone.resolve_left some) (not_not_intro active)
  · cases outcome with
    | claims named can => exact absurd can (cannot _ named)
    | regains _ active again =>
      exact (away.elim (fun none => by rw [again] at none; cases none) fun other => other (again.trans active.symm)).elim
    | loses _ _ => exact ⟨state, own⟩
  · rw [own] at again
    cases outcome with
    | claims _ _ => cases again
    | regains _ active' _ =>
      cases active.symm.trans active'
      have freed := h.slot_active (l := l) (s.slot g) active
      rw [altLines, namer] at freed
      exact (slot g).trans ((if_pos rfl).trans (by rw [freed]))
    | loses _ _ => cases again
  · have freed := h.slot_active (l := l) (s.slot g) active
    rw [altLines, namer] at freed
    exact (slot g).trans ((if_neg fun e => (outcome.slot e).elim (fun k => h.given g active k.1) fun k =>
      no (own.trans k.2.2)).trans freed)
  · rw [← namer, slotRenamed_primaryNamer, if_pos old]
  · have alone := took.slot_last h outcome old last
    rw [took.timer, took.timer, alone]
    rw [alone] at last
    obtain ⟨unassigned, claimant⟩ := slotRenamed_unnamed (l := l) (y := s.slot n) old last
    exact ⟨unassigned, claimant, State.timer_renamed_old old (by rw [State.slot_slotsRenamed]; exact last)⟩
  · have kept := took.slot_other outcome (fun e => h.other (old.trans e.symm)) active
    rw [h.slot_old _ old active fresh] at kept
    rw [kept, leftNamed_altLines] at more ⊢
    exact leftNamed_of_named ((named_without_primary _).2 more)
  · rw [took.slot_other outcome fresh fun active => (Line.activeSlot_cases active).elim old left,
      slotRenamed_other _ fresh old named left]

end

end Sys2Proof.Machine
end
section
/-! SET-LINE (R14, R15): the decision in its order, and all settings written. -/

set_option Elab.async false

namespace Sys2Proof.Machine

open Safety

/-! ### The checks (R14) -/

theorem maskBelow_fifteen (w : CmdWords) : w.maskBelow 15 = false ↔ w.maskBit 15 = true := by
  simp only [CmdWords.maskBelow, CmdWords.maskBit, decide_eq_false_iff_not, Nat.not_lt, BitVec.getLsbD, Nat.testBit,
    Nat.shiftRight_eq_div_pow]
  have top := w.hi.isLt
  simp only [Nat.one_and_eq_mod_two, bne_iff_ne]
  omega

theorem maskedOk_kind (mask : Bool) (x : Word) :
    (!maskedOk mask (lineKindArg (bits x 0 2))) = true ↔ mask = true ∧ bits x 0 2 = 3 := by
  have small : bits x 0 2 < 4 := Nat.mod_lt _ (by norm_num)
  have three : lineKindArg (bits x 0 2) = none ↔ bits x 0 2 = 3 := by
    generalize bits x 0 2 = n at small
    interval_cases n <;> simp [lineKindArg]
  rw [← three]
  simp [maskedOk]

theorem slotArg_eq_some {x : Word} {n : SlotNo} : slotArg x = some (some n) ↔ x = word n.val := by
  have low := n.isLt
  constructor
  · intro arg
    by_cases absent : x = 0xFFFF#16
    · simp [slotArg, absent] at arg
    · have value : x.toNat = n.val := by
        simp only [slotArg, if_neg absent, toFin?] at arg
        split at arg
        · exact congrArg Fin.val (Option.some.inj (Option.some.inj arg))
        · cases arg
      exact BitVec.eq_of_toNat_eq (by rw [value]; simp only [word, BitVec.toNat_ofNat]; omega)
  · rintro rfl
    have value : (word n.val).toNat = n.val := by simp only [word, BitVec.toNat_ofNat]; omega
    have present : word n.val ≠ 0xFFFF#16 := fun e => by
      have := congrArg BitVec.toNat e
      rw [value] at this
      simp at this
      omega
    rw [slotArg, if_neg present, toFin?_word (by decide : 256 ≤ 65536) n]
    rfl

/-- The slot that a masked argument, or the record, names. -/
theorem masked_slot_iff {mask : Bool} {x : Word} {old : Option SlotNo} {n : SlotNo} (fits : ¬(mask = true ∧ SlotOut x)) :
    masked mask (slotArg x) old = some n ↔ if mask = true then x = word n.val else old = some n := by
  unfold masked
  by_cases m : mask = true
  · rw [if_pos m, if_pos m, ← slotArg_eq_some]
    cases arg : slotArg x with
    | none => exact absurd ⟨m, slotArg_none_iff.1 arg⟩ fits
    | some o => simp
  · rw [if_neg m, if_neg m]

/-- The slots that a SET-LINE would leave: those masked, and those in the record. -/
def maskedPrimary (x : Line) (w : CmdWords) : Option SlotNo := masked (w.maskBit 13) (slotArg w.w3) x.primary

def maskedAlternate (x : Line) (w : CmdWords) : Option SlotNo := masked (w.maskBit 14) (slotArg w.w4) x.alternate

/-- The first check of SET-LINE. -/
theorem setLineBad_iff (x : Line) (w : CmdWords) :
    (!w.maskBelow 15 || !maskedOk (w.maskBit 8) (lineArgs w).kind || !maskedOk (w.maskBit 12) (lineArgs w).headroom ||
        !maskedOk (w.maskBit 13) (lineArgs w).primary || !maskedOk (w.maskBit 14) (lineArgs w).alternate ||
        ((maskedPrimary x w).isSome && maskedPrimary x w == maskedAlternate x w)) = true ↔
      SetLineBad x w := by
  have alike : ((maskedPrimary x w).isSome && maskedPrimary x w == maskedAlternate x w) = true ↔
      ∃ n, maskedPrimary x w = some n ∧ maskedAlternate x w = some n := by
    rw [Bool.and_eq_true, beq_iff_eq, Option.isSome_iff_exists]
    constructor
    · rintro ⟨⟨n, primary⟩, same⟩
      exact ⟨n, primary, same ▸ primary⟩
    · rintro ⟨n, primary, alternate⟩
      exact ⟨⟨n, primary⟩, primary.trans alternate.symm⟩
  rw [Bool.or_eq_true, Bool.or_eq_true, Bool.or_eq_true, Bool.or_eq_true, Bool.or_eq_true, alike, Bool.not_eq_true',
    maskBelow_fifteen, show (lineArgs w).kind = lineKindArg (bits w.w2 0 2) from rfl, maskedOk_kind,
    show (lineArgs w).headroom = headroomArg w.w2 from rfl, maskedOk_headroom, show (lineArgs w).primary = slotArg w.w3 from rfl,
    maskedOk_slot, show (lineArgs w).alternate = slotArg w.w4 from rfl, maskedOk_slot, or_assoc, or_assoc, or_assoc, or_assoc]
  by_cases out : w.maskBit 13 = true ∧ SlotOut w.w3 ∨ w.maskBit 14 = true ∧ SlotOut w.w4
  · refine iff_of_true (.inr (.inr (.inr ?_))) (.inr (.inr (.inr ?_)))
    · exact out.imp id .inl
    · exact out.imp id .inl
  · have primary (n : SlotNo) : maskedPrimary x w = some n ↔ if w.maskBit 13 = true then w.w3 = word n.val else x.primary = some n :=
      masked_slot_iff fun e => out (.inl e)
    have alternate (n : SlotNo) :
        maskedAlternate x w = some n ↔ if w.maskBit 14 = true then w.w4 = word n.val else x.alternate = some n :=
      masked_slot_iff fun e => out (.inr e)
    simp only [primary, alternate]

/-- The state with all settings of a SET-LINE written. -/
def State.lineWritten (s : State) (l : LineNo) (w : CmdWords) : State :=
  let x := s.line l
  (((s.setLine l (x.writeSettings w)).passMode x.bridge (masked (w.maskBit 12) (lineArgs w).headroom x.headroom)).changeSlots l
    (maskedPrimary x w) (maskedAlternate x w))

/-- Another record has a slot that a SET-LINE would have the line name. -/
def SlotsTaken (s : State) (l : LineNo) (w : CmdWords) : Prop :=
  w.maskBit 13 = true ∧ PrimaryTaken s l (maskedPrimary (s.line l) w) ∨
    w.maskBit 14 = true ∧ AlternateTaken s (maskedAlternate (s.line l) w)

/-- The line is in use for a change that a SET-LINE asks for. -/
abbrev InUseFor (x : Line) (w : CmdWords) : Prop :=
  (w.maskBit 8 = true ∨ w.maskBit 13 = true) ∧ x.state ≠ .idle ∨ w.maskBit 14 = true ∧ x.route = .alternate

/-- The checks of R14 in their order. -/
theorem State.setLineCmd_at (s : State) {w : CmdWords} {l : LineNo} (lineArg : bits w.w1 0 8 = l.val) :
    (SetLineBad (s.line l) w → s.setLineCmd w = refuse .badField s) ∧
    (¬SetLineBad (s.line l) w →
      ((s.line l).state = .vacant → s.setLineCmd w = refuse .vacant s) ∧
      ((s.line l).state ≠ .vacant →
        (InUseFor (s.line l) w → s.setLineCmd w = refuse .inUse s) ∧
        (¬InUseFor (s.line l) w →
          (SlotsTaken s l w → s.setLineCmd w = refuse .slotClaimed s) ∧
          (¬SlotsTaken s l w →
            s.setLineCmd w = (some (clampedResult (setLineClamped w)), finishAct none [] s (s.lineWritten l w)))))) := by
  have bad := setLineBad_iff (s.line l) w
  have claimed : ((w.maskBit 13 && s.primaryClaimed l (maskedPrimary (s.line l) w)) ||
      (w.maskBit 14 && s.alternateClaimed (maskedAlternate (s.line l) w))) = true ↔ SlotsTaken s l w := by
    rw [Bool.or_eq_true, Bool.and_eq_true, Bool.and_eq_true, State.primaryClaimed_iff, State.alternateClaimed_iff, SlotsTaken]
  have masks : (w.maskBit 8 || w.maskBit 13) = true ↔ w.maskBit 8 = true ∨ w.maskBit 13 = true := by
    rw [Bool.or_eq_true]
  have number : toFin? 192 (bits w.w1 0 8) = some l := by simp [lineArg, toFin?]
  unfold State.setLineCmd
  dsimp only
  rw [number]
  refine ⟨fun h => if_pos (bad.2 h), fun fits => ?_⟩
  have fits' := fun e => fits (bad.1 e)
  refine ⟨fun vacant => (if_neg fits').trans (if_pos vacant), fun live => ⟨fun busy => ?_, fun idle => ?_⟩⟩
  · refine (if_neg fits').trans ((if_neg live).trans ?_)
    by_cases first : (w.maskBit 8 || w.maskBit 13) = true ∧ (s.line l).state ≠ .idle
    · exact if_pos first
    · exact (if_neg first).trans (if_pos (busy.resolve_left fun e => first ⟨masks.2 e.1, e.2⟩))
  · have first : ¬((w.maskBit 8 || w.maskBit 13) = true ∧ (s.line l).state ≠ .idle) := fun e => idle (.inl ⟨masks.1 e.1, e.2⟩)
    have second : ¬(w.maskBit 14 = true ∧ (s.line l).route = .alternate) := fun e => idle (.inr e)
    exact ⟨fun taken => (if_neg fits').trans ((if_neg live).trans ((if_neg first).trans ((if_neg second).trans
        (if_pos (claimed.2 taken))))),
      fun free => (if_neg fits').trans ((if_neg live).trans ((if_neg first).trans ((if_neg second).trans
        (if_neg fun e => free (claimed.1 e)))))⟩

theorem State.setLineCmd_out (s : State) {w : CmdWords} (out : 191 < bits w.w1 0 8) : s.setLineCmd w = refuse .badField s := by
  rw [State.setLineCmd, toFin?_out out]

/-! ### The settings written (R5, R15) -/

/-- The masked settings of a SET-LINE that completes. -/
structure LineSettings (x : Line) (w : CmdWords) (kind : LineKind) (m : Headroom) (primary alternate : Option SlotNo) : Prop where
  kind : masked (w.maskBit 8) (lineArgs w).kind x.kind = kind
  headroom : masked (w.maskBit 12) (lineArgs w).headroom x.headroom = m
  primary : maskedPrimary x w = primary
  alternate : maskedAlternate x w = alternate

/-- The current privacy follows a new default on a line at rest, alerting or locked out (R5). -/
theorem Line.writeSettings_currentPrivacy (x : Line) (w : CmdWords) :
    (x.writeSettings w).currentPrivacy =
      if w.maskBit 9 = true ∧ (x.state = .idle ∨ x.state = .alerting ∨ x.state = .lockout) then (lineArgs w).privacy
      else x.currentPrivacy := by
  cases state : x.state <;> simp [Line.writeSettings, state]

/-- The record of a line with the masked settings, but for its slots. -/
theorem Line.writeSettings_eq {x : Line} {w : CmdWords} {kind : LineKind} {m : Headroom}
    (kinds : masked (w.maskBit 8) (lineArgs w).kind x.kind = kind)
    (modes : masked (w.maskBit 12) (lineArgs w).headroom x.headroom = m) : x.writeSettings w = lineSet x w kind m := by
  subst kinds modes
  have settings : x.writeSettings w =
      { lineSet x w (masked (w.maskBit 8) (lineArgs w).kind x.kind) (masked (w.maskBit 12) (lineArgs w).headroom x.headroom) with
        currentPrivacy := (x.writeSettings w).currentPrivacy } := by
    simp only [Line.writeSettings, lineSet, clampArg, clamp_eq _ _ _ (by norm_num : 1 ≤ 255),
      clamp_eq _ _ _ (by norm_num : 0 ≤ 900), clamp_eq _ _ _ (by norm_num : 100 ≤ 10000), Nat.zero_max]
  rw [settings, Line.writeSettings_currentPrivacy]
  rfl

/-- The state with the settings and the mode of a SET-LINE written, before the slots change. -/
def State.lineSettled (s : State) (l : LineNo) (x : Line) (m : Headroom) : State :=
  (s.setLine l x).passMode (s.line l).bridge m

theorem State.lineSettled_frame (s : State) (l : LineNo) (x : Line) (m : Headroom) :
    s.lineSettled l x m =
      { s with lines := (s.lineSettled l x m).lines, bridges := (s.lineSettled l x m).bridges } := by
  unfold State.lineSettled
  rw [State.passMode_frame]
  rfl

theorem State.line_lineSettled (s : State) (l : LineNo) (x : Line) (m : Headroom) (k : LineNo) :
    (s.lineSettled l x m).line k = if k = l then x else s.line k := by
  rw [State.lineSettled, State.passMode_frame]
  exact s.line_setLine l k x

theorem State.bridge_lineSettled (s : State) (l : LineNo) (x : Line) (m : Headroom) (b : BridgeNo) :
    (s.lineSettled l x m).bridge b =
      if (s.line l).bridge = some b then (s.bridge b).writeMode m else s.bridge b :=
  State.bridge_passMode ..

theorem State.lineWritten_eq {s : State} {l : LineNo} {w : CmdWords} {kind : LineKind} {m : Headroom}
    {primary alternate : Option SlotNo} (args : LineSettings (s.line l) w kind m primary alternate) :
    s.lineWritten l w = (s.lineSettled l (lineSet (s.line l) w kind m) m).changeSlots l primary alternate := by
  obtain ⟨kinds, modes, primaries, alternates⟩ := args
  dsimp only [State.lineWritten]
  rw [Line.writeSettings_eq kinds modes, modes, primaries, alternates]
  rfl

end Sys2Proof.Machine
end
section
/-! SET-LINE, settled. -/

set_option Elab.async false

namespace Sys2Proof.Machine

open Safety

theorem setLineBad_of_alike {x : Line} {w : CmdWords} {n : SlotNo} (primary : maskedPrimary x w = some n)
    (alternate : maskedAlternate x w = some n) : SetLineBad x w :=
  (setLineBad_iff x w).1 (by rw [primary, alternate]; simp)

/-- The settings that a SET-LINE leaves, by its mask. -/
theorem lineSettings_of_masks {s : State} {l : LineNo} {w : CmdWords} {kind : LineKind} {m : Headroom}
    {primary alternate : Option SlotNo} {K P A : Prop}
    (kinds : if w.maskBit 8 = true then (lineArgs w).kind = some kind ∧ K else kind = (s.line l).kind)
    (modes : if w.maskBit 12 = true then (lineArgs w).headroom = some m else m = (s.line l).headroom)
    (primaries : if w.maskBit 13 = true then slotArg w.w3 = some primary ∧ P else primary = (s.line l).primary)
    (alternates : if w.maskBit 14 = true then slotArg w.w4 = some alternate ∧ A else alternate = (s.line l).alternate) :
    LineSettings (s.line l) w kind m primary alternate := by
  have value {α : Type} {b : Bool} {arg : Option α} {v old : α} {Q : Prop}
      (h : if b = true then arg = some v ∧ Q else v = old) : masked b arg old = v := by
    refine masked_eq ?_
    split
    · rename_i mask; rw [if_pos mask] at h; exact h.1
    · rename_i mask; rw [if_neg mask] at h; exact h
  exact ⟨value kinds, masked_eq modes, value primaries, value alternates⟩

theorem Line.activeSlot_primary {x : Line} {n : SlotNo} (route : x.route ≠ .alternate) (active : x.activeSlot = some n) :
    x.primary = some n := by
  unfold Line.activeSlot at active
  split at active
  · cases active
  · exact active
  · rename_i e; exact absurd e route

/-- The checks of R14, and the premise that primary and alternate differ, leave a renaming. -/
theorem renaming_of_checks {x : Line} {primary alternate : Option SlotNo} (other : x.primary ≠ primary)
    (apart : ∀ n, primary = some n → alternate ≠ some n) (route : x.alternate ≠ alternate → x.route ≠ .alternate)
    (distinct : x.primary = none ∨ x.primary ≠ x.alternate) : Renaming x primary alternate := by
  have still (differs : x.alternate ≠ alternate) (n : SlotNo) (active : x.activeSlot = some n) : x.primary = some n :=
    Line.activeSlot_primary (route differs) active
  refine ⟨other, apart, fun n active named => ?_, still, fun n primary alternate =>
    distinct.elim (fun none => by rw [primary] at none; cases none) fun ne => ne (primary.trans alternate.symm)⟩
  by_cases same : x.alternate = alternate
  · exact (Line.activeSlot_cases active).elim (fun old => other (old.trans named.symm)) fun left => apart n named (same ▸ left)
  · exact other ((still same n active).trans named.symm)

/-- A change of slots tells nobody and posts nothing. -/
theorem State.changeSlots_mp (s : State) (l : LineNo) (primary alternate : Option SlotNo) :
    (s.changeSlots l primary alternate).mp = s.mp := by
  have alternates (t : State) : (t.changeAlternate l alternate).mp = t.mp := by
    rw [State.changeAlternate_frame]
  unfold State.changeSlots
  dsimp only
  split
  · exact alternates s
  · have routed (t : State) : (t.routeFromPrimary l primary).mp = t.mp := by
      unfold State.routeFromPrimary
      (repeat' split) <;> simp [State.claimLine, State.takeSlot]
    simp [routed, alternates]

theorem Bridge.writeMode_members (x : Bridge) (m : Headroom) :
    (x.writeMode m).receivers = x.receivers ∧ (x.writeMode m).micPeaks = x.micPeaks := by
  unfold Bridge.writeMode
  split
  · exact ⟨rfl, rfl⟩
  · cases m.kind <;> exact ⟨rfl, rfl⟩

theorem Bridge.settle_micPeaks (x : Bridge) : x.settle.micPeaks = x.micPeaks := by
  unfold Bridge.settle
  (repeat' split) <;> rfl

/-- A bridge that has been passed a mode alone. -/
theorem Bridge.modePassed_alone (x : Bridge) (m : Headroom) : ModePassed x m (x.writeMode m).settle := by
  have passed := Bridge.modePassed (x := x) (z := x.writeMode m) (m := m) rfl
  rw [Bridge.settle_contributors, Bridge.writeMode_contributors] at passed
  exact passed

/-- What a change of slots leaves, with or without a new primary. -/
theorem State.changeSlots_changed {s : State} {l : LineNo} {primary alternate : Option SlotNo}
    (h : primary ≠ (s.line l).primary → Renaming (s.line l) primary alternate ∧ FreedFor s (s.line l)) :
    NamingsChanged s (s.changeSlots l primary alternate) l (s.line l) primary alternate ∧
      (primary = (s.line l).primary → s.changeSlots l primary alternate = s.changeAlternate l alternate) ∧
      (primary ≠ (s.line l).primary → PrimaryChanged s (s.changeSlots l primary alternate) l (s.line l) primary alternate) := by
  by_cases same : primary = (s.line l).primary
  · have alone : s.changeSlots l primary alternate = s.changeAlternate l alternate := if_pos same.symm
    exact ⟨by rw [alone, same]; exact s.changeAlternate_changed l alternate, fun _ => alone, fun other => absurd same other⟩
  · obtain ⟨renames, freed⟩ := h same
    obtain ⟨o, route, outcome, took⟩ := State.changeSlots_route renames freed
    exact ⟨took.changed renames outcome, fun e => absurd e same, fun _ => took.primaryChanged renames outcome⟩

end Sys2Proof.Machine

namespace Sys2Proof.Proofs

open Machine Safety Laws

/-- Settles O26: the checks in their order (`State.setLineCmd_at`); then the settings and the mode, and the slots: what a change of
them leaves of the namings (`NamingsChanged`) and, with a new primary, of the line and its route (`PrimaryChanged`). -/
theorem setLineWritesSettings : Obligations.SetLineWritesSettings := by
  refine ⟨fun s w ready out => command_declined ready (State.setLineCmd_out _ out), fun s w l primary alternate ready lineArg => ?_,
    fun s w l kind m primary alternate ready lineArg live fits kinds modes primaries alternates => ?_⟩
  · obtain ⟨bad, good⟩ := (loaded s 0x02#8 w).setLineCmd_at lineArg
    refine ⟨fun h => command_declined ready (bad h), fun fits => ⟨fun vacant => command_declined ready ((good fits).1 vacant),
      fun live busy => command_declined ready (((good fits).2 live).1 busy), fun live idle primaryArg alternateArg taken =>
      command_declined ready ((((good fits).2 live).2 idle).1 (taken.imp (fun k => ⟨k.1, ?_⟩) fun k => ⟨k.1, ?_⟩))⟩⟩
    · have own : maskedPrimary (s.line l) w = primary := masked_eq (by rw [if_pos k.1]; exact primaryArg)
      exact (congrArg (PrimaryTaken s l) own).mpr k.2
    · have own : maskedAlternate (s.line l) w = alternate := masked_eq (by rw [if_pos k.1]; exact alternateArg)
      exact (congrArg (AlternateTaken s) own).mpr k.2
  · have args := lineSettings_of_masks kinds modes primaries alternates
    have idle : ¬InUseFor (s.line l) w := by
      rintro (⟨mask | mask, used⟩ | ⟨mask, route⟩)
      · rw [if_pos mask] at kinds; exact used kinds.2
      · rw [if_pos mask] at primaries; exact used primaries.2.1
      · rw [if_pos mask] at alternates; exact alternates.2.1 route
    have free : ¬SlotsTaken s l w := by
      rintro (⟨mask, taken⟩ | ⟨mask, taken⟩)
      · rw [if_pos mask] at primaries; exact primaries.2.2 (args.primary ▸ taken)
      · rw [if_pos mask] at alternates; exact alternates.2.2 (args.alternate ▸ taken)
    have runs : s.command 0x02#8 w = completed s 0x02#8 w [] ((loaded s 0x02#8 w).lineWritten l w) _ :=
      command_done s _ 0x02#8 w _ ready (((((loaded s 0x02#8 w).setLineCmd_at lineArg).2 fits).2 live).2 idle |>.2 free)
    have written : (loaded s 0x02#8 w).lineWritten l w =
        ((loaded s 0x02#8 w).lineSettled l (lineSet (s.line l) w kind m) m).changeSlots l primary alternate :=
      State.lineWritten_eq (s := loaded s 0x02#8 w) args
    have frame1 := (loaded s 0x02#8 w).lineSettled_frame l (lineSet (s.line l) w kind m) m
    have line1 := (loaded s 0x02#8 w).line_lineSettled l (lineSet (s.line l) w kind m) m
    have bridge1 := (loaded s 0x02#8 w).bridge_lineSettled l (lineSet (s.line l) w kind m) m
    rw [written, clampedResult] at runs
    generalize (loaded s 0x02#8 w).lineSettled l (lineSet (s.line l) w kind m) m = s1 at runs frame1 line1 bridge1
    obtain ⟨lines, bridges, frame⟩ : ∃ ls bs, s1 = { loaded s 0x02#8 w with lines := ls, bridges := bs } := ⟨_, _, frame1⟩
    have own1 : s1.line l = lineSet (s.line l) w kind m := (line1 l).trans (if_pos rfl)
    refine ⟨_, congrArg Host.Outcome.next runs, completed_mp s _ w _ _ (by rw [State.changeSlots_mp, frame]), fun guard => ?_⟩
    have changed := State.changeSlots_changed (s := s1) (l := l) (primary := primary) (alternate := alternate) fun other => by
      rw [own1] at other ⊢
      obtain ⟨distinct, freed⟩ := guard.resolve_left other
      have renames : Renaming (s.line l) primary alternate :=
        renaming_of_checks (Ne.symm other)
          (fun n named again => fits (setLineBad_of_alike (args.primary.trans named) (args.alternate.trans again)))
          (fun differs => by
            by_cases mask : w.maskBit 14 = true
            · rw [if_pos mask] at alternates; exact alternates.2.1
            · rw [if_neg mask] at alternates; exact absurd alternates.symm differs)
          distinct
      refine ⟨⟨renames.other, renames.apart, renames.given, renames.still, renames.distinct⟩, fun g active => ?_⟩
      obtain ⟨namer, waits⟩ := freed g active
      refine ⟨by rw [frame]; exact namer, fun k => ?_⟩
      rw [line1]
      split
      · exact waits l
      · exact waits k
    rw [own1] at changed
    obtain ⟨names, kept, renamed⟩ := changed
    generalize s1.changeSlots l primary alternate = t at names kept renamed
    have old : (s1.line l).alternate = (s.line l).alternate := by rw [own1]; rfl
    have unchanged (same : alternate = (s.line l).alternate) : s1.changeAlternate l alternate = s1 :=
      if_pos (old.trans same.symm)
    have slot1 (n : SlotNo) := s1.slot_changeAlternate l alternate n
    have record1 := s1.changeAlternate_line l l alternate
    rw [if_pos rfl, own1] at record1
    rw [old] at slot1
    have bridge (b : BridgeNo) : t.bridge b = s1.bridge b := by
      rw [names.frame]
      rfl
    have total : t =
        { loaded s 0x02#8 w with
          lines := t.lines, slots := t.slots, timers := t.timers, bridges := s1.bridges } := by
      rw [names.frame, frame]
    have links : t.links = s.links := by
      rw [total]
      rfl
    subst frame
    refine ⟨completed_told s _ w _ _ links, fun b has _ => ⟨?_, ?_, ?_⟩, fun b other => ?_, fun k other => ?_, ?_,
      fun same => ⟨?_, fun n left named => ?_⟩, fun same => ⟨?_, fun again => ⟨?_, ?_⟩⟩, fun other => ⟨?_, ?_, ?_⟩,
      fun other => ?_, ?_⟩
    · rw [completed_bridge, bridge, bridge1, if_pos (show ((loaded s 0x02#8 w).line l).bridge = some b from has)]
      exact Bridge.modePassed_alone (s.bridge b) m
    · rw [completed_bridge, bridge, bridge1, if_pos (show ((loaded s 0x02#8 w).line l).bridge = some b from has),
        Bridge.settle_receivers]
      exact ((s.bridge b).writeMode_members m).1
    · rw [completed_bridge, bridge, bridge1, if_pos (show ((loaded s 0x02#8 w).line l).bridge = some b from has),
        Bridge.settle_micPeaks]
      exact ((s.bridge b).writeMode_members m).2
    · rw [completed_bridge, bridge, bridge1, if_neg (show ((loaded s 0x02#8 w).line l).bridge ≠ some b from other)]
      rfl
    · rw [completed_line, names.others k other, line1, if_neg other]
      rfl
    · rw [total]
      exact State.eq_of_fields
    · rw [completed_line, kept same, record1]
    · rw [completed_slot, kept same, slot1, altChanged_apart left named]
      rfl
    · simp only [completed_slot]
      exact names.sameAlternate same
    · rw [completed_slots, kept again, unchanged same]
      rfl
    · rw [completed_timers, kept again, unchanged same]
      rfl
    · simp only [completed_slot, completed_timer]
      exact names.newAlternate other
    · simp only [completed_slot, completed_timer]
      exact names.oldAlternate other
    · simp only [completed_slot]
      exact names.noAlternate other
    · simp only [completed_line, completed_slot, completed_timer]
      obtain ⟨line, named, unclaimed, givenUp, left, otherSlot⟩ := renamed other
      exact ⟨line, named, unclaimed, givenUp, left, otherSlot⟩
    · simp only [completed_slot, completed_timer]
      exact names.timer

end Sys2Proof.Proofs
end
